-- ==== Sys2Proof/Word.lean ====
section
/-! DEFINITION. The plain word types of the module: bytes, registers, addresses and the small numbers that name its
units. -/

namespace Sys2Proof

/-- A byte of any memory of the module. -/
abbrev Byte := BitVec 8
/-- A 64-bit register or local-store word. -/
abbrev W64 := BitVec 64
/-- A 32-bit word: a word of a tile register, a logical row ID, an index. -/
abbrev W32 := BitVec 32
/-- A device virtual address (R232). -/
abbrev VA := BitVec 52
/-- A core number 0-255 (R9). -/
abbrev CoreId := BitVec 8
/-- A thread number 0-127 of one core (R88). -/
abbrev ThreadId := BitVec 7
/-- A vector context 0-3 of one core (R203). -/
abbrev VCtx := BitVec 2
/-- A scalar register s0-s31. -/
abbrev SReg := BitVec 5
/-- An address register a0-a15. -/
abbrev AReg := BitVec 4
/-- A stream descriptor st0-st15. -/
abbrev StReg := BitVec 4
/-- A sync counter sc0-sc63. -/
abbrev ScReg := BitVec 6
/-- A module number: x + SHAPE_X·(y + SHAPE_Y·z) (R233). -/
abbrev ModId := BitVec 12
/-- A Ferry port 0-5. -/
abbrev Port := Fin 6
/-- A hamlet 0-15, with its surveyor and sampler (R9). -/
abbrev Hamlet := BitVec 4
/-- A queue pair 0-63 (R424). -/
abbrev QueueId := BitVec 6

end Sys2Proof
end

