-- ==== Sys2Proof/Machine/Bits.lean ====
section
/-! DEFINITION. Byte order, bit fields, sparse maps and byte memories: the plain operations under everything else. -/

namespace Sys2Proof.Machine

/-! ## Byte order (R6: little-endian) -/

/-- The number that bytes hold, the first the least significant. -/
def natOfBytes : List Byte → Nat
  | [] => 0
  | b :: t => b.toNat + 256 * natOfBytes t

/-- The low `n` bytes of a number, the least significant first. -/
def bytesOfNat : Nat → Nat → List Byte
  | 0, _ => []
  | n + 1, v => BitVec.ofNat 8 v :: bytesOfNat n (v / 256)

/-- Field [hi:lo] of a natural number. -/
def field (v hi lo : Nat) : Nat := v / 2 ^ lo % 2 ^ (hi + 1 - lo)

/-- Bit `i` of a natural number. -/
def bit (v i : Nat) : Bool := v / 2 ^ i % 2 == 1

/-- 1 for true, 0 for false. -/
def bnat (b : Bool) : Nat := if b then 1 else 0

/-- Signed reading of the low `n` bits. -/
def signedOf (n v : Nat) : Int :=
  let u := v % 2 ^ n
  if 2 * u < 2 ^ n then (u : Int) else (u : Int) - (2 ^ n : Nat)

/-- Low `n` bits of an integer, as a natural number. -/
def lowBits (n : Nat) (v : Int) : Nat := (v % ((2 ^ n : Nat) : Int)).toNat

/-- A counter of `n` bits that stops at its greatest value. -/
def satAdd (n a b : Nat) : Nat := min (a + b) (2 ^ n - 1)

/-! ## Sparse maps: keys strictly rising -/

/-- The value at a key, `d` where the key is not listed. -/
def mapGet {β : Type} (d : β) : List (Nat × β) → Nat → β
  | [], _ => d
  | (k, v) :: t, a => if k = a then v else mapGet d t a

/-- The value at a key, where listed. -/
def mapFind {β : Type} : List (Nat × β) → Nat → Option β
  | [], _ => none
  | (k, v) :: t, a => if k = a then some v else mapFind t a

/-- Sets the value at a key, keeping the keys rising. -/
def mapPut {β : Type} : List (Nat × β) → Nat → β → List (Nat × β)
  | [], a, x => [(a, x)]
  | (k, v) :: t, a, x =>
    if a < k then (a, x) :: (k, v) :: t
    else if a = k then (a, x) :: t
    else (k, v) :: mapPut t a x

/-- Removes a key. -/
def mapErase {β : Type} : List (Nat × β) → Nat → List (Nat × β)
  | [], _ => []
  | (k, v) :: t, a => if k = a then mapErase t a else (k, v) :: mapErase t a

/-- Sets the value at a key; writing what an unlisted key reads as removes the entry. -/
def mapSet {β : Type} [DecidableEq β] (d : β) (m : List (Nat × β)) (a : Nat) (x : β) : List (Nat × β) :=
  if x = d then mapErase m a else mapPut m a x

/-- The keys rise strictly, all of them at least `lo`, and no entry holds the value `d`. -/
def mapWfFrom {β : Type} [DecidableEq β] (d : β) : Nat → List (Nat × β) → Bool
  | _, [] => true
  | lo, (k, v) :: t => decide (lo ≤ k) && decide (v ≠ d) && mapWfFrom d (k + 1) t

/-! ## Byte memories -/

/-- A byte memory: listed bytes at rising addresses. -/
abbrev Memory := List Host.Cell

/-- What an unlisted address of every byte memory reads as (DESIGN CHOICE, log 7, 8). -/
def unlisted : Byte := 0

/-- The canonical form: addresses strictly rising, no entry equal to what an unlisted address reads as. -/
abbrev Memory.wf (m : Memory) : Prop := mapWfFrom unlisted 0 m = true

/-- One byte. -/
def Memory.read (m : Memory) (a : Nat) : Byte := mapGet unlisted m a

/-- Writes one byte, keeping the canonical form. -/
def Memory.write (m : Memory) (a : Nat) (b : Byte) : Memory := mapSet unlisted m a b

/-- `n` bytes from address `a` in ascending order. -/
def Memory.readBytes (m : Memory) : Nat → Nat → List Byte
  | _, 0 => []
  | a, n + 1 => m.read a :: Memory.readBytes m (a + 1) n

/-- Writes bytes from address `a` in ascending order. -/
def Memory.writeBytes (m : Memory) : Nat → List Byte → Memory
  | _, [] => m
  | a, b :: t => Memory.writeBytes (m.write a b) (a + 1) t

/-- `n` bytes as a little-endian number. -/
def Memory.readNat (m : Memory) (a n : Nat) : Nat := natOfBytes (m.readBytes a n)

/-- Writes the low `n` bytes of a number. -/
def Memory.writeNat (m : Memory) (a n v : Nat) : Memory := m.writeBytes a (bytesOfNat n v)

/-- Zeros to `n` addresses from `a`. -/
def Memory.zero (m : Memory) (a n : Nat) : Memory :=
  m.filter fun c => decide (c.1 < a) || decide (a + n ≤ c.1)

end Sys2Proof.Machine
end

