-- ==== Sys2Proof/Config.lean ====
section
/-! DEFINITION. What an implementation fixes and the spec does not give, and the free values: constants without a body,
so that no proof can see them. -/

namespace Sys2Proof.Machine

/-- A free value: whatever the hardware gives where the spec states no value (DESIGN CHOICE, log 13). -/
opaque Config.freeValue : Nat → BitVec 64

/-- The A48 word that a scatter stores for a value, given as the numerator and denominator of its multiple of the legend's unit,
where the spec states none (R176, R177; DESIGN CHOICE, log 136). -/
opaque Config.a48Value : Int → Nat → BitVec 72

/-- The HBM frame that an implementation tries first for a page (R235, DESIGN CHOICE, log 9). -/
opaque Config.frameHint : Nat → Nat

/-- SHA-384 hashes of the Galsil firmware keys F0 to F3 (R444, DESIGN CHOICE, log 10). -/
opaque Config.firmwareKey : Nat → List Byte

/-- SHA-384 of the boot ROM (Table 15-8, DESIGN CHOICE, log 10). -/
opaque Config.bootRomHash : List Byte

/-- The certificate chain of slot 0 (Table 15-7, DESIGN CHOICE, log 10). -/
opaque Config.certificateChain : List Byte

/-- A DeviceID signature of a message (R444, R456, DESIGN CHOICE, log 11). -/
opaque Config.deviceSignature : List Byte → List Byte

/-- Cycles that the copy of a page, or the scrub of a word, takes of the MAINT budget (R248, R262; DESIGN CHOICE, log 142). -/
opaque Config.copyCycles : Nat → Nat

/-- The payload bytes of a cell, by the number of the message and the place of the byte: the spec gives no layout of any payload
(Table 09-4; DESIGN CHOICE, log 6). -/
opaque Config.payloadByte : Nat → Nat → BitVec 8

end Sys2Proof.Machine
end

