-- ==== Sys2Proof/Types.lean ====
section
/-! DEFINITION. The types of operands, messages and values that commands and State share. -/

namespace Sys2Proof.Machine

/-! ## Numbers (spec/02) -/

/-- The eleven number formats of Table 02-1 (R18). -/
inductive Fmt where
  | i2 | i4 | i8 | i16 | i32 | u8 | b2 | b4 | b8 | b16 | a48
deriving DecidableEq, Repr

/-- An element code: `none` is OVF (R43). -/
abbrev Code := Option Int

/-- An element with its block exponent, 0 for an unblocked format (R22). -/
structure Elem where
  /-- Code; `none` is OVF. -/
  q : Code
  /-- Block exponent. -/
  b : Int
deriving DecidableEq, Repr

/-- A valid legend (Table 02-2, R23). -/
structure Legend where
  /-- Number format. -/
  fmt : Fmt
  /-- Tensor exponent. -/
  T : Int
  /-- Fine multiplier m, 32768..65535. -/
  m : Nat
  /-- ROUND: 0 nearest-even, 1 stochastic 4 bits, 2 stochastic 3 bits. -/
  round : Nat
  /-- SAT. -/
  sat : Bool
  /-- TENSOR_ID. -/
  tensorId : Nat
deriving DecidableEq, Repr

/-- The product legend's exponent, unbounded, and multiplier (R24). -/
structure ProdLegend where
  /-- Exponent. -/
  t : Int
  /-- Multiplier. -/
  m : Nat
deriving DecidableEq, Repr

/-- An exact rational `num / den` with `den > 0`. -/
structure Q where
  /-- Numerator. -/
  num : Int
  /-- Denominator, positive. -/
  den : Nat
deriving DecidableEq, Repr

/-- An A48 word: W and E; OVF is E = −128 (R25, R26). -/
structure A48 where
  /-- M·2^16 + K, signed 64 bits. -/
  w : Int
  /-- Exponent; −128 marks OVF. -/
  e : Int
deriving DecidableEq, Repr

/-- Elements saturated and OVF elements arisen, to be added to CORE_NUMSTAT (R46). -/
structure NumCount where
  /-- Saturated. -/
  sat : Nat
  /-- OVF arisen. -/
  ovf : Nat
deriving DecidableEq, Repr

/-- A narrowed block: its exponent (`none`: an OVF block), its codes and the counts (R38). -/
structure NarrowedBlock where
  /-- Exponent. -/
  b : Option Int
  /-- Codes. -/
  codes : List Code
  /-- Counts. -/
  count : NumCount
deriving DecidableEq, Repr

/-! ## Tasks, descriptors and captured commands (spec/04, spec/05) -/

/-- A stream descriptor (Table 04-2): the nine fields that STW writes. -/
structure Desc where
  base : W64
  stride0 : W32
  stride1 : W32
  stride2 : W32
  count0 : BitVec 16
  count1 : BitVec 16
  count2 : BitVec 16
  size : BitVec 16
  space : Byte
deriving DecidableEq, Repr

/-- A detour rule in force for a core (Table 04-5). -/
structure Detour where
  core : CoreId
  sub : CoreId
  lsBase : Nat
  lsSize : Nat
  vctxMap : Byte
  scBase : ScReg
  stBase : StReg
  bankMap : Byte
deriving DecidableEq, Repr

/-- What a command or instruction carries of the task that issued it: the task instance, TASK_ID, the local-store
base, the step, the almanac frame, its section kind and position, the detour in force and the table versions bound
(R94, R113, R372). -/
structure TaskCtx where
  uid : Nat
  taskId : W32
  lsBase : Nat
  step : Nat
  frame : Nat
  detour : Option Detour
  versions : List (Nat × Nat)
deriving DecidableEq, Repr

/-- A counter condition (R100). COND 0 ALWAYS, 1 EQ, 2 GE; 3 is invalid. -/
structure Wait where
  cond : BitVec 2
  ctr : ScReg
  value : BitVec 16
deriving DecidableEq, Repr

/-- The VR format's fields (Table 05-4). -/
structure VR where
  td : BitVec 4
  ta : BitVec 4
  tb : BitVec 4
  qsel : BitVec 3
  mod : BitVec 10
deriving DecidableEq, Repr

/-- The VM format's fields (Table 05-4). -/
structure VM where
  t : BitVec 4
  ar : AReg
  width : BitVec 2
  qsel : BitVec 3
  off : BitVec 10
deriving DecidableEq, Repr

/-- The VC format's fields (Table 05-4). -/
structure VC where
  ctr : ScReg
  cond : BitVec 2
  value : BitVec 16
deriving DecidableEq, Repr

/-- What a V command carries from the bundle that issued it (R129, R163): task, thread, bundle address, the scalar
file and address file as the bundle sees them, and the scalar registers whose results were still in flight (R162). -/
structure VCap where
  task : TaskCtx
  thread : ThreadId
  addr : W64
  s : List (Nat × W64)
  a : List (Nat × W64)
  tagged : List Nat
deriving DecidableEq, Repr

/-- A V command: opcode, the fields below it as they stand in the slot word, and its capture. -/
structure VInstr where
  op : BitVec 7
  bits : BitVec 25
  cap : VCap
deriving DecidableEq, Repr

/-- The work of a started G, M or X command: task, the two descriptors as read at its start (R98), the parameter word
captured at issue (R136), the MODE field, and for M commands the bank. -/
structure EArgs where
  task : TaskCtx
  d1 : Desc
  d2 : Desc
  param : W64
  mode : BitVec 4
  bank : Bool
deriving DecidableEq, Repr

/-- Engine slots: which queue family an engine command belongs to. -/
inductive Slot where
  | g | m | x
deriving DecidableEq, Repr

/-- A queued G, M or X command (Tables 05-5, 05-6): slot, opcode, TGT (X only), its wait with the value fixed at issue
(R144), its signal, the descriptor numbers, and what it captured. `seq` orders commands of a core by issue. -/
structure EngCmd where
  slot : Slot
  op : BitVec 6
  tgt : BitVec 4
  wait : Wait
  sctr : ScReg
  sinc : BitVec 3
  d1 : StReg
  d2 : StReg
  param : W64
  mode : BitVec 4
  bank : Bool
  task : TaskCtx
  seq : Nat
deriving DecidableEq, Repr

/-! ## Fabric position and messages (spec/08, spec/09, spec/10, spec/12) -/

/-- A fabric position in force: torus shape and coordinate (R276). -/
structure Position where
  shapeX : Nat
  shapeY : Nat
  shapeZ : Nat
  x : Nat
  y : Nat
  z : Nat
deriving DecidableEq, Repr

/-! ## Damtin packets and firmware events (spec/14, spec/15) -/

/-- A command packet as the engine accepted it: the queue it came in, its number in the order of acceptance (R427), and Table
14-8's TAG, FLAGS, RADDR, OPCODE and PARAMS. -/
structure PktHdr where
  queue : QueueId
  num : Nat
  tag : BitVec 16
  flags : BitVec 16
  raddr : W64
  op : BitVec 16
  params : List Byte
deriving DecidableEq, Repr

/-- What a PCIe configuration write does (R414, R416): Memory Space Enable, the power state, the size of BAR4 as 64 GiB times
a power of two. -/
inductive ConfigWrite where
  | memorySpace (on : Bool)
  | d3hot (on : Bool)
  | bar4Size (log2 : Fin 5)
deriving DecidableEq, Repr

/-- What LOG_READ asks for: records, the counts (R462), or the power registers (R510). -/
inductive LogAsk where
  | records | counts | power
deriving DecidableEq, Repr

/-- A reading of the sensors: the 1 ms averages of the input in mV, 10 mA and W, its 100 ms average in W, the hottest hamlet
and stack in °C (Tables 17-9 and 17-10). -/
structure Sense where
  voltage : BitVec 16
  current : BitVec 16
  power : BitVec 16
  powerAvg : BitVec 16
  junction : BitVec 8
  hbm : BitVec 8
  hamlet : BitVec 4
  stack : BitVec 3
deriving DecidableEq, Repr

end Sys2Proof.Machine
end

