-- ==== Sys2Proof/Machine/Arith.lean ====
section
/-! DEFINITION. Integer formats, legends, A48 accumulators, fixed reduction trees, rounding and narrowing
(spec/02_integer_arithmetic.md). -/

namespace Sys2Proof.Machine

/-- FORMAT codes of Table 02-1; codes 0x0B to 0xFF are no formats (R18). -/
def Fmt.ofCode : Nat → Option Fmt
  | 0 => some .i2 | 1 => some .i4 | 2 => some .i8 | 3 => some .i16 | 4 => some .i32 | 5 => some .u8
  | 6 => some .b2 | 7 => some .b4 | 8 => some .b8 | 9 => some .b16 | 10 => some .a48
  | _ => none

/-- The FORMAT code of a format (Table 02-1). -/
def Fmt.code : Fmt → Nat
  | .i2 => 0 | .i4 => 1 | .i8 => 2 | .i16 => 3 | .i32 => 4 | .u8 => 5
  | .b2 => 6 | .b4 => 7 | .b8 => 8 | .b16 => 9 | .a48 => 10

/-- Bits of one element (Table 02-1). -/
def Fmt.bits : Fmt → Nat
  | .i2 => 2 | .i4 => 4 | .i8 => 8 | .i16 => 16 | .i32 => 32 | .u8 => 8
  | .b2 => 2 | .b4 => 4 | .b8 => 8 | .b16 => 16 | .a48 => 72

/-- Blocked formats carry a signed exponent byte per 32 elements (R20). -/
def Fmt.blocked : Fmt → Bool
  | .b2 | .b4 | .b8 | .b16 => true
  | _ => false

/-- Greatest code value (Table 02-1). -/
def Fmt.maxq : Fmt → Int
  | .i2 | .b2 => 1 | .i4 | .b4 => 7 | .i8 | .b8 => 127 | .i16 | .b16 => 32767
  | .i32 => 2147483647 | .u8 => 254 | .a48 => 2 ^ 62 - 1

/-- Least code value (Table 02-1). -/
def Fmt.minq : Fmt → Int
  | .u8 => 0
  | f => -f.maxq

/-- The stored OVF code, as an unsigned bit pattern (Table 02-1). -/
def Fmt.ovf : Fmt → Nat
  | .u8 => 0xFF
  | f => 2 ^ (f.bits - 1)

/-- The code that a bit pattern stands for (Table 02-1). -/
def Fmt.decode (f : Fmt) (v : Nat) : Code :=
  if v = f.ovf then none
  else match f with
    | .u8 => some v
    | _ => some (signedOf f.bits v)

/-- The bit pattern of a code (Table 02-1). -/
def Fmt.encode (f : Fmt) : Code → Nat
  | none => f.ovf
  | some q => lowBits f.bits q

/-- Bytes of a block of 32 elements, or of a sequence of `n` elements (R19, R20). -/
def Fmt.rowBytes (f : Fmt) (n : Nat) : Nat :=
  if f.blocked then (n + 31) / 32 * (1 + 4 * f.bits) else (n * f.bits + 7) / 8

/-- `k` values of `w` bits each, least significant first (R19). -/
def splitBits (w : Nat) : Nat → Nat → List Nat
  | 0, _ => []
  | k + 1, v => v % 2 ^ w :: splitBits w k (v / 2 ^ w)

/-- Inverse of `splitBits`: values of `w` bits packed least significant first. -/
def packBits (w : Nat) : List Nat → Nat
  | [] => 0
  | v :: t => v % 2 ^ w + 2 ^ w * packBits w t

/-- The exponent byte 0x80 of an OVF block, as a signed byte (R20). -/
def ovfBlock : Int := -128

/-- Elements of a blocked row, block by block; an exponent byte 0x80 is an OVF block (R20). -/
def decodeBlocks (f : Fmt) : Nat → List Byte → List Elem
  | 0, _ => []
  | k + 1, bytes =>
    let b := (bytes.headD 0).toNat
    let body := natOfBytes ((bytes.drop 1).take (4 * f.bits))
    let codes := splitBits f.bits 32 body
    let es : List Elem :=
      if b = 0x80 then codes.map fun _ => ⟨none, ovfBlock⟩
      else codes.map fun v => ⟨f.decode v, signedOf 8 b⟩
    es ++ decodeBlocks f k (bytes.drop (1 + 4 * f.bits))

/-- The `n` elements of a row stored in `f` (R19, R20). -/
def Fmt.decodeRow (f : Fmt) (n : Nat) (bytes : List Byte) : List Elem :=
  if f.blocked then (decodeBlocks f ((n + 31) / 32) bytes).take n
  else (splitBits f.bits n (natOfBytes (bytes.take (f.rowBytes n)))).map fun v => ⟨f.decode v, 0⟩

/-- One stored block: exponent byte and 32 packed codes; an OVF block has exponent 0x80 and codes 0 (R20). -/
def encodeBlock (f : Fmt) (b : Option Int) (codes : List Code) : List Byte :=
  match b with
  | none => 0x80#8 :: List.replicate (4 * f.bits) 0#8
  | some e =>
    let cs := (codes ++ List.replicate (32 - codes.length) (some 0)).map f.encode
    BitVec.ofInt 8 e :: bytesOfNat (4 * f.bits) (packBits f.bits cs)

/-- A row of an unblocked format; unfilled positions of the last byte are 0 (R19). -/
def encodeFlat (f : Fmt) (codes : List Code) : List Byte :=
  bytesOfNat (f.rowBytes codes.length) (packBits f.bits (codes.map f.encode))

/-- Cuts a list in pieces of 32 elements, at most `fuel` of them. -/
def chunk32 {α : Type} : Nat → List α → List (List α)
  | 0, _ => []
  | k + 1, l => if l.isEmpty then [] else l.take 32 :: chunk32 k (l.drop 32)

/-! ## Legends -/

/-- The legend of a 128-bit value, or `none` where it is invalid (R21, R23). -/
def Legend.ofNat (v : Nat) : Option Legend :=
  match Fmt.ofCode (field v 7 0) with
  | none => none
  | some f =>
    if field v 39 32 = (if f.blocked then 5 else 0) ∧ 32768 ≤ field v 31 16 ∧ field v 41 40 ≠ 3 ∧
        field v 127 96 = 0 ∧ field v 63 48 = 0 ∧ field v 47 43 = 0 then
      some { fmt := f, T := signedOf 8 (field v 15 8), m := field v 31 16, round := field v 41 40,
             sat := field v 42 42 == 1, tensorId := field v 95 64 }
    else none

/-- The 128-bit value of a legend (Table 02-2). -/
def Legend.toNat (l : Legend) : Nat :=
  l.fmt.code + 2 ^ 8 * lowBits 8 l.T + 2 ^ 16 * l.m + (if l.fmt.blocked then 2 ^ 32 * 5 else 0) +
    2 ^ 40 * l.round + (if l.sat then 2 ^ 42 else 0) + 2 ^ 64 * l.tensorId

/-! ## Exact rationals and rounding -/

/-- `p × 2^k`, exact for `k ≥ 0` and its floor for `k < 0`. -/
def shiftFloor (p : Int) (k : Int) : Int :=
  if 0 ≤ k then p * ((2 ^ k.toNat : Nat) : Int) else p / ((2 ^ (-k).toNat : Nat) : Int)

/-- `x × 2^k` exactly. -/
def Q.scale (x : Q) (k : Int) : Q :=
  if 0 ≤ k then ⟨x.num * ((2 ^ k.toNat : Nat) : Int), x.den⟩ else ⟨x.num, x.den * 2 ^ (-k).toNat⟩

/-- Greatest integer not above `x`. -/
def Q.floor (x : Q) : Int := x.num / (x.den : Int)

/-- Nearest integer, ties to even (R39). -/
def Q.roundNE (x : Q) : Int :=
  let fl := x.floor
  let r := 2 * (x.num - fl * x.den)
  if r < x.den then fl else if (x.den : Int) < r then fl + 1 else if fl % 2 = 0 then fl else fl + 1

/-- Stochastic rounding with `n` bits of the rounding word (R40). -/
def Q.roundStoch (x : Q) (n : Nat) (word : Nat) : Int :=
  let fl := x.floor
  let f := ((x.num - fl * x.den) * ((2 ^ n : Nat) : Int)) / x.den
  if ((word % 2 ^ n : Nat) : Int) < f then fl + 1 else fl

/-- Rounding by the ROUND field (R39, R40). -/
def Q.roundBy (round : Nat) (word : Nat) (x : Q) : Int :=
  if round = 1 then x.roundStoch 4 word else if round = 2 then x.roundStoch 3 word else x.roundNE

/-- Nearest-even integer of `num / den` for naturals (R24). -/
def roundNENat (num den : Nat) : Nat := (Q.roundNE ⟨num, den⟩).toNat

/-- The product legend of operands with legends `a` and `w` (R24). -/
def prodLegend (a w : Legend) : ProdLegend :=
  let t := a.T + w.T
  let p := a.m * w.m
  let mp := roundNENat p (2 ^ 15)
  if mp < 2 ^ 16 then ⟨t, mp⟩
  else
    let mp' := roundNENat p (2 ^ 16)
    if mp' = 2 ^ 16 then ⟨t + 2, 2 ^ 15⟩ else ⟨t + 1, mp'⟩

/-! ## A48 accumulators -/

/-- The cleared accumulator (R26). -/
def A48.zero : A48 := ⟨0, -127⟩
/-- The OVF word as the module writes it (R26). -/
def A48.ovf : A48 := ⟨0, -128⟩
/-- An A48 word whose E byte is 0x80 (R26). -/
def A48.isOvf (a : A48) : Bool := a.e == -128

/-- The renormalisation loop of R27; after 33 rounds the exponent is above 127 whatever it was. -/
def renorm : Nat → Int → Int → Int × Int
  | 0, s, e => (s, e)
  | k + 1, s, e => if 2 ^ 62 ≤ s ∨ s < -(2 ^ 62) then renorm k (s / 256) (e + 8) else (s, e)

/-- Ends an add or a combine: renormalise, and OVF above exponent 127. The flag says that OVF arose (R27, R43). -/
def A48.finish (s e : Int) : A48 × Bool :=
  let r := renorm 33 s e
  if 127 < r.2 then (A48.ovf, true) else (⟨r.1, r.2⟩, false)

/-- add(acc, p, g) of R27; `none` is an OVF pass sum. -/
def A48.add (acc : A48) (p : Code) (g : Int) : A48 × Bool :=
  match p with
  | none => (A48.ovf, false)
  | some p =>
    if acc.isOvf then (A48.ovf, false)
    else if p = 0 then (acc, false)
    else A48.finish (acc.w + shiftFloor p (g - acc.e + 16)) acc.e

/-- The residue of a number modulo 255 (R196, R197). -/
def res255 (x : Int) : Nat := (x % 255).toNat

/-- The separate adder through a renormalisation: each shift lowers the residue by that of the byte discarded (R197). -/
def renormRes : Nat → Int → Nat → Nat
  | 0, _, r => r
  | k + 1, s, r =>
    if 2 ^ 62 ≤ s ∨ s < -(2 ^ 62) then renormRes k (s / 256) ((r + 255 - res255 (s % 256)) % 255) else r

/-- The hidden residue of an accumulator after `A48.add`, from its residue before (R197). -/
def A48.addRes (r : Nat) (acc : A48) (p : Code) (g : Int) : Nat :=
  match p with
  | none => 0
  | some p =>
    if acc.isOvf then 0
    else if p = 0 then r
    else
      let t := shiftFloor p (g - acc.e + 16)
      if 127 < (renorm 33 (acc.w + t) acc.e).2 then 0 else renormRes 33 (acc.w + t) ((r + res255 t) % 255)

/-- combine(a, b) of R28. -/
def A48.combine (a b : A48) : A48 × Bool :=
  if a.isOvf || b.isOvf then (A48.ovf, false)
  else
    let e := max a.e b.e
    A48.finish (shiftFloor a.w (a.e - e) + shiftFloor b.w (b.e - e)) e

/-- The nine bytes of an A48 word in memory (R25, R34); an OVF word is written with W = 0 (R26). -/
def A48.toBytes (a : A48) : List Byte := bytesOfNat 8 (if a.isOvf then 0 else lowBits 64 a.w) ++ [BitVec.ofInt 8 a.e]

/-- The A48 word of nine bytes (R34): the 72 bits as they stand. -/
def A48.ofBytes (bytes : List Byte) : A48 :=
  ⟨signedOf 64 (natOfBytes (bytes.take 8)), signedOf 8 ((bytes.getD 8 0).toNat)⟩

/-- A48 words of consecutive 9-byte groups. -/
def a48s : Nat → List Byte → List A48
  | 0, _ => []
  | n + 1, b => A48.ofBytes (b.take 9) :: a48s n (b.drop 9)

/-! ## Reduction trees -/

/-- Largest power of two below `n`, for `n ≥ 2` (R35). -/
def halfPow (n : Nat) : Nat := 2 ^ Nat.log2 (n - 1)

/-- The tree of R35 over a list of leaves; `none` for no leaves. The fuel bounds the depth. -/
def treeReduce {α : Type} (f : α → α → α) : Nat → List α → Option α
  | _, [] => none
  | _, [x] => some x
  | 0, x :: _ => some x
  | k + 1, l =>
    let h := halfPow l.length
    match treeReduce f k (l.take h), treeReduce f k (l.drop h) with
    | some a, some b => some (f a b)
    | some a, none => some a
    | none, b => b

/-- `treeReduce` with fuel for any list. -/
def reduceTree {α : Type} (f : α → α → α) (l : List α) : Option α := treeReduce f l.length l

/-! ## Range checks, narrowing and widening -/

/-- No element counted. -/
def NumCount.none : NumCount := ⟨0, 0⟩
/-- Sum of two counts. -/
def NumCount.add (a b : NumCount) : NumCount := ⟨a.sat + b.sat, a.ovf + b.ovf⟩
/-- One OVF arisen where the flag is set. -/
def NumCount.ovfIf (b : Bool) : NumCount := ⟨0, if b then 1 else 0⟩

/-- The range check of R41. -/
def checkRange (f : Fmt) (sat : Bool) (y : Int) : Code × NumCount :=
  if f.minq ≤ y ∧ y ≤ f.maxq then (some y, NumCount.none)
  else if sat then (some (if y < f.minq then f.minq else f.maxq), ⟨1, 0⟩)
  else (none, ⟨0, 1⟩)

/-- An exact integer result in format `f`, OVF out of range (R43). -/
def fitOrOvf (f : Fmt) (y : Int) : Code × NumCount := checkRange f false y

/-- The exact x0 of R37 for a code `q` at exponent `e` (T + b) and multiplier `m`, into target exponent and
multiplier. -/
def toTarget (q : Int) (e : Int) (m : Nat) (tgtT : Int) (tgtM : Nat) : Q :=
  Q.scale ⟨q * m, tgtM⟩ (e - tgtT)

/-- x0 of a source element for a target legend; `none` is OVF. -/
def Elem.x0 (src : Legend) (tgt : Legend) (x : Elem) : Option Q :=
  x.q.map fun q => toTarget q (src.T + x.b) src.m tgt.T tgt.m

/-- Rounding and range of one element of an unblocked target (R39-R41). -/
def narrowOne (f : Fmt) (sat : Bool) (round word : Nat) (x : Option Q) : Code × NumCount :=
  match x with
  | none => (none, NumCount.none)
  | some x => checkRange f sat (x.roundBy round word)

/-- Whether |x| ≤ maxq × 2^b (R38). -/
def fitsExp (maxq : Int) (b : Int) (x : Q) : Bool :=
  let y := Q.scale ⟨maxq, 1⟩ b
  decide ((x.num.natAbs : Int) * y.den ≤ y.num * x.den)

/-- The exponents −127..+127 in rising order. -/
def blockExps : List Int := (List.range 255).map fun i : Nat => (i : Int) - 127

/-- The least block exponent that suffices; `none` where none up to +127 does (R38). -/
def blockExp (maxq : Int) (xs : List (Option Q)) : Option Int :=
  blockExps.find? fun b => xs.all fun x => match x with
    | none => true
    | some x => fitsExp maxq b x

/-- Narrowing of one block of at most 32 in-row elements with their rounding words (R38-R41, R43). -/
def narrowBlock (f : Fmt) (sat : Bool) (round : Nat) (xs : List (Option Q × Nat)) : NarrowedBlock :=
  match blockExp f.maxq (xs.map Prod.fst), sat with
  | none, false =>
    ⟨none, xs.map fun _ => none, ⟨0, (xs.filter fun x => x.1.isSome).length⟩⟩
  | be, _ =>
    let b := be.getD 127
    let rs := xs.map fun x => narrowOne f sat round x.2 (x.1.map fun v => v.scale (-b))
    ⟨some b, rs.map Prod.fst, (rs.map Prod.snd).foldl NumCount.add NumCount.none⟩

/-- A row narrowed into legend `l`: stored bytes and counts; each element comes with its rounding word (R37-R41). -/
def narrowRow (l : Legend) (xs : List (Option Q × Nat)) : List Byte × NumCount :=
  if l.fmt.blocked then
    let bs := (chunk32 (xs.length + 1) xs).map fun c => narrowBlock l.fmt l.sat l.round c
    (bs.flatMap fun b => encodeBlock l.fmt b.b b.codes, (bs.map fun b => b.count).foldl NumCount.add NumCount.none)
  else
    let rs := xs.map fun x => narrowOne l.fmt l.sat l.round x.2 x.1
    (encodeFlat l.fmt (rs.map Prod.fst), (rs.map Prod.snd).foldl NumCount.add NumCount.none)

/-- The elements of a stored row as the writer moves them between legends that differ only in TENSOR_ID, SAT or
ROUND: codes unchanged, an OVF block in its written form (R42). -/
def moveRow (f : Fmt) (n : Nat) (bytes : List Byte) : List Byte :=
  if f.blocked then
    (List.range ((n + 31) / 32)).flatMap fun k =>
      let blk := (bytes.drop (k * (1 + 4 * f.bits))).take (1 + 4 * f.bits)
      if blk.headD 0 = 0x80#8 then 0x80#8 :: List.replicate (4 * f.bits) 0#8 else blk
  else bytes.take (f.rowBytes n)

/-- Two legends between which a move leaves codes unchanged (R42). -/
def Legend.sameScale (a b : Legend) : Bool := a.fmt == b.fmt && a.T == b.T && a.m == b.m

/-- The value of an A48 element at product legend exponent `t` and multiplier `m`, as x0 of a target (R25, R37). -/
def A48.x0 (a : A48) (t : Int) (m : Nat) (tgtT : Int) (tgtM : Nat) : Option Q :=
  if a.isOvf then none else some (toTarget a.w (a.e - 16 + t) m tgtT tgtM)

end Sys2Proof.Machine
end

