-- ==== Sys2Proof/Machine/FuncTables.lean ====
section
/-! DEFINITION. The fixed tables E, L and Q of R221, Z of R400 and C of R401, each entry the formula of its rule
rounded to the nearest integer. -/

namespace Sys2Proof.Machine

/-- Table E: 2^(30 + j/256) (R221), entries 0.. -/
def tabE0 : List Int :=
  [1073741824, 1076653033, 1079572136, 1082499153, 1085434106, 1088377016, 1091327906, 1094286796, 1097253708,
   1100228665, 1103211687, 1106202798, 1109202018, 1112209370, 1115224875, 1118248556, 1121280436, 1124320536,
   1127368878, 1130425485, 1133490379, 1136563583, 1139645120, 1142735011, 1145833280, 1148939949, 1152055042,
   1155178580, 1158310587, 1161451085, 1164600099, 1167757650, 1170923762, 1174098458, 1177281762, 1180473697,
   1183674286, 1186883552, 1190101520, 1193328213, 1196563654, 1199807867, 1203060876, 1206322705, 1209593378,
   1212872918, 1216161350, 1219458698, 1222764986, 1226080238, 1229404479, 1232737732, 1236080024, 1239431376,
   1242791816, 1246161366, 1249540052, 1252927899, 1256324931, 1259731174, 1263146652, 1266571390, 1270005413,
   1273448747]

/-- Table E: 2^(30 + j/256) (R221), entries 64.. -/
def tabE1 : List Int :=
  [1276901417, 1280363448, 1283834865, 1287315695, 1290805962, 1294305692, 1297814910, 1301333643, 1304861917,
   1308399756, 1311947188, 1315504238, 1319070932, 1322647296, 1326233356, 1329829140, 1333434672, 1337049980,
   1340675091, 1344310030, 1347954824, 1351609500, 1355274085, 1358948606, 1362633090, 1366327563, 1370032052,
   1373746586, 1377471191, 1381205894, 1384950723, 1388705706, 1392470869, 1396246240, 1400031848, 1403827719,
   1407633882, 1411450365, 1415277195, 1419114401, 1422962010, 1426820052, 1430688553, 1434567544, 1438457051,
   1442357104, 1446267730, 1450188960, 1454120821, 1458063343, 1462016553, 1465980482, 1469955159, 1473940611,
   1477936870, 1481943963, 1485961921, 1489990772, 1494030547, 1498081275, 1502142985, 1506215708, 1510299473,
   1514394310]

/-- Table E: 2^(30 + j/256) (R221), entries 128.. -/
def tabE2 : List Int :=
  [1518500250, 1522617322, 1526745556, 1530884983, 1535035634, 1539197537, 1543370725, 1547555228, 1551751076,
   1555958300, 1560176931, 1564406999, 1568648537, 1572901575, 1577166143, 1581442275, 1585730000, 1590029350,
   1594340357, 1598663052, 1602997467, 1607343634, 1611701585, 1616071351, 1620452965, 1624846459, 1629251865,
   1633669214, 1638098541, 1642539877, 1646993254, 1651458706, 1655936265, 1660425963, 1664927835, 1669441912,
   1673968228, 1678506817, 1683057710, 1687620943, 1692196547, 1696784557, 1701385007, 1705997930, 1710623359,
   1715261330, 1719911875, 1724575029, 1729250827, 1733939301, 1738640488, 1743354420, 1748081133, 1752820662,
   1757573041, 1762338305, 1767116489, 1771907628, 1776711757, 1781528911, 1786359126, 1791202437, 1796058879,
   1800928489]

/-- Table E: 2^(30 + j/256) (R221), entries 192.. -/
def tabE3 : List Int :=
  [1805811301, 1810707353, 1815616678, 1820539314, 1825475297, 1830424663, 1835387448, 1840363688, 1845353420,
   1850356681, 1855373507, 1860403934, 1865448001, 1870505744, 1875577199, 1880662405, 1885761398, 1890874216,
   1896000896, 1901141476, 1906295993, 1911464486, 1916646992, 1921843549, 1927054196, 1932278970, 1937517909,
   1942771053, 1948038440, 1953320108, 1958616096, 1963926443, 1969251188, 1974590370, 1979944027, 1985312200,
   1990694927, 1996092249, 2001504204, 2006930832, 2012372174, 2017828268, 2023299156, 2028784876, 2034285470,
   2039800978, 2045331439, 2050876895, 2056437387, 2062012954, 2067603638, 2073209480, 2078830522, 2084466803,
   2090118366, 2095785251, 2101467502, 2107165158, 2112878262, 2118606857, 2124350982, 2130110682, 2135885998,
   2141676973]

/-- Table E: 2^(30 + j/256) (R221), entries 256.. -/
def tabE4 : List Int :=
  [2147483648]

/-- Table E: 2^(30 + j/256) (R221). -/
def tabE : List Int :=
  tabE0 ++ tabE1 ++ tabE2 ++ tabE3 ++ tabE4

/-- Table L: 2^30 log2(1 + j/256) (R221), entries 0.. -/
def tabL0 : List Int :=
  [0, 6039314, 12055174, 18047761, 24017256, 29963836, 35887675, 41788947, 47667823, 53524472, 59359063, 65171760,
   70962728, 76732128, 82480119, 88206862, 93912511, 99597222, 105261148, 110904440, 116527248, 122129721,
   127712004, 133274244, 138816582, 144339162, 149842124, 155325606, 160789745, 166234679, 171660541, 177067464,
   182455581, 187825021, 193175914, 198508388, 203822568, 209118580, 214396548, 219656594, 224898839, 230123404,
   235330407, 240519966, 245692198, 250847218, 255985140, 261106077, 266210141, 271297442, 276368092, 281422197,
   286459867, 291481207, 296486323, 301475319, 306448299, 311405366, 316346620, 321272163, 326182095, 331076513,
   335955515, 340819199]

/-- Table L: 2^30 log2(1 + j/256) (R221), entries 64.. -/
def tabL1 : List Int :=
  [345667660, 350500993, 355319292, 360122651, 364911162, 369684916, 374444004, 379188517, 383918542, 388634168,
   393335482, 398022572, 402695523, 407354420, 411999347, 416630388, 421247625, 425851141, 430441017, 435017334,
   439580170, 444129607, 448665721, 453188592, 457698295, 462194908, 466678506, 471149164, 475606957, 480051959,
   484484242, 488903880, 493310944, 497705506, 502087636, 506457405, 510814882, 515160136, 519493235, 523814248,
   528123241, 532420281, 536705435, 540978767, 545240343, 549490228, 553728485, 557955178, 562170370, 566374123,
   570566499, 574747559, 578917365, 583075977, 587223455, 591359858, 595485245, 599599675, 603703206, 607795895,
   611877800, 615948977, 620009483, 624059373]

/-- Table L: 2^30 log2(1 + j/256) (R221), entries 128.. -/
def tabL2 : List Int :=
  [628098702, 632127527, 636145900, 640153876, 644151509, 648138853, 652115959, 656082880, 660039669, 663986377,
   667923055, 671849754, 675766525, 679673418, 683570481, 687457766, 691335320, 695203192, 699061430, 702910083,
   706749198, 710578822, 714399001, 718209783, 722011213, 725803337, 729586201, 733359850, 737124328, 740879680,
   744625951, 748363183, 752091421, 755810707, 759521085, 763222597, 766915285, 770599192, 774274358, 777940826,
   781598637, 785247830, 788888448, 792520529, 796144114, 799759243, 803365955, 806964289, 810554283, 814135978,
   817709409, 821274617, 824831638, 828380510, 831921271, 835453956, 838978604, 842495250, 846003931, 849504683,
   852997541, 856482542, 859959719, 863429109]

/-- Table L: 2^30 log2(1 + j/256) (R221), entries 192.. -/
def tabL3 : List Int :=
  [866890747, 870344666, 873790901, 877229486, 880660455, 884083842, 887499680, 890908003, 894308843, 897702233,
   901088206, 904466794, 907838029, 911201944, 914558569, 917907937, 921250079, 924585025, 927912807, 931233456,
   934547002, 937853475, 941152905, 944445323, 947730758, 951009239, 954280797, 957545460, 960803257, 964054218,
   967298370, 970535742, 973766362, 976990259, 980207461, 983417995, 986621888, 989819169, 993009864, 996194001,
   999371606, 1002542707, 1005707329, 1008865499, 1012017244, 1015162589, 1018301561, 1021434185, 1024560487,
   1027680492, 1030794226, 1033901713, 1037002979, 1040098049, 1043186948, 1046269699, 1049346328, 1052416858,
   1055481314, 1058539720, 1061592099, 1064638476, 1067678873, 1070713315]

/-- Table L: 2^30 log2(1 + j/256) (R221), entries 256.. -/
def tabL4 : List Int :=
  [1073741824]

/-- Table L: 2^30 log2(1 + j/256) (R221). -/
def tabL : List Int :=
  tabL0 ++ tabL1 ++ tabL2 ++ tabL3 ++ tabL4

/-- Table Q: 2^30 / sqrt(1 + j/256) (R221), entries 0.. -/
def tabQ0 : List Int :=
  [1073741824, 1071650796, 1069571937, 1067505129, 1065450257, 1063407206, 1061375863, 1059356116, 1057347856,
   1055350975, 1053365364, 1051390920, 1049427536, 1047475111, 1045533543, 1043602731, 1041682578, 1039772984,
   1037873853, 1035985091, 1034106604, 1032238298, 1030380081, 1028531865, 1026693558, 1024865073, 1023046322,
   1021237220, 1019437682, 1017647623, 1015866961, 1014095614, 1012333500, 1010580540, 1008836655, 1007101767,
   1005375799, 1003658674, 1001950318, 1000250655, 998559613, 996877119, 995203101, 993537488, 991880210, 990231198,
   988590382, 986957697, 985333074, 983716448, 982107753, 980506924, 978913898, 977328611, 975751001, 974181007,
   972618566, 971063620, 969516107, 967975969, 966443148, 964917586, 963399225, 961888010]

/-- Table Q: 2^30 / sqrt(1 + j/256) (R221), entries 64.. -/
def tabQ1 : List Int :=
  [960383883, 958886792, 957396679, 955913492, 954437177, 952967681, 951504951, 950048937, 948599586, 947156848,
   945720673, 944291011, 942867814, 941451032, 940040618, 938636523, 937238702, 935847107, 934461692, 933082412,
   931709222, 930342076, 928980931, 927625743, 926276469, 924933065, 923595489, 922263700, 920937655, 919617314,
   918302635, 916993578, 915690104, 914392173, 913099745, 911812782, 910531246, 909255098, 907984300, 906718816,
   905458609, 904203641, 902953878, 901709282, 900469818, 899235452, 898006148, 896781872, 895562589, 894348266,
   893138870, 891934367, 890734723, 889539908, 888349887, 887164630, 885984104, 884808279, 883637122, 882470604,
   881308694, 880151361, 878998575, 877850307]

/-- Table Q: 2^30 / sqrt(1 + j/256) (R221), entries 128.. -/
def tabQ2 : List Int :=
  [876706528, 875567208, 874432318, 873301830, 872175715, 871053945, 869936492, 868823329, 867714429, 866609763,
   865509306, 864413030, 863320910, 862232918, 861149030, 860069218, 858993459, 857921726, 856853995, 855790241,
   854730438, 853674563, 852622592, 851574500, 850530263, 849489859, 848453263, 847420453, 846391405, 845366097,
   844344506, 843326610, 842312387, 841301814, 840294869, 839291532, 838291779, 837295592, 836302947, 835313824,
   834328203, 833346062, 832367382, 831392141, 830420321, 829451900, 828486860, 827525180, 826566842, 825611825,
   824660110, 823711680, 822766514, 821824594, 820885902, 819950420, 819018128, 818089009, 817163045, 816240218,
   815320510, 814403904, 813490383, 812579929]

/-- Table Q: 2^30 / sqrt(1 + j/256) (R221), entries 192.. -/
def tabQ3 : List Int :=
  [811672525, 810768155, 809866800, 808968445, 808073073, 807180667, 806291212, 805404690, 804521086, 803640384,
   802762568, 801887622, 801015531, 800146279, 799279851, 798416231, 797555404, 796697356, 795842072, 794989536,
   794139734, 793292651, 792448274, 791606586, 790767575, 789931227, 789097526, 788266459, 787438013, 786612173,
   785788926, 784968259, 784150157, 783334608, 782521599, 781711115, 780903145, 780097675, 779294692, 778494183,
   777696137, 776900539, 776107379, 775316643, 774528319, 773742394, 772958857, 772177696, 771398898, 770622452,
   769848346, 769076568, 768307107, 767539950, 766775087, 766012506, 765252196, 764494145, 763738342, 762984777,
   762233438, 761484314, 760737394, 759992668]

/-- Table Q: 2^30 / sqrt(1 + j/256) (R221), entries 256.. -/
def tabQ4 : List Int :=
  [759250125, 758509754, 757771545, 757035487, 756301570, 755569783, 754840116, 754112559, 753387102, 752663734,
   751942447, 751223228, 750506070, 749790962, 749077893, 748366856, 747657839, 746950834, 746245831, 745542820,
   744841792, 744142738, 743445649, 742750515, 742057327, 741366077, 740676754, 739989351, 739303858, 738620267,
   737938568, 737258754, 736580814, 735904742, 735230528, 734558163, 733887640, 733218949, 732552083, 731887034,
   731223792, 730562350, 729902700, 729244834, 728588743, 727934420, 727281856, 726631044, 725981977, 725334645,
   724689043, 724045161, 723402992, 722762529, 722123764, 721486689, 720851298, 720217582, 719585535, 718955149,
   718326417, 717699331, 717073885, 716450071]

/-- Table Q: 2^30 / sqrt(1 + j/256) (R221), entries 320.. -/
def tabQ5 : List Int :=
  [715827883, 715207312, 714588353, 713970998, 713355240, 712741073, 712128489, 711517482, 710908045, 710300172,
   709693855, 709089088, 708485864, 707884178, 707284021, 706685389, 706088274, 705492670, 704898571, 704305970,
   703714861, 703125238, 702537095, 701950425, 701365222, 700781481, 700199195, 699618357, 699038963, 698461006,
   697884480, 697309380, 696735698, 696163431, 695592571, 695023113, 694455052, 693888381, 693323095, 692759188,
   692196655, 691635491, 691075688, 690517243, 689960150, 689404403, 688849996, 688296925, 687745184, 687194767,
   686645670, 686097888, 685551414, 685006243, 684462372, 683919794, 683378504, 682838497, 682299768, 681762312,
   681226125, 680691201, 680157534, 679625121]

/-- Table Q: 2^30 / sqrt(1 + j/256) (R221), entries 384.. -/
def tabQ6 : List Int :=
  [679093957, 678564035, 678035353, 677507904, 676981684, 676456689, 675932912, 675410351, 674889000, 674368854,
   673849909, 673332161, 672815603, 672300233, 671786046, 671273036, 670761200, 670250533, 669741030, 669232688,
   668725501, 668219466, 667714578, 667210832, 666708225, 666206752, 665706409, 665207191, 664709095, 664212116,
   663716251, 663221494, 662727842, 662235290, 661743836, 661253473, 660764199, 660276010, 659788901, 659302869,
   658817909, 658334018, 657851191, 657369425, 656888716, 656409060, 655930453, 655452892, 654976372, 654500890,
   654026442, 653553025, 653080633, 652609265, 652138916, 651669583, 651201261, 650733947, 650267639, 649802331,
   649338020, 648874704, 648412378, 647951038]

/-- Table Q: 2^30 / sqrt(1 + j/256) (R221), entries 448.. -/
def tabQ7 : List Int :=
  [647490682, 647031306, 646572906, 646115479, 645659022, 645203530, 644749001, 644295432, 643842818, 643391157,
   642940445, 642490679, 642041856, 641593972, 641147024, 640701008, 640255922, 639811763, 639368526, 638926210,
   638484810, 638044324, 637604748, 637166079, 636728315, 636291451, 635855486, 635420415, 634986237, 634552947,
   634120543, 633689021, 633258380, 632828615, 632399724, 631971704, 631544551, 631118264, 630692839, 630268273,
   629844563, 629421707, 628999701, 628578543, 628158229, 627738758, 627320126, 626902330, 626485368, 626069237,
   625653934, 625239456, 624825801, 624412966, 624000948, 623589745, 623179354, 622769771, 622360996, 621953024,
   621545853, 621139481, 620733905, 620329123]

/-- Table Q: 2^30 / sqrt(1 + j/256) (R221), entries 512.. -/
def tabQ8 : List Int :=
  [619925131, 619521928, 619119510, 618717876, 618317022, 617916946, 617517646, 617119119, 616721362, 616324374,
   615928151, 615532692, 615137993, 614744052, 614350868, 613958437, 613566757, 613175825, 612785640, 612396199,
   612007499, 611619539, 611232315, 610845826, 610460069, 610075043, 609690743, 609307169, 608924318, 608542188,
   608160777, 607780081, 607400100, 607020830, 606642271, 606264418, 605887270, 605510826, 605135082, 604760037,
   604385689, 604012035, 603639073, 603266800, 602895216, 602524318, 602154103, 601784570, 601415717, 601047540,
   600680040, 600313212, 599947056, 599581569, 599216749, 598852594, 598489102, 598126271, 597764100, 597402585,
   597041726, 596681520, 596321965, 595963059]

/-- Table Q: 2^30 / sqrt(1 + j/256) (R221), entries 576.. -/
def tabQ9 : List Int :=
  [595604800, 595247187, 594890217, 594533889, 594178200, 593823149, 593468733, 593114952, 592761802, 592409282,
   592057391, 591706126, 591355485, 591005467, 590656069, 590307291, 589959130, 589611584, 589264652, 588918331,
   588572620, 588227517, 587883021, 587539129, 587195840, 586853152, 586511063, 586169572, 585828677, 585488375,
   585148667, 584809548, 584471019, 584133077, 583795720, 583458947, 583122756, 582787146, 582452115, 582117660,
   581783781, 581450476, 581117744, 580785581, 580453988, 580122962, 579792502, 579462606, 579133272, 578804499,
   578476286, 578148630, 577821530, 577494985, 577168993, 576843552, 576518662, 576194319, 575870523, 575547273,
   575224566, 574902402, 574580778, 574259694]

/-- Table Q: 2^30 / sqrt(1 + j/256) (R221), entries 640.. -/
def tabQ10 : List Int :=
  [573939147, 573619136, 573299660, 572980717, 572662306, 572344425, 572027073, 571710248, 571393950, 571078175,
   570762923, 570448193, 570133983, 569820292, 569507118, 569194460, 568882316, 568570685, 568259565, 567948956,
   567638856, 567329262, 567020175, 566711593, 566403514, 566095936, 565788860, 565482282, 565176202, 564870619,
   564565531, 564260937, 563956835, 563653224, 563350103, 563047471, 562745326, 562443667, 562142492, 561841800,
   561541591, 561241862, 560942613, 560643842, 560345548, 560047729, 559750385, 559453514, 559157115, 558861186,
   558565727, 558270736, 557976212, 557682153, 557388559, 557095428, 556802759, 556510551, 556218802, 555927512,
   555636678, 555346301, 555056379, 554766910]

/-- Table Q: 2^30 / sqrt(1 + j/256) (R221), entries 704.. -/
def tabQ11 : List Int :=
  [554477894, 554189329, 553901213, 553613547, 553326329, 553039557, 552753230, 552467348, 552181909, 551896912,
   551612356, 551328239, 551044561, 550761320, 550478516, 550196147, 549914212, 549632710, 549351640, 549071000,
   548790791, 548511009, 548231656, 547952728, 547674226, 547396148, 547118494, 546841261, 546564450, 546288058,
   546012085, 545736530, 545461392, 545186670, 544912362, 544638468, 544364986, 544091916, 543819257, 543547007,
   543275165, 543003731, 542732704, 542462081, 542191864, 541922049, 541652637, 541383627, 541115017, 540846806,
   540578994, 540311579, 540044561, 539777938, 539511710, 539245875, 538980433, 538715382, 538450722, 538186452,
   537922570, 537659076, 537395969, 537133248]

/-- Table Q: 2^30 / sqrt(1 + j/256) (R221), entries 768.. -/
def tabQ12 : List Int :=
  [536870912]

/-- Table Q: 2^30 / sqrt(1 + j/256) (R221). -/
def tabQ : List Int :=
  tabQ0 ++ tabQ1 ++ tabQ2 ++ tabQ3 ++ tabQ4 ++ tabQ5 ++ tabQ6 ++ tabQ7 ++
  tabQ8 ++ tabQ9 ++ tabQ10 ++ tabQ11 ++ tabQ12

/-- Table Z: entry 33 k + j is Z[k][j] (R400), entries 0.. -/
def tabZ0 : List Int :=
  [425333145, 425014778, 424705699, 424405373, 424113314, 423829074, 423552239, 423282429, 423019292, 422762502,
   422511757, 422266776, 422027295, 421793071, 421563875, 421339493, 421119725, 420904382, 420693288, 420486276,
   420283189, 420083880, 419888209, 419696043, 419507259, 419321736, 419139365, 418960037, 418783651, 418610112,
   418439328, 418271212, 418105680, 418105680, 417782057, 417467868, 417162570, 416865669, 416576710, 416295274,
   416020974, 415753453, 415492379, 415237447, 414988369, 414744880, 414506732, 414273691, 414045542, 413822080,
   413603114, 413388465, 413177963, 412971450, 412768775, 412569796, 412374380, 412182398, 411993732, 411808267,
   411625895, 411446513, 411270023, 411096333, 410925354, 410757001]

/-- Table Z: entry 33 k + j is Z[k][j] (R400), entries 66.. -/
def tabZ1 : List Int :=
  [410757001, 410427857, 410108299, 409797777, 409495789, 409201872, 408915601, 408636582, 408364453, 408098878,
   407839544, 407586161, 407338459, 407096185, 406859103, 406626992, 406399647, 406176871, 405958484, 405744313,
   405534197, 405327982, 405125525, 404926689, 404731345, 404539372, 404350653, 404165079, 403982545, 403802951,
   403626203, 403452212, 403280891, 403280891, 402945937, 402620730, 402304711, 401997369, 401698234, 401406874,
   401122888, 400845909, 400575594, 400311626, 400053711, 399801572, 399554953, 399313615, 399077333, 398845897,
   398619110, 398396786, 398178750, 397964837, 397754893, 397548772, 397346334, 397147448, 396951990, 396759843,
   396570894, 396385038, 396202173, 396022203, 395845038, 395670588]

/-- Table Z: entry 33 k + j is Z[k][j] (R400), entries 132.. -/
def tabZ2 : List Int :=
  [395670588, 395329511, 394998349, 394676535, 394363548, 394058912, 393762185, 393472962, 393190868, 392915555,
   392646699, 392384002, 392127183, 391875982, 391630154, 391389471, 391153720, 390922699, 390696220, 390474105,
   390256187, 390042308, 389832319, 389626078, 389423454, 389224318, 389028551, 388836040, 388646677, 388460358,
   388276987, 388096469, 387918716, 387918716, 387571172, 387233722, 386905787, 386586839, 386276390, 385973995,
   385679238, 385391739, 385111144, 384837125, 384569374, 384307610, 384051564, 383800990, 383555656, 383315342,
   383079846, 382848974, 382622547, 382400393, 382182352, 381968273, 381758012, 381551432, 381348406, 381148811,
   380952532, 380759459, 380569486, 380382516, 380198452, 380017204]

/-- Table Z: entry 33 k + j is Z[k][j] (R400), entries 198.. -/
def tabZ3 : List Int :=
  [380017204, 379662818, 379318712, 378984300, 378659041, 378342441, 378034045, 377733430, 377440209, 377154022,
   376874533, 376601432, 376334429, 376073253, 375817652, 375567390, 375322243, 375082005, 374846480, 374615483,
   374388841, 374166391, 373947977, 373733454, 373522683, 373315533, 373111880, 372911607, 372714601, 372520755,
   372329968, 372142144, 371957191, 371957191, 371595549, 371244386, 370903103, 370571151, 370248025, 369933262,
   369626432, 369327139, 369035017, 368749725, 368470944, 368198381, 367931760, 367670822, 367415328, 367165050,
   366919777, 366679310, 366443461, 366212052, 365984918, 365761900, 365542850, 365327626, 365116096, 364908132,
   364703615, 364502429, 364304467, 364109626, 363917806, 363728914]

/-- Table Z: entry 33 k + j is Z[k][j] (R400), entries 264.. -/
def tabZ4 : List Int :=
  [363728914, 363359560, 363000895, 362652308, 362313239, 361983175, 361661641, 361348201, 361042450, 360744015,
   360452548, 360167726, 359889247, 359616831, 359350214, 359089152, 358833413, 358582781, 358337053, 358096038,
   357859554, 357627433, 357399513, 357175642, 356955677, 356739481, 356526926, 356317888, 356112251, 355909904,
   355710742, 355514665, 355321576, 355321576, 354944004, 354577344, 354220973, 353874318, 353536857, 353208105,
   352887616, 352574979, 352269812, 351971759, 351680492, 351395702, 351117104, 350844428, 350577424, 350315857,
   350059506, 349808164, 349561634, 349319734, 349082288, 348849135, 348620117, 348395088, 348173910, 347956451,
   347742585, 347532193, 347325163, 347121386, 346920760, 346723188]

/-- Table Z: entry 33 k + j is Z[k][j] (R400), entries 330.. -/
def tabZ5 : List Int :=
  [346723188, 346336836, 345961632, 345596941, 345242178, 344896809, 344560339, 344232314, 343912313, 343599946,
   343294850, 342996688, 342705147, 342419934, 342140775, 341867414, 341599610, 341337137, 341079785, 340827352,
   340579652, 340336507, 340097749, 339863219, 339632768, 339406255, 339183543, 338964505, 338749019, 338536971,
   338328250, 338122751, 337920374, 337920374, 337524612, 337140251, 336766641, 336403185, 336049337, 335704591,
   335368484, 335040584, 334720492, 334407839, 334102280, 333803495, 333511183, 333225065, 332944878, 332670378,
   332401334, 332137528, 331878757, 331624828, 331375560, 331130782, 330890332, 330654055, 330421808, 330193452,
   329968857, 329747897, 329530456, 329316420, 329105682, 328898141]

/-- Table Z: entry 33 k + j is Z[k][j] (R400), entries 396.. -/
def tabZ6 : List Int :=
  [328898141, 328492261, 328098052, 327714850, 327342044, 326979074, 326625424, 326280619, 325944218, 325615812,
   325295024, 324981501, 324674914, 324374958, 324081345, 323793808, 323512094, 323235969, 322965210, 322699608,
   322438967, 322183101, 321931834, 321685000, 321442443, 321204015, 320969573, 320738983, 320512120, 320288861,
   320069092, 319852703, 319639589, 319639589, 319222792, 318817956, 318424400, 318041500, 317668681, 317305416,
   316951216, 316605632, 316268245, 315938667, 315616538, 315301520, 314993300, 314691585, 314396100, 314106587,
   313822804, 313544525, 313271534, 313003632, 312740626, 312482338, 312228597, 311979243, 311734123, 311493092,
   311256015, 311022759, 310793201, 310567223, 310344713, 310125563]

/-- Table Z: entry 33 k + j is Z[k][j] (R400), entries 462.. -/
def tabZ7 : List Int :=
  [310125563, 309696940, 309280589, 308875813, 308481972, 308098476, 307724785, 307360399, 307004856, 306657726,
   306318612, 305987144, 305662976, 305345788, 305035278, 304731163, 304433181, 304141083, 303854635, 303573619,
   303297827, 303027064, 302761146, 302499899, 302243156, 301990763, 301742570, 301498437, 301258230, 301021822,
   300789091, 300559923, 300334207, 300334207, 299892716, 299463835, 299046846, 298641093, 298245972, 297860927,
   297485444, 297119050, 296761303, 296411797, 296070149, 295736007, 295409039, 295088937, 294775412, 294468191,
   294167020, 293871659, 293581884, 293297481, 293018250, 292744002, 292474557, 292209746, 291949409, 291693392,
   291441551, 291193749, 290949855, 290709744, 290473298, 290240404]

/-- Table Z: entry 33 k + j is Z[k][j] (R400), entries 528.. -/
def tabZ8 : List Int :=
  [290240404, 289784844, 289342259, 288911912, 288493127, 288085284, 287687811, 287300181, 286921905, 286552532,
   286191641, 285838841, 285493769, 285156083, 284825467, 284501623, 284184271, 283873150, 283568013, 283268629,
   282974778, 282686254, 282402863, 282124420, 281850750, 281581689, 281317080, 281056773, 280800628, 280548509,
   280300288, 280055844, 279815061, 279815061, 279344035, 278886381, 278441340, 278008218, 277586376, 277175224,
   276774220, 276382862, 276000683, 275627251, 275262163, 274905044, 274555545, 274213337, 273878114, 273549589,
   273227491, 272911567, 272601578, 272297299, 271998516, 271705030, 271416650, 271133196, 270854499, 270580396,
   270310734, 270045367, 269784157, 269526971, 269273683, 269024175]

/-- Table Z: entry 33 k + j is Z[k][j] (R400), entries 594.. -/
def tabZ9 : List Int :=
  [269024175, 268536041, 268061714, 267600412, 267151418, 266714073, 266287771, 265871950, 265466093, 265069719,
   264682381, 264303666, 263933185, 263570577, 263215505, 262867652, 262526721, 262192435, 261864529, 261542760,
   261226892, 260916708, 260612000, 260312572, 260018238, 259728823, 259444158, 259164087, 258888459, 258617129,
   258349962, 258086829, 257827604, 257827604, 257320414, 256827509, 256348082, 255881391, 255426756, 254983549,
   254551193, 254129151, 253716927, 253314059, 252920118, 252534705, 252157445, 251787989, 251426011, 251071203,
   250723277, 250381963, 250047005, 249718162, 249395209, 249077930, 248766123, 248459595, 248158165, 247861660,
   247569915, 247282776, 247000094, 246721728, 246447543, 246177411]

/-- Table Z: entry 33 k + j is Z[k][j] (R400), entries 660.. -/
def tabZ10 : List Int :=
  [246177411, 245648823, 245135049, 244635254, 244148669, 243674591, 243212370, 242761406, 242321146, 241891073,
   241470712, 241059616, 240657372, 240263592, 239877915, 239500002, 239129534, 238766214, 238409760, 238059907,
   237716408, 237379025, 237047538, 236721735, 236401418, 236086398, 235776496, 235471542, 235171373, 234875838,
   234584788, 234298085, 234015595, 234015595, 233462755, 232925318, 232402417, 231893256, 231397104, 230913286,
   230441180, 229980211, 229529844, 229089582, 228658965, 228237562, 227824971, 227420815, 227024744, 226636425,
   226255550, 225881826, 225514979, 225154749, 224800893, 224453178, 224111386, 223775311, 223444756, 223119535,
   222799471, 222484396, 222174150, 221868581, 221567543, 221270900]

/-- Table Z: entry 33 k + j is Z[k][j] (R400), entries 726.. -/
def tabZ11 : List Int :=
  [221270900, 220690271, 220125707, 219576304, 219041235, 218519739, 218011113, 217514711, 217029932, 216556220,
   216093059, 215639968, 215196498, 214762231, 214336775, 213919763, 213510851, 213109716, 212716054, 212329578,
   211950018, 211577119, 211210641, 210850355, 210496046, 210147509, 209804550, 209466984, 209134637, 208807341,
   208484937, 208167275, 207854209, 207854209, 207241324, 206645252, 206065049, 205499852, 204948866, 204411359,
   203886653, 203374123, 202873188, 202383308, 201903980, 201434737, 200975140, 200524780, 200083274, 199650262,
   199225405, 198808387, 198398907, 197996683, 197601448, 197212950, 196830952, 196455226, 196085560, 195721749,
   195363601, 195010932, 194663569, 194321343, 193984098, 193651681]

/-- Table Z: entry 33 k + j is Z[k][j] (R400), entries 792.. -/
def tabZ12 : List Int :=
  [193651681, 193000764, 192367512, 191750940, 191150141, 190564283, 189992597, 189434376, 188888962, 188355746,
   187834162, 187323684, 186823821, 186334112, 185854129, 185383469, 184921755, 184468631, 184023765, 183586841,
   183157563, 182735652, 182320842, 181912883, 181511538, 181116582, 180727801, 180344993, 179967964, 179596532,
   179230521, 178869766, 178514106, 178514106, 177817475, 177139494, 176479124, 175835413, 175207485, 174594532,
   173995806, 173410619, 172838327, 172278335, 171730088, 171193068, 170666792, 170150807, 169644690, 169148041,
   168660486, 168181675, 167711275, 167248974, 166794476, 166347502, 165907788, 165475084, 165049151, 164629765,
   164216712, 163809787, 163408798, 163013560, 162623896, 162239639]

/-- Table Z: entry 33 k + j is Z[k][j] (R400), entries 858.. -/
def tabZ13 : List Int :=
  [162239639, 161486712, 160753580, 160039146, 159342401, 158662421, 157998350, 157349399, 156714836, 156093984,
   155486211, 154890930, 154307592, 153735685, 153174730, 152624278, 152083907, 151553220, 151031844, 150519428,
   150015641, 149520168, 149032714, 148552999, 148080756, 147615734, 147157694, 146706409, 146261662, 145823247,
   145390969, 144964641, 144544084, 144544084, 143719611, 142916276, 142132913, 141368452, 140621906, 139892368,
   139178996, 138481013, 137797697, 137128375, 136472422, 135829255, 135198327, 134579127, 133971178, 133374028,
   132787255, 132210462, 131643273, 131085335, 130536313, 129995892, 129463771, 128939668, 128423313, 127914451,
   127412839, 126918246, 126430452, 125949248, 125474434, 125005820]

/-- Table Z: entry 33 k + j is Z[k][j] (R400), entries 924.. -/
def tabZ14 : List Int :=
  [125005820, 124086468, 123189832, 122314661, 121459812, 120624229, 119806938, 119007039, 118223700, 117456145,
   116703655, 115965558, 115241228, 114530080, 113831565, 113145170, 112470411, 111806834, 111154013, 110511544,
   109879046, 109256162, 108642550, 108037888, 107441873, 106854213, 106274636, 105702878, 105138691, 104581839,
   104032097, 103489248, 102953087, 102953087, 101900055, 100871531, 99866170, 98882735, 97920089, 96977179,
   96053035, 95146755, 94257503, 93384500, 92527020, 91684386, 90855964, 90041160, 89239418, 88450214, 87673057,
   86907483, 86153055, 85409360, 84676009, 83952633, 83238882, 82534424, 81838946, 81152148, 80473745, 79803469,
   79141060, 78486273, 77838875, 77198640]

/-- Table Z: entry 33 k + j is Z[k][j] (R400), entries 990.. -/
def tabZ15 : List Int :=
  [77198640, 75938817, 74705203, 73496329, 72310846, 71147508, 70005166, 68882757, 67779293, 66693857, 65625593,
   64573706, 63537448, 62516123, 61509077, 60515694, 59535398, 58567643, 57611918, 56667737, 55734642, 54812199,
   53899998, 52997650, 52104782, 51221045, 50346102, 49479634, 48621337, 47770921, 46928108, 46092633, 45264241,
   45264241, 43627746, 42016793, 40429698, 38864902, 37320957, 35796519, 34290335, 32801230, 31328104, 29869922,
   28425710, 26994545, 25575554, 24167908, 22770816, 21383526, 20005314, 18635490, 17273387, 15918364, 14569801,
   13227096, 11889665, 10556941, 9228368, 7903402, 6581511, 5262168, 3944856, 2629063, 1314279, 0]

/-- Table Z: entry 33 k + j is Z[k][j] (R400). -/
def tabZ : List Int :=
  tabZ0 ++ tabZ1 ++ tabZ2 ++ tabZ3 ++ tabZ4 ++ tabZ5 ++ tabZ6 ++ tabZ7 ++
  tabZ8 ++ tabZ9 ++ tabZ10 ++ tabZ11 ++ tabZ12 ++ tabZ13 ++ tabZ14 ++ tabZ15

/-- Table C: 2^30 cos(2 pi j / 1024) (R401), entries 0.. -/
def tabC0 : List Int :=
  [1073741824, 1073721611, 1073660973, 1073559913, 1073418433, 1073236540, 1073014240, 1072751542, 1072448455,
   1072104991, 1071721163, 1071296985, 1070832474, 1070327646, 1069782521, 1069197120, 1068571464, 1067905576,
   1067199483, 1066453210, 1065666786, 1064840240, 1063973603, 1063066909, 1062120190, 1061133483, 1060106826,
   1059040255, 1057933813, 1056787540, 1055601479, 1054375676, 1053110176, 1051805027, 1050460278, 1049075980,
   1047652185, 1046188946, 1044686319, 1043144360, 1041563127, 1039942680, 1038283080, 1036584389, 1034846671,
   1033069992, 1031254418, 1029400018, 1027506862, 1025575020, 1023604567, 1021595575, 1019548121, 1017462281,
   1015338134, 1013175761, 1010975242, 1008736660, 1006460100, 1004145648, 1001793390, 999403415, 996975812,
   994510675]

/-- Table C: 2^30 cos(2 pi j / 1024) (R401), entries 64.. -/
def tabC1 : List Int :=
  [992008094, 989468165, 986890984, 984276646, 981625251, 978936898, 976211688, 973449725, 970651112, 967815955,
   964944360, 962036435, 959092290, 956112036, 953095785, 950043650, 946955747, 943832191, 940673101, 937478595,
   934248793, 930983817, 927683790, 924348837, 920979082, 917574653, 914135678, 910662286, 907154608, 903612776,
   900036924, 896427186, 892783698, 889106597, 885396022, 881652112, 877875009, 874064853, 870221790, 866345964,
   862437520, 858496606, 854523370, 850517961, 846480531, 842411232, 838310216, 834177638, 830013654, 825818421,
   821592095, 817334838, 813046808, 808728167, 804379079, 799999706, 795590213, 791150767, 786681534, 782182683,
   777654384, 773096806, 768510122, 763894504]

/-- Table C: 2^30 cos(2 pi j / 1024) (R401), entries 128.. -/
def tabC2 : List Int :=
  [759250125, 754577161, 749875788, 745146182, 740388522, 735602987, 730789757, 725949013, 721080937, 716185713,
   711263525, 706314559, 701339000, 696337036, 691308855, 686254647, 681174602, 676068911, 670937767, 665781362,
   660599890, 655393548, 650162530, 644907034, 639627258, 634323400, 628995660, 623644239, 618269338, 612871159,
   607449906, 602005783, 596538995, 591049748, 585538248, 580004702, 574449320, 568872310, 563273883, 557654248,
   552013618, 546352205, 540670223, 534967884, 529245404, 523502998, 517740883, 511959275, 506158392, 500338453,
   494499676, 488642281, 482766489, 476872522, 470960600, 465030947, 459083786, 453119340, 447137835, 441139496,
   435124548, 429093217, 423045732, 416982319]

/-- Table C: 2^30 cos(2 pi j / 1024) (R401), entries 192.. -/
def tabC3 : List Int :=
  [410903207, 404808624, 398698801, 392573967, 386434353, 380280190, 374111709, 367929144, 361732726, 355522689,
   349299266, 343062693, 336813204, 330551034, 324276419, 317989595, 311690799, 305380268, 299058239, 292724951,
   286380643, 280025552, 273659918, 267283981, 260897982, 254502159, 248096755, 241682010, 235258165, 228825464,
   222384147, 215934457, 209476638, 203010932, 196537583, 190056834, 183568930, 177074115, 170572633, 164064728,
   157550647, 151030634, 144504935, 137973796, 131437462, 124896179, 118350194, 111799753, 105245103, 98686491,
   92124163, 85558366, 78989349, 72417357, 65842639, 59265442, 52686014, 46104602, 39521455, 32936819, 26350943,
   19764076, 13176464, 6588356]

/-- Table C: 2^30 cos(2 pi j / 1024) (R401), entries 256.. -/
def tabC4 : List Int :=
  [0, -6588356, -13176464, -19764076, -26350943, -32936819, -39521455, -46104602, -52686014, -59265442, -65842639,
   -72417357, -78989349, -85558366, -92124163, -98686491, -105245103, -111799753, -118350194, -124896179,
   -131437462, -137973796, -144504935, -151030634, -157550647, -164064728, -170572633, -177074115, -183568930,
   -190056834, -196537583, -203010932, -209476638, -215934457, -222384147, -228825464, -235258165, -241682010,
   -248096755, -254502159, -260897982, -267283981, -273659918, -280025552, -286380643, -292724951, -299058239,
   -305380268, -311690799, -317989595, -324276419, -330551034, -336813204, -343062693, -349299266, -355522689,
   -361732726, -367929144, -374111709, -380280190, -386434353, -392573967, -398698801, -404808624]

/-- Table C: 2^30 cos(2 pi j / 1024) (R401), entries 320.. -/
def tabC5 : List Int :=
  [-410903207, -416982319, -423045732, -429093217, -435124548, -441139496, -447137835, -453119340, -459083786,
   -465030947, -470960600, -476872522, -482766489, -488642281, -494499676, -500338453, -506158392, -511959275,
   -517740883, -523502998, -529245404, -534967884, -540670223, -546352205, -552013618, -557654248, -563273883,
   -568872310, -574449320, -580004702, -585538248, -591049748, -596538995, -602005783, -607449906, -612871159,
   -618269338, -623644239, -628995660, -634323400, -639627258, -644907034, -650162530, -655393548, -660599890,
   -665781362, -670937767, -676068911, -681174602, -686254647, -691308855, -696337036, -701339000, -706314559,
   -711263525, -716185713, -721080937, -725949013, -730789757, -735602987, -740388522, -745146182, -749875788,
   -754577161]

/-- Table C: 2^30 cos(2 pi j / 1024) (R401), entries 384.. -/
def tabC6 : List Int :=
  [-759250125, -763894504, -768510122, -773096806, -777654384, -782182683, -786681534, -791150767, -795590213,
   -799999706, -804379079, -808728167, -813046808, -817334838, -821592095, -825818421, -830013654, -834177638,
   -838310216, -842411232, -846480531, -850517961, -854523370, -858496606, -862437520, -866345964, -870221790,
   -874064853, -877875009, -881652112, -885396022, -889106597, -892783698, -896427186, -900036924, -903612776,
   -907154608, -910662286, -914135678, -917574653, -920979082, -924348837, -927683790, -930983817, -934248793,
   -937478595, -940673101, -943832191, -946955747, -950043650, -953095785, -956112036, -959092290, -962036435,
   -964944360, -967815955, -970651112, -973449725, -976211688, -978936898, -981625251, -984276646, -986890984,
   -989468165]

/-- Table C: 2^30 cos(2 pi j / 1024) (R401), entries 448.. -/
def tabC7 : List Int :=
  [-992008094, -994510675, -996975812, -999403415, -1001793390, -1004145648, -1006460100, -1008736660, -1010975242,
   -1013175761, -1015338134, -1017462281, -1019548121, -1021595575, -1023604567, -1025575020, -1027506862,
   -1029400018, -1031254418, -1033069992, -1034846671, -1036584389, -1038283080, -1039942680, -1041563127,
   -1043144360, -1044686319, -1046188946, -1047652185, -1049075980, -1050460278, -1051805027, -1053110176,
   -1054375676, -1055601479, -1056787540, -1057933813, -1059040255, -1060106826, -1061133483, -1062120190,
   -1063066909, -1063973603, -1064840240, -1065666786, -1066453210, -1067199483, -1067905576, -1068571464,
   -1069197120, -1069782521, -1070327646, -1070832474, -1071296985, -1071721163, -1072104991, -1072448455,
   -1072751542, -1073014240, -1073236540, -1073418433, -1073559913, -1073660973, -1073721611]

/-- Table C: 2^30 cos(2 pi j / 1024) (R401), entries 512.. -/
def tabC8 : List Int :=
  [-1073741824, -1073721611, -1073660973, -1073559913, -1073418433, -1073236540, -1073014240, -1072751542,
   -1072448455, -1072104991, -1071721163, -1071296985, -1070832474, -1070327646, -1069782521, -1069197120,
   -1068571464, -1067905576, -1067199483, -1066453210, -1065666786, -1064840240, -1063973603, -1063066909,
   -1062120190, -1061133483, -1060106826, -1059040255, -1057933813, -1056787540, -1055601479, -1054375676,
   -1053110176, -1051805027, -1050460278, -1049075980, -1047652185, -1046188946, -1044686319, -1043144360,
   -1041563127, -1039942680, -1038283080, -1036584389, -1034846671, -1033069992, -1031254418, -1029400018,
   -1027506862, -1025575020, -1023604567, -1021595575, -1019548121, -1017462281, -1015338134, -1013175761,
   -1010975242, -1008736660, -1006460100, -1004145648, -1001793390, -999403415, -996975812, -994510675]

/-- Table C: 2^30 cos(2 pi j / 1024) (R401), entries 576.. -/
def tabC9 : List Int :=
  [-992008094, -989468165, -986890984, -984276646, -981625251, -978936898, -976211688, -973449725, -970651112,
   -967815955, -964944360, -962036435, -959092290, -956112036, -953095785, -950043650, -946955747, -943832191,
   -940673101, -937478595, -934248793, -930983817, -927683790, -924348837, -920979082, -917574653, -914135678,
   -910662286, -907154608, -903612776, -900036924, -896427186, -892783698, -889106597, -885396022, -881652112,
   -877875009, -874064853, -870221790, -866345964, -862437520, -858496606, -854523370, -850517961, -846480531,
   -842411232, -838310216, -834177638, -830013654, -825818421, -821592095, -817334838, -813046808, -808728167,
   -804379079, -799999706, -795590213, -791150767, -786681534, -782182683, -777654384, -773096806, -768510122,
   -763894504]

/-- Table C: 2^30 cos(2 pi j / 1024) (R401), entries 640.. -/
def tabC10 : List Int :=
  [-759250125, -754577161, -749875788, -745146182, -740388522, -735602987, -730789757, -725949013, -721080937,
   -716185713, -711263525, -706314559, -701339000, -696337036, -691308855, -686254647, -681174602, -676068911,
   -670937767, -665781362, -660599890, -655393548, -650162530, -644907034, -639627258, -634323400, -628995660,
   -623644239, -618269338, -612871159, -607449906, -602005783, -596538995, -591049748, -585538248, -580004702,
   -574449320, -568872310, -563273883, -557654248, -552013618, -546352205, -540670223, -534967884, -529245404,
   -523502998, -517740883, -511959275, -506158392, -500338453, -494499676, -488642281, -482766489, -476872522,
   -470960600, -465030947, -459083786, -453119340, -447137835, -441139496, -435124548, -429093217, -423045732,
   -416982319]

/-- Table C: 2^30 cos(2 pi j / 1024) (R401), entries 704.. -/
def tabC11 : List Int :=
  [-410903207, -404808624, -398698801, -392573967, -386434353, -380280190, -374111709, -367929144, -361732726,
   -355522689, -349299266, -343062693, -336813204, -330551034, -324276419, -317989595, -311690799, -305380268,
   -299058239, -292724951, -286380643, -280025552, -273659918, -267283981, -260897982, -254502159, -248096755,
   -241682010, -235258165, -228825464, -222384147, -215934457, -209476638, -203010932, -196537583, -190056834,
   -183568930, -177074115, -170572633, -164064728, -157550647, -151030634, -144504935, -137973796, -131437462,
   -124896179, -118350194, -111799753, -105245103, -98686491, -92124163, -85558366, -78989349, -72417357, -65842639,
   -59265442, -52686014, -46104602, -39521455, -32936819, -26350943, -19764076, -13176464, -6588356]

/-- Table C: 2^30 cos(2 pi j / 1024) (R401), entries 768.. -/
def tabC12 : List Int :=
  [0, 6588356, 13176464, 19764076, 26350943, 32936819, 39521455, 46104602, 52686014, 59265442, 65842639, 72417357,
   78989349, 85558366, 92124163, 98686491, 105245103, 111799753, 118350194, 124896179, 131437462, 137973796,
   144504935, 151030634, 157550647, 164064728, 170572633, 177074115, 183568930, 190056834, 196537583, 203010932,
   209476638, 215934457, 222384147, 228825464, 235258165, 241682010, 248096755, 254502159, 260897982, 267283981,
   273659918, 280025552, 286380643, 292724951, 299058239, 305380268, 311690799, 317989595, 324276419, 330551034,
   336813204, 343062693, 349299266, 355522689, 361732726, 367929144, 374111709, 380280190, 386434353, 392573967,
   398698801, 404808624]

/-- Table C: 2^30 cos(2 pi j / 1024) (R401), entries 832.. -/
def tabC13 : List Int :=
  [410903207, 416982319, 423045732, 429093217, 435124548, 441139496, 447137835, 453119340, 459083786, 465030947,
   470960600, 476872522, 482766489, 488642281, 494499676, 500338453, 506158392, 511959275, 517740883, 523502998,
   529245404, 534967884, 540670223, 546352205, 552013618, 557654248, 563273883, 568872310, 574449320, 580004702,
   585538248, 591049748, 596538995, 602005783, 607449906, 612871159, 618269338, 623644239, 628995660, 634323400,
   639627258, 644907034, 650162530, 655393548, 660599890, 665781362, 670937767, 676068911, 681174602, 686254647,
   691308855, 696337036, 701339000, 706314559, 711263525, 716185713, 721080937, 725949013, 730789757, 735602987,
   740388522, 745146182, 749875788, 754577161]

/-- Table C: 2^30 cos(2 pi j / 1024) (R401), entries 896.. -/
def tabC14 : List Int :=
  [759250125, 763894504, 768510122, 773096806, 777654384, 782182683, 786681534, 791150767, 795590213, 799999706,
   804379079, 808728167, 813046808, 817334838, 821592095, 825818421, 830013654, 834177638, 838310216, 842411232,
   846480531, 850517961, 854523370, 858496606, 862437520, 866345964, 870221790, 874064853, 877875009, 881652112,
   885396022, 889106597, 892783698, 896427186, 900036924, 903612776, 907154608, 910662286, 914135678, 917574653,
   920979082, 924348837, 927683790, 930983817, 934248793, 937478595, 940673101, 943832191, 946955747, 950043650,
   953095785, 956112036, 959092290, 962036435, 964944360, 967815955, 970651112, 973449725, 976211688, 978936898,
   981625251, 984276646, 986890984, 989468165]

/-- Table C: 2^30 cos(2 pi j / 1024) (R401), entries 960.. -/
def tabC15 : List Int :=
  [992008094, 994510675, 996975812, 999403415, 1001793390, 1004145648, 1006460100, 1008736660, 1010975242,
   1013175761, 1015338134, 1017462281, 1019548121, 1021595575, 1023604567, 1025575020, 1027506862, 1029400018,
   1031254418, 1033069992, 1034846671, 1036584389, 1038283080, 1039942680, 1041563127, 1043144360, 1044686319,
   1046188946, 1047652185, 1049075980, 1050460278, 1051805027, 1053110176, 1054375676, 1055601479, 1056787540,
   1057933813, 1059040255, 1060106826, 1061133483, 1062120190, 1063066909, 1063973603, 1064840240, 1065666786,
   1066453210, 1067199483, 1067905576, 1068571464, 1069197120, 1069782521, 1070327646, 1070832474, 1071296985,
   1071721163, 1072104991, 1072448455, 1072751542, 1073014240, 1073236540, 1073418433, 1073559913, 1073660973,
   1073721611]

/-- Table C: 2^30 cos(2 pi j / 1024) (R401), entries 1024.. -/
def tabC16 : List Int :=
  [1073741824]

/-- Table C: 2^30 cos(2 pi j / 1024) (R401). -/
def tabC : List Int :=
  tabC0 ++ tabC1 ++ tabC2 ++ tabC3 ++ tabC4 ++ tabC5 ++ tabC6 ++ tabC7 ++
  tabC8 ++ tabC9 ++ tabC10 ++ tabC11 ++ tabC12 ++ tabC13 ++ tabC14 ++ tabC15 ++
  tabC16

/-- Entry `j` of a table. -/
def tabAt (t : List Int) (j : Nat) : Int := t.getD j 0

/-- Linear interpolation between entries j and j + 1 with `t` of 2^n (the floor shift of R8). -/
def interp (tab : List Int) (j t n : Nat) : Int :=
  tabAt tab j + ((tabAt tab (j + 1) - tabAt tab j) * (t : Int)) / ((2 ^ n : Nat) : Int)

end Sys2Proof.Machine
end

