-- ==== Sys2Proof/Machine/Random.lean ====
section
/-! DEFINITION. The counter-based generator, its keying, the distributions built on it, and the table functions
(spec/13_random_and_sampling.md, R392-R401; spec/07_vector_engine.md, R221-R222). -/

namespace Sys2Proof.Machine

/-! ## Philox4x32-10 -/

/-- `n` rounds of the generator on counter and key (R392). -/
def philoxRounds : Nat → Nat → Nat → Nat → Nat → Nat → Nat → List Nat
  | 0, c0, c1, c2, c3, _, _ => [c0, c1, c2, c3]
  | n + 1, c0, c1, c2, c3, k0, k1 =>
    let p0 := 0xD2511F53 * c0
    let p1 := 0xCD9E8D57 * c2
    philoxRounds n (((p1 / 2 ^ 32) ^^^ c1) ^^^ k0) (p1 % 2 ^ 32) (((p0 / 2 ^ 32) ^^^ c3) ^^^ k1) (p0 % 2 ^ 32)
      ((k0 + 0x9E3779B9) % 2 ^ 32) ((k1 + 0xBB67AE85) % 2 ^ 32)

/-- The four output words o0..o3 (R392). -/
def philox (c0 c1 c2 c3 k0 k1 : Nat) : List Nat := philoxRounds 10 c0 c1 c2 c3 k0 k1

/-- Purposes of Table 13-1. -/
def purposeRound : Nat := 0
/-- VRAND. -/
def purposeVrand : Nat := 1
/-- SURVEY. -/
def purposeSurvey : Nat := 2
/-- SAMPLE. -/
def purposeSample : Nat := 3

/-- The coordinates of a request for random bits, with the seed in force (R393). -/
structure RandKey where
  /-- Seed in force. -/
  seed : Nat
  /-- Tensor coordinate. -/
  tensor : Nat
  /-- Step coordinate. -/
  step : Nat
  /-- Branch coordinate. -/
  branch : Nat
deriving DecidableEq, Repr

/-- The output words at coordinates, element index and purpose (R393). -/
def randWords (k : RandKey) (idx purpose : Nat) : List Nat :=
  let key := (k.seed + k.step * 0x9E3779B97F4A7C15) % 2 ^ 64
  let i := idx % 2 ^ 64
  philox (i % 2 ^ 32) (i / 2 ^ 32) (k.tensor % 2 ^ 32) (purpose * 2 ^ 16 + k.branch % 2 ^ 16)
    (key % 2 ^ 32) (key / 2 ^ 32)

/-- The rounding word of an element (R40, R394). -/
def roundWord (k : RandKey) (idx : Nat) : Nat := (randWords k idx purposeRound).headD 0

/-- draw64 := o1·2^32 + o0 (Table 13-1). -/
def draw64 (k : RandKey) (idx purpose : Nat) : Nat :=
  let w := randWords k idx purpose
  w.getD 1 0 * 2 ^ 32 + w.headD 0

/-- A rounding word only where the legend rounds stochastically; nearest-even uses none (R39, R40). -/
def roundWordFor (round : Nat) (k : RandKey) (idx : Nat) : Nat := if round = 0 then 0 else roundWord k idx

/-! ## Table functions (R222) -/

/-- VEXP before narrowing: y and i of R222 for the exact argument `x`; v = y × 2^(i − 30). -/
def expParts (x : Q) : Int × Int :=
  let xf := (x.scale 16).roundNE
  let z := (xf * 0x171547653) / ((2 ^ 32 : Nat) : Int)
  let i := z / 65536
  let f := (z % 65536).toNat
  (interp tabE (f / 256) (f % 256) 8, i)

/-- v of VEXP (R222). -/
def expValue (x : Q) : Q :=
  let p := expParts x
  Q.scale ⟨p.1, 1⟩ (p.2 - 30)

/-- Fraction f of R222 and R401: ((w × 2^24) div 2^k) − 2^24. -/
def frac24 (w k : Nat) : Nat := w * 2 ^ 24 / 2 ^ k - 2 ^ 24

/-- v of VLOG for code `q` under (T, M); `none` for q ≤ 0 (R222). -/
def logValue (q T : Int) (M : Nat) : Option Q :=
  if q ≤ 0 then none
  else
    let w := q.toNat * M
    let k := Nat.log2 w
    let f := frac24 w k
    let l := interp tabL (f / 65536) (f % 65536) 16
    let g := ((k : Int) + T - 15) * 2 ^ 30 + l
    some (Q.scale ⟨g * 0xB17217F8, 1⟩ (-62))

/-- v of VRSQRT for code `q` under (T, M); `none` for q ≤ 0 (R222). -/
def rsqrtValue (q T : Int) (M : Nat) : Option Q :=
  if q ≤ 0 then none
  else
    let w := q.toNat * M
    let k0 := Nat.log2 w
    let p0 := (k0 : Int) + T - 15
    let odd := p0 % 2 ≠ 0
    let k := if odd then (k0 : Int) - 1 else k0
    let p := if odd then p0 - 1 else p0
    let f := (shiftFloor ((w : Int) * 2 ^ 24) (-k) - 2 ^ 24).toNat
    let y := interp tabQ (f / 65536) (f % 65536) 16
    some (Q.scale ⟨y, 1⟩ (-30 - p / 2))

/-! ## Distributions (R399-R401) -/

/-- UNIFORM: (2·o0 + 1) / 2^33. -/
def uniformValue (o0 : Nat) : Q := ⟨(2 * o0 + 1 : Nat), 2 ^ 33⟩

/-- NORMAL_TABLE (R400). -/
def normalTable (o0 : Nat) : Q :=
  let q := 2 * (o0 % 2 ^ 31) + 1
  let k := Nat.log2 q
  let f := q * 2 ^ 16 / 2 ^ k - 2 ^ 16
  let z := interp tabZ (33 * k + f / 2048) (f % 2048) 11
  Q.scale ⟨if o0 / 2 ^ 31 = 1 then -z else z, 1⟩ (-26)

/-- NORMAL_TRANSFORM (R401). -/
def normalTransform (o0 o1 : Nat) : Q :=
  let w := 2 * o0 + 1
  let k := Nat.log2 w
  let f := frac24 w k
  let l := interp tabL (f / 65536) (f % 65536) 16
  let g := ((k : Int) - 33) * 2 ^ 30 + l
  let s := (-g * 0xB17217F8) / ((2 ^ 31 : Nat) : Int)
  if s ≤ 0 then ⟨0, 1⟩
  else
    let k0 := Nat.log2 s.toNat
    let p0 := (k0 : Int) - 30
    let odd := p0 % 2 ≠ 0
    let k := if odd then (k0 : Int) - 1 else k0
    let p := if odd then p0 - 1 else p0
    let f := (shiftFloor (s * 2 ^ 24) (-k) - 2 ^ 24).toNat
    let y := interp tabQ (f / 65536) (f % 65536) 16
    let c := interp tabC (o1 / 2 ^ 22) (o1 / 2 ^ 6 % 2 ^ 16) 16
    Q.scale ⟨s * y * c, 1⟩ (-90 - p / 2)

/-- The value that distribution PARAM gives at the output words, for PARAM 1 to 3 (Table 13-4). -/
def distValue (param : Nat) (words : List Nat) : Q :=
  let o0 := words.headD 0
  if param = 1 then uniformValue o0
  else if param = 2 then normalTable o0
  else normalTransform o0 (words.getD 1 0)

end Sys2Proof.Machine
end

