-- ==== Sys2Proof/Machine/CoreState.lean ====
section
/-! DEFINITION. The state of one core: threads, registers, counters, descriptors, local store, engine queues, vector
contexts, accumulator banks, tile queue, gather lanes and core-window registers (spec/04 to spec/07). -/

namespace Sys2Proof.Machine

/-- An open hardware loop level (R152). -/
structure LoopLevel where
  start : W64
  stop : W64
  count : Nat
  left : Nat
deriving DecidableEq, Repr

/-- A scalar or address register of a thread. -/
inductive RegRef where
  | s (r : SReg)
  | a (r : AReg)
deriving DecidableEq, Repr

/-- A result in flight: it becomes visible after `left` more bundles of its thread have issued (R92). -/
structure PendReg where
  dest : RegRef
  value : W64
  left : Nat
deriving DecidableEq, Repr

/-- A descriptor write of STW (one field) or STLD (whole images) (R98, R140). -/
inductive DescWrite where
  | field (st : StReg) (aa : BitVec 4) (v : W64)
  | images (first : StReg) (imgs : List Desc)
deriving DecidableEq, Repr

/-- A held descriptor write; it waits for the start of the commands that name its descriptors and whose `seq` is below
`seq` (R98). -/
structure HeldWrite where
  w : DescWrite
  seq : Nat
deriving DecidableEq, Repr

/-- A hardware thread that holds a task (R88, Table 05-2). An unlisted register holds 0; `vctx` is the context of the core it runs on,
after the translation of a detour (R113). -/
structure Thread where
  task : TaskCtx
  first : Bool
  vctx : Option VCtx
  pc : W64
  s : List (Nat × W64)
  a : List (Nat × W64)
  loops : List LoopLevel
  pend : List PendReg
  held : Option HeldWrite
  stopped : Bool
deriving DecidableEq, Repr

/-- A task record (Table 04-1). -/
structure TaskRec where
  entry : Nat
  arg : Nat
  lsBase : Nat
  threads : Nat
  vctxByte : Nat
  flags : Nat
  taskId : Nat
  rsvd : Nat
deriving DecidableEq, Repr

/-- A gate entry (Table 11-1). -/
structure Gate where
  cls : Nat
  cond : Nat
  ctr : Nat
  sinc : Nat
  value : Nat
deriving DecidableEq, Repr

/-- Where a task of a frame stands. -/
inductive TaskStage where
  | eligible | live | ended | skipped | invalid
deriving DecidableEq, Repr

/-- A task that an almanac frame placed on a core, or on the core it detours to: the list it stands in (`list` is the
list's own core), its position, whether its section is MIXED, its record and gate, and the threads still running (R87, R113,
R332). -/
structure TaskInst where
  ctx : TaskCtx
  list : CoreId
  pos : Nat
  sect : Nat
  mixed : Bool
  trec : TaskRec
  gate : Gate
  stage : TaskStage
  live : Nat
deriving DecidableEq, Repr

/-- A command standing in an engine queue. -/
inductive QCmd where
  | eng (c : EngCmd)
  | vec (ctx : VCtx) (v : VInstr)
deriving DecidableEq, Repr

/-- The started command of an engine: its arguments, whether its work is done, writes not yet acknowledged (R289), whether a
fault stopped it (R183), how many of its metered accesses it has issued (R309), and whether its last attempt met something
that it waits for. -/
structure Run where
  cmd : EngCmd
  args : EArgs
  done : Bool
  acks : Nat
  failed : Bool
  paid : Nat
  waited : Bool
deriving DecidableEq, Repr

/-- An engine queue (R105, R106). -/
structure Queue where
  waiting : List QCmd
  run : Option Run
deriving DecidableEq, Repr

/-- A result of a V instruction in flight: quarter `key` = register·4 + quarter; a word `none` is not written; visible
to the issue numbered `due` and later (R158). -/
structure PendTile where
  key : Nat
  words : List (Option W32)
  due : Nat
deriving DecidableEq, Repr

/-- A V instruction that has issued and not retired (R520); `signal` for VSIGNAL. -/
structure VUnret where
  op : BitVec 7
  task : TaskCtx
  signal : Option (ScReg × BitVec 16)
deriving DecidableEq, Repr

/-- A vector context (R203, R206): buffer, tile registers (an unlisted quarter reads zero), issue number, results in
flight, instructions not retired, and whether a fault stopped it (R231). -/
structure VContext where
  buf : List VInstr
  tiles : List (Nat × List W32)
  issues : Nat
  pend : List PendTile
  unret : List VUnret
  stopped : Bool
deriving DecidableEq, Repr

/-- A drained 32×32 tile with its legend (R199). -/
structure Tile where
  words : List W32
  leg : Legend
  taskUid : Nat
deriving DecidableEq, Repr

/-- A lane task: command sequence number and task number within the command (R108). -/
structure LaneTask where
  seq : Nat
  index : Nat
deriving DecidableEq, Repr

/-- A lane of the gather engine: the lane task in progress and those that wait, the oldest first (R108). -/
structure Lane where
  now : Option LaneTask
  queue : List LaneTask
deriving DecidableEq, Repr

/-- Status and counter registers of a core window, each named by its register field (Tables 02-5, 04-6, 05-14, 05-15,
06-9, 06-14, 07-5). -/
structure CoreRegs where
  retired : Bool
  retireCause : Nat
  hosting : Bool
  satCount : Nat
  ovfArisen : Nat
  rangeCount : Nat
  structCount : Nat
  structSticky : Bool
  rangeSticky : Bool
  residueCount : Nat
  residueKind : Nat
  residueBank : Nat
  residueValid : Bool
  residueTask : Nat
  vValid : Bool
  vVctx : Nat
  vFault : Nat
  vOp : Nat
  vTask : Nat
  hazard : W64
  hazardAddr : W64
deriving DecidableEq, Repr

/-- Per-core meters (Table 03-5); `maint` by unit of the core: 0 gather, 1 mill, 2 vector, 3 DMA/transfer. -/
structure CoreMeters where
  mill : Int
  vector : Int
  gather : Int
  maint : List (Nat × Int)
deriving DecidableEq, Repr

/-- An error in a sum of the mill: the sum that a byte-slice pass forms for a block position of an output element of a bank's next pass is
off by `delta`. `slice` is 2u + v for byte u of the A codes and byte v of the W codes, 0 where neither operand has 16 bits (R29, R196). -/
structure MillError where
  bank : Bool
  row : Nat
  col : Nat
  block : Nat
  slice : Nat
  delta : Int
deriving DecidableEq, Repr

/-- Errors of the environment that the core has not met yet: uncorrectable words of the local store (the addresses of their eight bytes), of the command
SRAM (a queue number) and of tile registers (context·64 + register·4 + quarter), and errors that the next pass of a bank meets
(R519, R196). -/
structure CoreErrors where
  ls : List Nat
  cmd : List Nat
  tile : List Nat
  mill : List MillError
deriving DecidableEq, Repr

/-- One core. `heads` keeps the lengths of the bundles whose header alone has been read (R151); `ended` holds the descriptor writes still held of threads that have ended (R90, R98);
`hidden` the residues of the accumulators by bank row (R197). -/
structure Core where
  threads : List (Nat × Thread)
  ended : List (Nat × (TaskCtx × HeldWrite))
  lastIssued : Nat
  sc : List (Nat × BitVec 16)
  st : List (Nat × Desc)
  ls : Memory
  queues : List (Nat × Queue)
  seq : Nat
  code : List (Nat × List Byte)
  heads : List (Nat × Nat)
  ctxs : List (Nat × VContext)
  banks : List (Nat × List A48)
  hidden : List (Nat × List Nat)
  drained : List Tile
  tileQ : List Tile
  lanes : List (Nat × Lane)
  tasks : List TaskInst
  detour : Option Detour
  regs : CoreRegs
  meters : CoreMeters
  errors : CoreErrors
deriving DecidableEq, Repr

/-- A descriptor of zeros (R95, R515). -/
def Desc.zero : Desc := ⟨0, 0, 0, 0, 0, 0, 0, 0, 0⟩

/-- A queue with nothing in it. -/
def Queue.empty : Queue := ⟨[], none⟩

/-- A lane with nothing to do (R110). -/
def Lane.idle : Lane := ⟨none, []⟩

/-- A vector context after reset (R206). -/
def VContext.reset : VContext := ⟨[], [], 0, [], [], false⟩

/-- Core-window registers after a cold start (their Cold columns). -/
def CoreRegs.reset : CoreRegs :=
  { retired := false, retireCause := 0, hosting := false, satCount := 0, ovfArisen := 0, rangeCount := 0,
    structCount := 0, structSticky := false, rangeSticky := false, residueCount := 0, residueKind := 0,
    residueBank := 0, residueValid := false, residueTask := 0, vValid := false, vVctx := 0, vFault := 0, vOp := 0,
    vTask := 0, hazard := 0, hazardAddr := 0 }

/-- A core after a cold start (R515, R206, R99); the thread that issued last is the model's choice (DESIGN CHOICE, log 26), as are
meters of 0 (DESIGN CHOICE, log 24). -/
def Core.reset : Core :=
  { threads := [], ended := [], lastIssued := 127, sc := [], st := [], ls := [], queues := [], seq := 0, code := [], heads := [], ctxs := [],
    banks := [], hidden := [], drained := [], tileQ := [], lanes := [], tasks := [], detour := none, regs := CoreRegs.reset,
    meters := ⟨0, 0, 0, []⟩, errors := ⟨[], [], [], []⟩ }

end Sys2Proof.Machine
end

