-- ==== Sys2Proof/Machine/SysState.lean ====
section
/-! DEFINITION. The state of the bell, budgets, steps, almanac slots, memory tiers and Ferry fabric (spec/03, spec/08,
spec/09). -/

namespace Sys2Proof.Machine

/-- An event record (Table 16-2). -/
structure EventRec where
  frame : Nat
  code : Nat
  cls : Nat
  unit : Nat
  index : Nat
  detail : Nat
  step : Nat
deriving DecidableEq, Repr

/-! ## Bell (R48-R58, R65-R68) -/

/-- BEL_STATUS.STATE (R52). -/
inductive BelState where
  | free | acquire | locked | holdover
deriving DecidableEq, Repr

/-- The bell and economy mode. `annPace` is the pace change announced for a tick and `annNext` the one to announce after it; `lastReq` the frame of the root's
last economy request; `overrunOff` the suspension of R67 and `halfSince` the tick half pace took effect; `ports` gives
per port the last STAMP received and the receiver's count then; `sent` the ports that have sent this frame's mark; `seen` a mark arrived in this frame. -/
structure Bel where
  frame : Nat
  cycle : Nat
  state : BelState
  root : Bool
  upPort : Nat
  half : Bool
  econ : Bool
  econSupply : Bool
  econThermal : Bool
  supplyCause : Bool
  thermalCause : Bool
  request : Bool
  lastReq : Option Nat
  annPace : Option (Bool × Nat)
  annNext : Option (Bool × Nat)
  lockCount : Nat
  markless : Nat
  seen : Bool
  holdFrames : Nat
  capValid : Bool
  capFrame : Nat
  capCycle : Nat
  overrunOff : Bool
  halfSince : Option Nat
  ports : List (Nat × (Nat × Nat))
  sent : List Nat
  delay : Nat
  peerRun : Bool
deriving DecidableEq, Repr

/-! ## Budgets, slip records and frame counts (R59-R64, R80-R82, R481) -/

/-- A change accepted in one frame that takes effect at a tick (R62). -/
inductive Latched where
  | ceil (cls value : Nat)
  | quota (cls limit : Nat)
  | tierHeat (promote demote hold decay epoch : Nat)
  | targets (mods : List Nat) (poolBase poolPages : Nat)
  | memFree (vpn pages : Nat)
  | memAttr (vpn pages : Nat) (w pin stage late : Bool)
deriving DecidableEq, Repr

/-- Meters of stacks, ports and the module, and slip and frame registers; `maint` by unit: 0 to 7 the tier agent of a stack, 8 the die.
Meters and ring entries not listed are 0 (DESIGN CHOICE, log 24). -/
structure Bud where
  ceil : List (Nat × Nat)
  latched : List (Nat × Latched)
  hbm : List (Nat × Int)
  fabric : List (Nat × Int)
  pool : Int
  hostOut : Int
  hostIn : Int
  maint : List (Nat × Int)
  ring : List (Nat × Nat)
  slipTotal : Nat
  slipNext : Nat
  stepLast : Nat
  stepCur : Nat
  phases : List (Nat × (Nat × Nat))
  lostFrames : Nat
  stops : Nat
  rebuilds : Nat
  lastClass : Nat
deriving DecidableEq, Repr

/-! ## Steps and almanac slots (R71-R78, R437, R440, R441) -/

/-- STEP_STATUS (R437). -/
inductive RunState where
  | idle | running | held | replaying
deriving DecidableEq, Repr

/-- An almanac frame that has begun and is not yet settled: FRAME_NO of its first bell, bell frames it occupies, section
index, flags of R80, the latest slip of each core, the cores for which FRAME_OVERRUN was raised and whether its slip record
is due no more (R50, R51, R80). -/
structure OpenFrame where
  first : Nat
  bells : Nat
  sect : Nat
  half : Bool
  econ : Bool
  detour : Bool
  slips : List (Nat × Nat)
  overrun : List Nat
  recorded : Bool
deriving DecidableEq, Repr

/-- An almanac slot: the bytes of its file and their number; 0 bytes is an empty slot. -/
structure AlmSlot where
  bytes : Memory
  size : Nat
deriving DecidableEq, Repr

/-- A context save that waits (R121): kind 1 SECTION, HALT, host space, destination, length, the packet to answer, the step
at whose boundary it falls due, the step-list position and the frame at which a SECTION save began, whether its bytes have been written. -/
structure SaveReq where
  kind : Nat
  halt : Bool
  host : Bool
  dest : Nat
  len : Nat
  hdr : Option PktHdr
  step : Nat
  begun : Option (Nat × Nat)
  written : Bool
deriving DecidableEq, Repr

/-- The run of steps. `nextStep` is the step that begins next; `inStep` from the first tick of a step to its commit
record; `bounded` from the commit record to the next step's first tick; `pos` is the position in the step or interlude
list, `frameIdx` the almanac frame within the section, `frameLive` whether that frame runs; `interludeDue` an interlude
stands between the last step and the next. `startAt` is the tick of a STEP_RUN; `countHold` the step after which COUNT
holds; `holds` the boundaries of STEP_HOLD with the packets to answer (R440, R441). `ranSinceReset` is R52's almanac-has-
run; `seedAt` the seed with which recent steps began (R398); `stepBind` the versions bound by step `bindOf` and `oldBind`
those of the last committed step (R372); `tries`
stops of a step without a commit (R471); `saving` a context is being written and `halted` the module holds after a HALT
save (R121). -/
structure RunCtl where
  state : RunState
  step : Nat
  nextStep : Nat
  committed : Nat
  anyCommit : Bool
  inStep : Bool
  bounded : Bool
  interlude : Bool
  interludeDue : Bool
  pos : Nat
  frameIdx : Nat
  frameLive : Bool
  startAt : Option Nat
  countHold : Option Nat
  holds : List (Nat × Option PktHdr)
  save : Option SaveReq
  saving : Bool
  halted : Bool
  openFrames : List OpenFrame
  uidNext : Nat
  ranSinceReset : Bool
  resumePos : Option Nat
  seedAt : List (Nat × Nat)
  stepBind : List (Nat × Nat)
  bindOf : Option Nat
  oldBind : Option (Nat × List (Nat × Nat))
  tries : List (Nat × Nat)
  retireNext : List (Nat × Nat)
  active : AlmSlot
  staged : AlmSlot
  armed : Option Nat
deriving DecidableEq, Repr

/-! ## Memory tiers (spec/08) -/

/-- TIER of a translation entry (Table 08-2). -/
inductive TierKind where
  | local | pool | host | staged
deriving DecidableEq, Repr

/-- A valid translation entry (Table 08-2); `frame` is WHERE of LOCAL and the stage frame of STAGED, `mod` the module of
POOL and STAGED, `host` the host page number of HOST (Table 08-3); `away` is what its directory entry said of a page homed elsewhere: it
stands in the host memory of `mod` (HOME_HOST, R420). -/
structure XEntry where
  tier : TierKind
  w : Bool
  pin : Bool
  lent : Bool
  stage : Bool
  late : Bool
  frame : Nat
  mod : Nat
  host : Nat
  away : Bool
deriving DecidableEq, Repr

/-- A directory entry (Table 08-4). -/
structure DEntry where
  owner : Nat
  home : Nat
  homeHost : Bool
  moving : Bool
  pin : Bool
  w : Bool
  stage : Bool
  late : Bool
  flip : Nat
deriving DecidableEq, Repr

/-- A stage frame: HBM frame, home, valid 64-byte units, place in the order of staging (R250, R251, R253). -/
structure StageFrame where
  frame : Nat
  home : Nat
  valid : List Nat
  order : Nat
deriving DecidableEq, Repr

/-- A granted move as the old home keeps it (Table 08-6): destination, whether it is host memory, the grant's tick,
whether its pieces have gone out, pieces acknowledged, writes forwarded and not acknowledged, and the first tick at which the flip
may stand, by the cycle of the last acknowledgement. -/
structure MoveOut where
  dest : Nat
  toHost : Bool
  hostPage : Nat
  grant : Nat
  owner : Nat
  sent : Bool
  acked : List Nat
  writes : Nat
  flipFrom : Nat
deriving DecidableEq, Repr

/-- A granted move as the new home keeps it: old home, reserved HBM frame, grant tick, the host page where the new home is
this module's host memory, and the page's attributes W, PIN, STAGE and LATE in bits 0 to 3. -/
structure MoveIn where
  source : Nat
  frame : Nat
  grant : Nat
  owner : Nat
  host : Option Nat
  attrs : Nat
deriving DecidableEq, Repr

/-- A page signpost: the new home, the frame to free, the tick of the flip (R247). -/
structure Signpost where
  home : Nat
  frame : Option Nat
  flip : Nat
deriving DecidableEq, Repr

/-- Who waits for a memory access: an engine queue of a core, a thread's bundle fetch, the host aperture, a message from
another module (its number and tag), the data of an XSEND or PASS from another module, the module's own work, or a row
move of a table. -/
inductive Requester where
  | engine (core : CoreId) (queue : Nat)
  | fetch (core : CoreId) (thread : ThreadId)
  | aperture (tag : Nat)
  | remote (mod tag : Nat)
  | bulk (mod tag : Nat)
  | own (tag : Nat)
  | rowMove (table key : Nat)
deriving DecidableEq, Repr

/-- A read sent to another module or to host memory and not yet answered: who wants it, address and length within one
page, host address for a host read, whether it is a SUBSTITUTE row read, whether its deadline has passed, and the table and key of
the row that it reads (R257, R387). -/
structure ReadOut where
  who : Requester
  va : Nat
  len : Nat
  host : Option Nat
  sub : Bool
  frame : Nat
  late : Bool
  row : Option (Nat × Nat)
deriving DecidableEq, Repr

/-- Bytes that have arrived for a requester; with `bad` the answer was that a word of them is poisoned (R251, R261). -/
structure Arrived where
  who : Requester
  va : Nat
  bytes : List Byte
  bad : Bool
deriving DecidableEq, Repr

/-- A write at the home that waits until every holder has acknowledged its invalidation (R252). -/
structure HeldWriteAt where
  who : Requester
  va : Nat
  bytes : List Byte
  left : List Nat
deriving DecidableEq, Repr

/-- A table add on its way: table, row, sums per element (`none`: OVF), sequence number (R379). -/
structure AddOut where
  table : Nat
  row : Nat
  sums : List (Option Int)
  seq : Nat
deriving DecidableEq, Repr

/-- A write or bulk message sent and not yet acknowledged: its tag, who sent it, address and bytes (empty for a bulk
message), and whether a NOT_HOME makes it wait for a directory reply (R242, R289); `add` is the table add it carries. -/
structure WriteOut where
  tag : Nat
  who : Requester
  va : Nat
  bytes : List Byte
  again : Bool
  add : Option AddOut
deriving DecidableEq, Repr

/-- TIER_ECC[s] (Table 08-9). -/
structure EccReg where
  ue : Nat
  ce : Nat
  retired : Nat
deriving DecidableEq, Repr

/-- Counters and stickies of the TIER block (Tables 08-5, 08-7, 08-8, 11-6, 11-12, 11-13). -/
structure TierRegs where
  promote : Nat
  demote : Nat
  hold : Nat
  decay : Nat
  epoch : Nat
  subst : Nat
  nondet : Bool
  lateStep : Nat
  inval : Nat
  moves : Nat
  drops : Nat
  spills : Nat
  drop : Bool
  spill : Bool
deriving DecidableEq, Repr

/-- The tiers of one module. `queries` lists the pages asked of a directory with who waits for the answer; `noEntry` those whose
directory answered that it holds none, with who has not yet met that answer; `corr` the frames in which corrections of an HBM frame
came; `poison` the 32-byte words by byte address div 32; `stageCtr` numbers the stagings; `invals` pages whose staged copies are being
invalidated (R252); `bulks` the XSENDs and PASSes whose bytes are not all visible yet: sender, tag, and core, counter and increment
of a PASS (R289, R296). -/
structure Tier where
  xlate : List (Nat × XEntry)
  dir : List (Nat × DEntry)
  noEntry : List (Nat × Requester)
  queries : List (Nat × Requester)
  hbm : Memory
  retired : List Nat
  corr : List (Nat × List Nat)
  poison : List Nat
  heat : List (Nat × (Nat × Nat))
  staged : List (Nat × StageFrame)
  stageCtr : Nat
  invals : List Nat
  holders : List (Nat × List Nat)
  movesOut : List (Nat × MoveOut)
  movesIn : List (Nat × MoveIn)
  signposts : List (Nat × Signpost)
  grants : List (Nat × (Nat × Nat))
  reads : List ReadOut
  arrived : List Arrived
  writes : List HeldWriteAt
  bulks : List (Nat × Nat × Option (Nat × Nat × Nat))
  writesOut : List WriteOut
  codePages : List Nat
  owners : List (Nat × Nat)
  quota : List (Nat × Nat)
  excess : List Nat
  targets : List Nat
  poolBase : Nat
  poolPages : Nat
  ecc : List (Nat × EccReg)
  regs : TierRegs
  deputised : List Nat
deriving DecidableEq, Repr

/-! ## Ferry fabric (spec/09) -/

/-- FAB_PORT.STATE (Table 09-11). -/
inductive PortState where
  | down | train | up | miswired | unused
deriving DecidableEq, Repr

/-- A Ferry port: registers of Tables 09-11 and 09-12, and the link's sequence numbers, replay buffer, credits and
receive buffer (R272, R275). `resent` counts resends of the oldest cell; `wait` holds the module's own cells that wait for credit. -/
structure PortReg where
  state : PortState
  width : Nat
  bypass : Bool
  retrains : Nat
  peer : Nat
  fecCorr : Nat
  fecUncorr : Nat
  retry : Nat
  nextSend : Nat
  nextRecv : Nat
  replay : List (Nat × List Byte)
  resent : Nat
  used : List (Nat × Nat)
  shared : Nat
  recv : List (List Byte)
  wait : List (List Byte)
deriving DecidableEq, Repr

/-- The parity configuration in force (R298). -/
structure ParityCfg where
  g : Nat
  base : Nat
  pages : Nat
  buf0 : Nat
  buf1 : Nat
  bufPages : Nat
  dmax : Nat
deriving DecidableEq, Repr

/-- A commit record as kept in a slot of the system reserve (R302); its CRC holds. -/
structure CommitRec where
  step : Nat
  frame : Nat
  buf : Nat
  g : Nat
  almanac : Nat
deriving DecidableEq, Repr

/-- Key of a partial: collective, chunk, first leaf, leaves (R293). -/
structure PartKey where
  coll : Nat
  chunk : Nat
  lo : Nat
  n : Nat
deriving DecidableEq, Repr

/-- A received partial or chunk waiting in staging (`peer` its sender), or a held result. `owed` is the first bell of the last frame of the
section that ended while a received one stood here: from then on it is owed work of that frame (R295). -/
structure Staged where
  key : PartKey
  peer : Option Nat
  bytes : List Byte
  owed : Option Nat
deriving DecidableEq, Repr

/-- Where the commit of the current step stands on this module (Table 09-10). -/
inductive CommitPhase where
  | none | a | b | c | d | done
deriving DecidableEq, Repr

/-- A page that a leaving module, or a holder that gives it back, hands over: its number, directory entry, bytes and poisoned words
(R261, R489, R491). -/
structure HandedPage where
  vpn : BitVec 36
  entry : DEntry
  bytes : List Byte
  bad : List (BitVec 11)
deriving DecidableEq, Repr

/-- A module's part in a leave: the leaving module hands its pages over, with the pages that the quotas of each pool target allow; or
another module takes those that come to it (R489). -/
inductive Handover where
  | give (room : List W32)
  | take (src : ModId) (pages : List HandedPage)
deriving DecidableEq, Repr

/-- What tells a module of a join: nothing, at the root, which decides; the root's answer; or, at the joiner, its directory part and its
pages (R490, R491). -/
inductive JoinPart where
  | decide
  | answer (admitted : Bool)
  | back (entries : List (BitVec 36 × DEntry)) (pages : List HandedPage)
deriving DecidableEq, Repr

/-- The joiner, and the boundary J of its FAB_JOIN (R490). -/
structure Joiner where
  num : ModId
  boundary : W64
deriving DecidableEq, Repr

/-- What a stopped module reports: its number, the first step that it has not recorded, and the G of its parity group, 0 where it is in
none (R469). -/
structure StopReport where
  num : ModId
  next : W64
  g : BitVec 4
deriving DecidableEq, Repr

/-- Where a page of a lost module stands from now on, and its W and PIN, as its directory module tells (R477, R479). -/
structure ToldPage where
  vpn : BitVec 36
  home : ModId
  w : Bool
  pin : Bool
deriving DecidableEq, Repr

/-- The fabric of one module. `live` lists the live coordinates of each ring; `memberCfg` what members exchanged (R298, R474): G, DMAX, base, D; `bDone` the members whose B_DONE has come; `adopted` the pages of a lost
member that this module rebuilt (R477, R478); `linked` how many messages of the outbox have gone to the links; `ready` the last step whose
reduce section each member has completed (R10); `building` says that the group builds parity since a PARITY_CONFIG with every member live, `built` that this module's pages have gone into
it (R298, R300); `left` lists members that left the rings by handing their pages over (R489); `heard` lists
the rings of which another module has told a set that holds this one (R52, R278). The commit records stand in HBM (R302). -/
structure Fab where
  pos : Option Position
  ports : List (Nat × PortReg)
  live : List (Nat × List Nat)
  dead : List Nat
  parity : Option ParityCfg
  parityPending : Option (Nat × ParityCfg)
  memberCfg : List (Nat × (Nat × Nat × Nat × Nat))
  valid : Bool
  buf : Nat
  degraded : Bool
  lastStep : Nat
  lastFrame : Nat
  phase : CommitPhase
  bDone : List Nat
  bSent : Bool
  deltas : List (Nat × Nat)
  staging : List Staged
  leave : Option Nat
  join : Option Nat
  tagNext : Nat
  adopted : List Nat
  linked : Nat
  ready : List (Nat × Nat)
  built : Bool
  building : Bool
  left : List Nat
  heard : List Nat
deriving DecidableEq, Repr

end Sys2Proof.Machine
end

