-- ==== Sys2Proof/Machine/ServState.lean ====
section
/-! DEFINITION. The state of the granary and smithy, the tables, the statistics of surveyors and samplers, the host
interface, the reeve with its ledger and log, recovery and maintenance, and power (spec/10 to spec/17). -/

namespace Sys2Proof.Machine

/-! ## Granary and smithy (spec/11) -/

/-- State of a granary slot (R344); an unlisted slot is EMPTY. -/
inductive SlotState where
  | pending | kept | spilled | stored | dropped
deriving DecidableEq, Repr

/-- A granary slot of the step: its state, where its stored form lies and how many bytes it has. -/
structure GSlot where
  state : SlotState
  addr : Nat
  size : Nat
deriving DecidableEq, Repr

/-- The granary: slots, the spill area in force, one pending with the step it waits for, the cursor (R344, R346). -/
structure Granary where
  slots : List (Nat × GSlot)
  spill : Nat × Nat
  next : Option (Nat × Nat)
  cursor : Nat
deriving DecidableEq, Repr

/-- TIER_SMITHY[s] (Table 11-7). -/
structure SmithyReg where
  skipGrad : Nat
  skipOther : Nat
  skip : Bool
deriving DecidableEq, Repr

/-- The ranges of SMITHY_CONFIG: covered base and pages, staging base and pages (R351). -/
structure SmithyCfg where
  cov : Nat
  covPages : Nat
  stage : Nat
  stagePages : Nat
deriving DecidableEq, Repr

/-- The smithies of the module: ranges in force and pending, parameter rows recorded as (address, bytes), touched covered
page numbers, staging requests of the step, TIER_STAGE.PHASE, whether the parity-reduction request or an APPLY has
started, registers per stack (R351, R359-R365), and tables whose first table request of the step has come (R382),
the pages that the last committed step touched (R470). -/
structure Smithy where
  cfg : Option SmithyCfg
  next : Option SmithyCfg
  rows : List (Nat × Nat)
  touched : List Nat
  requests : Nat
  phase : Nat
  parityStarted : Bool
  applyStarted : Bool
  regs : List (Nat × SmithyReg)
  tables : List Nat
  undo : List Nat
deriving DecidableEq, Repr

/-! ## Tables (spec/12) -/

/-- STATE of a version record (Table 12-2). -/
inductive VerState where
  | pending | current | retiring
deriving DecidableEq, Repr

/-- A version record in use (Table 12-2); a record that is not listed is FREE. `from_` is FROM, or for a PENDING version
the tick at which it becomes current. -/
structure TabVersion where
  version : Nat
  state : VerState
  autofree : Bool
  base : Nat
  from_ : Nat
  pages : Nat
deriving DecidableEq, Repr

/-- A hot slot in use: the row and version it holds, whether its row has flipped to it, the tick of the grant or the flip,
the step of the grant, and whether the row's words have come (R385, R388, R389). -/
structure HotSlot where
  row : Nat
  version : Nat
  live : Bool
  flip : Nat
  step : Nat
  copied : Bool
deriving DecidableEq, Repr

/-- A redirect record, kept by row key: the row's home (this module while the base slot serves) and its slot there, the
destination and slot of a granted move, the tick and step of the grant, the tick of the last flip, whether the words of a return have
come, and the home and slot before the last flip (R386, R388, R389, R470). -/
structure Redirect where
  home : Nat
  slot : Nat
  moving : Option (Nat × Nat)
  grant : Nat
  step : Nat
  flip : Nat
  copied : Bool
  was : Nat × Nat
deriving DecidableEq, Repr

/-- A row move at its old home, kept by row key: destination and slot, whether it is a return to the base slot, the tick
and step of its grant, whether the copy has gone out and is acknowledged, and the first tick at which it may flip, by the cycle of the
acknowledgement (R388, R389). -/
structure RowMove where
  dest : Nat
  slot : Nat
  ret : Bool
  grant : Nat
  step : Nat
  sent : Bool
  copied : Bool
  flipFrom : Nat
deriving DecidableEq, Repr

/-- A candidate row: count, and requests by sender (R383). -/
structure Cand where
  row : Nat
  count : Nat
  senders : List (Nat × Nat)
deriving DecidableEq, Repr

/-- A directory entry: its 128 bytes, version records by record number, the epoch's load counts and those of the last
epoch, candidates, hot slots, redirects, moves, row signposts (row to new home and flip tick), rows added in each half,
the next add number of this source, the tick of a TABLE_DESTROY, and hot slots freed since the last commit by TRAINED rows that left (R366-R391, R470). -/
structure Table where
  image : List Byte
  versions : List (Nat × TabVersion)
  load : Nat
  frameLoad : Nat
  frameMax : Nat
  lastLoad : Nat
  lastFrameMax : Nat
  cands : List Cand
  lastCands : List Cand
  hot : List (Nat × HotSlot)
  redirects : List (Nat × Redirect)
  moves : List (Nat × RowMove)
  signposts : List (Nat × (Nat × Nat))
  added : List (Nat × Nat)
  addSeq : Nat
  destroy : Option Nat
  gone : List (Nat × HotSlot)
deriving DecidableEq, Repr

/-- The tables of a module; `cache` is the row cache, keyed by table number and row, the least recently used first. -/
structure Tables where
  entries : List (Nat × Table)
  cache : List ((Nat × Nat) × Nat)
  redirects : Nat
  forwards : Nat
  moves : Nat
  skewTable : Nat
  skewLoad : Nat
  skewRatio : Nat
deriving DecidableEq, Repr

/-! ## Surveyors and samplers (Tables 10-10 and 13-8) -/

/-- SUR_STAT[h]: BADID, DROPPED, DROP, BAD. -/
structure SurStat where
  badId : Nat
  dropped : Nat
  drop : Bool
  bad : Bool
deriving DecidableEq, Repr

/-- SMP_STAT[h]: OVF_LOGITS, EMPTY_ROWS, EMPTY, OVF. -/
structure SmpStat where
  ovfLogits : Nat
  emptyRows : Nat
  empty : Bool
  ovf : Bool
deriving DecidableEq, Repr

/-! ## Host interface (spec/14) -/

/-- A reply or event that waits for room in its ring (R426, R430): the TAG, STATUS, EVENT bit, IRQ, result words. -/
structure ReplyMsg where
  tag : Nat
  status : Nat
  event : Bool
  irq : Bool
  r0 : Nat
  r1 : Nat
  r2 : Nat
deriving DecidableEq, Repr

/-- A queue pair (R424-R428): rings as base and SIZE_LOG2, vector, submission head and tail, reply head and the index
written next with the ring's phase, whether it is stopped, the packet of a QUEUE_DELETE that waits, packets accepted and
not yet answered in acceptance order, those of them whose commands have started and wait, replies not yet written, and the aperture
writes that preceded its last doorbell write (R421). -/
structure QPair where
  sqBase : Nat
  sqLog : Nat
  rqBase : Nat
  rqLog : Nat
  vector : Nat
  head : Nat
  tail : Nat
  rqHead : Nat
  rqNext : Nat
  phase : Bool
  stopped : Bool
  deleting : Option PktHdr
  closing : Bool
  progress : List PktHdr
  started : List PktHdr
  replies : List ReplyMsg
  behind : List Nat
deriving DecidableEq, Repr

/-- A TELEMETRY_SNAPSHOT that has not replied: its packet, the host address, the tick of its image, the image once it is
taken, and whether it has been written (R442). -/
structure SnapReq where
  hdr : Option PktHdr
  addr : Nat
  tick : Nat
  image : List Byte
  written : Bool
deriving DecidableEq, Repr

/-- An access through the aperture that is not complete (R420): address and length, the bytes to write or none, pieces done, bytes
read, acknowledgements awaited. -/
structure AperAccess where
  tag : Nat
  va : Nat
  len : Nat
  data : Option (List Byte)
  done : Nat
  got : List Byte
  acks : Nat
deriving DecidableEq, Repr

/-- The HIF block, the queue engine and the PCIe function (R414-R436). `lastQueue` is the queue served last; `closing` the
SESSION_CLOSE that waits for its queues; `snapshots` the TELEMETRY_SNAPSHOTs that wait for their ticks; `aper` the aperture accesses
that are not complete; `gone` queues that a Function Level Reset deleted with packets in progress (R415); `pktNum` how many packets
have been accepted. -/
structure Hif where
  events : Bool
  enable : Bool
  aqSq : Nat
  aqRq : Nat
  aperBase : Nat
  aperOn : Bool
  errQueue : Nat
  session : Bool
  ready : Bool
  deniedCount : Nat
  errAperture : Bool
  errDoorbell : Bool
  errDenied : Bool
  queues : List (Nat × QPair)
  lastQueue : Nat
  closing : Option PktHdr
  snapshots : List SnapReq
  mse : Bool
  d3 : Bool
  bar4 : Nat
  bar4Next : Option Nat
  aper : List AperAccess
  gone : List QPair
  pktNum : Nat
deriving DecidableEq, Repr

/-! ## Reeve, ledger and log (spec/15) -/

/-- What runs on the reeve: nothing yet, the boot ROM, firmware, firmware in trial, or recovery (R443, R448, R450). -/
inductive ReeveMode where
  | off | boot | running | trial | recovery
deriving DecidableEq, Repr

/-- A firmware slot: its image, its number of bytes (0: empty). -/
structure FwSlot where
  bytes : Memory
  size : Nat
deriving DecidableEq, Repr

/-- Which update path is active (R452). -/
inductive UpdatePath where
  | none | pldm
deriving DecidableEq, Repr

/-- A LEDGER_WRITE or a write of the module's own that is accepted and not yet durable (R460); `hdr` is the packet to
answer, `scope` the SCOPE of a debug token that takes effect when the write is durable, 0 for any other write. -/
structure LedgerWrite where
  reg : Nat
  value : Nat
  hdr : Option PktHdr
  scope : Nat
deriving DecidableEq, Repr

/-- The ledger: accepted values, stored values, writes made, writes under way (R458-R461). -/
structure Ledger where
  vals : List (Nat × Nat)
  stored : List (Nat × Nat)
  wear : List (Nat × Nat)
  waiting : List LedgerWrite
deriving DecidableEq, Repr

/-- How far an activation is: accepted, in the boot ROM or in trial, with its FW_STATE write not durable yet, or failed, with the
former slot to start (Table 15-5). -/
inductive ActStage where
  | asked | trying | committing | back
deriving DecidableEq, Repr

/-- An activation: its packet where it has one, whether it names slot B, whether the former slot is B, how far it is (R450, R452). -/
structure Activation where
  hdr : Option PktHdr
  named : Bool
  former : Bool
  stage : ActStage
deriving DecidableEq, Repr

/-- The reeve. `slotB` says slot B runs; `act` the activation under way; `die` the DIE component in the die, loaded where `dieLoaded`,
and `diePending` a committed one with RESULT_SAME and the step after whose commit it is due; `log` the newest records with SEQ, `counts` the event counts and `saved` those saved last (R462). -/
structure Reeve where
  mode : ReeveMode
  slotB : Bool
  a : FwSlot
  b : FwSlot
  path : UpdatePath
  act : Option Activation
  die : List Byte
  dieLoaded : Bool
  diePending : Option (List Byte × Bool × Nat)
  nextSeq : Nat
  lost : Nat
  log : List (Nat × EventRec)
  counts : List (Nat × Nat)
  saved : List (Nat × Nat)
  debug : Bool
  jtag : Bool
  unlocked : Bool
  overrides : List (Nat × (Nat × Nat))
  ledger : Ledger
deriving DecidableEq, Repr

/-! ## Recovery and maintenance (spec/16) -/

/-- Stop and recovery (R466-R478): the faults of the stop in progress, whether STOP has gone out or come in, the frame in which it did, whether the
module has stopped, the faults raised after the recovery step was announced and whether they or a STOP since then begin another stop, the ticks of the
stops whose step has not committed yet, one more than the recovery step (`q`), pages to rebuild, words whose MEM_UE led
to a replay, words whose MEM_UE was raised since the last announcement, the tick before which FRAME_OVERRUN retires no core
and the cores whose FRAME_OVERRUN of this stop retires none (R467), lost modules whose shards are still to be rebuilt, and the dimension of
the ring for which LINK_HARD holds the machine IDLE (R473). -/
structure Rec where
  faults : List EventRec
  stopping : Bool
  stopAt : Nat
  stopped : Bool
  later : List EventRec
  again : Bool
  since : List Nat
  q : Option Nat
  rebuild : List Nat
  poisonSeen : List Nat
  ueNow : List Nat
  portBusy : Nat
  spared : List Nat
  modules : List Nat
  holdIdle : Option Nat
deriving DecidableEq, Repr

/-- State of a maintenance activity, in the order of MAINT_STATUS (R486). -/
inductive MaintState where
  | queued | deferred | waiting | running | done | failed | cancelled
deriving DecidableEq, Repr

/-- A maintenance activity (R483-R487): handle, activity, target, deadline step, state, step of the last attempt, parts
completed, whether a cancel waits for the part to end, and the frame in which the last part began and whether that was at half pace. -/
structure MaintAct where
  handle : Nat
  act : Nat
  target : Nat
  deadline : Nat
  state : MaintState
  last : Nat
  parts : Nat
  cancel : Bool
  began : Nat
  half : Bool
deriving DecidableEq, Repr

/-- Maintenance: activities, the next handle, cores whose return waits for tests or for a step, cores whose CORE_RETURN
is DEFERRED, unit and index of failed units that wait for the boundary, parity pages to recompute, and whether a stop has suspended
the activities until a step begins (R483-R488). -/
structure Maint where
  acts : List MaintAct
  next : Nat
  returns : List (Nat × Option Nat)
  deferred : List Nat
  unitFailed : List (Nat × Nat)
  recompute : List Nat
  suspended : Bool
deriving DecidableEq, Repr

/-! ## Power (spec/17) -/

/-- Power domains up: none, standby only, all (Table 17-7). -/
inductive PowerDomain where
  | off | standby | running
deriving DecidableEq, Repr

/-- The power block, resets and sideband (Tables 17-7 to 17-10): `dieReset` the die is held in reset, `modReset` a
MODULE_RESET waits to begin, `hold` its 10 ms run, `failed` a stack failed training, `i3c` the dynamic address, `jtag` the JTAG instruction in force: its code and whether it
acts as BYPASS. -/
structure Pwr where
  cause : Nat
  up : Bool
  brake : Bool
  stage1 : Bool
  warn : Bool
  stage1Seen : Bool
  warnSeen : Bool
  voltage : Nat
  current : Nat
  power : Nat
  powerAvg : Nat
  hbmMax : Nat
  junctionMax : Nat
  hamlet : Nat
  stack : Nat
  domain : PowerDomain
  tripped : Bool
  perst : Bool
  dieReset : Bool
  modReset : Bool
  hold : Bool
  failed : Bool
  i3c : Option (BitVec 7)
  jtag : Option (Nat × Bool)
deriving DecidableEq, Repr

end Sys2Proof.Machine
end

