-- ==== Sys2Proof/Syntax.lean ====
section
/-! DEFINITION. The commands of the block: one constructor per row of spec/opcode_table.json, in the order of the table. -/

namespace Sys2Proof
open Sys2Proof.Machine

/-- Who reads an ECC word of HBM: a started command of an engine queue, if any, or the scrub (R260, R262). -/
structure HbmReader where
  who : Option (CoreId × BitVec 4)
  scrub : Bool
deriving DecidableEq, Repr

/-- How the data of a read comes: whether to be staged, and as poisoned, with the length asked for, when a word of it is (R251,
R261). -/
structure DataKind where
  staged : Bool
  poison : Option (BitVec 17)
deriving DecidableEq, Repr

/-- A piece of a moving page: its bytes, and which of its ECC words are poisoned (R247, R261). -/
structure PieceData where
  bytes : List Byte
  bad : List (BitVec 6)
deriving DecidableEq, Repr

/-- A block at a port: its bytes, and how many code words the FEC corrected and could not correct (R271, Table 09-12). -/
structure LinkBlock where
  bytes : List Byte
  fec : Byte × Byte
deriving DecidableEq, Repr

/-- What answers a row move at its destination: a slot granted, none yet, or a refusal (R386, R389). -/
structure SlotAnswer where
  slot : Option (BitVec 16)
  refused : Bool
deriving DecidableEq, Repr

/-- A command from outside, or an event of the block (spec/opcode_table.json). -/
inductive Instr where
  /-- BELL_TICK (R48). -/
  | bellTick
  /-- ECON_REQUEST_TIMEOUT (R65). -/
  | econRequestTimeout
  /-- PACE_CHANGE (R58). -/
  | paceChange
  /-- OVERRUN_CHECK_RESUME (R67). -/
  | overrunCheckResume
  /-- FRAME_OVERRUN (R51). -/
  | frameOverrun (core : CoreId)
  /-- SLIP_RECORD_WRITE (R80). -/
  | slipRecordWrite
  /-- READ_DEADLINE (R257). -/
  | readDeadline (core : CoreId)
  /-- BELL_LOCK (R52). -/
  | bellLock
  /-- BELL_HOLDOVER (R52). -/
  | bellHoldover
  /-- BELL_LOST (R54). -/
  | bellLost
  /-- MARK (R281). -/
  | mark (port : Port) (block : List Byte) (count : W32) (off : Int)
  /-- MARK_SEND (R281). -/
  | markSend (port : Port) (count : W32)
  /-- TICK_IN_CAPTURE (R57). -/
  | tickInCapture
  /-- STEP_BEGIN (R440). -/
  | stepBegin
  /-- ALMANAC_SWITCH_EFFECT (R77). -/
  | almanacSwitchEffect
  /-- TASK_START (R87). -/
  | taskStart (core : CoreId)
  /-- BUNDLE_FETCH (R127). -/
  | bundleFetch (core : CoreId) (thread : ThreadId) (addr : W64)
  /-- BUNDLE_ISSUE (R93). -/
  | bundleIssue (core : CoreId)
  /-- ADD (R138). -/
  | add (core : CoreId) (thread : ThreadId) (rd ra rb : SReg)
  /-- SUB (R138). -/
  | sub (core : CoreId) (thread : ThreadId) (rd ra rb : SReg)
  /-- AND (R138). -/
  | and (core : CoreId) (thread : ThreadId) (rd ra rb : SReg)
  /-- OR (R138). -/
  | or (core : CoreId) (thread : ThreadId) (rd ra rb : SReg)
  /-- XOR (R138). -/
  | xor (core : CoreId) (thread : ThreadId) (rd ra rb : SReg)
  /-- SHL (R138). -/
  | shl (core : CoreId) (thread : ThreadId) (rd ra rb : SReg)
  /-- SHR (R138). -/
  | shr (core : CoreId) (thread : ThreadId) (rd ra rb : SReg)
  /-- SRA (R138). -/
  | sra (core : CoreId) (thread : ThreadId) (rd ra rb : SReg)
  /-- MIN (R138). -/
  | min (core : CoreId) (thread : ThreadId) (rd ra rb : SReg)
  /-- MAX (R138). -/
  | max (core : CoreId) (thread : ThreadId) (rd ra rb : SReg)
  /-- SLT (R138). -/
  | slt (core : CoreId) (thread : ThreadId) (rd ra rb : SReg)
  /-- SLTU (R138). -/
  | sltu (core : CoreId) (thread : ThreadId) (rd ra rb : SReg)
  /-- SEQ (R138). -/
  | seq (core : CoreId) (thread : ThreadId) (rd ra rb : SReg)
  /-- MUL (R138). -/
  | mul (core : CoreId) (thread : ThreadId) (rd ra rb : SReg)
  /-- MULH (R138). -/
  | mulh (core : CoreId) (thread : ThreadId) (rd ra rb : SReg)
  /-- DIV (R139). -/
  | div (core : CoreId) (thread : ThreadId) (rd ra rb : SReg)
  /-- MOD (R139). -/
  | mod (core : CoreId) (thread : ThreadId) (rd ra rb : SReg)
  /-- LI (R138). -/
  | li (core : CoreId) (thread : ThreadId) (rd : SReg) (imm : BitVec 16)
  /-- ADDI (R138). -/
  | addi (core : CoreId) (thread : ThreadId) (rd ra : SReg) (imm : BitVec 16)
  /-- ANDI (R138). -/
  | andi (core : CoreId) (thread : ThreadId) (rd ra : SReg) (imm : BitVec 16)
  /-- ORI (R138). -/
  | ori (core : CoreId) (thread : ThreadId) (rd ra : SReg) (imm : BitVec 16)
  /-- XORI (R138). -/
  | xori (core : CoreId) (thread : ThreadId) (rd ra : SReg) (imm : BitVec 16)
  /-- SHLI (R138). -/
  | shli (core : CoreId) (thread : ThreadId) (rd ra : SReg) (imm : BitVec 16)
  /-- SHRI (R138). -/
  | shri (core : CoreId) (thread : ThreadId) (rd ra : SReg) (imm : BitVec 16)
  /-- SRAI (R138). -/
  | srai (core : CoreId) (thread : ThreadId) (rd ra : SReg) (imm : BitVec 16)
  /-- LIS (R138). -/
  | lis (core : CoreId) (thread : ThreadId) (rd : SReg) (imm : BitVec 16)
  /-- BEQ (R139). -/
  | beq (core : CoreId) (thread : ThreadId) (ra rb : SReg) (off : BitVec 16)
  /-- BNE (R139). -/
  | bne (core : CoreId) (thread : ThreadId) (ra rb : SReg) (off : BitVec 16)
  /-- BLT (R139). -/
  | blt (core : CoreId) (thread : ThreadId) (ra rb : SReg) (off : BitVec 16)
  /-- BGE (R139). -/
  | bge (core : CoreId) (thread : ThreadId) (ra rb : SReg) (off : BitVec 16)
  /-- BLTU (R139). -/
  | bltu (core : CoreId) (thread : ThreadId) (ra rb : SReg) (off : BitVec 16)
  /-- BGEU (R139). -/
  | bgeu (core : CoreId) (thread : ThreadId) (ra rb : SReg) (off : BitVec 16)
  /-- JMP (R154). -/
  | jmp (core : CoreId) (thread : ThreadId) (off : BitVec 26)
  /-- JR (R154). -/
  | jr (core : CoreId) (thread : ThreadId) (ra : SReg)
  /-- WAITC (R145). -/
  | waitc (core : CoreId) (thread : ThreadId) (ctr : ScReg) (cond : BitVec 2) (reg : Bool) (value : BitVec 16)
  /-- SETC (R145). -/
  | setc (core : CoreId) (thread : ThreadId) (ctr : ScReg) (r : SReg)
  /-- ADDC (R145). -/
  | addc (core : CoreId) (thread : ThreadId) (ctr : ScReg) (value : BitVec 16)
  /-- RDC (R103). -/
  | rdc (core : CoreId) (thread : ThreadId) (ctr : ScReg) (r : SReg)
  /-- LOOP (R150). -/
  | loop (core : CoreId) (thread : ThreadId) (rc : SReg) (stop : BitVec 12)
  /-- LOOPI (R150). -/
  | loopi (core : CoreId) (thread : ThreadId) (count : BitVec 14) (stop : BitVec 12)
  /-- LIDX (R138). -/
  | lidx (core : CoreId) (thread : ThreadId) (rd : SReg) (level : BitVec 2)
  /-- END (R90). -/
  | end_ (core : CoreId) (thread : ThreadId)
  /-- AADD (R140). -/
  | aadd (core : CoreId) (thread : ThreadId) (ad aa : AReg) (sb : SReg)
  /-- AADDI (R140). -/
  | aaddi (core : CoreId) (thread : ThreadId) (ad aa : AReg) (imm : BitVec 13)
  /-- AIDX (R140). -/
  | aidx (core : CoreId) (thread : ThreadId) (ad aa : AReg) (sb : SReg) (sh : BitVec 3)
  /-- AMOV (R140). -/
  | amov (core : CoreId) (thread : ThreadId) (ad : AReg) (sb : SReg)
  /-- AMOVS (R140). -/
  | amovs (core : CoreId) (thread : ThreadId) (aa : AReg) (sb : SReg)
  /-- LD64 (R140). -/
  | ld64 (core : CoreId) (thread : ThreadId) (aa : AReg) (sb : SReg) (imm : BitVec 13)
  /-- LD32S (R140). -/
  | ld32s (core : CoreId) (thread : ThreadId) (aa : AReg) (sb : SReg) (imm : BitVec 13)
  /-- LD32U (R140). -/
  | ld32u (core : CoreId) (thread : ThreadId) (aa : AReg) (sb : SReg) (imm : BitVec 13)
  /-- LD16S (R140). -/
  | ld16s (core : CoreId) (thread : ThreadId) (aa : AReg) (sb : SReg) (imm : BitVec 13)
  /-- LD16U (R140). -/
  | ld16u (core : CoreId) (thread : ThreadId) (aa : AReg) (sb : SReg) (imm : BitVec 13)
  /-- LD8S (R140). -/
  | ld8s (core : CoreId) (thread : ThreadId) (aa : AReg) (sb : SReg) (imm : BitVec 13)
  /-- LD8U (R140). -/
  | ld8u (core : CoreId) (thread : ThreadId) (aa : AReg) (sb : SReg) (imm : BitVec 13)
  /-- ALD (R140). -/
  | ald (core : CoreId) (thread : ThreadId) (ad aa : AReg) (imm : BitVec 13)
  /-- ST64 (R140). -/
  | st64 (core : CoreId) (thread : ThreadId) (aa : AReg) (sb : SReg) (imm : BitVec 13)
  /-- ST32 (R140). -/
  | st32 (core : CoreId) (thread : ThreadId) (aa : AReg) (sb : SReg) (imm : BitVec 13)
  /-- ST16 (R140). -/
  | st16 (core : CoreId) (thread : ThreadId) (aa : AReg) (sb : SReg) (imm : BitVec 13)
  /-- ST8 (R140). -/
  | st8 (core : CoreId) (thread : ThreadId) (aa : AReg) (sb : SReg) (imm : BitVec 13)
  /-- AST (R140). -/
  | ast (core : CoreId) (thread : ThreadId) (ad aa : AReg) (imm : BitVec 13)
  /-- STW (R98). -/
  | stw (core : CoreId) (thread : ThreadId) (ad : StReg) (fld : BitVec 4) (sb : SReg)
  /-- STLD (R98). -/
  | stld (core : CoreId) (thread : ThreadId) (ad : StReg) (aa : AReg) (n : BitVec 4) (imm : BitVec 13)
  /-- DESCRIPTOR_WRITE_EFFECT (R98). -/
  | descriptorWriteEffect (core : CoreId) (thread : ThreadId)
  /-- GATHER (R176). -/
  | gather (core : CoreId)
  /-- GMERGE (R176). -/
  | gmerge (core : CoreId)
  /-- GCOMPACT (R186). -/
  | gcompact (core : CoreId)
  /-- SCATTER (R177). -/
  | scatter (core : CoreId)
  /-- SCATTER_ADD (R178). -/
  | scatterAdd (core : CoreId)
  /-- LOOKUP (R375). -/
  | lookup (core : CoreId)
  /-- FETCH (R171). -/
  | fetch (core : CoreId)
  /-- LOOKUP_COMP (R376). -/
  | lookupComp (core : CoreId)
  /-- PATHRED (R324). -/
  | pathred (core : CoreId)
  /-- LANE_STEAL (R108). -/
  | laneSteal (core : CoreId) (lane : BitVec 4)
  /-- MPASS (R192). -/
  | mpass (core : CoreId)
  /-- MCLEAR (R193). -/
  | mclear (core : CoreId)
  /-- MDRAIN (R32). -/
  | mdrain (core : CoreId)
  /-- MDRAINS (R33). -/
  | mdrains (core : CoreId)
  /-- MSTORE (R194). -/
  | mstore (core : CoreId)
  /-- MLOAD (R194). -/
  | mload (core : CoreId)
  /-- TILE_QUEUE_WRITE (R200). -/
  | tileQueueWrite (core : CoreId)
  /-- XCOPY (R141). -/
  | xcopy (core : CoreId)
  /-- XSEND (R289). -/
  | xsend (core : CoreId)
  /-- XCOLL (R293). -/
  | xcoll (core : CoreId)
  /-- SURVEY_REQUEST (R310). -/
  | surveyRequest (core : CoreId)
  /-- SAMPLE_REQUEST (R410). -/
  | sampleRequest (core : CoreId)
  /-- SMITHY_STAGE (R355). -/
  | smithyStage (core : CoreId)
  /-- APPLY (R362). -/
  | apply (core : CoreId)
  /-- AUTO_APPLY (R362). -/
  | autoApply
  /-- STASH (R345). -/
  | stash (core : CoreId)
  /-- UNSTASH (R343). -/
  | unstash (core : CoreId)
  /-- PARITY_REDUCTION (R361). -/
  | parityReduction (core : CoreId)
  /-- PARITY_REBUILD_REQUEST (R132). -/
  | parityRebuildRequest (core : CoreId)
  /-- ENGINE_COMMAND_START (R106). -/
  | engineCommandStart (core : CoreId) (queue : BitVec 4)
  /-- COMMAND_RETIRE (R101). -/
  | commandRetire (core : CoreId) (queue : BitVec 4)
  /-- V_COMMAND_BUFFER_ENTRY (R149). -/
  | vCommandBufferEntry (core : CoreId)
  /-- V_RETIRE (R520). -/
  | vRetire (core : CoreId) (ctx : VCtx) (idx : BitVec 8)
  /-- VADD (R213). -/
  | vadd (core : CoreId) (ctx : VCtx)
  /-- VSUB (R213). -/
  | vsub (core : CoreId) (ctx : VCtx)
  /-- VMUL (R213). -/
  | vmul (core : CoreId) (ctx : VCtx)
  /-- VMIN (R213). -/
  | vmin (core : CoreId) (ctx : VCtx)
  /-- VMAX (R213). -/
  | vmax (core : CoreId) (ctx : VCtx)
  /-- VAND (R213). -/
  | vand (core : CoreId) (ctx : VCtx)
  /-- VOR (R213). -/
  | vor (core : CoreId) (ctx : VCtx)
  /-- VXOR (R213). -/
  | vxor (core : CoreId) (ctx : VCtx)
  /-- VSHL (R213). -/
  | vshl (core : CoreId) (ctx : VCtx)
  /-- VSRA (R213). -/
  | vsra (core : CoreId) (ctx : VCtx)
  /-- VSEL (R213). -/
  | vsel (core : CoreId) (ctx : VCtx)
  /-- VCMPLT (R213). -/
  | vcmplt (core : CoreId) (ctx : VCtx)
  /-- VCMPEQ (R213). -/
  | vcmpeq (core : CoreId) (ctx : VCtx)
  /-- VADDI (R213). -/
  | vaddi (core : CoreId) (ctx : VCtx)
  /-- VMAXI (R213). -/
  | vmaxi (core : CoreId) (ctx : VCtx)
  /-- VMINI (R213). -/
  | vmini (core : CoreId) (ctx : VCtx)
  /-- VNARROW (R216). -/
  | vnarrow (core : CoreId) (ctx : VCtx)
  /-- VWIDEN (R218). -/
  | vwiden (core : CoreId) (ctx : VCtx)
  /-- VEXP (R222). -/
  | vexp (core : CoreId) (ctx : VCtx)
  /-- VLOG (R222). -/
  | vlog (core : CoreId) (ctx : VCtx)
  /-- VRSQRT (R222). -/
  | vrsqrt (core : CoreId) (ctx : VCtx)
  /-- VRSUM (R214). -/
  | vrsum (core : CoreId) (ctx : VCtx)
  /-- VRMAX (R214). -/
  | vrmax (core : CoreId) (ctx : VCtx)
  /-- VCSUM (R214). -/
  | vcsum (core : CoreId) (ctx : VCtx)
  /-- VCOMPRESS (R219). -/
  | vcompress (core : CoreId) (ctx : VCtx)
  /-- VEXPAND (R220). -/
  | vexpand (core : CoreId) (ctx : VCtx)
  /-- VNORM (R225). -/
  | vnorm (core : CoreId) (ctx : VCtx)
  /-- VNORMB (R226). -/
  | vnormb (core : CoreId) (ctx : VCtx)
  /-- VSMAX (R227). -/
  | vsmax (core : CoreId) (ctx : VCtx)
  /-- VSMAXB (R228). -/
  | vsmaxb (core : CoreId) (ctx : VCtx)
  /-- VLD (R143). -/
  | vld (core : CoreId) (ctx : VCtx)
  /-- VST (R143). -/
  | vst (core : CoreId) (ctx : VCtx)
  /-- VTQPOP (R230). -/
  | vtqpop (core : CoreId) (ctx : VCtx)
  /-- VWAIT (R149). -/
  | vwait (core : CoreId) (ctx : VCtx)
  /-- VSIGNAL (R149). -/
  | vsignal (core : CoreId) (ctx : VCtx)
  /-- VRAND (R399). -/
  | vrand (core : CoreId) (ctx : VCtx)
  /-- VMOV (R213). -/
  | vmov (core : CoreId) (ctx : VCtx)
  /-- HBM_READ_COMPLETE (R260). -/
  | hbmReadComplete (word : BitVec 35) (outcome : BitVec 2) (req : HbmReader)
  /-- READ_REQ (R241). -/
  | readReq (src : ModId) (va : VA) (len : BitVec 17) (tag : W32) (stage : Bool) (row : Option (BitVec 12 × W32 × W32))
  /-- READ_DATA (R251). -/
  | readData (home : ModId) (va : VA) (bytes : List Byte) (kind : DataKind)
  /-- WRITE (R252). -/
  | write (src : ModId) (va : VA) (bytes : List Byte) (tag : W32)
  /-- WRITE_ACK (R289). -/
  | writeAck (tag : W32) (home : ModId)
  /-- NOT_HOME (R242). -/
  | notHome (va : VA) (tag : W32) (home : Option ModId) (row : Option (BitVec 12 × W32 × W32))
  /-- DIR_QUERY (R237). -/
  | dirQuery (src : ModId) (vpn : BitVec 36)
  /-- DIR_REPLY (R237). -/
  | dirReply (vpn : BitVec 36) (entry : Option DEntry)
  /-- MOVE_REQUEST (R247). -/
  | moveRequest (by_ : ModId) (vpn : BitVec 36) (source dest : ModId) (toHost : Bool) (owner : ModId) (accepts : Bool)
      (granted : Option (BitVec 48 × BitVec 4))
  /-- MOVE_PIECE (R247). -/
  | movePiece (src : ModId) (vpn : BitVec 36) (idx : BitVec 5) (piece : PieceData) (tag : W32)
  /-- PAGE_FLIP (R247). -/
  | pageFlip (vpn : BitVec 36)
  /-- SIGNPOST_EXPIRE (R247). -/
  | signpostExpire (vpn : BitVec 36)
  /-- MOVE_ABANDON (R248). -/
  | moveAbandon (vpn : BitVec 36)
  /-- INVAL (R252). -/
  | inval (home : ModId) (vpn : BitVec 36)
  /-- INVAL_ACK (R252). -/
  | invalAck (src : ModId) (vpn : BitVec 36)
  /-- STAGE_DROP (R253). -/
  | stageDrop (vpn : BitVec 36)
  /-- EPOCH_END (R243). -/
  | epochEnd (room : List (ModId × Bool))
  /-- QUOTA_EXCESS_PUSH (R266). -/
  | quotaExcessPush (room : List (ModId × Bool))
  /-- FRAME_RETIREMENT (R262). -/
  | frameRetirement (frame : BitVec 24)
  /-- SCRUB_POISON_REBUILD (R472). -/
  | scrubPoisonRebuild (word : BitVec 35) (parity sum : List Byte)
  /-- CELL_RECEIVE (R272). -/
  | cellReceive (port : Port) (block : LinkBlock)
  /-- IDLE_BLOCK (R272). -/
  | idleBlock (port : Port) (block : LinkBlock)
  /-- LINK_RETRAIN (R270). -/
  | linkRetrain (port : Port) (failed : BitVec 4)
  /-- PORT_TRAIN_COMPLETE (R277). -/
  | portTrainComplete (port : Port) (peer : Option W64)
  /-- LINK_FAILED (R473). -/
  | linkFailed (port : Port)
  /-- LINK_HARD (R473). -/
  | linkHard (ring : Fin 3)
  /-- MEMBERSHIP (R278). -/
  | membership (at_ : ModId) (dim : Fin 3) (live : W32)
  /-- STOP (R468). -/
  | stop
  /-- MODULE_STOP (R468). -/
  | moduleStop
  /-- RECOVERY_STEP_ANNOUNCE (R469). -/
  | recoveryStepAnnounce (made : List StopReport) (classes : List (BitVec 3))
  /-- REPLAY_BEGIN (R471). -/
  | replayBegin
  /-- PAGE_REBUILD (R472). -/
  | pageRebuild (vpn : BitVec 36) (parity sum : List Byte)
  /-- DIRECTORY_HANDOVER (R476). -/
  | directoryHandover (lost src : ModId) (entries : List (BitVec 36 × DEntry))
  /-- SHARD_REBUILD (R477). -/
  | shardRebuild (lost : ModId) (sums : List (BitVec 36 × List Byte)) (told : Option (List ToldPage)) (rows : List (BitVec 12 × BitVec 64 × List Byte))
  /-- XSEND_DATA (R296). -/
  | xsendData (src : ModId) (addr : VA) (bytes : List Byte) (tag : W32) (pass : Option (CoreId × ScReg × BitVec 16))
  /-- COLL_PARTIAL (R293). -/
  | collPartial (src : ModId) (coll : BitVec 16) (chunk : BitVec 16) (lo n : BitVec 32) (bytes : List Byte) (tag : W32)
  /-- BULK_ACK (R274). -/
  | bulkAck (tag : W32)
  /-- PARITY_DELTA (R301). -/
  | parityDelta (src : ModId) (stripe : W32) (bytes : List Byte) (tag : W32)
  /-- COMMIT_CTRL (R301). -/
  | commitCtrl (src : ModId) (step : W64) (cfg : Option (BitVec 4 × W32 × W64 × W32))
  /-- COMMIT_RECORD_WRITE (R302). -/
  | commitRecordWrite
  /-- DELTA_APPLY (R301). -/
  | deltaApply
  /-- PARITY_BUILD (R300). -/
  | parityBuild (sums : List (W32 × List Byte)) (complete : Bool)
  /-- RING_TAKEOVER (R284). -/
  | ringTakeover
  /-- TABLE_ADD_APPLY (R379). -/
  | tableAddApply (src : ModId) (table : BitVec 12) (row : W32) (sums : List (Option Int)) (seq : W32) (tag : W32)
  /-- VERSION_CURRENT (R370). -/
  | versionCurrent (table : BitVec 12)
  /-- ROW_MOVE_FLIP (R388). -/
  | rowMoveFlip (table : BitVec 12) (version row : W32)
  /-- ROW_SIGNPOST_EXPIRE (R388). -/
  | rowSignpostExpire (table : BitVec 12) (version row : W32)
  /-- ROW_MOVE_ABANDON (R388). -/
  | rowMoveAbandon (table : BitVec 12) (version row : W32)
  /-- TRAINED_ROW_FLIP (R389). -/
  | trainedRowFlip (table : BitVec 12) (version row : W32)
  /-- CONTEXT_SAVE_WRITE (R121). -/
  | contextSaveWrite
  /-- MAINT_PART_START (R70). -/
  | maintPartStart (handle : W32)
  /-- MAINT_PART_END (R487). -/
  | maintPartEnd (handle : W32) (passed last : Bool) (cycles : BitVec 16) (bad : List (BitVec 36))
  /-- MAINT_ADMISSION_RECHECK (R485). -/
  | maintAdmissionRecheck
  /-- LEAVE_HANDOVER (R489). -/
  | leaveHandover (whole : Bool) (part : Handover)
  /-- JOIN_ADMISSION (R491). -/
  | joinAdmission (joiner : Joiner) (locked shapeOk : Bool) (part : JoinPart)
  /-- DIE_COMPONENT_INSTALL (R451). -/
  | dieComponentInstall
  /-- TELEMETRY_IMAGE_WRITE (R442). -/
  | telemetryImageWrite
  /-- PACKET_ACCEPT (R427). -/
  | packetAccept
  /-- REPLY_WRITE (R426). -/
  | replyWrite (queue : QueueId)
  /-- SQ_TAIL_DOORBELL (R424). -/
  | sqTailDoorbell (queue : Byte) (value : W32)
  /-- RQ_HEAD_DOORBELL (R424). -/
  | rqHeadDoorbell (queue : Byte) (value : W32)
  /-- HIF_ENABLE_SET (R423). -/
  | hifEnableSet
  /-- HIF_ENABLE_CLEAR (R423). -/
  | hifEnableClear
  /-- HIF_EVENTS_SET (R434). -/
  | hifEventsSet (on : Bool)
  /-- REGISTER_WRITE (R418). -/
  | registerWrite (off : BitVec 26) (size : BitVec 13) (value : W64)
  /-- APERTURE_READ (R420). -/
  | apertureRead (off : BitVec 40) (len : BitVec 13)
  /-- APERTURE_WRITE (R420). -/
  | apertureWrite (off : BitVec 40) (bytes : List Byte)
  /-- FUNCTION_LEVEL_RESET (R415). -/
  | functionLevelReset
  /-- PCIE_HOT_RESET (R415). -/
  | pcieHotReset
  /-- PCIE_LINK_DOWN (R415). -/
  | pcieLinkDown
  /-- DOE_DISCOVERY (R414). -/
  | doeDiscovery (index : Byte)
  /-- SESSION_OPEN (R435). -/
  | sessionOpen (h : PktHdr)
  /-- SESSION_CLOSE (R435). -/
  | sessionClose (h : PktHdr)
  /-- QUEUE_CREATE (R436). -/
  | queueCreate (h : PktHdr) (queue sqLog rqLog vector : Byte) (sqBase rqBase : W64)
  /-- QUEUE_DELETE (R436). -/
  | queueDelete (h : PktHdr) (queue : Byte)
  /-- NOP (R437). -/
  | nop (h : PktHdr) (d0 d1 d2 : W64)
  /-- MODULE_RESET (R438). -/
  | moduleReset (h : PktHdr) (kind : Byte)
  /-- ALMANAC_LOAD (R75). -/
  | almanacLoad (h : PktHdr) (addr len : W64)
  /-- ALMANAC_SWITCH (R77). -/
  | almanacSwitch (h : PktHdr) (step : W64)
  /-- ALMANAC_CANCEL (R78). -/
  | almanacCancel (h : PktHdr)
  /-- ALMANAC_STATUS (R437). -/
  | almanacStatus (h : PktHdr)
  /-- STEP_RUN (R440). -/
  | stepRun (h : PktHdr) (start count at_ : W64)
  /-- STEP_HOLD (R441). -/
  | stepHold (h : PktHdr) (boundary : W64)
  /-- STEP_STATUS (R437). -/
  | stepStatus (h : PktHdr)
  /-- BUDGET_SET (R61). -/
  | budgetSet (h : PktHdr) (cls : Byte) (ceil : BitVec 16)
  /-- RNG_SEED (R397). -/
  | rngSeed (h : PktHdr) (seed step : W64)
  /-- TABLE_CREATE (R367). -/
  | tableCreate (h : PktHdr) (addr : W64)
  /-- TABLE_PUBLISH (R370). -/
  | tablePublish (h : PktHdr) (table : BitVec 16) (flags : Byte) (version : W32) (base pages at_ : W64) (known : List (BitVec 36 × DEntry))
  /-- TABLE_DESTROY (R391). -/
  | tableDestroy (h : PktHdr) (table : BitVec 16)
  /-- TABLE_QUERY (R383). -/
  | tableQuery (h : PktHdr) (table : BitVec 16) (addr : W64) (len : W32)
  /-- MEM_ALLOC (R264). -/
  | memAlloc (h : PktHdr) (va pages : W64) (tier flags : Byte) (mod_ : BitVec 16) (host : W64) (poolRoom : Bool) (known : List (BitVec 36))
  /-- MEM_FREE (R264). -/
  | memFree (h : PktHdr) (va pages : W64) (known : List (BitVec 36))
  /-- MEM_ATTR (R264). -/
  | memAttr (h : PktHdr) (va pages : W64) (flags : Byte) (known : List (BitVec 36))
  /-- MEM_QUERY (R236). -/
  | memQuery (h : PktHdr) (va : W64) (remote : Option DEntry)
  /-- QUOTA_SET (R263). -/
  | quotaSet (h : PktHdr) (cls : Byte) (limit : W32)
  /-- TIER_CONFIG (R244). -/
  | tierConfig (h : PktHdr) (heat : W64) (count : Byte) (targets : BitVec 128) (poolBase poolPages : W64)
  /-- SMITHY_CONFIG (R351). -/
  | smithyConfig (h : PktHdr) (cov covPages stage stagePages : W64)
  /-- GRANARY_CONFIG (R346). -/
  | granaryConfig (h : PktHdr) (base bytes : W64)
  /-- FAB_STATUS (R304). -/
  | fabStatus (h : PktHdr)
  /-- FAB_LEAVE (R489). -/
  | fabLeave (h : PktHdr) (boundary : W64)
  /-- FAB_JOIN (R490). -/
  | fabJoin (h : PktHdr) (boundary : W64)
  /-- PARITY_CONFIG (R298). -/
  | parityConfig (h : PktHdr) (g : Byte) (dmax : W32) (boundary base : W64) (d p : W32) (buf0 buf1 : W64)
  /-- MAINT_START (R485). -/
  | maintStart (h : PktHdr) (act target : BitVec 16) (deadline : W64)
  /-- MAINT_CANCEL (R486). -/
  | maintCancel (h : PktHdr) (handle : W32)
  /-- MAINT_STATUS (R486). -/
  | maintStatus (h : PktHdr) (handle : W32)
  /-- CORE_RETIRE (R111). -/
  | coreRetire (h : PktHdr) (core : CoreId)
  /-- CORE_RETURN (R488). -/
  | coreReturn (h : PktHdr) (core : CoreId)
  /-- TIMING_AUDIT (R161). -/
  | timingAudit (h : PktHdr) (enable : Byte)
  /-- LEDGER_READ (R459). -/
  | ledgerRead (h : PktHdr) (reg : Byte)
  /-- LEDGER_WRITE (R459). -/
  | ledgerWrite (h : PktHdr) (reg : Byte) (value : W64)
  /-- LEDGER_WRITE_DURABLE (R460). -/
  | ledgerWriteDurable
  /-- FW_STAGE (R449). -/
  | fwStage (h : PktHdr) (addr len : W64)
  /-- FW_ACTIVATE (R450). -/
  | fwActivate (h : PktHdr) (slot : Byte)
  /-- FW_COMMIT (R450). -/
  | fwCommit
  /-- FW_FALLBACK (R450). -/
  | fwFallback
  /-- DEBUG_UNLOCK (R454). -/
  | debugUnlock (h : PktHdr) (addr : W64) (len : W32)
  /-- DEBUG_LOCK (R454). -/
  | debugLock (h : PktHdr)
  /-- ENTROPY_READ (R405). -/
  | entropyRead (h : PktHdr)
  /-- TELEMETRY_SNAPSHOT (R442). -/
  | telemetrySnapshot (h : PktHdr) (addr : W64) (len : W32)
  /-- CONTEXT_SAVE (R121). -/
  | contextSave (h : PktHdr) (kind halt space : Byte) (dest len : W64)
  /-- CONTEXT_RESTORE (R122). -/
  | contextRestore (h : PktHdr) (space : Byte) (src len : W64)
  /-- PLDM_REQUEST_UPDATE (R452). -/
  | pldmRequestUpdate
  /-- PLDM_UPDATE_COMPONENT (R452). -/
  | pldmUpdateComponent (ident : BitVec 16) (image : List Byte)
  /-- PLDM_ACTIVATE_FIRMWARE (R452). -/
  | pldmActivateFirmware
  /-- SPDM_GET_CERTIFICATE (R455). -/
  | spdmGetCertificate (slot : Byte) (off len : BitVec 16)
  /-- SPDM_CHALLENGE (R457). -/
  | spdmChallenge (slot : Byte) (nonce : List Byte)
  /-- SPDM_GET_MEASUREMENTS (R456). -/
  | spdmGetMeasurements (index : Byte) (signed : Bool) (nonce : List Byte)
  /-- LOG_READ (R462). -/
  | logRead (what : LogAsk) (seq : W64)
  /-- EVENT_LOG_STORE (R462). -/
  | eventLogStore
  /-- EVENT_COUNT_SAVE (R462). -/
  | eventCountSave
  /-- REEVE_START (R448). -/
  | reeveStart
  /-- REEVE_WATCHDOG (R443). -/
  | reeveWatchdog
  /-- ENTROPY_HEALTH_FAIL (R404). -/
  | entropyHealthFail
  /-- ENTROPY_STARTUP_TEST_END (R404). -/
  | entropyStartupTestEnd (samples : List Byte)
  /-- ENTROPY_BLOCK_READY (R403). -/
  | entropyBlockReady (samples : List Byte)
  /-- SUPPLY_WARN_ASSERT (R493). -/
  | supplyWarnAssert (v0 v1 v2 v3 : BitVec 16) (brakeLow : Bool)
  /-- SUPPLY_WARN_CLEAR (R493). -/
  | supplyWarnClear (lowest : BitVec 16) (brakeLow : Bool)
  /-- BROWN_OUT (R494). -/
  | brownOut (sample : BitVec 16)
  /-- STANDBY_LOSS (R494). -/
  | standbyLoss (sample : BitVec 16)
  /-- THERMAL_STAGE1_ASSERT (R496). -/
  | thermalStage1Assert (reading : Sense) (long : Bool)
  /-- THERMAL_STAGE1_CLEAR (R496). -/
  | thermalStage1Clear (reading : Sense)
  /-- THERM_TRIP (R497). -/
  | thermTrip (reading : Sense)
  /-- COLD_START (R500). -/
  | coldStart (away : Bool) (cores : List CoreId) (stackList : List (Fin 8))
  /-- WARM_RESET (R502). -/
  | warmReset (perst : Bool)
  /-- WARM_RESET_RELEASE (R502). -/
  | warmResetRelease (perst : Bool)
  /-- START_UP_COMPLETE (R501). -/
  | startUpComplete
  /-- I3C_SETDASA (R507). -/
  | i3cSetdasa (static dynamic : BitVec 7)
  /-- I3C_GETSTATUS (R507). -/
  | i3cGetstatus (address : BitVec 7)
  /-- JTAG_INSTRUCTION (R454). -/
  | jtagInstruction (code : BitVec 8) (priv : Bool)
  /-- LINK_LOST (R285). -/
  | linkLost (port : Port)
  /-- HOST_MEMORY_READ_COMPLETE (R257). -/
  | hostMemoryReadComplete (addr : W64) (bytes : List Byte)
  /-- CONFIG_SPACE_WRITE (R416). -/
  | configSpaceWrite (w : ConfigWrite)
  /-- ROW_MOVE_REQUEST (R386). -/
  | rowMoveRequest (table : BitVec 12) (version row : W32) (by_ dest : ModId) (count : W32) (ret : Bool)
      (answer : SlotAnswer)
  /-- ROW_COPY (R388). -/
  | rowCopy (src : ModId) (table : BitVec 12) (version row : W32) (bytes : List Byte) (tag : W32)
  /-- STAGE_DROP_NOTICE (R253). -/
  | stageDropNotice (src : ModId) (vpn : BitVec 36)
deriving DecidableEq, Repr

end Sys2Proof
end

