-- ==== Sys2Proof/Machine/State.lean ====
section
/-! DEFINITION. The state of the module and its value after a cold start. -/

namespace Sys2Proof.Machine

/-- Where the entropy source's health tests stand: the last sample and how often it has come in a row, the place in the window of 1,024
samples, the window's first sample and how often that value has come in it (R402). -/
structure Health where
  last : Bool
  run : Nat
  pos : Nat
  first : Bool
  same : Nat
deriving DecidableEq, Repr

/-- The tests before any sample. -/
def Health.fresh : Health := ⟨false, 0, 0, false, 0⟩

/-- The random generator's seed and the entropy source (Tables 13-2, 13-6). `est` is RNG_ENT.STATE; `fresh` the
conditioned blocks not yet used; `dead` holds from the entry to DEAD until a cold start (R404). -/
structure Rng where
  seed : Nat
  seedFrom : Nat
  pending : Option (Nat × Nat)
  failCount : Nat
  blocks : Nat
  fail : Bool
  est : Nat
  failsInRow : Nat
  fresh : List (List Byte)
  dead : Bool
  health : Health
deriving DecidableEq, Repr

/-- What the module has sent or driven, in order: messages of Table 09-4, marks, link blocks, interrupts, bus answers and
answers on its management interfaces (DESIGN CHOICE, log 6 for payloads whose layout the spec does not give). -/
inductive Msg where
  | readReq (dest src va len tag : Nat) (stage : Bool) (row : Option (Nat × Nat))
  | readData (dest va : Nat) (bytes : List Byte) (tag : Nat) (home : Nat)
  | poisoned (dest va len tag : Nat)
  | hostRead (addr len : Nat)
  | write (dest src va : Nat) (bytes : List Byte) (tag : Nat)
  | writeAck (dest tag home : Nat)
  | notHome (dest va tag : Nat) (home : Option Nat)
  | dirQuery (dest vpn : Nat)
  | dirReply (dest vpn : Nat) (e : Option DEntry)
  | inval (dest vpn : Nat)
  | invalAck (dest vpn : Nat)
  | stageDropped (dest vpn : Nat)
  | moveReq (dest vpn by_ : Nat) (toHost : Bool)
  | moveGrant (dest vpn to_ attrs : Nat) (granted : Bool)
  | movePiece (dest vpn idx : Nat) (bytes : List Byte) (bad : List Nat)
  | moveAck (dest vpn idx : Nat)
  | flipped (dest vpn home : Nat)
  | xsend (dest addr : Nat) (bytes : List Byte) (tag : Nat) (aux : Option (Nat × Nat × Nat))
  | partial_ (dest : Nat) (key : PartKey) (bytes : List Byte) (tag : Nat)
  | bulkAck (dest tag : Nat)
  | parityDelta (dest stripe : Nat) (bytes : List Byte) (tag : Nat)
  | bDone (dest step : Nat)
  | groupCfg (dest step g dmax base d : Nat)
  | tableAdd (dest src table row : Nat) (sums : List (Option Int)) (seq tag : Nat)
  | rowMoveReq (dest table key by_ to_ count : Nat) (ret : Bool)
  | rowMoveGrant (dest table key to_ slot : Nat) (granted : Bool)
  | rowCopy (dest table key : Nat) (bytes : List Byte) (tag : Nat)
  | rowFlipped (dest table key home : Nat)
  | stop
  | stopped (step g : Nat)
  | membership (ring : Nat) (live : List Nat)
  | recoveryStep (q : Nat)
  | dirEntry (dest vpn : Nat) (e : Option DEntry)
  | pageNew (dest vpn : Nat) (e : DEntry)
  | pageFree (dest vpn : Nat)
  | pageAttr (dest vpn : Nat) (w pin stage late : Bool)
  | shardPart (dest stripe : Nat) (bytes : List Byte)
  | joinReply (admitted : Bool)
  | mark (port : Nat) (bytes : List Byte)
  | cell (port : Nat) (bytes : List Byte)
  | idle (port : Nat) (bytes : List Byte)
  | train (port position : Nat)
  | interrupt (vector : Nat)
  | inBand (address : BitVec 7)
  | deviceReady
  | busData (bytes : List Byte)
  | busWritten
  | unsupportedRequest
  | completerAbort
  | doe (bytes : List Byte)
  | mctp (bytes : List Byte)
  | spdm (slot : Nat) (payload : List Byte) (sig : List Byte)
  | spdmError (code : Nat)
  | pldm (code : Nat)
  | i3c (bytes : List Byte)
deriving DecidableEq, Repr

/-- Faults of a step: stops that the spec leaves without any state to go on to. -/
inductive Fault where
  /-- HBM_READ_COMPLETE, FRAME_RETIREMENT: the command names a byte or frame that the module's HBM does not have (R234).
  Safe: no such access exists on the hardware. -/
  | noSuchHbm (addr : Nat)
deriving DecidableEq, Repr

/-- Refusals of a step: commands to which the model gives no meaning. -/
inductive Refusal where
  /-- Dispatch: a command that has no meaning yet. Safe. -/
  | notModelled (mnemonic : String)
deriving DecidableEq, Repr

/-- The whole machine. -/
structure State where
  cores : List (Nat × Core)
  bel : Bel
  bud : Bud
  run : RunCtl
  tier : Tier
  fab : Fab
  rng : Rng
  rec0 : Rec
  granary : Granary
  smithy : Smithy
  tables : Tables
  sur : List (Nat × SurStat)
  smp : List (Nat × SmpStat)
  hif : Hif
  reeve : Reeve
  maint : Maint
  pwr : Pwr
  evLog : List EventRec
  unitsEff : Nat
  audit : Bool
  auditNext : Option (Bool × Nat)
  hostMem : Memory
  outbox : List Msg
  freeCtr : Nat
  pending : List Instr
deriving DecidableEq, Repr

/-- The bell after a cold start (Tables 03-2 to 03-4). -/
def Bel.reset : Bel :=
  { frame := 0, cycle := 0, state := .free, root := false, upPort := 7, half := false, econ := false,
    econSupply := false, econThermal := false, supplyCause := false, thermalCause := false, request := false,
    lastReq := none, annPace := none, annNext := none, lockCount := 0, markless := 0, seen := false, holdFrames := 0, capValid := false,
    capFrame := 0, capCycle := 0, overrunOff := false, halfSince := none, ports := [], sent := [], delay := 0,
    peerRun := false }

/-- Budgets after a cold start (Tables 03-6, 03-16, 03-17, 16-5; meters and ring: DESIGN CHOICE, log 24). -/
def Bud.reset : Bud :=
  { ceil := [], latched := [], hbm := [], fabric := [], pool := 0, hostOut := 0, hostIn := 0, maint := [], ring := [],
    slipTotal := 0, slipNext := 0, stepLast := 0, stepCur := 0, phases := [], lostFrames := 0, stops := 0, rebuilds := 0,
    lastClass := 0 }

/-- Step control after a cold start: IDLE, both slots empty (R440, R499; step numbers: DESIGN CHOICE, log 25). -/
def RunCtl.reset : RunCtl :=
  { state := .idle, step := 0, nextStep := 0, committed := 0, anyCommit := false, inStep := false, bounded := false,
    interlude := false, interludeDue := false, pos := 0, frameIdx := 0, frameLive := false, startAt := none,
    countHold := none, holds := [], save := none, saving := false, halted := false, openFrames := [], uidNext := 0,
    ranSinceReset := false, resumePos := none, seedAt := [], stepBind := [], bindOf := none, oldBind := none, tries := [], retireNext := [],
    active := ⟨[], 0⟩, staged := ⟨[], 0⟩, armed := none }

/-- The TIER block after a cold start (Tables 08-5 to 08-8, 11-4). -/
def TierRegs.reset : TierRegs :=
  { promote := 0x100, demote := 4, hold := 0x400, decay := 2, epoch := 6, subst := 0, nondet := false, lateStep := 0,
    inval := 0, moves := 0, drops := 0, spills := 0, drop := false, spill := false }

/-- The tiers after a cold start: nothing mapped (R267, R500), quotas of Table 08-11, an empty pool list (DESIGN CHOICE, log 28). -/
def Tier.reset : Tier :=
  { xlate := [], dir := [], noEntry := [], queries := [], hbm := [], retired := [], corr := [], poison := [], heat := [],
    staged := [], stageCtr := 0, invals := [], holders := [], movesOut := [], movesIn := [], signposts := [], grants := [], reads := [],
    arrived := [], writes := [], bulks := [], writesOut := [], codePages := [], owners := [], quota := [(0, 10354688)], excess := [],
    targets := [], poolBase := 0, poolPages := 0, ecc := [], regs := TierRegs.reset, deputised := [] }

/-- A port after a cold start: DOWN, keeper in BYPASS (Tables 09-11, 09-12; link numbers: DESIGN CHOICE, log 29). -/
def PortReg.reset : PortReg :=
  { state := .down, width := 0, bypass := true, retrains := 0, peer := 0, fecCorr := 0, fecUncorr := 0, retry := 0,
    nextSend := 0, nextRecv := 0, replay := [], resent := 0, used := [], shared := 327, recv := [], wait := [] }

/-- The fabric after a cold start: unconfigured, no parity group (R276, Tables 09-13 to 09-15). -/
def Fab.reset : Fab :=
  { pos := none, ports := [], live := [], dead := [], parity := none, parityPending := none, memberCfg := [],
    valid := false, buf := 0, degraded := false, lastStep := 0, lastFrame := 0, phase := .none, bDone := [],
    bSent := false, deltas := [], staging := [], leave := none, join := none, tagNext := 0, adopted := [], linked := 0, ready := [], built := false, building := false, left := [], heard := [] }

/-- Seed and entropy source after a cold start: the start-up test runs (R397, R404). -/
def Rng.reset : Rng :=
  { seed := 0, seedFrom := 0, pending := none, failCount := 0, blocks := 0, fail := false, est := 0, failsInRow := 0,
    fresh := [], dead := false, health := Health.fresh }

/-- No stop. -/
def Rec.reset : Rec :=
  { faults := [], stopping := false, stopped := false, since := [], q := none, rebuild := [], poisonSeen := [],
    ueNow := [], portBusy := 0, spared := [], modules := [], holdIdle := none, stopAt := 0, later := [], again := false }

/-- The granary after a cold start. -/
def Granary.reset : Granary := ⟨[], (0, 0), none, 0⟩

/-- The smithies after a cold start. -/
def Smithy.reset : Smithy := ⟨none, none, [], [], 0, 0, false, false, [], [], []⟩

/-- The tables after a cold start (R391). -/
def Tables.reset : Tables := ⟨[], [], 0, 0, 0, 0, 0, 0⟩

/-- The HIF block after a cold start (Tables 14-3 to 14-7; queue served last: DESIGN CHOICE, log 26; BAR4: DESIGN CHOICE, log 30). -/
def Hif.reset : Hif :=
  { events := false, enable := false, aqSq := 0, aqRq := 0, aperBase := 0, aperOn := false, errQueue := 0,
    session := false, ready := false, deniedCount := 0, errAperture := false, errDoorbell := false, errDenied := false,
    queues := [], lastQueue := 63, closing := none, snapshots := [], mse := false, d3 := false, bar4 := 64,
    bar4Next := none, aper := [], gone := [], pktNum := 0 }

/-- The ledger as a module leaves the factory: every unit enabled (R12), every other register 0 (DESIGN CHOICE, log 14). -/
def Ledger.reset : Ledger := ⟨[(0x10, 0x1F)], [(0x10, 0x1F)], [], []⟩

/-- The reeve, its firmware running from slot A (slots: DESIGN CHOICE, log 22; log: DESIGN CHOICE, log 14). -/
def Reeve.reset : Reeve :=
  { mode := .running, slotB := false, a := ⟨[], 0⟩, b := ⟨[], 0⟩, path := .none, act := none, die := [], dieLoaded := true,
    diePending := none, nextSeq := 0, lost := 0, log := [], counts := [], saved := [], debug := false, jtag := false,
    unlocked := false, overrides := [], ledger := Ledger.reset }

/-- No maintenance; handles start at 1 (DESIGN CHOICE, log 31). -/
def Maint.reset : Maint := ⟨[], 1, [], [], [], [], false⟩

/-- Power just applied, start-up not complete (Tables 17-8 to 17-10; DESIGN CHOICE, log 32). -/
def Pwr.reset : Pwr :=
  { cause := 0, up := false, brake := false, stage1 := false, warn := false, stage1Seen := false, warnSeen := false,
    voltage := 0, current := 0, power := 0, powerAvg := 0, hbmMax := 0, junctionMax := 0, hamlet := 0, stack := 0,
    domain := .running, tripped := false, perst := false, dieReset := false, modReset := false, hold := false, failed := false,
    i3c := none,
    jtag := none }

/-- The module right after a cold start of a new module, before it takes its rings. -/
def State.reset : State :=
  { cores := [], bel := Bel.reset, bud := Bud.reset, run := RunCtl.reset, tier := Tier.reset, fab := Fab.reset,
    rng := Rng.reset, rec0 := Rec.reset, granary := Granary.reset, smithy := Smithy.reset, tables := Tables.reset,
    sur := [], smp := [], hif := Hif.reset, reeve := Reeve.reset, maint := Maint.reset, pwr := Pwr.reset, evLog := [],
    unitsEff := 0x1F, audit := false, auditNext := none, hostMem := [], outbox := [], freeCtr := 0, pending := [] }

end Sys2Proof.Machine
end

