-- ==== Sys2Proof/Machine/Ops.lean ====
section
/-! DEFINITION. Named operations that many commands share: cores and their registers, counters, fault events, the
active almanac's tables, module numbers (spec/03, spec/04, spec/09, spec/16). -/

namespace Sys2Proof.Machine

/-! ## Cores, threads, counters, descriptors -/

/-- Core `c`. -/
def State.core (s : State) (c : CoreId) : Core := mapGet Core.reset s.cores c.toNat

/-- Replaces core `c`. -/
def State.setCore (s : State) (c : CoreId) (k : Core) : State := { s with cores := mapPut s.cores c.toNat k }

/-- Changes core `c`. -/
def State.modCore (s : State) (c : CoreId) (f : Core → Core) : State := s.setCore c (f (s.core c))

/-- Whether bytes `p` to `p + n - 1` of the local store touch a word that holds an uncorrectable error; a word is the eight bytes
from its address (R519; DESIGN CHOICE, log 122). -/
def CoreErrors.lsBad (e : CoreErrors) (p n : Nat) : Bool := e.ls.any fun w => decide (w < p + n) && decide (p < w + 8)

/-- A word that is written whole no longer holds its error (R519). -/
def CoreErrors.lsWritten (e : CoreErrors) (p n : Nat) : CoreErrors :=
  { e with ls := e.ls.filter fun w => !(decide (p ≤ w) && decide (w + 8 ≤ p + n)) }

/-- The thread, when it holds a task. -/
def Core.thread (k : Core) (t : ThreadId) : Option Thread := mapFind k.threads t.toNat

/-- Replaces a thread. -/
def Core.setThread (k : Core) (t : ThreadId) (th : Thread) : Core := { k with threads := mapPut k.threads t.toNat th }

/-- A scalar register as the thread's next bundle sees it (R92). -/
def Thread.getS (th : Thread) (r : SReg) : W64 := mapGet 0 th.s r.toNat

/-- An address register as the thread's next bundle sees it (R92). -/
def Thread.getA (th : Thread) (r : AReg) : W64 := mapGet 0 th.a r.toNat

/-- Makes a result visible. -/
def Thread.setReg (th : Thread) (d : RegRef) (v : W64) : Thread :=
  match d with
  | .s r => { th with s := mapSet 0 th.s r.toNat v }
  | .a r => { th with a := mapSet 0 th.a r.toNat v }

/-- Sync counter `k` of a core, by its physical number (R99). -/
def Core.counter (k : Core) (i : ScReg) : BitVec 16 := mapGet 0 k.sc i.toNat

/-- Writes a counter. -/
def Core.setCounter (k : Core) (i : ScReg) (v : BitVec 16) : Core := { k with sc := mapSet 0 k.sc i.toNat v }

/-- Adds to a counter modulo 2^16 (R99, R101). -/
def Core.addCounter (k : Core) (i : ScReg) (v : BitVec 16) : Core := k.setCounter i (k.counter i + v)

/-- Descriptor by its physical number. -/
def Core.desc (k : Core) (i : StReg) : Desc := mapGet Desc.zero k.st i.toNat

/-- Writes a descriptor. -/
def Core.setDesc (k : Core) (i : StReg) (d : Desc) : Core := { k with st := mapSet Desc.zero k.st i.toNat d }

/-- An engine queue. -/
def Core.queue (k : Core) (q : Nat) : Queue := mapGet Queue.empty k.queues q

/-- Replaces an engine queue. -/
def Core.setQueue (k : Core) (q : Nat) (x : Queue) : Core := { k with queues := mapSet Queue.empty k.queues q x }

/-- A vector context by its physical number. -/
def Core.vcontext (k : Core) (c : VCtx) : VContext := mapGet VContext.reset k.ctxs c.toNat

/-- Replaces a vector context. -/
def Core.setVContext (k : Core) (c : VCtx) (x : VContext) : Core :=
  { k with ctxs := mapSet VContext.reset k.ctxs c.toNat x }

/-! ## Detour translation (R113) -/

/-- sc[k] as the task reaches it. -/
def TaskCtx.ctr (t : TaskCtx) (k : ScReg) : ScReg := match t.detour with
  | none => k
  | some d => k + d.scBase

/-- st[k] as the task reaches it. -/
def TaskCtx.stReg (t : TaskCtx) (k : StReg) : StReg := match t.detour with
  | none => k
  | some d => k + d.stBase

/-- Vector context k as the task reaches it. -/
def TaskCtx.vreg (t : TaskCtx) (k : VCtx) : VCtx := match t.detour with
  | none => k
  | some d => BitVec.ofNat 2 (d.vctxMap.toNat / 4 ^ k.toNat)

/-- Accumulator bank as the task reaches it. -/
def TaskCtx.bankOf (t : TaskCtx) (b : Bool) : Bool := match t.detour with
  | none => b
  | some d => if b then d.bankMap.getLsbD 1 else d.bankMap.getLsbD 0

/-- Bytes of a core's local store (R94). -/
def lsLimit : Nat := 0x180000

/-- The local-store byte of task offset `a` for an access of `n` bytes; `none` raises LS_RANGE (R94, R113). -/
def TaskCtx.lsAddr (t : TaskCtx) (a n : Nat) : Option Nat :=
  match t.detour with
  | none => if t.lsBase + a + n ≤ lsLimit then some (t.lsBase + a) else none
  | some d => if t.lsBase + a + n ≤ d.lsSize then some (d.lsBase + t.lsBase + a) else none

/-- Whether a counter condition holds on a value (R100); COND 3 never holds. -/
def condHolds (cond : BitVec 2) (counter value : BitVec 16) : Bool :=
  if cond = 0 then true
  else if cond = 1 then counter == value
  else if cond = 2 then decide ((counter - value).toNat < 2 ^ 15)
  else false

/-! ## Module numbers (R233, R276) -/

/-- The position in force; an unconfigured module is a machine of one module (R276). -/
def State.position (s : State) : Position := s.fab.pos.getD ⟨1, 1, 1, 0, 0, 0⟩

/-- Module number of a coordinate (R233). -/
def Position.number (p : Position) (x y z : Nat) : Nat := x + p.shapeX * (y + p.shapeY * z)

/-- This module's number. -/
def State.modNo (s : State) : Nat := let p := s.position; p.number p.x p.y p.z

/-- Number of modules of the machine. -/
def State.modCount (s : State) : Nat := let p := s.position; p.shapeX * p.shapeY * p.shapeZ

/-! ## Fault events (R464-R468) -/

/-- Class of a code: 0 COUNTED, 1 STEP, 2 CORE, 3 MEMORY, 4 LINK, 5 MODULE (Table 16-1). -/
def classOf (code : Nat) : Nat :=
  if 0x0101 ≤ code ∧ code ≤ 0x0118 then 1
  else if 0x0120 ≤ code ∧ code ≤ 0x0122 then 2
  else if code = 0x0130 then 3
  else if code = 0x0141 ∨ code = 0x0142 then 4
  else if 0x0150 ≤ code ∧ code ≤ 0x015A then 5
  else 0

/-- The bytes of an event record as three 64-bit words (Table 16-2). -/
def EventRec.words (e : EventRec) : Nat × Nat × Nat :=
  (e.frame % 2 ^ 48 + e.code % 2 ^ 16 * 2 ^ 48,
   e.cls % 256 + e.unit % 256 * 2 ^ 8 + e.index % 2 ^ 16 * 2 ^ 16 + e.detail % 2 ^ 32 * 2 ^ 32, e.step % 2 ^ 64)

/-- Posts an event on reply queue 0 while HIF_CTRL.EVENTS is 1 (R434). -/
def State.postEvent (s : State) (e : EventRec) : State :=
  if s.hif.events then
    match mapFind s.hif.queues 0 with
    | some q =>
      let w := e.words
      let r : ReplyMsg := ⟨0xFFFF, 0, true, true, w.1, w.2.1, w.2.2⟩
      { s with hif := { s.hif with queues := mapPut s.hif.queues 0 { q with replies := q.replies ++ [r] } } }
    | none => s
  else s

/-- Whether the reeve is up to take an event at once (R443). -/
def State.reeveUp (s : State) : Bool := s.reeve.mode == .running || s.reeve.mode == .trial

/-- Logs an event: it goes to the log and to reply queue 0; while the reeve restarts, up to 256 wait and the rest are
lost and counted (R434, R443, R462). -/
def State.logEvent (s : State) (e : EventRec) : State :=
  if s.reeveUp then ({ s with evLog := s.evLog ++ [e] }).postEvent e
  else if 256 ≤ s.evLog.length then { s with reeve := { s.reeve with lost := satAdd 16 s.reeve.lost 1 } }
  else { s with evLog := s.evLog ++ [e] }

/-- Port `p` of the fabric. -/
def State.port (s : State) (p : Nat) : PortReg := mapGet PortReg.reset s.fab.ports p

/-- Replaces a port. -/
def State.setPort (s : State) (p : Nat) (x : PortReg) : State := { s with fab := { s.fab with ports := mapPut s.fab.ports p x } }

/-- All six keepers enter BYPASS and the links end; the die sends nothing from now on, is live in no ring and is not root (R278, R281,
R283, R285, R288). -/
def State.leaveRings (s : State) : State :=
  let p := s.position
  let s1 := (List.range 6).foldl (fun s p => s.setPort p { s.port p with
    bypass := true, state := if (s.port p).state = .unused then .unused else .down, width := 0, replay := [], recv := [],
    used := [], shared := 327, wait := [] }) s
  let out (l : List (Nat × List Nat)) (d c : Nat) : List (Nat × List Nat) :=
    l.map fun r => if r.1 = d then (d, r.2.filter fun v => v != c) else r
  { s1 with fab := { s1.fab with live := out (out (out s1.fab.live 0 p.x) 1 p.y) 2 p.z, heard := [] },
            bel := if s1.bel.root then
                { s1.bel with root := false, state := if s1.run.ranSinceReset then s1.bel.state else .acquire, lockCount := 0 }
              else s1.bel }

/-- Faults of class MODULE that mean this module itself: it leaves its rings (Table 16-3). -/
def ownModuleFault (code : Nat) : Bool := decide (0x0150 ≤ code) && decide (code ≤ 0x0154)

/-- STOP has gone out or come in: a stop is in progress, or, once its recovery step is announced, another one follows it (R466, R468). -/
def Rec.hear (r : Rec) (frame : Nat) : Rec :=
  if r.q.isSome then { r with again := true, stopAt := if r.again then r.stopAt else frame }
  else { r with stopping := true, stopAt := if r.stopping then r.stopAt else frame }

/-- A fault that stops the machine: it is one of the stop in progress until the recovery step is announced, and of another from then on
(R466). -/
def Rec.note (r : Rec) (frame : Nat) (ev : EventRec) : Rec :=
  let r1 := r.hear frame
  if r.q.isSome then { r1 with later := r1.later ++ [ev] } else { r1 with faults := r1.faults ++ [ev] }

/-- A fault of a module stops the machine: it is noted, and STOP goes out (R466, R468). -/
def State.stopFor (s : State) (ev : EventRec) : State :=
  { s with rec0 := s.rec0.note s.bel.frame ev, outbox := s.outbox ++ [Msg.stop] }

/-- LINK_HARD, DATA_LOST and UNRECOVERABLE that a stopped module raises belong to its response, and begin no stop (R469, R473, R478,
R479; DEDUCED, log 159). -/
def followUp (code : Nat) : Bool := code == 0x0142 || code == 0x0159 || code == 0x015A

/-- Records an event, and sends STOP where its class calls for it; a module whose own fault removes it leaves its rings
(R465, R466, R468, R283). -/
def raise (code unit index detail : Nat) (s : State) : State :=
  let ev : EventRec := ⟨s.bel.frame, code, classOf code, unit, index, detail, s.run.step⟩
  let s0 := if ownModuleFault code then s.leaveRings else s
  let s1 := s0.logEvent ev
  if ev.cls = 0 ∨ (s1.rec0.stopped = true ∧ followUp code = true) then s1 else s1.stopFor ev

/-- A core fault: UNIT 1, INDEX the core, DETAIL the TASK_ID (Table 16-2). -/
def raiseCore (code : Nat) (c : CoreId) (task : W32) (s : State) : State := raise code 1 c.toNat task.toNat s

/-- Codes of Table 16-1. -/
def cLegendInvalid : Nat := 0x0101
def cTaskInvalid : Nat := 0x0102
def cCodeFault : Nat := 0x0103
def cLsRange : Nat := 0x0104
def cIllegalOp : Nat := 0x0105
def cUnitAbsent : Nat := 0x0106
def cLoopFault : Nat := 0x0107
def cTimingHazard : Nat := 0x0108
def cIndexRange : Nat := 0x0109
def cListInvalid : Nat := 0x010A
def cTileInvalid : Nat := 0x010B
def cConvInvalid : Nat := 0x010C
def cXlateInvalid : Nat := 0x010D
def cXlateWrite : Nat := 0x010E
def cRouteNone : Nat := 0x010F
def cCollOrder : Nat := 0x0110
def cSurveyInvalid : Nat := 0x0111
def cStashInvalid : Nat := 0x0112
def cStashExhausted : Nat := 0x0113
def cSmithyInvalid : Nat := 0x0114
def cSmithyOverlap : Nat := 0x0115
def cSmithyOrder : Nat := 0x0116
def cSampleInvalid : Nat := 0x0117
def cParityMismatch : Nat := 0x0118
def cResidue : Nat := 0x0120
def cFrameOverrun : Nat := 0x0121
def cCoreUe : Nat := 0x0122
def cMemUe : Nat := 0x0130
def cLinkRetrain : Nat := 0x0140
def cLinkFailed : Nat := 0x0141
def cLinkHard : Nat := 0x0142
def cDetourExhausted : Nat := 0x0150
def cBellLost : Nat := 0x0151
def cThermTrip : Nat := 0x0152
def cBrownOut : Nat := 0x0153
def cUnitFailed : Nat := 0x0154
def cPeerLost : Nat := 0x0158
def cDataLost : Nat := 0x0159
def cUnrecoverable : Nat := 0x015A
def cEconomy : Nat := 0x0160
def cFrameRetired : Nat := 0x0161
def cEntropyFail : Nat := 0x0162
def cEntropyDead : Nat := 0x0163
def cOverQuota : Nat := 0x0164
def cFwSlotBad : Nat := 0x0170
def cFwFallback : Nat := 0x0171
def cLedgerExhausted : Nat := 0x0172
def cMaintDone : Nat := 0x0180
def cMaintFailed : Nat := 0x0181
def cJoinRefused : Nat := 0x0182
def cLeaveRefused : Nat := 0x0183

/-! ## Core counters -/

/-- Adds saturated and OVF counts to CORE_NUMSTAT (R46). -/
def State.countNum (s : State) (c : CoreId) (n : NumCount) : State :=
  s.modCore c fun k => { k with regs := { k.regs with
    satCount := satAdd 32 k.regs.satCount n.sat, ovfArisen := satAdd 32 k.regs.ovfArisen n.ovf } }

/-- Whether an almanac runs: meters of transfers and maintenance are enforced only then. None runs while lost modules are dealt with
(R439, R477). -/
def State.almanacRuns (s : State) : Bool := (s.run.state == .running || s.run.state == .replaying) && s.rec0.modules.isEmpty

/-! ## The active almanac (R71-R74) -/

/-- `n` bytes of the active almanac at an offset. -/
def AlmSlot.nat (a : AlmSlot) (off n : Nat) : Nat := a.bytes.readNat off n

/-- Whether the slot holds a file. -/
def AlmSlot.loaded (a : AlmSlot) : Bool := a.size != 0

/-- LEGEND_COUNT of the active almanac. -/
def State.legendCount (s : State) : Nat := if s.run.active.loaded then s.run.active.nat 40 4 else 0

/-- Legend `i` of the active almanac; `none` at or above LEGEND_COUNT or invalid: LEGEND_INVALID (R23, R170). -/
def State.legend (s : State) (i : Nat) : Option Legend :=
  if i < s.legendCount then Legend.ofNat (s.run.active.nat (s.run.active.nat 32 8 + 16 * i) 16) else none

/-- Offset of section header `i` (Table 03-10). -/
def AlmSlot.sectionAt (a : AlmSlot) (i : Nat) : Nat := a.nat 24 8 + 64 * i

/-- The tick at which a change accepted now takes effect (R62). -/
def State.tickFor (s : State) : Nat := if s.bel.cycle < 16256 then s.bel.frame + 1 else s.bel.frame + 2

/-- The module sends a message. -/
def State.send (s : State) (m : Msg) : State := { s with outbox := s.outbox ++ [m] }

/-- The coordinates of a task's random words for a tensor and branch, with the seed in force for the task's step (R393,
R395). -/
def State.randKey (s : State) (t : TaskCtx) (tensor branch : Nat) : RandKey :=
  ⟨mapGet s.rng.seed s.run.seedAt t.step, tensor, t.step, branch⟩

end Sys2Proof.Machine
end

