-- ==== Sys2Proof/Machine/Route.lean ====
section
/-! DEFINITION. The routes by which messages leave the module and what they charge (spec/09 R279, R280, R290). -/

namespace Sys2Proof.Machine

/-- 64-byte units of PCIe and fabric payload (Table 03-5). -/
def units64 (n : Nat) : Nat := (n + 63) / 64

/-! ## Routes (R279, R280) -/

/-- Coordinates of a module number. -/
def Position.coord (p : Position) (n : Nat) : Nat × Nat × Nat :=
  (n % p.shapeX, n / p.shapeX % p.shapeY, n / (p.shapeX * p.shapeY))

/-- Whether a module is live, as far as this one knows (R278). -/
def State.isLive (s : State) (n : Nat) : Bool := decide (n < s.modCount) && !s.fab.dead.contains n

/-- One coordinate replaced. -/
def withCoord (c : Nat × Nat × Nat) (d v : Nat) : Nat × Nat × Nat :=
  match d with
  | 0 => (v, c.2.1, c.2.2)
  | 1 => (c.1, v, c.2.2)
  | _ => (c.1, c.2.1, v)

/-- A coordinate by dimension. -/
def coordOf (c : Nat × Nat × Nat) (d : Nat) : Nat := if d = 0 then c.1 else if d = 1 then c.2.1 else c.2.2

/-- Size of a dimension. -/
def Position.size (p : Position) (d : Nat) : Nat := if d = 0 then p.shapeX else if d = 1 then p.shapeY else p.shapeZ

/-- Live hops from `a` to `b` in dimension `d`, rising or falling: modules passed that are live, `b` included (R279). -/
def State.hops (s : State) (c : Nat × Nat × Nat) (d a b : Nat) (rising : Bool) : Nat :=
  let p := s.position
  let n := p.size d
  let dist := if rising then (b + n - a) % n else (a + n - b) % n
  ((List.range dist).filter fun i =>
    let v := if rising then (a + i + 1) % n else (a + n - (i + 1)) % n
    let x := withCoord c d v
    s.isLive (p.number x.1 x.2.1 x.2.2)).length

/-- Port of the first hop of a route from this module to a coordinate, dimensions in the given order (R268, R279). -/
def State.firstPort (s : State) (c t : Nat × Nat × Nat) : List Nat → Option Nat
  | [] => none
  | d :: rest =>
    if coordOf c d = coordOf t d then s.firstPort c t rest
    else
      let up := s.hops c d (coordOf c d) (coordOf t d) true
      let down := s.hops c d (coordOf c d) (coordOf t d) false
      some (2 * d + (if up ≤ down then 0 else 1))

/-- The port by which a message to module `n` leaves, or `none` for ROUTE_NONE (R279, R280). -/
def State.route (s : State) (n : Nat) : Option Nat :=
  let p := s.position
  let S := (p.x, p.y, p.z)
  let D := p.coord n
  let live (c : Nat × Nat × Nat) : Bool := s.isLive (p.number c.1 c.2.1 c.2.2)
  if !s.isLive n then none
  else if live (D.1, S.2.1, S.2.2) && live (D.1, D.2.1, S.2.2) then s.firstPort S D [0, 1, 2]
  else if live (S.1, D.2.1, S.2.2) && live (D.1, D.2.1, S.2.2) then s.firstPort S (S.1, D.2.1, S.2.2) [1]
  else if live (S.1, S.2.1, D.2.2) && live (D.1, S.2.1, D.2.2) then s.firstPort S (S.1, S.2.1, D.2.2) [2]
  else none

/-- Charges the FABRIC meter of a port for a message's payload (R290). -/
def State.chargeFabric (s : State) (port n : Nat) : State :=
  { s with bud := { s.bud with fabric := mapPut s.bud.fabric port (mapGet 0 s.bud.fabric port - units64 n) } }

end Sys2Proof.Machine
end

