-- ==== Sys2Proof/Machine/Link.lean ====
section
/-! DEFINITION. The links: how the messages of the module and the cells in transit leave by the ports, and what every command
leaves (spec/09 R271-R275, R279-R283, R290). -/

namespace Sys2Proof.Machine

/-! ## Cells and blocks (R271, R272, R275) -/

/-- A field of a cell or block. -/
def blkNat (b : List Byte) (off n : Nat) : Nat := natOfBytes ((b.drop off).take n)

/-- Whether 288 bytes are a cell whose CRC holds (Table 09-2). -/
def cellGood (b : List Byte) : Bool :=
  b.length == 288 && blkNat b 0 1 == 2 && blkNat b 284 4 == crc32c (b.take 284)

/-- DEST of a cell. -/
def cellDest (b : List Byte) : Nat := blkNat b 2 2 % 4096
/-- VC of a cell, class, leg and dateline together. -/
def cellVc (b : List Byte) : Nat := blkNat b 1 1 % 16
/-- Leg of a cell. -/
def cellLeg (b : List Byte) : Nat := blkNat b 1 1 / 4 % 2

/-- Sixteen 4-bit credit returns. -/
def creditsOf (v : Nat) : List (Nat × Nat) := (List.range 16).map fun i => (i, v / 16 ^ i % 16)

/-- One credit back on a VC: o falls, and a shared credit returns when o was above 8 (R275). -/
def PortReg.creditOne (p : PortReg) (vc : Nat) : PortReg :=
  let o := mapGet 0 p.used vc
  if o = 0 then p
  else { p with used := mapSet 0 p.used vc (o - 1), shared := if 8 < o then p.shared + 1 else p.shared }

/-- Credits come back (R275). -/
def PortReg.credit (p : PortReg) (cs : List (Nat × Nat)) : PortReg :=
  cs.foldl (fun p c => (List.range c.2).foldl (fun p _ => p.creditOne c.1) p) p

/-- Whether a cell of a VC may be sent: credit and a place in the replay buffer (R272, R275). -/
def PortReg.maySend (p : PortReg) (vc : Nat) : Bool :=
  p.state == .up && !p.bypass && decide (p.replay.length < 512) && (decide (mapGet 0 p.used vc < 8) || decide (0 < p.shared))

/-- Cells that an ACK of `seq` covers leave the replay buffer (R272). -/
def PortReg.ackTo (p : PortReg) (seq : Nat) : PortReg :=
  match p.replay.findIdx? fun c => c.1 == seq with
  | some i => { p with replay := p.replay.drop (i + 1), resent := 0 }
  | none => p

/-- The last sequence number received in order. -/
def PortReg.lastRecv (p : PortReg) : Nat := (p.nextRecv + 4095) % 4096

/-- Builds a cell for the next link: VC, SEQ, ACK and CRC are the link's own (Table 09-2). -/
def relink (b : List Byte) (vc seq ack : Nat) : List Byte :=
  let body := b.take 1 ++ bytesOfNat 1 vc ++ (b.drop 2).take 6 ++ bytesOfNat 2 seq ++ bytesOfNat 2 ack ++
    (b.drop 12).take 260 ++ bytesOfNat 12 0
  body ++ bytesOfNat 4 (crc32c body)

/-- Sends a cell on a port: it takes a credit and stands in the replay buffer (R272, R275). -/
def State.sendCell (s : State) (port : Nat) (b : List Byte) (vc : Nat) : State :=
  let p := s.port port
  let o := mapGet 0 p.used vc
  let c := relink b vc p.nextSend p.lastRecv
  let p1 := { p with used := mapSet 0 p.used vc (o + 1), shared := if o < 8 then p.shared else p.shared - 1,
                     replay := p.replay ++ [(p.nextSend, c)], nextSend := (p.nextSend + 1) % 4096 }
  (s.setPort port p1).send (.cell port c)

/-- An IDLE block: NAK, ACK or the sequence number expected, and credit returns (R271, R272, R275). -/
def idleBytes (nak : Bool) (seq : Nat) (credits : List (Nat × Nat)) : List Byte :=
  let body := bytesOfNat 1 0 ++ bytesOfNat 1 (bnat nak) ++ bytesOfNat 2 (seq % 4096) ++
    bytesOfNat 8 (credits.foldl (fun n c => n + c.2 % 16 * 16 ^ c.1) 0) ++ bytesOfNat 16 0
  body ++ bytesOfNat 4 (crc32c body)

/-- Sends an IDLE block on a port. -/
def State.sendIdle (s : State) (port : Nat) (nak : Bool) (seq : Nat) (credits : List (Nat × Nat)) : State :=
  s.send (.idle port (idleBytes nak seq credits))

/-- The next live coordinate of a ring from `a`, rising or falling (R268). -/
def State.nextLive (s : State) (c : Nat × Nat × Nat) (d : Nat) (rising : Bool) : Nat :=
  let p := s.position
  let n := p.size d
  let a := coordOf c d
  let step (i : Nat) : Nat := if rising then (a + i + 1) % n else (a + n - (i + 1) % n) % n
  let live (v : Nat) : Bool := let x := withCoord c d v; s.isLive (p.number x.1 x.2.1 x.2.2)
  ((List.range n).map step).find? live |>.getD a

/-- Whether a cell that leaves by a port wraps round its ring: it is on dateline 1 from there (R279). -/
def State.wraps (s : State) (port : Nat) : Nat :=
  let p := s.position
  let S := (p.x, p.y, p.z)
  let rising := port % 2 == 0
  let v := s.nextLive S (port / 2) rising
  if (rising && decide (v ≤ coordOf S (port / 2))) || (!rising && decide (coordOf S (port / 2) ≤ v)) then 1 else 0

/-- Where a transit cell goes: the port, and the leg and dateline it leaves with (R279, R280). `inPort` is the port it came
by. -/
def State.transit (s : State) (inPort : Nat) (b : List Byte) : Option (Nat × Nat × Nat) :=
  let p := s.position
  let S := (p.x, p.y, p.z)
  let D := p.coord (cellDest b)
  let d := inPort / 2
  let leg := cellLeg b
  if coordOf S d ≠ coordOf D d then
    let out := if inPort % 2 = 1 then 2 * d else 2 * d + 1
    some (out, leg, max (blkNat b 1 1 / 8 % 2) (s.wraps out))
  else
    let early := (List.range d).any fun e => coordOf S e != coordOf D e
    let leg1 := if leg = 0 ∧ early = true then 1 else leg
    match s.firstPort S D [0, 1, 2] with
    | some out => some (out, leg1, s.wraps out)
    | none => none

/-- Bytes that wait in staging. -/
def State.stagedBytes (s : State) : Nat := s.fab.staging.foldl (fun n p => n + p.bytes.length) 0

/-- Whether a BULK cell for this module waits in the link buffers: staging has no room for its payload, or one of its VC before it waits
(R274, R293). -/
def State.bulkWaits (s : State) (before : List (List Byte)) (b : List Byte) : Bool :=
  cellVc b % 4 == 2 && (decide (2 ^ 28 < s.stagedBytes + 64 * blkNat b 6 1) ||
    before.any fun x => cellDest x == s.modNo && cellVc x == cellVc b)

/-- The BULK cells for this module that wait leave the link buffer, in order, once staging has room (R275, R293). -/
def State.pushBulk (s : State) (inPort : Nat) : State :=
  ((s.port inPort).recv.foldl (fun (a : State × List (List Byte)) b =>
    if cellDest b ≠ a.1.modNo then a
    else if a.1.bulkWaits a.2 b then (a.1, a.2 ++ [b])
    else
      let s1 := a.1.setPort inPort { a.1.port inPort with recv := (a.1.port inPort).recv.erase b }
      (s1.sendIdle inPort false (s1.port inPort).lastRecv [(cellVc b, 1)], a.2)) (s, [])).1

/-- Sends transit cells that wait in receive buffers, in order, as far as credits allow; each frees its slot (R275, R290). -/
def State.pushTransit (s : State) (inPort : Nat) : State :=
  (s.port inPort).recv.foldl (fun s b =>
    match s.transit inPort b with
    | none => s
    | some (out, leg, dl) =>
      let vc := cellVc b % 4 + 4 * leg + 8 * dl
      if (s.port out).maySend vc then
        let s1 := s.setPort inPort { s.port inPort with recv := (s.port inPort).recv.erase b }
        (s1.sendCell out b vc).sendIdle inPort false (s1.port inPort).lastRecv [(cellVc b, 1)]
      else s) s

/-- Every port's waiting cells. -/
def State.pushAll (s : State) : State := (List.range 6).foldl (fun s i => (s.pushBulk i).pushTransit i) s

/-! ## The module's own messages (R274, R280, R283, R290) -/

/-- A message as the fabric carries it: OP and class of Table 09-4, payload units, and whether it is an acknowledgement. -/
structure MsgKind where
  op : Nat
  cls : Nat
  units : Nat
  ack : Bool
deriving DecidableEq, Repr

/-- The kind of a message that goes by the fabric. A kind that Table 09-4 does not name travels as the named kind that its use is
nearest to (DESIGN CHOICE, log 6). -/
def Msg.kind : Msg → Option MsgKind
  | .readReq _ _ _ _ _ _ _ => some ⟨0x01, 0, 1, false⟩
  | .readData _ _ b _ _ => some ⟨0x02, 1, units64 b.length, false⟩
  | .poisoned _ _ _ _ => some ⟨0x02, 1, 1, false⟩
  | .write _ _ _ b _ => some ⟨0x03, 0, units64 b.length, false⟩
  | .tableAdd _ _ _ _ x _ _ => some ⟨0x03, 0, units64 (9 * x.length), false⟩
  | .writeAck _ _ _ => some ⟨0x04, 1, 1, true⟩
  | .notHome _ _ _ _ => some ⟨0x05, 1, 1, false⟩
  | .dirQuery _ _ | .moveReq _ _ _ _ | .rowMoveReq _ _ _ _ _ _ _ => some ⟨0x06, 0, 1, false⟩
  | .dirReply _ _ _ | .moveGrant _ _ _ _ _ | .flipped _ _ _ | .rowMoveGrant _ _ _ _ _ _ | .rowFlipped _ _ _ _ | .dirEntry _ _ _
  | .pageNew _ _ _ | .pageFree _ _ | .pageAttr _ _ _ _ _ _ => some ⟨0x07, 1, 1, false⟩
  | .movePiece _ _ _ b _ => some ⟨0x08, 2, units64 b.length, false⟩
  | .rowCopy _ _ _ b _ => some ⟨0x08, 2, units64 b.length, false⟩
  | .inval _ _ | .stageDropped _ _ => some ⟨0x09, 3, 1, false⟩
  | .invalAck _ _ => some ⟨0x0A, 1, 1, true⟩
  | .xsend _ _ b _ _ => some ⟨0x0B, 2, units64 b.length, false⟩
  | .partial_ _ _ b _ => some ⟨0x0C, 2, units64 b.length, false⟩
  | .parityDelta _ _ b _ | .shardPart _ _ b => some ⟨0x0D, 2, units64 b.length, false⟩
  | .bDone _ _ | .groupCfg _ _ _ _ _ _ | .stop | .stopped _ _ | .recoveryStep _ | .joinReply _ => some ⟨0x0E, 3, 1, false⟩
  | .membership _ _ => some ⟨0x0F, 3, 1, false⟩
  | .bulkAck _ _ | .moveAck _ _ _ => some ⟨0x10, 1, 1, true⟩
  | .hostRead _ _ | .mark _ _ | .cell _ _ | .idle _ _ | .train _ _ | .interrupt _ | .inBand _ | .deviceReady | .busData _ | .busWritten
  | .unsupportedRequest | .completerAbort | .doe _ | .mctp _ | .spdm _ _ _ | .spdmError _ | .pldm _ | .i3c _ => none

/-- TAG of a message. -/
def Msg.tag : Msg → Nat
  | .readReq _ _ _ _ t _ _ | .readData _ _ _ t _ | .poisoned _ _ _ t | .write _ _ _ _ t | .tableAdd _ _ _ _ _ _ t | .writeAck _ t _
  | .notHome _ _ t _ | .rowCopy _ _ _ _ t | .xsend _ _ _ t _ | .partial_ _ _ _ t | .parityDelta _ _ _ t | .bulkAck _ t => t
  | _ => 0

/-- Module numbers of the ring of a dimension through a module, with their coordinates. -/
def State.ringOf (s : State) (at_ d : Nat) : List (Nat × Nat) :=
  let p := s.position
  let c := p.coord at_
  (List.range (p.size d)).map fun v => let x := withCoord c d v; (v, p.number x.1 x.2.1 x.2.2)

/-- Every other live module. -/
def State.others (s : State) : List Nat := (List.range s.modCount).filter fun m => m != s.modNo && s.isLive m

/-- The modules that a message is for: one, its ring for MEMBERSHIP, every other live module for what the whole machine is told. -/
def State.destsOf (s : State) : Msg → List Nat
  | .readReq d _ _ _ _ _ _ | .readData d _ _ _ _ | .poisoned d _ _ _ | .write d _ _ _ _ | .tableAdd d _ _ _ _ _ _ | .writeAck d _ _
  | .notHome d _ _ _ | .dirQuery d _ | .moveReq d _ _ _ | .rowMoveReq d _ _ _ _ _ _ | .dirReply d _ _ | .moveGrant d _ _ _ _
  | .flipped d _ _ | .rowMoveGrant d _ _ _ _ _ | .rowFlipped d _ _ _ | .dirEntry d _ _ | .pageNew d _ _ | .pageFree d _
  | .pageAttr d _ _ _ _ _ | .movePiece d _ _ _ _ | .rowCopy d _ _ _ _ | .inval d _ | .stageDropped d _ | .invalAck d _
  | .xsend d _ _ _ _ | .partial_ d _ _ _ | .parityDelta d _ _ _ | .shardPart d _ _ | .bDone d _ | .groupCfg d _ _ _ _ _
  | .bulkAck d _ | .moveAck d _ _ => [d]
  | .membership d _ => ((s.ringOf s.modNo d).map Prod.snd).filter fun m => s.others.contains m
  | _ => s.others

/-- A cell of a message before its link fields: `i` its place among the message's cells (Table 09-2). -/
def ownCell (vc dest src units op tag num i : Nat) : List Byte :=
  bytesOfNat 1 2 ++ bytesOfNat 1 vc ++ bytesOfNat 2 (dest % 4096) ++ bytesOfNat 2 (src % 4096) ++ bytesOfNat 1 units ++
    bytesOfNat 1 op ++ bytesOfNat 4 0 ++ bytesOfNat 4 (tag % 2 ^ 32) ++
    (List.range 256).map fun j => if j < 64 * units then Config.payloadByte num (256 * i + j) else 0

/-- The cells of a message: four payload units each, but for the last. -/
def ownCells (k : MsgKind) (vc dest src tag num : Nat) : List (List Byte) :=
  (List.range ((max k.units 1 + 3) / 4)).map fun i => ownCell vc dest src (min 4 (max k.units 1 - 4 * i)) k.op tag num i

/-- A message for one module: its cells wait at the port of its route, on leg 0, and charge that port's FABRIC meter, unless it is an
acknowledgement or of class CTRL (R274, R279, R290). -/
def State.linkTo (m : Msg) (k : MsgKind) (s : State) (d : Nat) : State :=
  match s.route d with
  | none => s
  | some port =>
    let s1 := if k.ack || k.cls == 3 then s else s.chargeFabric port (64 * max k.units 1)
    let p := s1.port port
    ({ s1 with freeCtr := s1.freeCtr + 1 }).setPort port
      { p with wait := p.wait ++ ownCells k (k.cls + 8 * s1.wraps port) d s1.modNo m.tag s1.freeCtr }

/-- Whether all keepers are in BYPASS. -/
def State.inBypass (s : State) : Bool := (List.range 6).all fun i => (s.port i).bypass

/-- A message that the module sends. One for a module that no route serves is not sent: it raises ROUTE_NONE, in the name of
the module where no command has asked for it (R280; DESIGN CHOICE, log 143). -/
def State.linkMsg (s : State) (m : Msg) : State :=
  match m.kind with
  | none => s.send m
  | some k =>
    if s.inBypass then s
    else
      let ds := s.destsOf m
      if ds.isEmpty || ds.any fun d => d == s.modNo || (s.route d).isSome then ds.foldl (State.linkTo m k) (s.send m)
      else
        let s1 := raise cRouteNone 0 0 0 s
        s1.others.foldl (State.linkTo .stop ⟨0x0E, 3, 1, false⟩) s1

/-- Sends a port's own cells that wait, in order within each VC, as far as credits and the replay buffer allow (R272, R273, R275). -/
def State.pushOwn (s : State) (port : Nat) : State :=
  ((s.port port).wait.foldl (fun (a : State × List Nat) b =>
    let vc := cellVc b
    let p := a.1.port port
    if a.2.contains vc || !p.maySend vc then (a.1, vc :: a.2)
    else ((a.1.setPort port { p with wait := p.wait.erase b }).sendCell port b vc, a.2)) (s, [])).1

/-- Every port's waiting cells, in transit and its own. -/
def State.pushLinks (s : State) : State := (List.range 6).foldl State.pushOwn s.pushAll

/-- The messages from place `base` of the outbox on go to the links; in BYPASS the die sends none (R283). -/
def State.flush (base : Nat) (s : State) : State :=
  let n := max base s.fab.linked
  match s.outbox.drop n with
  | [] => s
  | news =>
    let s1 := (news.foldl State.linkMsg { s with outbox := s.outbox.take n }).pushLinks
    { s1 with fab := { s1.fab with linked := s1.outbox.length } }

/-! ## What every command leaves -/

/-- HIF_STATUS.READY follows ENABLE and queue 0 once start-up is complete, and stays 0 in firmware recovery (R423, R448,
R501). -/
def State.readyNow (s : State) : Bool :=
  s.hif.enable && s.pwr.up && s.reeve.mode != .recovery && (mapFind s.hif.queues 0).isSome

/-- The state that a command leaves, from the state `s` before it and its own effect `t`: its messages go to the links, the commands
that wait are untouched, and READY follows. -/
def State.settle (s t : State) : State :=
  let u := t.flush s.outbox.length
  { u with pending := s.pending, hif := { u.hif with ready := u.readyNow } }

/-- The same for a command that may fault. -/
def State.settleOut (s : State) : Host.Outcome State Fault Refusal → Host.Outcome State Fault Refusal
  | .next t => .next (s.settle t)
  | .fault f => .fault f
  | .refused r => .refused r

end Sys2Proof.Machine
end

