-- ==== Sys2Proof/Machine/Access.lean ====
section
/-! DEFINITION. Reading and writing device virtual addresses and the local store, as every unit does it: translation,
tiers, meters, heat, ECC, staged copies and lent pages (spec/08), and the engine commands' sequencing of such accesses. -/

namespace Sys2Proof.Machine

/-! ## Pages, frames and the directory module -/

/-- Bytes of a page (R232). -/
def pageBytes : Nat := 65536
/-- Frames of one stack (R234). -/
def framesPerStack : Nat := 1310720
/-- Frames of one stack below the system reserve (R234). -/
def jobFrames : Nat := 1294336

/-- Pieces of an access, split at every 64 KiB boundary in ascending order (R239). -/
def pieces : Nat → Nat → Nat → List (Nat × Nat)
  | 0, _, _ => []
  | f + 1, a, n =>
    if n = 0 then []
    else
      let room := pageBytes - a % pageBytes
      if n ≤ room then [(a, n)] else (a, room) :: pieces f (a + room) (n - room)

/-- Pieces of an access of `n` bytes at `a`. -/
def piecesOf (a n : Nat) : List (Nat × Nat) := pieces (n / pageBytes + 2) a n

/-- The directory module of a page among `n` modules (R240). -/
def dirModule (n vpn : Nat) : Nat := (vpn * 0x9E3779B97F4A7C15) % 2 ^ 64 / 2 ^ 32 * n / 2 ^ 32

/-- The deputy of a module that is not live: the live module of lowest number above it, wrapping (R476). -/
def State.deputy (s : State) (n : Nat) : Nat :=
  ((List.range s.modCount).map fun i => (n + i) % s.modCount).find? s.isLive |>.getD n

/-- The module that answers for a page's directory entry: its directory module, or the deputy (R240, R476). -/
def State.dirAt (s : State) (vpn : Nat) : Nat :=
  let d := dirModule s.modCount vpn
  if s.isLive d then d else s.deputy d

/-- 512-byte units that a piece charges (R513). -/
def units512 (n : Nat) : Nat := (n + 511) / 512

/-- Counts heat of a piece in the tier agent (R243): the epoch's count saturates at 65,535, an untracked page stays
untracked while its agent's 262,144 entries are used. -/
def State.addHeat (s : State) (vpn n : Nat) : State :=
  let h := mapGet (0, 0) s.tier.heat vpn
  let tracked := (s.tier.heat.filter fun e => e.1 % 8 == vpn % 8).length
  if (mapFind s.tier.heat vpn).isNone && decide (262144 ≤ tracked) then s
  else { s with tier := { s.tier with heat := mapPut s.tier.heat vpn (h.1, min (h.2 + units512 n) 65535) } }

/-- Charges the HBM meter of a stack for a piece (R513). -/
def State.chargeHbm (s : State) (stack n : Nat) : State :=
  { s with bud := { s.bud with hbm := mapPut s.bud.hbm stack (mapGet 0 s.bud.hbm stack - units512 n) } }

/-- Charges the POOL meter (R513). -/
def State.chargePool (s : State) (n : Nat) : State := { s with bud := { s.bud with pool := s.bud.pool - units512 n } }
/-- Charges the HOST meter, from the host. -/
def State.chargeHostIn (s : State) (n : Nat) : State := { s with bud := { s.bud with hostIn := s.bud.hostIn - units64 n } }
/-- Charges the HOST meter, to the host. -/
def State.chargeHostOut (s : State) (n : Nat) : State :=
  { s with bud := { s.bud with hostOut := s.bud.hostOut - units64 n } }

/-- The translation entry that a directory entry gives this module, for a page homed elsewhere (R237, Table 08-3). -/
def xOfDir (d : DEntry) : XEntry :=
  { tier := .pool, w := d.w, pin := d.pin, lent := false, stage := d.stage, late := d.late, frame := 0,
    mod := if d.homeHost then d.owner else d.home, host := 0, away := d.homeHost }

/-- What translation of a page finds. -/
inductive Look where
  | entry (e : XEntry)
  | query (dest : Nat)
  | none
deriving DecidableEq, Repr

/-- Translation of a page: its entry; a query to another module; or no entry anywhere (R236, R237). -/
def State.look (s : State) (vpn : Nat) : Look :=
  if vpn = 0 ∨ 2 ^ 36 ≤ vpn then .none
  else match mapFind s.tier.xlate vpn with
    | some e => .entry e
    | none =>
      let d := s.dirAt vpn
      if d = s.modNo then
        match mapFind s.tier.dir vpn with
        | some e => .entry (xOfDir e)
        | none => .none
      else .query d

/-- Translation as a requester meets it: that the directory holds no entry stands until the requester that asked has met it
(R237). -/
def State.lookFor (s : State) (who : Requester) (vpn : Nat) : Look :=
  match s.look vpn with
  | .query d => if s.tier.noEntry.contains (vpn, who) then .none else .query d
  | x => x

/-- A requester waits for a directory's answer; the first sends the query. `none`: no route serves the directory module (R237,
R280). -/
def State.askDir (s : State) (who : Requester) (vpn d : Nat) : Option State :=
  let s1 := if s.tier.queries.contains (vpn, who) then s
    else { s with tier := { s.tier with queries := s.tier.queries ++ [(vpn, who)] } }
  if s.tier.queries.any (fun q => q.1 == vpn) then some s1
  else if (s.route d).isNone then none
  else some (s1.send (.dirQuery d vpn))

/-- Installs an entry (R237). -/
def State.putX (s : State) (vpn : Nat) (e : XEntry) : State :=
  { s with tier := { s.tier with xlate := mapPut s.tier.xlate vpn e } }

/-- Byte address of a frame in the HBM of the module. -/
def frameByte (frame off : Nat) : Nat := frame * pageBytes + off

/-- The 32-byte ECC words that hold bytes `a` to `a + n − 1` (R239). -/
def eccWords (a n : Nat) : List Nat :=
  if n = 0 then [] else (List.range ((a + n - 1) / 32 - a / 32 + 1)).map fun i => a / 32 + i

/-- Words wholly covered by a write of `n` bytes at `a` (R261). -/
def coveredWords (a n : Nat) : List Nat := (eccWords a n).filter fun w => decide (a ≤ 32 * w) && decide (32 * w + 32 ≤ a + n)

/-- The outcome of reading one piece. -/
inductive PRead where
  | ok (bytes : List Byte) (s : State)
  | wait (s : State)
  | late (s : State)
  | fault (code : Nat) (s : State)
deriving DecidableEq, Repr

/-- Reads bytes of a frame of this module's HBM (R260, R261). -/
def State.readFrame (s : State) (frame off n : Nat) : PRead :=
  let a := frameByte frame off
  let stack := frame / framesPerStack
  if (eccWords a n).any fun w => s.tier.poison.contains w then
    let e := mapGet ⟨0, 0, 0⟩ s.tier.ecc stack
    let bad := (eccWords a n).filter fun w => s.tier.poison.contains w
    .fault cMemUe { s with tier := { s.tier with ecc := mapPut s.tier.ecc stack { e with ue := satAdd 16 e.ue 1 } },
                           rec0 := { s.rec0 with ueNow := s.rec0.ueNow ++ bad } }
  else .ok (s.tier.hbm.readBytes a n) (s.chargeHbm stack n)

/-- The 64-byte units of its page that a piece touches (R250, R251). -/
def unitsOf (va n : Nat) : List Nat :=
  let lo := va % pageBytes / 64
  (List.range ((va % pageBytes + n - 1) / 64 - lo + 1)).map fun i => lo + i

/-- What has arrived for a requester and a piece. -/
def State.findArrived (s : State) (who : Requester) (va n : Nat) : Option Arrived :=
  s.tier.arrived.find? fun a => a.who == who && a.va == va && a.bytes.length == n

/-- A piece that has arrived: its bytes, counted as heat of the module's own access, or MEM_UE where the home found a poisoned word among
them (R243, R261). -/
def Arrived.read (a : Arrived) (s : State) : PRead :=
  if a.bad then .fault cMemUe { s with tier := { s.tier with arrived := s.tier.arrived.erase a } }
  else .ok a.bytes (s.addHeat (a.va / pageBytes) a.bytes.length)

/-- Pages that count toward each quota class (Table 08-10); a granted move counts at its destination (R249). -/
def State.quotaUse (s : State) (cls : Nat) : Nat :=
  let t := s.tier
  let here (v : Nat) : Bool := match mapFind t.xlate v with
    | some e => e.tier == .local
    | none => false
  let atHost (v : Nat) : Bool := match mapFind t.xlate v with
    | some e => e.tier == .host
    | none => false
  match cls with
  | 0 => (t.xlate.filter fun e => e.2.tier == .local).length + t.staged.length + (t.movesIn.filter fun m => m.2.host.isNone).length
  | 1 => (t.owners.filter fun o => o.2 != s.modNo && here o.1).length +
         (t.movesIn.filter fun m => m.2.host.isNone && m.2.owner != s.modNo).length
  | 2 => (t.owners.filter fun o => o.2 == s.modNo && !here o.1 && !atHost o.1).length
  | 3 => (t.owners.filter fun o => o.2 == s.modNo && atHost o.1).length +
         (t.movesOut.filter fun m => m.2.toHost && m.2.dest == s.modNo).length +
         (t.movesIn.filter fun m => m.2.host.isSome).length
  | _ => t.staged.length

/-- LIMIT of a quota class. -/
def State.quotaLimit (s : State) (cls : Nat) : Nat := mapGet 0 s.tier.quota cls

/-- Whether a quota allows `n` more pages. -/
def State.quotaRoom (s : State) (cls n : Nat) : Bool := decide (s.quotaUse cls + n ≤ s.quotaLimit cls)

/-- Whether this module can stage one more page (R250). -/
def State.mayStage (s : State) (e : XEntry) : Bool :=
  e.stage && (e.tier == .staged || (s.quotaRoom 0 1 && (s.quotaRoom 4 1 || (!s.tier.staged.isEmpty && decide (0 < s.quotaLimit 4)))))

/-- Sends a read to the home module or to host memory, once (R241, R512). Its heat counts when its data serves the access, or is late
(R243). `sub` marks a SUBSTITUTE row read, which owed work does not send (R257); `row` names the table row that the access reads (R387). -/
def State.askPiece (s : State) (who : Requester) (e : XEntry) (va n : Nat) (sub : Bool) (frame : Nat) (owed : Bool)
    (row : Option (Nat × Nat) := none) : PRead :=
  match s.tier.reads.find? fun r => r.who == who && r.va == va && r.len == n with
  | some r => if r.late then .late (s.addHeat (va / pageBytes) n) else .wait s
  | none =>
    if sub && owed then .late s
    else
      let rec1 (host : Option Nat) : ReadOut := ⟨who, va, n, host, sub, frame, false, row⟩
      match e.tier with
      | .host =>
        let h := e.host * pageBytes + va % pageBytes
        let s2 := s.chargeHostIn n
        .wait { s2 with tier := { s2.tier with reads := s2.tier.reads ++ [rec1 (some h)] },
                        outbox := s2.outbox ++ [Msg.hostRead h n] }
      | _ =>
        match s.route e.mod with
        | none => .fault cRouteNone s
        | some _ =>
          let s2 := s.chargePool n
          .wait { s2 with tier := { s2.tier with reads := s2.tier.reads ++ [rec1 none] },
                          fab := { s2.fab with tagNext := s2.fab.tagNext + 1 },
                          outbox := s2.outbox ++ [Msg.readReq e.mod s.modNo va n s2.fab.tagNext (s.mayStage e) row] }

/-- Reads one piece of device memory for a requester (R236-R241, R251, R260). -/
def State.readPiece (s : State) (who : Requester) (va n : Nat) (sub : Bool) (frame : Nat) (owed : Bool) : PRead :=
  let vpn := va / pageBytes
  match s.lookFor who vpn with
  | .none => .fault cXlateInvalid { s with tier := { s.tier with noEntry := s.tier.noEntry.erase (vpn, who) } }
  | .query d => match s.askDir who vpn d with
    | some s1 => .wait s1
    | none => .fault cRouteNone s
  | .entry e =>
    let s0 := if (mapFind s.tier.xlate vpn).isSome then s else s.putX vpn e
    let subst := sub && e.late
    match e.tier with
    | .local => match (s0.addHeat vpn n).readFrame e.frame (va % pageBytes) n with
      | r => r
    | .staged =>
      let f := mapGet ⟨e.frame, e.mod, [], 0⟩ s0.tier.staged vpn
      if (unitsOf va n).all fun u => f.valid.contains u then (s0.addHeat vpn n).readFrame e.frame (va % pageBytes) n
      else match s0.findArrived who va n with
        | some b => b.read s0
        | none => s0.askPiece who e va n subst frame owed
    | _ => match s0.findArrived who va n with
      | some b => b.read s0
      | none => s0.askPiece who e va n subst frame owed

/-- The outcome of writing one piece: done, with the number of acknowledgements to wait for; or a wait; or a fault. -/
inductive PWrite where
  | ok (acks : Nat) (s : State)
  | wait (s : State)
  | fault (code : Nat) (s : State)
deriving DecidableEq, Repr

/-- Writes bytes of a frame; a poisoned word that the write covers is clean again (R261). -/
def State.writeFrame (s : State) (frame off : Nat) (bytes : List Byte) : State :=
  let a := frameByte frame off
  let cov := coveredWords a bytes.length
  let s1 := s.chargeHbm (frame / framesPerStack) bytes.length
  { s1 with tier := { s1.tier with hbm := s1.tier.hbm.writeBytes a bytes,
                                   poison := s1.tier.poison.filter fun w => !cov.contains w } }

/-- Applies a write at the home, and forwards it while a move of the page is granted (Table 08-6). -/
def State.applyAtHome (s : State) (e : XEntry) (va : Nat) (bytes : List Byte) : State :=
  let vpn := va / pageBytes
  let s1 := s.addHeat vpn bytes.length
  let s2 := match e.tier with
    | .host => { s1.chargeHostOut bytes.length with
                  hostMem := s1.hostMem.writeBytes (e.host * pageBytes + va % pageBytes) bytes }
    | _ => s1.writeFrame e.frame (va % pageBytes) bytes
  match mapFind s2.tier.movesOut vpn with
  | some m =>
    if m.dest = s2.modNo then s2 else
    let tag := s2.fab.tagNext
    { s2 with tier := { s2.tier with movesOut := mapPut s2.tier.movesOut vpn { m with writes := m.writes + 1 },
                                     writesOut := s2.tier.writesOut ++ [⟨tag, .own vpn, va, bytes, false, none⟩] },
              fab := { s2.fab with tagNext := tag + 1 },
              outbox := s2.outbox ++ [Msg.write m.dest s2.modNo va bytes tag] }
  | none => s2

/-- Tells the holders of a page, once, that their staged copies are invalid (R252). -/
def State.invalHolders (s : State) (vpn : Nat) : State :=
  let hs := mapGet [] s.tier.holders vpn
  if hs.isEmpty || s.tier.invals.contains vpn then s
  else { s with tier := { s.tier with invals := s.tier.invals ++ [vpn] }, outbox := s.outbox ++ hs.map fun h => Msg.inval h vpn }

/-- A write to a lent page waits for the holders (R252). -/
def State.holdWrite (s : State) (who : Requester) (va : Nat) (bytes : List Byte) : State :=
  let vpn := va / pageBytes
  let s1 := s.invalHolders vpn
  { s1 with tier := { s1.tier with writes := s1.tier.writes ++ [⟨who, va, bytes, mapGet [] s1.tier.holders vpn⟩] } }

/-- Writes one piece of device memory for a requester (R238, R239, R241, R252). `ro` is a page that holds code of the
active almanac (R127). -/
def State.writePiece (s : State) (who : Requester) (va : Nat) (bytes : List Byte) : PWrite :=
  let vpn := va / pageBytes
  match s.lookFor who vpn with
  | .none => .fault cXlateInvalid { s with tier := { s.tier with noEntry := s.tier.noEntry.erase (vpn, who) } }
  | .query d => match s.askDir who vpn d with
    | some s1 => .wait s1
    | none => .fault cRouteNone s
  | .entry e =>
    let s0 := if (mapFind s.tier.xlate vpn).isSome then s else s.putX vpn e
    if !e.w || s0.tier.codePages.contains vpn then .fault cXlateWrite s0
    else match e.tier with
      | .pool | .staged =>
        match s0.route e.mod with
        | none => .fault cRouteNone s0
        | some _ =>
          let tag := s0.fab.tagNext
          let s1 := (s0.addHeat vpn bytes.length).chargePool bytes.length
          .ok 1 { s1 with fab := { s1.fab with tagNext := tag + 1 },
                          tier := { s1.tier with writesOut := s1.tier.writesOut ++ [⟨tag, who, va, bytes, false, none⟩] },
                          outbox := s1.outbox ++ [Msg.write e.mod s1.modNo va bytes tag] }
      | _ =>
        match mapGet [] s0.tier.holders vpn with
        | [] => .ok 0 (s0.applyAtHome e va bytes)
        | _ => .ok 1 (s0.holdWrite who va bytes)

/-! ## Engine work: a sequence of accesses that completes, waits or stops -/

/-- Why engine work does not complete now. -/
inductive EStop where
  | wait
  | fault (code : Nat)
deriving DecidableEq, Repr

/-- The machine while one engine command works: which core and queue, its task, whether some read was asked for and has
not come, and acknowledgements that its writes await. A `metered` unit issues each access only while its meters are above
zero (R309): `paid` accesses have been issued, in this attempt or an earlier one, of which this attempt has come by `seen`; with `hostToo` they
wait for HOST as well. -/
structure EWork where
  s : State
  core : CoreId
  queue : Nat
  task : TaskCtx
  missing : Bool
  acks : Nat
  metered : Bool
  hostToo : Bool
  paid : Nat
  seen : Nat
deriving DecidableEq, Repr

/-- Work that begins, of a unit whose accesses wait for no meter. -/
def EWork.start (s : State) (c : CoreId) (q : Nat) (t : TaskCtx) : EWork := ⟨s, c, q, t, false, 0, false, false, 0, 0⟩

/-- Engine work that gives an `α`, waits, or stops with a fault; a fault keeps what was done before it (R183). -/
abbrev EM (α : Type) := EStateM EStop EWork α

/-- Stops with a core fault. -/
def efault {α : Type} (code : Nat) : EM α := throw (.fault code)

/-- Stops with `code` unless the condition holds. -/
def echeck (b : Bool) (code : Nat) : EM Unit := if b then pure () else efault code

/-- Unwraps, or stops with `code`. -/
def eget {α : Type} (x : Option α) (code : Nat) : EM α := match x with
  | some a => pure a
  | none => efault code

/-- Changes the machine. -/
def emod (f : State → State) : EM Unit := modify fun w => { w with s := f w.s }

/-- Who the command is, to the memory tiers. -/
def EWork.who (w : EWork) : Requester := .engine w.core w.queue

/-- Whether a task's frame is over: what is left of its work is owed (R50). -/
def State.owed (s : State) (t : TaskCtx) : Bool := decide (t.frame < s.bel.frame) &&
  !(s.run.openFrames.any fun f => f.first == t.frame && decide (s.bel.frame < f.first + f.bells))

/-- Reads local-store bytes of the task; an uncorrectable word raises CORE_UE (R94, R519). -/
def lsRead (a n : Nat) : EM (List Byte) := do
  let w ← get
  let p ← eget (w.task.lsAddr a n) cLsRange
  let k := w.s.core w.core
  if k.errors.lsBad p n then efault cCoreUe
  else pure (k.ls.readBytes p n)

/-- Writes local-store bytes of the task (R94). -/
def lsWrite (a : Nat) (bytes : List Byte) : EM Unit := do
  let w ← get
  let p ← eget (w.task.lsAddr a bytes.length) cLsRange
  set { w with s := w.s.modCore w.core fun k =>
    { k with ls := k.ls.writeBytes p bytes, errors := k.errors.lsWritten p bytes.length } }

/-- Whether the meters that an access of a piece charges are above zero: HBM of its stack, or POOL, and with `hostToo` HOST (R309, R364,
R409). -/
def State.metersOpen (s : State) (write hostToo : Bool) (p : Nat × Nat) : Bool :=
  match s.look (p.1 / pageBytes) with
  | .entry e =>
    let held := match mapFind s.tier.staged (p.1 / pageBytes) with
      | some f => (unitsOf p.1 p.2).all fun u => f.valid.contains u
      | none => false
    if e.tier == .local || (e.tier == .staged && !write && held) then
      decide (0 < mapGet 0 s.bud.hbm (e.frame / framesPerStack))
    else if e.tier = .host then !hostToo || decide (0 < (if write then s.bud.hostOut else s.bud.hostIn))
    else decide (0 < s.bud.pool)
  | _ => true

/-- Whether metered work does not know yet what an access reaches: the directory is still to tell. It issues the access then, and pays,
when it knows (R237, R309). -/
def EWork.unknown (w : EWork) (a : Nat) : Bool := w.metered && match w.s.lookFor w.who (a / pageBytes) with
  | .query _ => true
  | _ => false

/-- A metered unit is about to issue an access: it waits for the meters; whether an earlier attempt has issued the access and
paid for it (R309, R364, R409). -/
def meterGate (write : Bool) (p : Nat × Nat) : EM Bool := do
  let w ← get
  if !w.metered || w.unknown p.1 then pure false
  else if w.seen < w.paid then
    set { w with seen := w.seen + 1 }
    pure true
  else if w.s.metersOpen write w.hostToo p then
    set { w with seen := w.seen + 1, paid := w.paid + 1 }
    pure false
  else throw .wait

/-- The machine after an access: one that was paid for earlier charges nothing now. -/
def EWork.after (w : EWork) (paid : Bool) (s : State) : EWork := { w with s := if paid then { s with bud := w.s.bud } else s }

/-- Reads one piece; with `now` the command waits at once for data that has not come. -/
def pieceRead (now sub : Bool) (p : Nat × Nat) : EM (Option (List Byte)) := do
  let paid ← meterGate false p
  let w ← get
  match w.s.readPiece w.who p.1 p.2 sub w.task.frame (w.s.owed w.task) with
  | .ok b s => do set (w.after paid s); pure (some b)
  | .late s => do set { w with s := s }; pure none
  | .wait s => do
    set { w with s := s, missing := true }
    if now || w.unknown p.1 then throw .wait else pure (some (List.replicate p.2 0))
  | .fault c s => do set { w with s := s }; efault c

/-- Reads device memory, waiting at once for bytes that have not come. -/
def vaRead (a n : Nat) : EM (List Byte) := do
  let bs ← (piecesOf a n).mapM (pieceRead true false)
  pure (bs.flatMap fun b => b.getD [])

/-- Reads device memory; asks for everything and waits only at `awaitReads`. -/
def vaReadSoon (a n : Nat) : EM (List Byte) := do
  let bs ← (piecesOf a n).mapM (pieceRead false false)
  pure (bs.flatMap fun b => b.getD [])

/-- A row read that may be replaced by a substitute row: `none` where its data is late (R257). -/
def vaReadRow (a n : Nat) : EM (Option (List Byte)) := do
  let bs ← (piecesOf a n).mapM (pieceRead false true)
  pure (if bs.all Option.isSome then some (bs.flatMap fun b => b.getD []) else none)

/-- Waits until every read asked for has come. -/
def awaitReads : EM Unit := do
  let w ← get
  if w.missing then throw .wait else pure ()

/-- Writes one piece. -/
def pieceWrite (a : Nat) (bytes : List Byte) : EM Unit := do
  let paid ← meterGate true (a, bytes.length)
  let w ← get
  match w.s.writePiece w.who a bytes with
  | .ok n s => set { w.after paid s with acks := w.acks + n }
  | .wait s => do set { w with s := s, missing := true }; throw .wait
  | .fault c s => do set { w with s := s }; efault c

/-- Writes pieces in ascending order. -/
def writePieces : List (Nat × Nat) → List Byte → EM Unit
  | [], _ => pure ()
  | p :: t, bytes => do
    pieceWrite p.1 (bytes.take p.2)
    writePieces t (bytes.drop p.2)

/-- Writes device memory (R239). -/
def vaWrite (a : Nat) (bytes : List Byte) : EM Unit := writePieces (piecesOf a bytes.length) bytes

/-- Reads of a command that have arrived or are under way, and answers of directories that it has not met, are forgotten once its work
is done. -/
def Tier.forget (t : Tier) (who : Requester) : Tier :=
  { t with reads := t.reads.filter fun r => r.who != who, arrived := t.arrived.filter fun a => a.who != who,
           noEntry := t.noEntry.filter fun e => e.2 != who }

/-! ## Stream descriptors (R96, R97) -/

/-- Signed value of a stride field. -/
def stride (w : W32) : Int := w.toInt

/-- Address of access (i0, i1, i2) (R97). A sum outside 0 to 2^64 − 1 is taken modulo 2^64 (DESIGN CHOICE, log 132). -/
def Desc.addrAt (d : Desc) (i0 i1 i2 : Nat) : Nat :=
  let a : Int := (d.base.toNat : Int) + i0 * stride d.stride0 + i1 * stride d.stride1 + i2 * stride d.stride2
  lowBits 64 a

/-- Number of accesses of a descriptor. -/
def Desc.count (d : Desc) : Nat := d.count0.toNat * d.count1.toNat * d.count2.toNat

/-- Address of the r-th access in the order of R97. -/
def Desc.access (d : Desc) (r : Nat) : Nat :=
  d.addrAt (r % d.count0.toNat) (r / d.count0.toNat % d.count1.toNat) (r / (d.count0.toNat * d.count1.toNat))

/-- All accesses in the order of R97. -/
def Desc.accesses (d : Desc) : List Nat := (List.range d.count).map d.access

/-- Bytes that a descriptor yields. -/
def Desc.total (d : Desc) : Nat := d.count * d.size.toNat

/-- SPACE, SIZE and BASE in range (R97, R140). -/
def Desc.ok (d : Desc) : Bool :=
  decide (d.space.toNat ≤ 1) && decide (1 ≤ d.size.toNat) && decide (d.size.toNat ≤ 2048) && decide (d.base.toNat < 2 ^ 52)

/-- Whether the descriptor reaches the local store. -/
def Desc.isLs (d : Desc) : Bool := d.space == 1

/-- Reads `n` bytes at an address of the descriptor's space. -/
def spaceRead (d : Desc) (a n : Nat) : EM (List Byte) := if d.isLs then lsRead a n else vaReadSoon a n

/-- Reads `n` bytes at an address of the descriptor's space, waiting at once. -/
def spaceReadNow (d : Desc) (a n : Nat) : EM (List Byte) := if d.isLs then lsRead a n else vaRead a n

/-- Writes bytes at an address of the descriptor's space. -/
def spaceWrite (d : Desc) (a : Nat) (bytes : List Byte) : EM Unit := if d.isLs then lsWrite a bytes else vaWrite a bytes

/-- The concatenated bytes that a descriptor yields, waiting for each (R167). -/
def descReadAll (d : Desc) : EM (List Byte) := do
  let bs ← d.accesses.mapM fun a => spaceReadNow d a d.size.toNat
  pure bs.flatten

/-- Writes bytes to the accesses of a descriptor in order. -/
def descWriteAll (d : Desc) : List Nat → List Byte → EM Unit
  | [], _ => pure ()
  | a :: t, bytes => do
    spaceWrite d a (bytes.take d.size.toNat)
    descWriteAll d t (bytes.drop d.size.toNat)

/-- Each descriptor that a command meets must be in range (R97). -/
def needDesc (d : Desc) : EM Unit := echeck d.ok cLsRange

/-- The elements of a descriptor's accesses are one contiguous range of `n` bytes (R307, R406): its first address. -/
def Desc.contiguous (d : Desc) (n : Nat) : Option Nat :=
  if d.total = n ∧ (d.accesses.zip (List.range d.count)).all (fun p => p.1 == d.access 0 + p.2 * d.size.toNat) then
    some (d.access 0) else none

end Sys2Proof.Machine
end

