-- ==== Sys2Proof/Machine/Operands.lean ====
section
/-! DEFINITION. Operand forms: the slot formats of Vepex bundles and what each field names (spec/05, R124-R143). -/

namespace Sys2Proof.Machine

/-- R-format operations of Table 05-8. -/
inductive AluOp where
  | add | sub | and | or | xor | shl | shr | sra | min | max | slt | sltu | seq | mul | mulh | div | mod
deriving DecidableEq, Repr

/-- I-format operations of Table 05-8 that read ra. -/
inductive AluIOp where
  | addi | andi | ori | xori | shli | shri | srai
deriving DecidableEq, Repr

/-- Conditional branches of Table 05-8. -/
inductive BrOp where
  | beq | bne | blt | bge | bltu | bgeu
deriving DecidableEq, Repr

/-- Local-store loads into a scalar (Table 05-9). -/
inductive LdOp where
  | ld64 | ld32s | ld32u | ld16s | ld16u | ld8s | ld8u
deriving DecidableEq, Repr

/-- Local-store stores of a scalar (Table 05-9). -/
inductive StOp where
  | st64 | st32 | st16 | st8
deriving DecidableEq, Repr

/-- An S-slot instruction (Tables 05-3, 05-8). -/
inductive SInstr where
  | alu (op : AluOp) (rd ra rb : SReg)
  | alui (op : AluIOp) (rd ra : SReg) (imm : BitVec 16)
  | li (rd : SReg) (imm : BitVec 16)
  | lis (rd : SReg) (imm : BitVec 16)
  | br (op : BrOp) (ra rb : SReg) (off : BitVec 16)
  | jmp (off : BitVec 26)
  | jr (ra : SReg)
  | waitc (ctr : ScReg) (cond : BitVec 2) (reg : Bool) (value : BitVec 16)
  | setc (ctr : ScReg) (r : SReg)
  | addc (ctr : ScReg) (value : BitVec 16)
  | rdc (ctr : ScReg) (r : SReg)
  | loop (rc : SReg) (stop : BitVec 12)
  | loopi (count : BitVec 14) (stop : BitVec 12)
  | lidx (rd : SReg) (level : BitVec 2)
  | stop
deriving DecidableEq, Repr

/-- An A-slot instruction (R134, Table 05-9). -/
inductive AInstr where
  | aadd (ad aa : AReg) (sb : SReg)
  | aaddi (ad aa : AReg) (imm : BitVec 13)
  | aidx (ad aa : AReg) (sb : SReg) (sh : BitVec 3)
  | amov (ad : AReg) (sb : SReg)
  | amovs (aa : AReg) (sb : SReg)
  | ld (op : LdOp) (aa : AReg) (sb : SReg) (imm : BitVec 13)
  | ald (ad aa : AReg) (imm : BitVec 13)
  | st (op : StOp) (aa : AReg) (sb : SReg) (imm : BitVec 13)
  | ast (ad aa : AReg) (imm : BitVec 13)
  | stw (ad : StReg) (fld : BitVec 4) (sb : SReg)
  | stld (ad : StReg) (aa : AReg) (n : BitVec 4) (imm : BitVec 13)
deriving DecidableEq, Repr

/-- The common fields of a G, M or X instruction (Table 05-5). -/
structure EngSlot where
  op : BitVec 6
  wctr : ScReg
  wcond : BitVec 2
  wreg : Bool
  wval : BitVec 8
  sctr : ScReg
  sinc : BitVec 3
  opnd : BitVec 16
deriving DecidableEq, Repr

/-- A decoded bundle: its slots and its length in bytes (R125). -/
structure Bundle where
  s : Option SInstr
  a : Option AInstr
  g : Option EngSlot
  m : Option EngSlot
  v : Option (BitVec 7 × BitVec 25)
  x : Option EngSlot
  len : Nat
deriving DecidableEq, Repr

/-- R-format opcodes 0x01 to 0x11. -/
def aluOps : List AluOp :=
  [.add, .sub, .and, .or, .xor, .shl, .shr, .sra, .min, .max, .slt, .sltu, .seq, .mul, .mulh, .div, .mod]

/-- The S-slot instruction of a word; `none` is ILLEGAL_OP (R128, R138). -/
def decodeS (w : BitVec 32) : Option SInstr :=
  let op := (w.extractLsb' 26 6).toNat
  let rd := w.extractLsb' 21 5
  let ra := w.extractLsb' 16 5
  let rb := w.extractLsb' 11 5
  let imm := w.extractLsb' 0 16
  let ctr := w.extractLsb' 20 6
  let cond := w.extractLsb' 18 2
  if 1 ≤ op ∧ op ≤ 0x11 then (aluOps[op - 1]?).map fun o => .alu o rd ra rb
  else match op with
    | 0x17 => some (.li rd imm)
    | 0x18 => some (.alui .addi rd ra imm)
    | 0x19 => some (.alui .andi rd ra imm)
    | 0x1A => some (.alui .ori rd ra imm)
    | 0x1B => some (.alui .xori rd ra imm)
    | 0x1C => some (.alui .shli rd ra imm)
    | 0x1D => some (.alui .shri rd ra imm)
    | 0x1E => some (.alui .srai rd ra imm)
    | 0x1F => some (.lis rd imm)
    | 0x20 => some (.br .beq rd ra imm)
    | 0x21 => some (.br .bne rd ra imm)
    | 0x22 => some (.br .blt rd ra imm)
    | 0x23 => some (.br .bge rd ra imm)
    | 0x24 => some (.br .bltu rd ra imm)
    | 0x25 => some (.br .bgeu rd ra imm)
    | 0x26 => some (.jmp (w.extractLsb' 0 26))
    | 0x27 => some (.jr rd)
    | 0x28 => if cond = 3 then none else some (.waitc ctr cond (w.getLsbD 17) imm)
    | 0x29 => some (.setc ctr (w.extractLsb' 0 5))
    | 0x2A => some (.addc ctr imm)
    | 0x2B => some (.rdc ctr (w.extractLsb' 0 5))
    | 0x30 => some (.loop rd (w.extractLsb' 0 12))
    | 0x31 => some (.loopi (w.extractLsb' 12 14) (w.extractLsb' 0 12))
    | 0x32 => some (.lidx rd (w.extractLsb' 0 2))
    | 0x3F => some .stop
    | _ => none

/-- The A-slot instruction of a word; `none` is ILLEGAL_OP (R128, R140). -/
def decodeA (w : BitVec 32) : Option AInstr :=
  let op := (w.extractLsb' 26 6).toNat
  let ad := w.extractLsb' 22 4
  let aa := w.extractLsb' 18 4
  let sb := w.extractLsb' 13 5
  let imm := w.extractLsb' 0 13
  match op with
  | 0x01 => some (.aadd ad aa sb)
  | 0x02 => some (.aaddi ad aa imm)
  | 0x03 => some (.aidx ad aa sb (w.extractLsb' 0 3))
  | 0x04 => some (.amov ad sb)
  | 0x05 => some (.amovs aa sb)
  | 0x08 => some (.ld .ld64 aa sb imm)
  | 0x09 => some (.ld .ld32s aa sb imm)
  | 0x0A => some (.ld .ld32u aa sb imm)
  | 0x0B => some (.ld .ld16s aa sb imm)
  | 0x0C => some (.ld .ld16u aa sb imm)
  | 0x0D => some (.ld .ld8s aa sb imm)
  | 0x0E => some (.ld .ld8u aa sb imm)
  | 0x0F => some (.ald ad aa imm)
  | 0x10 => some (.st .st64 aa sb imm)
  | 0x11 => some (.st .st32 aa sb imm)
  | 0x12 => some (.st .st16 aa sb imm)
  | 0x13 => some (.st .st8 aa sb imm)
  | 0x14 => some (.ast ad aa imm)
  | 0x18 => if 9 ≤ aa.toNat then none else some (.stw ad aa sb)
  | 0x19 =>
    let n := w.extractLsb' 13 4
    if 15 < ad.toNat + n.toNat then none else some (.stld ad aa n imm)
  | _ => none

/-- The fields of a 48-bit slot (Table 05-5). -/
def engSlotOf (w : BitVec 48) : EngSlot :=
  { op := w.extractLsb' 42 6, wctr := w.extractLsb' 36 6, wcond := w.extractLsb' 34 2, wreg := w.getLsbD 33,
    wval := w.extractLsb' 25 8, sctr := w.extractLsb' 19 6, sinc := w.extractLsb' 16 3, opnd := w.extractLsb' 0 16 }

/-- MODE field of a G slot. -/
def EngSlot.gMode (e : EngSlot) : BitVec 4 := e.opnd.extractLsb' 0 4
/-- MODE field of an M slot. -/
def EngSlot.mMode (e : EngSlot) : BitVec 3 := e.opnd.extractLsb' 0 3
/-- TGT field of an X slot. -/
def EngSlot.tgt (e : EngSlot) : BitVec 4 := e.opnd.extractLsb' 12 4

/-- G opcodes and the MODE values their chapters define (Table 06-3, R171, R324, R376). -/
def gSlotOk (e : EngSlot) : Bool :=
  let m := e.gMode.toNat
  e.wcond != 3 && match e.op.toNat with
    | 1 | 4 | 5 | 6 => m == 0 || m == 8
    | 2 => m == 0 || m == 1 || m == 2 || m == 3 || m == 8 || m == 9 || m == 10 || m == 11
    | 3 => decide (m ≤ 3)
    | 7 => true
    | 8 => m == 0 || m == 8
    | 9 => decide (m ≤ 3)
    | _ => false

/-- M opcodes; MODE is defined for MPASS only (R192). -/
def mSlotOk (e : EngSlot) : Bool :=
  e.wcond != 3 && match e.op.toNat with
    | 1 => decide (e.mMode.toNat ≤ 1)
    | 2 | 3 | 4 | 5 | 6 => true
    | _ => false

/-- X opcodes with a TGT that fits them (R137, R141). -/
def xSlotOk (e : EngSlot) : Bool :=
  e.wcond != 3 && match e.op.toNat with
    | 1 | 3 | 4 => e.tgt == 0
    | 2 => decide (1 ≤ e.tgt.toNat) && decide (e.tgt.toNat ≤ 8)
    | _ => false

/-- QSEL of a V instruction. -/
def vQsel (bits : BitVec 25) : BitVec 3 := bits.extractLsb' 10 3

/-- V opcodes with the field values that Tables 05-4 and 05-11 give a meaning. -/
def vSlotOk (op : BitVec 7) (bits : BitVec 25) : Bool :=
  let o := op.toNat
  let q := (vQsel bits).toNat
  if (1 ≤ o ∧ o ≤ 0x0D) ∨ (0x10 ≤ o ∧ o ≤ 0x12) ∨ o = 0x18 ∨ o = 0x19 ∨ (0x20 ≤ o ∧ o ≤ 0x22) ∨ o = 0x28 ∨ o = 0x29 ∨
      o = 0x58 ∨ o = 0x60 then decide (q ≤ 4)
  else if o = 0x2A ∨ o = 0x30 ∨ o = 0x31 ∨ (0x38 ≤ o ∧ o ≤ 0x3B) ∨ o = 0x48 then q == 4
  else if o = 0x40 ∨ o = 0x41 then decide (q ≤ 4) && bits.extractLsb' 15 2 != 3
  else if o = 0x50 then bits.extractLsb' 17 2 != 3
  else o == 0x51

/-- Bytes of a bundle whose header is `h` (R125). -/
def bundleLen (h : Nat) : Nat :=
  2 + 4 * (bnat (bit h 0) + bnat (bit h 1) + bnat (bit h 4)) + 6 * (bnat (bit h 2) + bnat (bit h 3) + bnat (bit h 5))

/-- Takes one slot of `n` bytes when present. -/
def takeSlot (present : Bool) (n : Nat) (bytes : List Byte) : Option Nat × List Byte :=
  if present then (some (natOfBytes (bytes.take n)), bytes.drop n) else (none, bytes)

/-- The slot words of a bundle in the order S, A, G, M, V, X (R125). -/
structure SlotWords where
  s : Option Nat
  a : Option Nat
  g : Option Nat
  m : Option Nat
  v : Option Nat
  x : Option Nat
deriving DecidableEq, Repr

/-- Splits a bundle's bytes into its slots (R125). -/
def splitBundle (bytes : List Byte) : SlotWords :=
  let h := natOfBytes (bytes.take 2)
  let p1 := takeSlot (bit h 0) 4 (bytes.drop 2)
  let p2 := takeSlot (bit h 1) 4 p1.2
  let p3 := takeSlot (bit h 2) 6 p2.2
  let p4 := takeSlot (bit h 3) 6 p3.2
  let p5 := takeSlot (bit h 4) 4 p4.2
  let p6 := takeSlot (bit h 5) 6 p5.2
  ⟨p1.1, p2.1, p3.1, p4.1, p5.1, p6.1⟩

/-- Decodes an optional slot: absent is fine, present must decode. -/
def optSlot {α : Type} (w : Option Nat) (f : Nat → Option α) : Option (Option α) := match w with
  | none => some none
  | some n => (f n).map some

/-- Decodes a 48-bit slot under its check. -/
def decodeEng (ok : EngSlot → Bool) (n : Nat) : Option EngSlot :=
  let e := engSlotOf (BitVec.ofNat 48 n)
  if ok e then some e else none

/-- Decodes a V slot (R135). -/
def decodeV (n : Nat) : Option (BitVec 7 × BitVec 25) :=
  let op := BitVec.ofNat 7 (n / 2 ^ 25)
  let bits := BitVec.ofNat 25 n
  if vSlotOk op bits then some (op, bits) else none

/-- The bundle that bytes hold; `none` is ILLEGAL_OP (R128). -/
def decodeBundle (bytes : List Byte) : Option Bundle := do
  let w := splitBundle bytes
  let s ← optSlot w.s fun n => decodeS (BitVec.ofNat 32 n)
  let a ← optSlot w.a fun n => decodeA (BitVec.ofNat 32 n)
  let g ← optSlot w.g (decodeEng gSlotOk)
  let m ← optSlot w.m (decodeEng mSlotOk)
  let v ← optSlot w.v decodeV
  let x ← optSlot w.x (decodeEng xSlotOk)
  pure { s := s, a := a, g := g, m := m, v := v, x := x, len := bundleLen (natOfBytes (bytes.take 2)) }

/-- Fields of a VR word (Table 05-4). -/
def VR.ofBits (b : BitVec 25) : VR :=
  ⟨b.extractLsb' 21 4, b.extractLsb' 17 4, b.extractLsb' 13 4, b.extractLsb' 10 3, b.extractLsb' 0 10⟩
/-- Fields of a VM word (Table 05-4). -/
def VM.ofBits (b : BitVec 25) : VM :=
  ⟨b.extractLsb' 21 4, b.extractLsb' 17 4, b.extractLsb' 15 2, b.extractLsb' 10 3, b.extractLsb' 0 10⟩
/-- Fields of a VC word (Table 05-4). -/
def VC.ofBits (b : BitVec 25) : VC := ⟨b.extractLsb' 19 6, b.extractLsb' 17 2, b.extractLsb' 0 16⟩

end Sys2Proof.Machine
end

