-- ==== Sys2Proof/Machine/Flags.lean ====
section
/-! DEFINITION. Sticky and first-fault registers of a core: CORE_HAZARD, CORE_VSTAT, CORE_GSTAT, CORE_MILLSTAT (R163,
R231, R181, R189, R198). -/

namespace Sys2Proof.Machine

/-- CORE_HAZARD (Table 05-14). -/
def hazardWord (kind vctx thread reg task : Nat) : W64 :=
  BitVec.ofNat 64 (2 ^ 63 + kind * 2 ^ 61 + vctx * 2 ^ 56 + thread * 2 ^ 49 + reg * 2 ^ 43 + task)

/-- Records the first hazard since the registers were cleared (R163). -/
def CoreRegs.noteHazard (r : CoreRegs) (kind vctx thread reg task : Nat) (addr : W64) : CoreRegs :=
  if r.hazard.getLsbD 63 then r
  else { r with hazard := hazardWord kind vctx thread reg task, hazardAddr := BitVec.ofNat 64 (addr.toNat % 2 ^ 52) }

/-- Records the first vector fault since the last reset (R231). -/
def CoreRegs.noteVector (r : CoreRegs) (vctx fault op task : Nat) : CoreRegs :=
  if r.vValid then r
  else { r with vValid := true, vVctx := vctx, vFault := fault, vOp := op, vTask := task }

/-- Counts missed indices (R181). -/
def CoreRegs.noteRange (r : CoreRegs) (n : Nat) : CoreRegs :=
  if n = 0 then r else { r with rangeCount := satAdd 24 r.rangeCount n, rangeSticky := true }

/-- Counts a STRUCT_VIOLATION (R189). -/
def CoreRegs.noteStruct (r : CoreRegs) (n : Nat) : CoreRegs :=
  if n = 0 then r else { r with structCount := satAdd 24 r.structCount n, structSticky := true }

/-- Records a residue mismatch (R198). -/
def CoreRegs.noteResidue (r : CoreRegs) (kind : Nat) (bank : Bool) (task : Nat) : CoreRegs :=
  { r with residueCount := satAdd 16 r.residueCount 1, residueKind := kind, residueBank := bnat bank,
           residueValid := true, residueTask := task }

/-- Number of a register in CORE_HAZARD.REG (Table 05-14). -/
def RegRef.hazardNo : RegRef → Nat
  | .s r => r.toNat
  | .a r => 32 + r.toNat

end Sys2Proof.Machine
end

