-- ==== Sys2Proof/Machine/Scalar.lean ====
section
/-! DEFINITION. What S- and A-slot instructions compute, and the issue of a bundle: registers in flight, waits, queues,
loops and descriptor writes (spec/04 R88-R100, spec/05 R124-R163). -/

namespace Sys2Proof.Machine

/-! ## Results (R138-R140) -/

/-- R-format results (Table 05-8, R139). -/
def aluResult (op : AluOp) (a b : W64) : W64 :=
  match op with
  | .add => a + b
  | .sub => a - b
  | .and => a &&& b
  | .or => a ||| b
  | .xor => a ^^^ b
  | .shl => a <<< (b.toNat % 64)
  | .shr => a >>> (b.toNat % 64)
  | .sra => a.sshiftRight (b.toNat % 64)
  | .min => if a.toInt ≤ b.toInt then a else b
  | .max => if a.toInt ≤ b.toInt then b else a
  | .slt => if a.toInt < b.toInt then 1 else 0
  | .sltu => if a.toNat < b.toNat then 1 else 0
  | .seq => if a = b then 1 else 0
  | .mul => a * b
  | .mulh => BitVec.ofInt 64 (a.toInt * b.toInt / 2 ^ 64)
  | .div => if b = 0 then 0 else BitVec.ofInt 64 (a.toInt.fdiv b.toInt)
  | .mod => if b = 0 then a else BitVec.ofInt 64 (a.toInt.fmod b.toInt)

/-- Latency in bundles of an R-format instruction (Table 05-12). -/
def aluLatency : AluOp → Nat
  | .mul => 3
  | .mulh => 4
  | .div | .mod => 18
  | _ => 1

/-- I-format results (Table 05-8). -/
def aluIResult (op : AluIOp) (a : W64) (imm : BitVec 16) : W64 :=
  match op with
  | .addi => a + imm.signExtend 64
  | .andi => a &&& imm.zeroExtend 64
  | .ori => a ||| imm.zeroExtend 64
  | .xori => a ^^^ imm.zeroExtend 64
  | .shli => a <<< (imm.toNat % 64)
  | .shri => a >>> (imm.toNat % 64)
  | .srai => a.sshiftRight (imm.toNat % 64)

/-- Branch conditions (Table 05-8). -/
def brTaken (op : BrOp) (a b : W64) : Bool :=
  match op with
  | .beq => a == b
  | .bne => a != b
  | .blt => decide (a.toInt < b.toInt)
  | .bge => decide (b.toInt ≤ a.toInt)
  | .bltu => decide (a.toNat < b.toNat)
  | .bgeu => decide (b.toNat ≤ a.toNat)

/-- Bytes that a load takes. -/
def LdOp.bytes : LdOp → Nat
  | .ld64 => 8 | .ld32s | .ld32u => 4 | .ld16s | .ld16u => 2 | .ld8s | .ld8u => 1

/-- The value of a load from its bytes (Table 05-9). -/
def LdOp.extend (op : LdOp) (v : Nat) : W64 :=
  match op with
  | .ld64 => BitVec.ofNat 64 v
  | .ld32s => (BitVec.ofNat 32 v).signExtend 64
  | .ld32u => (BitVec.ofNat 32 v).zeroExtend 64
  | .ld16s => (BitVec.ofNat 16 v).signExtend 64
  | .ld16u => (BitVec.ofNat 16 v).zeroExtend 64
  | .ld8s => (BitVec.ofNat 8 v).signExtend 64
  | .ld8u => (BitVec.ofNat 8 v).zeroExtend 64

/-- Bytes that a store writes. -/
def StOp.bytes : StOp → Nat
  | .st64 => 8 | .st32 => 4 | .st16 => 2 | .st8 => 1

/-- Iterations completed in an open level, 0 where it is not open (LIDX). -/
def Thread.lidx (th : Thread) (level : BitVec 2) : W64 :=
  match th.loops[level.toNat]? with
  | some l => BitVec.ofNat 64 (l.count - l.left)
  | none => 0

/-- The scalar result of an S-slot instruction and its latency (Tables 05-8, 05-12). -/
def sResult (k : Core) (th : Thread) : SInstr → Option PendReg
  | .alu op rd ra rb => some ⟨.s rd, aluResult op (th.getS ra) (th.getS rb), aluLatency op⟩
  | .alui op rd ra imm => some ⟨.s rd, aluIResult op (th.getS ra) imm, 1⟩
  | .li rd imm => some ⟨.s rd, imm.signExtend 64, 1⟩
  | .lis rd imm => some ⟨.s rd, (th.getS rd <<< 16) ||| imm.zeroExtend 64, 1⟩
  | .rdc ctr r => some ⟨.s r, (k.counter (th.task.ctr ctr)).zeroExtend 64, 2⟩
  | .lidx rd level => some ⟨.s rd, th.lidx level, 1⟩
  | _ => none

/-- The counter change of SETC and ADDC, in the issue cycle (R145). -/
def sCounter (th : Thread) (k : Core) : SInstr → Core
  | .setc ctr r => k.setCounter (th.task.ctr ctr) ((th.getS r).truncate 16)
  | .addc ctr v => k.addCounter (th.task.ctr ctr) v
  | _ => k

/-- The local-store offset of an A-slot access: a[AA] + IMM13 modulo 2^64 (R140). -/
def aOffset (th : Thread) (aa : AReg) (imm : BitVec 13) : Nat := (th.getA aa + imm.signExtend 64).toNat

/-- The local-store range that an A-slot instruction reaches: task offset and bytes (Table 05-9). -/
def aRange (th : Thread) : AInstr → Option (Nat × Nat)
  | .ld op aa _ imm => some (aOffset th aa imm, op.bytes)
  | .ald _ aa imm => some (aOffset th aa imm, 8)
  | .st op aa _ imm => some (aOffset th aa imm, op.bytes)
  | .ast _ aa imm => some (aOffset th aa imm, 8)
  | .stld _ aa n imm => some (aOffset th aa imm, 32 * (n.toNat + 1))
  | _ => none

/-- A descriptor of its 32 bytes (Table 04-2). -/
def Desc.ofBytes (b : List Byte) : Desc :=
  let n (off len : Nat) : Nat := natOfBytes ((b.drop off).take len)
  { base := BitVec.ofNat 64 (n 0 8), stride0 := BitVec.ofNat 32 (n 8 4), stride1 := BitVec.ofNat 32 (n 12 4),
    stride2 := BitVec.ofNat 32 (n 16 4), count0 := BitVec.ofNat 16 (n 20 2), count1 := BitVec.ofNat 16 (n 22 2),
    count2 := BitVec.ofNat 16 (n 24 2), size := BitVec.ofNat 16 (n 26 2), space := BitVec.ofNat 8 (n 28 1) }

/-- The 32 bytes of a descriptor (Table 04-2). -/
def Desc.toBytes (d : Desc) : List Byte :=
  bytesOfNat 8 d.base.toNat ++ bytesOfNat 4 d.stride0.toNat ++ bytesOfNat 4 d.stride1.toNat ++
    bytesOfNat 4 d.stride2.toNat ++ bytesOfNat 2 d.count0.toNat ++ bytesOfNat 2 d.count1.toNat ++
    bytesOfNat 2 d.count2.toNat ++ bytesOfNat 2 d.size.toNat ++ [d.space, 0, 0, 0]

/-- STW: the field that AA names takes the low bytes of a value (R140). -/
def Desc.setField (d : Desc) (aa : BitVec 4) (v : W64) : Desc :=
  match aa.toNat with
  | 0 => { d with base := v }
  | 1 => { d with stride0 := v.truncate 32 }
  | 2 => { d with stride1 := v.truncate 32 }
  | 3 => { d with stride2 := v.truncate 32 }
  | 4 => { d with count0 := v.truncate 16 }
  | 5 => { d with count1 := v.truncate 16 }
  | 6 => { d with count2 := v.truncate 16 }
  | 7 => { d with size := v.truncate 16 }
  | 8 => { d with space := v.truncate 8 }
  | _ => d

/-- The register result of an A-slot instruction; `m` are the local-store bytes of its range (Table 05-9). -/
def aResult (th : Thread) (m : List Byte) : AInstr → Option PendReg
  | .aadd ad aa sb => some ⟨.a ad, th.getA aa + th.getS sb, 1⟩
  | .aaddi ad aa imm => some ⟨.a ad, th.getA aa + imm.signExtend 64, 1⟩
  | .aidx ad aa sb sh => some ⟨.a ad, th.getA aa + (th.getS sb <<< sh.toNat), 2⟩
  | .amov ad sb => some ⟨.a ad, th.getS sb, 1⟩
  | .amovs aa sb => some ⟨.s sb, th.getA aa, 1⟩
  | .ld op _ sb _ => some ⟨.s sb, op.extend (natOfBytes m), 4⟩
  | .ald ad _ _ => some ⟨.a ad, BitVec.ofNat 64 (natOfBytes m), 4⟩
  | _ => none

/-- The bytes that an A-slot store writes (Table 05-9). -/
def aStore (th : Thread) : AInstr → Option (List Byte)
  | .st op _ sb _ => some (bytesOfNat op.bytes (th.getS sb).toNat)
  | .ast ad _ _ => some (bytesOfNat 8 (th.getA ad).toNat)
  | _ => none

/-- The descriptor write of STW or STLD (R98, R140). -/
def aDescWrite (th : Thread) (m : List Byte) : AInstr → Option DescWrite
  | .stw ad fld sb => some (.field (th.task.stReg ad) fld (th.getS sb))
  | .stld ad _ n _ => some (.images ad ((List.range (n.toNat + 1)).map fun i => Desc.ofBytes (m.drop (32 * i))))
  | _ => none

/-! ## Registers that a bundle reads (R162) -/

/-- Registers an S-slot instruction reads. A WAITC with COND ALWAYS waits on no value, so its register is not read (R144;
DEDUCED, log 130). -/
def sReads : SInstr → List RegRef
  | .alu _ _ ra rb => [.s ra, .s rb]
  | .alui _ _ ra _ => [.s ra]
  | .lis rd _ => [.s rd]
  | .br _ ra rb _ => [.s ra, .s rb]
  | .jr ra => [.s ra]
  | .waitc _ cond reg v => if reg && cond != 0 then [.s (v.truncate 5)] else []
  | .setc _ r => [.s r]
  | .loop rc _ => [.s rc]
  | _ => []

/-- Registers an A-slot instruction reads. -/
def aReads : AInstr → List RegRef
  | .aadd _ aa sb => [.a aa, .s sb]
  | .aaddi _ aa _ => [.a aa]
  | .aidx _ aa sb _ => [.a aa, .s sb]
  | .amov _ sb => [.s sb]
  | .amovs aa _ => [.a aa]
  | .ld _ aa _ _ => [.a aa]
  | .ald _ aa _ => [.a aa]
  | .st _ aa sb _ => [.a aa, .s sb]
  | .ast ad aa _ => [.a aa, .a ad]
  | .stw _ _ sb => [.s sb]
  | .stld _ aa _ _ => [.a aa]

/-- AP register of a G, M or X slot (Table 05-6). -/
def EngSlot.ap (e : EngSlot) (slot : Slot) : AReg :=
  match slot with
  | .g => e.opnd.extractLsb' 4 4
  | .m => e.opnd.extractLsb' 3 4
  | .x => e.opnd.extractLsb' 0 4

/-- Whether the opcode uses AP (Table 05-10). -/
def EngSlot.usesAp (e : EngSlot) (slot : Slot) : Bool :=
  match slot with
  | .g => true
  | .m => e.op == 1 || e.op == 3 || e.op == 4
  | .x => e.op != 1

/-- Registers that a G, M or X slot reads. -/
def engReads (slot : Slot) (e : EngSlot) : List RegRef :=
  (if e.usesAp slot then [RegRef.a (e.ap slot)] else []) ++
    (if e.wreg && e.wcond != 0 then [RegRef.s (e.wval.truncate 5)] else [])

/-- Registers that the whole bundle reads; VLD and VST capture their address register (R129, R143). -/
def Bundle.reads (b : Bundle) : List RegRef :=
  (b.s.elim [] sReads) ++ (b.a.elim [] aReads) ++ (b.g.elim [] (engReads .g)) ++ (b.m.elim [] (engReads .m)) ++
    (b.v.elim [] fun v => if v.1 == 0x40 || v.1 == 0x41 then [RegRef.a (VM.ofBits v.2).ar] else []) ++
    (b.x.elim [] (engReads .x))

/-! ## Queues (R16, R105, R132) -/

/-- Engine queues of an enable set (R105). -/
def queueCount (units : Nat) : Nat :=
  4 + bnat (bit units 0) + bnat (bit units 1) + 2 * bnat (bit units 2) + 2 * bnat (bit units 3) + 2 * bnat (bit units 4)

/-- Command slots of each queue (R16). -/
def queueDepth (units : Nat) : Nat := 1536 / queueCount units / 16 * 16

/-- The enable bit that a TGT needs (Table 05-7). -/
def tgtUnit (tgt : Nat) : Nat :=
  match tgt with
  | 1 => 0 | 2 => 1 | 3 => 2 | 4 => 2 | 5 => 3 | 6 => 3 | _ => 4

/-- Queue number of a TGT under an enable set; `none` is UNIT_ABSENT (R105, R132). -/
def tgtQueue (units tgt : Nat) : Option Nat :=
  if tgt = 0 then some 3
  else if bit units (tgtUnit tgt) then
    let below := (List.range (tgtUnit tgt)).foldl
      (fun n u => n + (if bit units u then (if u ≤ 1 then 1 else 2) else 0)) 4
    some (below + (if tgt = 4 ∨ tgt = 6 ∨ tgt = 8 then 1 else 0))
  else none

/-- Whether a queue can take one more command (R93). -/
def Core.room (k : Core) (units q : Nat) : Bool := decide ((k.queue q).waiting.length < queueDepth units)

/-- The descriptors that a queued command names (Table 05-10, R98). -/
def EngCmd.names (c : EngCmd) : List StReg :=
  match c.slot with
  | .g => if c.op = 7 then [c.d2] else [c.d1, c.d2]
  | .m => if c.op = 1 then [c.d1, c.d2] else if c.op = 5 ∨ c.op = 6 then [c.d1] else []
  | .x => if c.op = 3 then [c.d1] else [c.d1, c.d2]

/-- The command that a G, M or X slot makes (R136, R144): the wait value, parameter word and translated resources are
fixed at issue. -/
def engCmdOf (th : Thread) (slot : Slot) (e : EngSlot) (seq : Nat) : EngCmd :=
  let t := th.task
  let value : BitVec 16 := if e.wreg then (th.getS (e.wval.truncate 5)).truncate 16 else e.wval.zeroExtend 16
  let d1 : StReg := match slot with
    | .g => e.opnd.extractLsb' 12 4
    | .m => e.opnd.extractLsb' 11 4
    | .x => e.opnd.extractLsb' 8 4
  let d2 : StReg := match slot with
    | .g => e.opnd.extractLsb' 8 4
    | .m => e.opnd.extractLsb' 7 4
    | .x => e.opnd.extractLsb' 4 4
  { slot := slot, op := e.op, tgt := if slot = .x then e.tgt else 0, wait := ⟨e.wcond, t.ctr e.wctr, value⟩,
    sctr := t.ctr e.sctr, sinc := e.sinc, d1 := t.stReg d1, d2 := t.stReg d2,
    param := if e.usesAp slot then th.getA (e.ap slot) else 0,
    mode := match slot with
      | .g => e.gMode
      | .m => e.mMode.zeroExtend 4
      | .x => 0,
    bank := if slot = .m then t.bankOf (e.opnd.getLsbD 15) else false, task := t, seq := seq }

/-- Places a command at the tail of its queue. Into an empty queue it writes the word whole that an error marks (R519; DESIGN CHOICE, log
122). -/
def Core.enqueue (k : Core) (q : Nat) (c : QCmd) : Core :=
  let x := k.queue q
  ({ k with errors := if x.waiting.isEmpty then { k.errors with cmd := k.errors.cmd.filter fun n => n != q } else k.errors } : Core).setQueue q { x with waiting := x.waiting ++ [c] }

/-- Queues that a bundle needs. -/
def Bundle.queues (units : Nat) (b : Bundle) : List Nat :=
  (if b.g.isSome then [0] else []) ++ (if b.m.isSome then [1] else []) ++ (if b.v.isSome then [2] else []) ++
    (match b.x with
      | some e => (tgtQueue units e.tgt.toNat).toList
      | none => [])

/-! ## Loops (R150-R155) -/

/-- End checks of a bundle at `addr` that completed without a taken branch; `next` is the sequential bundle (R153). -/
def endCheck (addr : W64) : List LoopLevel → W64 → List LoopLevel × W64
  | [], next => ([], next)
  | l :: rest, next =>
    if l.stop = addr then
      if 1 < l.left then ({ l with left := l.left - 1 } :: rest, l.start)
      else endCheck addr rest next
    else (l :: rest, next)

/-- Levels that stay open at a taken branch: those whose range holds the target (R154). -/
def keepLoops (target : W64) (ls : List LoopLevel) : List LoopLevel :=
  ls.filter fun l => decide (l.start.toNat ≤ target.toNat) && decide (target.toNat ≤ l.stop.toNat)

/-- The loop that a bundle opens: count and end address (R150). -/
def Bundle.loopOf (b : Bundle) (th : Thread) : Option (Nat × W64) :=
  match b.s with
  | some (.loop rc stop) => some ((th.getS rc).toNat % 2 ^ 32, th.pc + 2 * stop.zeroExtend 64)
  | some (.loopi count stop) => some (count.toNat, th.pc + 2 * stop.zeroExtend 64)
  | _ => none

/-- Whether LOOP or LOOPI raises LOOP_FAULT (R150, R152). -/
def loopFault (b : Bundle) (th : Thread) : Bool :=
  match b.loopOf th with
  | none => false
  | some (c, e) =>
    decide (e.toNat < th.pc.toNat + b.len) ||
      (match th.loops with
        | l :: _ => decide (l.stop.toNat < e.toNat)
        | [] => false) ||
      (decide (1 ≤ c) && decide (4 ≤ th.loops.length))

/-- Where the thread goes after a bundle, and its loop levels; `lenAt` gives the length of the bundle at an address where
the code buffer holds it. `none`: the length is not known yet (R151). -/
def nextBundle (b : Bundle) (th : Thread) (lenAt : W64 → Option Nat) : Option (List LoopLevel × W64) :=
  let seqNext := th.pc + BitVec.ofNat 64 b.len
  let branch (off : W64) : List LoopLevel × W64 :=
    let target := th.pc + 2 * off
    (keepLoops target th.loops, target)
  match b.s with
  | some (.br op ra rb off) =>
    if brTaken op (th.getS ra) (th.getS rb) then some (branch (off.signExtend 64))
    else some (endCheck th.pc th.loops seqNext)
  | some (.jmp off) => some (branch (off.signExtend 64))
  | some (.jr ra) =>
    let target := th.getS ra &&& ~~~1#64
    some (keepLoops target th.loops, target)
  | _ =>
    match b.loopOf th with
    | some (0, e) =>
      match lenAt e with
      | some n => some (endCheck e th.loops (e + BitVec.ofNat 64 n))
      | none => none
    | some (c, e) => some (⟨seqNext, e, c, c⟩ :: th.loops, seqNext)
    | none => some (endCheck th.pc th.loops seqNext)

/-! ## Issue -/

/-- One bundle's passing: results in flight come one bundle nearer, and those that arrive become visible in issue order
(R92, R160). -/
def Thread.age (th : Thread) (new : List PendReg) : Thread :=
  let all := (th.pend ++ new).map fun p => { p with left := p.left - 1 }
  let th1 := (all.filter fun p => p.left == 0).foldl (fun t p => t.setReg p.dest p.value) th
  { th1 with pend := all.filter fun p => p.left != 0 }

/-- The hazard that audit mode finds in a bundle: its KIND and register (R162). Of several, a read comes before two results at
once, and slots in their order (DESIGN CHOICE, log 131). -/
def bundleHazard (b : Bundle) (th : Thread) (new : List PendReg) : Option (Nat × RegRef) :=
  match b.reads.find? fun r => th.pend.any fun p => p.dest == r with
  | some r => some (0, r)
  | none =>
    match new.find? fun p => th.pend.any fun o => o.dest == p.dest && o.left == p.left with
    | some p => some (2, p.dest)
    | none =>
      match new with
      | [x, y] => if x.dest == y.dest && x.left == y.left then some (2, x.dest) else none
      | _ => none

/-- Why a bundle does not execute at its issue. -/
inductive IssueFault where
  | illegal | unit | loop | range | hazard (kind : Nat) (reg : RegRef)
deriving DecidableEq, Repr

/-- Local-store bytes that the A slot reaches. -/
def aBytes (k : Core) (th : Thread) (i : AInstr) : List Byte :=
  match aRange th i with
  | some (a, n) => match th.task.lsAddr a n with
    | some p => k.ls.readBytes p n
    | none => []
  | none => []

/-- The register results of a bundle, S before A (R129). -/
def bundleResults (k : Core) (th : Thread) (b : Bundle) : List PendReg :=
  (b.s.bind (sResult k th)).toList ++ (b.a.bind fun i => aResult th (aBytes k th i) i).toList

/-- Whether the A slot reaches the local store's limit (R94). -/
def rangeFault (b : Bundle) (th : Thread) : Bool :=
  match b.a with
  | none => false
  | some i => match aRange th i with
    | some (a, n) => (th.task.lsAddr a n).isNone
    | none => false

/-- A field of an S instruction that holds a value without meaning: COND 0b11 of WAITC (R128, R133). -/
def SInstr.illegal : SInstr → Bool
  | .waitc _ cond _ _ => cond == 3
  | _ => false

/-- The same for an A instruction: a field number of STW above 8, images of STLD beyond st15 (R128, R140). -/
def AInstr.illegal : AInstr → Bool
  | .stw _ fld _ => decide (8 < fld.toNat)
  | .stld ad _ n _ => decide (15 < ad.toNat + n.toNat)
  | _ => false

/-- A bundle that is ILLEGAL_OP: a V slot where none may stand, or a value without meaning (R128, R131). -/
def Bundle.illegal (b : Bundle) (th : Thread) : Bool :=
  (b.v.isSome && !(th.first && th.vctx.isSome)) || b.s.any SInstr.illegal || b.a.any AInstr.illegal

/-- The fault that keeps a bundle from executing (R128, R131, R132, R150, R152, R94, R162). Of several the first in this order is
raised, and a hazard is recorded only where no other fault is (DESIGN CHOICE, log 131). -/
def issueFault (s : State) (k : Core) (th : Thread) (b : Bundle) : Option IssueFault :=
  if b.illegal th then some .illegal
  else if (b.x.any fun e => (tgtQueue s.unitsEff e.tgt.toNat).isNone) then some .unit
  else if loopFault b th then some .loop
  else if rangeFault b th then some .range
  else if s.audit then
    match bundleHazard b th (bundleResults k th b) with
    | some (kind, r) => some (.hazard kind r)
    | none => none
  else none

/-- The code of an issue fault. -/
def IssueFault.code : IssueFault → Nat
  | .illegal => cIllegalOp
  | .unit => cUnitAbsent
  | .loop => cLoopFault
  | .range => cLsRange
  | .hazard _ _ => cTimingHazard

/-- A faulting bundle: no slot executes, the thread is not ready for the rest of the step, and the core fault is raised
(R128, R163; DEDUCED, log 18). VCTX of CORE_HAZARD is 0 (DESIGN CHOICE, log 168). -/
def faultBundle (c : CoreId) (t : ThreadId) (th : Thread) (f : IssueFault) (s : State) : State :=
  let s1 := s.modCore c fun k =>
    let k1 := k.setThread t { th with stopped := true }
    match f with
    | .hazard kind r =>
      { k1 with regs := k1.regs.noteHazard kind 0 t.toNat r.hazardNo th.task.taskId.toNat th.pc }
    | _ => k1
  raiseCore f.code c th.task.taskId s1

/-- Whether a WAITC of the bundle holds (R145). -/
def waitcHolds (k : Core) (th : Thread) (b : Bundle) : Bool :=
  match b.s with
  | some (.waitc ctr cond reg v) =>
    let value := if reg then (th.getS (v.truncate 5)).truncate 16 else v
    condHolds cond (k.counter (th.task.ctr ctr)) value
  | _ => true

/-- Whether the bundle's queues can all take their commands (R93). -/
def queuesReady (s : State) (k : Core) (b : Bundle) : Bool :=
  (b.queues s.unitsEff).all fun q => k.room s.unitsEff q

/-- Length of the bundle at an address, where the code buffer holds it or its header has been read (R127, R151). -/
def Core.lenAt (k : Core) (a : W64) : Option Nat :=
  match mapFind k.code a.toNat with
  | some bytes => some (bundleLen (natOfBytes (bytes.take 2)))
  | none => mapFind k.heads a.toNat

/-- The V command of a bundle (R129, R135, R163). -/
def vInstrOf (t : ThreadId) (th : Thread) (v : BitVec 7 × BitVec 25) : VInstr :=
  { op := v.1, bits := v.2,
    cap := { task := th.task, thread := t, addr := th.pc, s := th.s, a := th.a,
             tagged := th.pend.filterMap fun p => match p.dest with
               | .s r => some r.toNat
               | .a _ => none } }

/-- The commands of a bundle enter their queues in the order G, M, V, X (R125, R129). -/
def enqueueAll (units : Nat) (t : ThreadId) (th : Thread) (b : Bundle) (k : Core) : Core :=
  let k1 := match b.g with
    | some e => k.enqueue 0 (.eng (engCmdOf th .g e k.seq))
    | none => k
  let k2 := match b.m with
    | some e => k1.enqueue 1 (.eng (engCmdOf th .m e k.seq))
    | none => k1
  let k3 := match b.v, th.vctx with
    | some v, some c => k2.enqueue 2 (.vec c (vInstrOf t th v))
    | _, _ => k2
  let k4 := match b.x with
    | some e => match tgtQueue units e.tgt.toNat with
      | some q => k3.enqueue q (.eng (engCmdOf th .x e k.seq))
      | none => k3
    | none => k3
  { k4 with seq := k4.seq + 1 }

/-- The A slot's store to the local store (R140). -/
def storeBundle (th : Thread) (b : Bundle) (k : Core) : Core :=
  match b.a with
  | none => k
  | some i => match aRange th i, aStore th i with
    | some (a, n), some bytes => match th.task.lsAddr a n with
      | some p => { k with ls := k.ls.writeBytes p bytes, errors := k.errors.lsWritten p n }
      | none => k
    | _, _ => k

/-- END: the thread is free, and the task ends with its last thread (R90). -/
def endThread (t : ThreadId) (th : Thread) (k : Core) : Core :=
  { k with threads := mapErase k.threads t.toNat,
           tasks := k.tasks.map fun i =>
             if i.ctx.uid = th.task.uid then
               { i with live := i.live - 1, stage := if i.live ≤ 1 then .ended else i.stage }
             else i }

/-- A bundle's effect on its core, once it executes (R129): everything is read before anything is written. -/
def executeBundle (units : Nat) (t : ThreadId) (th : Thread) (b : Bundle) (loops : List LoopLevel) (next : W64)
    (k : Core) : Core :=
  let results := bundleResults k th b
  let held := (b.a.bind fun i => aDescWrite th (aBytes k th i) i).map fun w => HeldWrite.mk w (k.seq + 1)
  let k1 := storeBundle th b k
  let k2 := match b.s with
    | some i => sCounter th k1 i
    | none => k1
  let k3 := enqueueAll units t th b k2
  let k4 := { k3 with lastIssued := t.toNat }
  if b.s = some .stop then endThread t th { k4 with ended := k4.ended ++ (held.toList.map fun h => (t.toNat, (th.task, h))) }
  else k4.setThread t { (th.age results) with pc := next, loops := loops, held := held }

/-- A thread's bundle issues whole, or waits, or faults (R91, R93, R128): an illegal bundle faults at once, any other waits for
its counter and its queues before it meets a fault. A stopped module issues nothing (R468). -/
def issueBundle (c : CoreId) (t : ThreadId) (b : Bundle) (s : State) : State :=
  let k := s.core c
  match k.thread t with
  | none => s
  | some th =>
    if s.rec0.stopped || th.stopped || th.held.isSome then s
    else if !b.illegal th && !(waitcHolds k th b && queuesReady s k b) then s
    else match issueFault s k th b with
      | some f => faultBundle c t th f s
      | none =>
        match nextBundle b th k.lenAt with
        | none => s
        | some (loops, next) => s.setCore c (executeBundle s.unitsEff t th b loops next k)

/-- A bundle of one S slot: six bytes (R125; DEDUCED, log 3). -/
def oneS (i : SInstr) : Bundle := ⟨some i, none, none, none, none, none, 6⟩
/-- A bundle of one A slot: six bytes (R125; DEDUCED, log 3). -/
def oneA (i : AInstr) : Bundle := ⟨none, some i, none, none, none, none, 6⟩

/-! ## Whole bundles from memory (R91, R93, R127) -/

/-- Whether a thread is ready: the bundle at its pc stands in the code buffer, its waits hold, its queues have room, and the
length of a bundle that it skips is known (R91, R151). A bundle that is illegal is ready to fault. -/
def threadReady (s : State) (k : Core) (th : Thread) : Bool :=
  !th.stopped && th.held.isNone &&
    match mapFind k.code th.pc.toNat with
    | none => false
    | some bytes => match decodeBundle bytes with
      | none => true
      | some b => b.illegal th || (waitcHolds k th b && queuesReady s k b &&
          ((issueFault s k th b).isSome || (nextBundle b th k.lenAt).isSome))

/-- Whether the thread of that number holds a task and is ready (R91). -/
def readyAt (s : State) (k : Core) (n : Nat) : Bool :=
  match mapFind k.threads n with
  | some th => threadReady s k th
  | none => false

/-- Threads in issue order, starting after the one that issued last (R91). -/
def issueOrder (k : Core) : List Nat := (List.range 128).map fun i => (k.lastIssued + 1 + i) % 128

/-- BUNDLE_ISSUE: the first ready thread issues its bundle (R91). -/
def bundleIssue (c : CoreId) (s : State) : State :=
  let k := s.core c
  match (issueOrder k).find? (readyAt s k) with
  | none => s
  | some t =>
    let tid : ThreadId := BitVec.ofNat 7 t
    match k.thread tid with
    | none => s
    | some th => match (mapFind k.code th.pc.toNat).bind decodeBundle with
      | some b => issueBundle c tid b s
      | none => if s.rec0.stopped then s else faultBundle c tid th .illegal s

/-- The bundle addresses a thread may fetch: its pc, and the end of a loop it skips (R127, R151). -/
def fetchWanted (k : Core) (th : Thread) : List W64 :=
  th.pc :: match (mapFind k.code th.pc.toNat).bind decodeBundle with
    | some b => match b.loopOf th with
      | some (0, e) => [e]
      | _ => []
    | none => []

/-- Reads a bundle's bytes for a fetch: the header tells its length, and the access is the header and the slots it names
(R127). -/
def fetchBytes (a : Nat) : EM (List Byte) := do
  let w ← get
  let h ← vaRead a 2
  set w
  vaRead a (bundleLen (natOfBytes h))

/-- The charge of a read that goes to another module or to host memory (R513). -/
def ReadOut.charge (b : Bud) (r : ReadOut) : Bud :=
  match r.host with
  | some _ => { b with hostIn := b.hostIn - units64 r.len }
  | none => { b with pool := b.pool - units512 r.len }

/-- What an engine's waiting attempt leaves behind: the reads and queries it has sent, and the charges of these reads. -/
def keepRequests (s w : State) : State :=
  { s with tier := { s.tier with reads := w.tier.reads, queries := w.tier.queries },
           bud := (w.tier.reads.filter fun r => !s.tier.reads.contains r).foldl ReadOut.charge s.bud,
           fab := { s.fab with tagNext := w.fab.tagNext },
           outbox := s.outbox ++ ((w.outbox.drop s.outbox.length).filter fun m => match m with
             | .readReq _ _ _ _ _ _ _ | .hostRead _ _ | .dirQuery _ _ => true
             | _ => false) }

/-- Whether a fetch at that address serves the thread: the bundle at its pc, or the header of a bundle it skips (R127, R151). -/
def fetchNeeded (k : Core) (th : Thread) (addr : W64) : Bool :=
  (fetchWanted k th).contains addr && (mapFind k.code addr.toNat).isNone &&
    (addr == th.pc || (mapFind k.heads addr.toNat).isNone)

/-- What a fetch puts into the buffer: a whole bundle at the thread's pc, elsewhere the length that a header tells. -/
def Core.putFetched (k : Core) (th : Thread) (addr : W64) (bytes : List Byte) : Core :=
  if addr = th.pc then { k with code := mapPut k.code addr.toNat bytes }
  else { k with heads := mapPut k.heads addr.toNat (bundleLen (natOfBytes bytes)) }

/-- BUNDLE_FETCH: the bundle at the thread's pc enters the code buffer, and of a bundle that it skips only the header is read; a
translation fault is CODE_FAULT, a poisoned word MEM_UE (R89, R127, R151). -/
def bundleFetch (c : CoreId) (t : ThreadId) (addr : W64) (s : State) : State :=
  let k := s.core c
  match k.thread t with
  | none => s
  | some th =>
    if s.rec0.stopped || th.stopped || !fetchNeeded k th addr then s
    else
      match (if addr = th.pc then fetchBytes addr.toNat else vaRead addr.toNat 2).run
          (EWork.start s c (64 + t.toNat) th.task) with
      | .ok bytes w =>
        let s1 := w.s.modCore c fun k => k.putFetched th addr bytes
        { s1 with tier := { s1.tier.forget (.engine c (64 + t.toNat)) with
                    codePages := if s.run.active.loaded then (s1.tier.codePages ++
                      ((piecesOf addr.toNat bytes.length).map fun p => p.1 / pageBytes)).eraseDups else s1.tier.codePages } }
      | .error .wait w => keepRequests s w.s
      | .error (.fault code) w =>
        let s1 := w.s.modCore c fun k => k.setThread t { th with stopped := true }
        raiseCore (if code = cMemUe then cMemUe else cCodeFault) c th.task.taskId s1

end Sys2Proof.Machine
end

