-- ==== Sys2Proof/Machine/Engine.lean ====
section
/-! DEFINITION. Engine queues: starting the head command, retiring and signalling, V buffers, held descriptor writes,
gather lanes, and the work a core still owes (spec/04 R98-R110, spec/03 R49-R50, spec/05 R149, R520). -/

namespace Sys2Proof.Machine

/-! ## Work of a frame (R49, R50, R90) -/

/-- The task of a queued command. -/
def QCmd.task : QCmd → TaskCtx
  | .eng c => c.task
  | .vec _ v => v.cap.task

/-- Tasks whose commands or instructions are still unfinished on a core. -/
def Core.workTasks (k : Core) : List TaskCtx :=
  (k.threads.map fun t => t.2.task) ++
  (k.queues.flatMap fun q => q.2.waiting.map QCmd.task ++ q.2.run.toList.map fun r => r.cmd.task) ++
  (k.ctxs.flatMap fun x => x.2.buf.map (fun v => v.cap.task) ++ x.2.unret.map fun u => u.task) ++
  ((k.tasks.filter fun t => t.stage == .eligible || t.stage == .live).map fun t => t.ctx)

/-- Whether a core still owes work of the almanac frame whose first bell is `f` (R50). -/
def Core.owes (k : Core) (f : Nat) : Bool := k.workTasks.any fun t => t.frame == f

/-- Whether a core has any unfinished work. -/
def Core.busy (k : Core) : Bool := !k.workTasks.isEmpty

/-- ACLK cycles from the end of an almanac frame to now; 0 before its end (R50). -/
def State.slipNow (s : State) (f : OpenFrame) : Nat :=
  let stop := f.first + f.bells
  if s.bel.frame < stop then 0 else (s.bel.frame - stop) * 16384 + s.bel.cycle

/-- Notes that a command of frame `frame` on core `c` has retired: the last such cycle is the slip (R50). -/
def State.noteRetire (s : State) (c : CoreId) (frame : Nat) : State :=
  { s with run := { s.run with openFrames := s.run.openFrames.map fun f =>
      if f.first == frame && s.slipNow f != 0 then { f with slips := mapPut f.slips c.toNat (s.slipNow f) } else f } }

/-! ## Starting and retiring commands -/

/-- A collective step as the almanac gives it (Tables 09-8, 09-9), with its chunk's elements and its plan's leaves. -/
structure CollStep where
  kind : Nat
  fmt : Nat
  elemBytes : Nat
  op : Nat
  local_ : Bool
  recvLeft : Bool
  final : Bool
  peer : Nat
  chunk : Nat
  lo : Nat
  n : Nat
  addr : Nat
  aux : Nat
  elements : Nat
  leaves : Nat
deriving DecidableEq, Repr

/-- The step that an XCOLL names in a section of the active almanac; `none` where the index names none. -/
def collStepOf (a : AlmSlot) (sect coll step : Nat) : Option CollStep :=
  let cp := a.nat (a.sectionAt sect + 32) 8
  if cp = 0 ∨ a.nat cp 4 ≤ coll then none
  else
    let h := a.nat (cp + 8 + 8 * coll) 8
    if a.nat (h + 4) 2 ≤ step then none
    else
      let e := a.nat (h + 8) 8 + 32 * step
      let kind := a.nat h 1
      let pt := a.nat 72 8
      let plan := a.nat (pt + 8 + 8 * a.nat (h + 2) 2) 8
      let chunk := a.nat (e + 4) 2
      let fl := a.nat (e + 1) 1
      some { kind := kind, fmt := a.nat (h + 1) 1, elemBytes := a.nat (h + 16) 4, op := a.nat e 1, local_ := bit fl 0,
             recvLeft := bit fl 1, final := bit fl 2, peer := a.nat (e + 2) 2, chunk := chunk, lo := a.nat (e + 8) 4,
             n := a.nat (e + 12) 4, addr := a.nat (e + 16) 8, aux := a.nat (e + 24) 4,
             elements := if kind = 3 then 0 else a.nat (plan + 8 + 8 * chunk) 4,
             leaves := if kind = 3 then 0 else a.nat plan 4 }

/-- The section that a task of a core belongs to. -/
def Core.sectOf (k : Core) (t : TaskCtx) : Nat := ((k.tasks.find? fun i => i.ctx.uid == t.uid).map TaskInst.sect).getD 0

/-- The collective step that an XCOLL command names. -/
def State.collOf (s : State) (k : Core) (t : TaskCtx) (param : W64) : Option CollStep :=
  collStepOf s.run.active (k.sectOf t) (field param.toNat 63 48) (field param.toNat 47 32)

/-- The module to which a command of the transfer engine sends, if any: XSEND, and the sending steps of XCOLL (R289, R293). -/
def State.sendsTo (s : State) (k : Core) (c : EngCmd) : Option Nat :=
  if c.slot = .x ∧ c.op = 3 then some (c.param.toNat / 2 ^ 52)
  else if c.slot = .x ∧ c.op = 4 then match s.collOf k c.task c.param with
    | some e => if e.op = 0 ∨ e.op = 3 ∨ e.op = 5 then some e.peer else none
    | none => none
  else none

/-- The Ferry port by which the command sends. -/
def State.portOf (s : State) (k : Core) (c : EngCmd) : Option Nat :=
  match s.sendsTo k c with
  | some m => if m = s.modNo then none else s.route m
  | none => none

/-- Whether the meters that a descriptor's first access charges are above zero. -/
def State.descOpen (s : State) (write : Bool) (d : Desc) : Bool :=
  d.isLs || d.count == 0 || s.metersOpen write false (d.access 0, 1)

/-- Whether a command of the transfer engine reads device memory or local store through its first descriptor: XCOPY, XSEND, and the steps
of XCOLL with a local operand, a chunk to send or a PASS (R293). -/
def State.readsFirst (s : State) (k : Core) (c : EngCmd) : Bool :=
  if c.op = 4 then (s.collOf k c.task c.param).any fun x => x.op == 3 || x.op == 5 || (x.local_ && decide (x.op ≤ 2)) else true

/-- Whether it writes through its second descriptor: XCOPY, and the steps of XCOLL that put a result there (R293). -/
def State.writesSecond (s : State) (k : Core) (c : EngCmd) : Bool :=
  if c.op = 4 then (s.collOf k c.task c.param).any fun x => x.op == 2 || x.op == 4 || (x.final && x.op == 1) else c.op == 1

/-- Whether the meters of a command's classes are above zero (R106, R60): GATHER and MILL for queues 0 and 1; for XCOPY,
XSEND and XCOLL the HBM or POOL meters of what they read and write, and FABRIC of the port for whatever sends (DEDUCED, log 49).
Commands of the optional units belong to no class (R309, R364, R409). -/
def meterOpen (s : State) (k : Core) (q : Nat) (c : EngCmd) : Bool :=
  if q = 0 then decide (0 < k.meters.gather)
  else if q = 1 then decide (0 < k.meters.mill)
  else if c.slot = .x ∧ c.tgt = 0 then
    (match s.portOf k c with
      | some p => decide (0 < mapGet 0 s.bud.fabric p)
      | none => true) &&
    (!s.readsFirst k c || s.descOpen false (k.desc c.d1)) && (!s.writesSecond k c || s.descOpen true (k.desc c.d2))
  else true

/-- Lane tasks of a command with `segments` segments: task k covers 16 of them and goes to lane k mod 16; a lane that has
nothing in progress takes its first at once (R108, R173). -/
def laneFill (seq segments : Nat) (lanes : List (Nat × Lane)) : List (Nat × Lane) :=
  (List.range ((segments + 15) / 16)).foldl
    (fun l i => let x := mapGet Lane.idle l (i % 16)
      mapPut l (i % 16) (if x.now.isNone then { x with now := some ⟨seq, i⟩ } else { x with queue := x.queue ++ [⟨seq, i⟩] }))
    lanes

/-- SEGMENTS of the command's index list, once its first bytes can be read (R167). -/
def peekSegments (s : State) (c : CoreId) (t : TaskCtx) (d : Desc) : Option Nat :=
  if d.ok && decide (0 < d.count) then
    match ((List.range (min d.count ((3 + d.size.toNat) / d.size.toNat))).mapM fun r => spaceReadNow d (d.access r) d.size.toNat).run
        (EWork.start s c 0 t) with
    | .ok bs _ => some (natOfBytes (bs.flatten.take 4))
    | .error _ _ => none
  else none

/-- The gather engine divides the command it has started into lane tasks, once its list can be read (R108, R173). -/
def fillLanes (c : CoreId) (s : State) : State :=
  let k := s.core c
  match (k.queue 0).run with
  | some r =>
    if r.cmd.op = 7 ∨ r.done = true ∨ k.lanes.isEmpty = false then s
    else match peekSegments s c r.args.task r.args.d1 with
      | some n => s.setCore c { k with lanes := laneFill r.cmd.seq n k.lanes }
      | none => s
  | none => s

/-- The arguments of a command that starts now: its descriptors are read once, here (R98). -/
def startArgs (k : Core) (c : EngCmd) : EArgs := ⟨c.task, k.desc c.d1, k.desc c.d2, c.param, c.mode, c.bank⟩

/-- ENGINE_COMMAND_START: the head of queue `q` starts when its wait holds, its meter is above zero and the engine is free
(R106). A stopped module starts none (R468); an uncorrectable command word raises CORE_UE (R519). -/
def engineStart (c : CoreId) (q : Nat) (s : State) : State :=
  let k := s.core c
  let x := k.queue q
  match x.waiting, x.run with
  | .eng cmd :: rest, none =>
    if s.rec0.stopped then s
    else if !(condHolds cmd.wait.cond (k.counter cmd.wait.ctr) cmd.wait.value && meterOpen s k q cmd) then s
    else if k.errors.cmd.contains q then
      raiseCore cCoreUe c cmd.task.taskId
        (s.setCore c { k with errors := { k.errors with cmd := k.errors.cmd.erase q } })
    else
      let a := startArgs k cmd
      let s1 := s.setCore c (k.setQueue q ⟨rest, some ⟨cmd, a, false, 0, false, 0, false⟩⟩)
      if q = 0 then fillLanes c s1 else s1
  | _, _ => s

/-- COMMAND_RETIRE: once its work is done and every write is acknowledged, the command signals and leaves (R101, R289). -/
def engineRetire (c : CoreId) (q : Nat) (s : State) : State :=
  let k := s.core c
  let x := k.queue q
  match x.run with
  | some r =>
    if r.done && !r.failed && r.acks == 0 then
      let k1 := k.setQueue q { x with run := none }
      let k2 := if r.cmd.sinc = 0 then k1 else k1.addCounter r.cmd.sctr (r.cmd.sinc.zeroExtend 16)
      let k3 := if q = 0 then { k2 with lanes := [] } else k2
      ((s.setCore c k3).noteRetire c r.cmd.task.frame)
    else s
  | none => s

/-- The started command of a queue when it is the one an engine row names. -/
def startedAs (k : Core) (q : Nat) (slot : Slot) (op : BitVec 6) (tgt : BitVec 4) : Option Run :=
  match (k.queue q).run with
  | some r => if r.cmd.slot = slot ∧ r.cmd.op = op ∧ r.cmd.tgt = tgt ∧ r.done = false ∧ r.failed = false then some r else none
  | none => none

/-- Marks the started command of a queue done, with the acknowledgements it awaits. -/
def Core.markDone (k : Core) (q acks : Nat) : Core :=
  let x := k.queue q
  k.setQueue q { x with run := x.run.map fun r => { r with done := true, acks := r.acks + acks } }

/-- Marks the started command of a queue stopped by a fault (R183). -/
def Core.markFailed (k : Core) (q : Nat) : Core :=
  let x := k.queue q
  k.setQueue q { x with run := x.run.map fun r => { r with failed := true } }

/-- Whether a command belongs to an optional unit whose accesses wait for their meters (R309, R364, R409). -/
def EngCmd.metered (c : EngCmd) : Bool := c.slot == .x && c.op == 2 && (c.tgt == 1 || c.tgt == 2 || c.tgt == 3 || c.tgt == 4)

/-- The work that a started command begins, or begins again. -/
def Run.work (r : Run) (s : State) (c : CoreId) (q : Nat) : EWork :=
  { EWork.start s c q r.args.task with metered := r.cmd.metered, hostToo := r.cmd.metered && r.cmd.tgt == 1, paid := r.paid }

/-- A command that waits leaves the reads it has asked for, and a metered one the accesses that it has issued and paid for. -/
def EWork.waits (w : EWork) (s : State) : State :=
  let s1 := keepRequests s w.s
  let s2 := if w.metered then { s1 with bud := w.s.bud } else s1
  s2.modCore w.core fun k =>
    let x := k.queue w.queue
    k.setQueue w.queue { x with run := x.run.map fun r => { r with paid := w.paid, waited := true } }

/-- Runs an engine command's work: it completes; or waits, leaving only the reads it has asked for; or stops with a core
fault at the point it has reached (R183). -/
def runWork (c : CoreId) (q : Nat) (r : Run) (work : EM Unit) (s : State) : State :=
  match work.run (r.work s c q) with
  | .ok _ w =>
    if w.missing then w.waits s
    else
      let s1 := w.s.modCore c fun k => k.markDone q w.acks
      { s1 with tier := s1.tier.forget (.engine c q) }
  | .error .wait w => w.waits s
  | .error (.fault code) w =>
    let s1 := w.s.modCore c fun k => k.markFailed q
    raiseCore code c r.args.task.taskId { s1 with tier := s1.tier.forget (.engine c q) }

/-! ## Owed work first (R50) -/

/-- A unit that chooses among requests of more than one source: the surveyors and samplers of a hamlet, the collective
engines, the sender of a port (R50). -/
inductive Shared where
  | surveyor (hamlet : Nat)
  | sampler (hamlet : Nat)
  | collective
  | port (n : Nat)
deriving DecidableEq, Repr

/-- The shared units that a command of a core uses. -/
def State.sharedBy (s : State) (c : CoreId) (r : Run) : List Shared :=
  let p := (s.portOf (s.core c) r.cmd).toList.map Shared.port
  if r.cmd.slot ≠ .x then []
  else if r.cmd.op = 2 then
    if r.cmd.tgt = 1 then [.surveyor (c.toNat / 16)] else if r.cmd.tgt = 2 then [.sampler (c.toNat / 16)] else []
  else if r.cmd.op = 4 then .collective :: p
  else p

/-- Whether a started command could work now, as far as its last attempt tells: nothing it asked for is still to come. -/
def State.able (s : State) (c : CoreId) (q : Nat) (r : Run) : Bool :=
  !r.done && !r.failed && !r.waited && !(s.tier.reads.any fun x => x.who == .engine c q)

/-- Whether a command's unit serves owed work of another source first (R50). -/
def State.yields (s : State) (c : CoreId) (r : Run) : Bool :=
  let mine := s.sharedBy c r
  !mine.isEmpty && !s.owed r.args.task && s.cores.any fun k => k.2.queues.any fun q => match q.2.run with
    | some o => s.owed o.args.task && s.able (BitVec.ofNat 8 k.1) q.1 o &&
        ((s.sharedBy (BitVec.ofNat 8 k.1) o).any fun u => mine.contains u)
    | none => false

/-- Commands that waited may find now what they waited for. -/
def State.wake (s : State) : State :=
  { s with cores := s.cores.map fun k => (k.1, { k.2 with queues := k.2.queues.map fun q =>
      (q.1, { q.2 with run := q.2.run.map fun r => { r with waited := false } }) }) }

/-- An engine row: the work of the started command of queue `q`, when that command is the row's and its unit has no owed work
to do first (R50); otherwise nothing has happened (DESIGN CHOICE, log 2). -/
def engineRow (c : CoreId) (q : Nat) (slot : Slot) (op : BitVec 6) (tgt : BitVec 4) (work : EArgs → EM Unit) (s : State) : State :=
  match startedAs (s.core c) q slot op tgt with
  | some r => if s.yields c r then s else runWork c q r (work r.args) (if q = 0 then fillLanes c s else s)
  | none => s

/-- The row of an optional unit's command, in whatever queue the enable set gives it (R105). -/
def unitRow (c : CoreId) (tgt : BitVec 4) (work : EArgs → EM Unit) (s : State) : State :=
  match tgtQueue s.unitsEff tgt.toNat with
  | some q => engineRow c q .x 2 tgt work s
  | none => s

/-! ## Held descriptor writes (R98) -/

/-- Descriptors that a held write changes. -/
def DescWrite.regs : DescWrite → List StReg
  | .field st _ _ => [st]
  | .images first imgs => (List.range imgs.length).map fun i => first + BitVec.ofNat 4 i

/-- The registers as the task reaches them: STLD counts from its first register before translation (R113). -/
def HeldWrite.regs (h : HeldWrite) (t : TaskCtx) : List StReg :=
  match h.w with
  | .field st _ _ => [st]
  | .images _ _ => h.w.regs.map t.stReg

/-- Whether a command issued before the write still waits to start and names one of its descriptors (R98). -/
def Core.heldBlocked (k : Core) (t : TaskCtx) (h : HeldWrite) : Bool :=
  k.queues.any fun q => q.2.waiting.any fun c => match c with
    | .eng e => decide (e.seq < h.seq) && e.names.any fun n => (h.regs t).contains n
    | .vec _ _ => false

/-- Applies a descriptor write. -/
def Core.applyDesc (k : Core) (t : TaskCtx) (h : HeldWrite) : Core :=
  match h.w with
  | .field st aa v => k.setDesc st ((k.desc st).setField aa v)
  | .images _ imgs => ((h.regs t).zip imgs).foldl (fun k p => k.setDesc p.1 p.2) k

/-- The oldest held write, of a thread of that number that has ended, that no command holds back any more. -/
def Core.endedWrite (k : Core) (t : ThreadId) : Option (Nat × (TaskCtx × HeldWrite)) :=
  k.ended.find? fun e => e.1 == t.toNat && !k.heldBlocked e.2.1 e.2.2

/-- DESCRIPTOR_WRITE_EFFECT: a write of the bundle of an END outlives its thread (R90, R98). -/
def descriptorEffect (c : CoreId) (t : ThreadId) (s : State) : State :=
  let k := s.core c
  match k.endedWrite t with
  | some e => s.setCore c { k.applyDesc e.2.1 e.2.2 with ended := k.ended.erase e }
  | none => match k.thread t with
    | some th => match th.held with
      | some h =>
        if k.heldBlocked th.task h then s
        else s.setCore c ((k.applyDesc th.task h).setThread t { th with held := none })
      | none => s
    | none => s

/-! ## Vector buffers and retirement (R149, R520) -/

/-- V_COMMAND_BUFFER_ENTRY: the head V command of queue 2 enters its context's 16-entry buffer (R149, R203). -/
def vBufferEntry (c : CoreId) (s : State) : State :=
  let k := s.core c
  let x := k.queue 2
  match x.waiting with
  | .vec ctx v :: rest =>
    let y := k.vcontext ctx
    if s.rec0.stopped || decide (16 ≤ y.buf.length) then s
    else if k.errors.cmd.contains 2 then
      raiseCore cCoreUe c v.cap.task.taskId
        (s.setCore c { k with errors := { k.errors with cmd := k.errors.cmd.erase 2 } })
    else s.setCore c ((k.setQueue 2 { x with waiting := rest }).setVContext ctx { y with buf := y.buf ++ [v] })
  | _ => s

/-- V_RETIRE: the i-th unretired instruction of a context retires; VSIGNAL only once every earlier one has, and it then
adds to its counter (R149, R520). -/
def vRetire (c : CoreId) (ctx : VCtx) (i : Nat) (s : State) : State :=
  let k := s.core c
  let x := k.vcontext ctx
  match x.unret[i]? with
  | none => s
  | some u =>
    if u.signal.isSome && decide (0 < i) then s
    else
      let k1 := k.setVContext ctx { x with unret := x.unret.eraseIdx i }
      let k2 := match u.signal with
        | some (ctr, v) => k1.addCounter ctr v
        | none => k1
      (s.setCore c k2).noteRetire c u.task.frame

/-! ## Work stealing (R108) -/

/-- LANE_STEAL: lane `lane` has come to the end of its lane task (DESIGN CHOICE, log 133). It goes on with the oldest of its own;
with none it takes the newest of the neighbour that holds more, at least 2; on a tie of lane (l + 1) mod 16 (R108). -/
def laneSteal (c : CoreId) (lane : BitVec 4) (s : State) : State :=
  let k := s.core c
  let l := lane.toNat
  let at_ (n : Nat) : Lane := mapGet Lane.idle k.lanes n
  match (at_ l).queue with
  | t :: rest => s.setCore c { k with lanes := mapPut k.lanes l ⟨some t, rest⟩ }
  | [] =>
    let victim := if (at_ ((l + 15) % 16)).queue.length ≤ (at_ ((l + 1) % 16)).queue.length then (l + 1) % 16 else (l + 15) % 16
    let tasks := (at_ victim).queue
    match tasks.getLast? with
    | some t =>
      if 2 ≤ tasks.length then
        s.setCore c { k with lanes := mapPut (mapPut k.lanes victim { at_ victim with queue := tasks.dropLast }) l ⟨some t, []⟩ }
      else s.setCore c { k with lanes := k.lanes.map fun x => if x.1 = l then (l, Lane.idle) else x }
    | none => s.setCore c { k with lanes := k.lanes.map fun x => if x.1 = l then (l, Lane.idle) else x }

end Sys2Proof.Machine
end

