-- ==== Sys2Proof/Machine/Sign.lean ====
section
/-! DEFINITION. Signature blocks and who is trusted (R445, R446), and the ledger values they rest on (R458). -/

namespace Sys2Proof.Machine

/-- The value of a ledger register, as reads return it (R460). -/
def State.ledger (s : State) (n : Nat) : Nat := mapGet 0 s.reeve.ledger.vals n

/-- SEC_POLICY.REVOKE bit i (Table 15-11). -/
def State.revoked (s : State) (i : Nat) : Bool := bit (s.ledger 0x04) i

/-- SEC_POLICY.OWNER_LOCK. -/
def State.ownerLock (s : State) : Bool := bit (s.ledger 0x04) 4

/-- The owner key hash, 48 bytes (R446). -/
def State.ownerKey (s : State) : List Byte := (List.range 6).flatMap fun k => bytesOfNat 8 (s.ledger (0x08 + k))

/-- Whether the owner key is set (R446). -/
def State.ownerSet (s : State) : Bool := (List.range 6).any fun k => s.ledger (0x08 + k) != 0

/-- Whether a key hash is a Galsil firmware key that is not revoked. -/
def State.firmwareTrusted (s : State) (h : List Byte) : Bool :=
  (List.range 4).any fun i => Config.firmwareKey i == h && !s.revoked i

/-- Trust of a key by KIND (Table 15-2); `reset` is a debug token with RESET_OWNER. -/
def State.trusted (s : State) (kind : Nat) (reset : Bool) (h : List Byte) : Bool :=
  if kind = 0 then s.firmwareTrusted h
  else if kind = 1 then if s.ownerSet then h == s.ownerKey else true
  else if reset then s.firmwareTrusted h
  else if s.ownerSet then h == s.ownerKey
  else s.firmwareTrusted h

/-- Digest of the message that a block at `off` signs: the bytes before the block and its bytes 0 to 15 (R446). -/
def messageDigest (m : Memory) (off : Nat) : List Byte := sha384 (m.readBytes 0 (off + 16))

/-- Whether the signature block at `off` of a file of `size` bytes is valid for a consumer of `kind` (R446). -/
def State.blockValid (s : State) (m : Memory) (size off kind : Nat) (reset : Bool) : Bool :=
  off + 256 == size && m.readNat off 4 == 0x42474953 && m.readNat (off + 4) 1 == kind && m.readNat (off + 5) 3 == 0 &&
  m.readNat (off + 8) 8 == off && m.readNat (off + 208) 48 == 0 &&
  ecdsaVerify (messageDigest m off) (m.readBytes (off + 16) 96) (m.readBytes (off + 112) 48) (m.readBytes (off + 160) 48) &&
  s.trusted kind reset (sha384 (m.readBytes (off + 16) 96))

/-- The hash of the key that signed a file whose block ends it. -/
def signerHash (m : Memory) (size : Nat) : List Byte := sha384 (m.readBytes (size - 256 + 16) 96)

end Sys2Proof.Machine
end

