-- ==== Sys2Proof/Machine/Almanac.lean ====
section
/-! DEFINITION. Almanac files: where their structures lie, the checks of ALMANAC_LOAD, and the records of a frame
(spec/03 R71-R78, R514; spec/04 R86, R89, R112; spec/09 R291-R292; spec/11 R332, R340-R341). -/

namespace Sys2Proof.Machine

/-! ## Where things lie -/

/-- SECTION_COUNT. -/
def AlmSlot.sections (a : AlmSlot) : Nat := a.nat 22 2
/-- STEP_LIST_LEN. -/
def AlmSlot.stepLen (a : AlmSlot) : Nat := a.nat 56 2
/-- INTERLUDE_LIST_LEN. -/
def AlmSlot.interludeLen (a : AlmSlot) : Nat := a.nat 58 2
/-- INTERLUDE_EVERY. -/
def AlmSlot.interludeEvery (a : AlmSlot) : Nat := a.nat 44 4
/-- ALMANAC_ID. -/
def AlmSlot.ident (a : AlmSlot) : Nat := a.nat 8 8
/-- Section index at position `i` of the step list or the interlude list. -/
def AlmSlot.listAt (a : AlmSlot) (interlude : Bool) (i : Nat) : Nat :=
  a.nat ((if interlude then a.nat 64 8 else a.nat 48 8) + 2 * i) 2
/-- KIND of section `i`. -/
def AlmSlot.kind (a : AlmSlot) (i : Nat) : Nat := a.nat (a.sectionAt i) 1
/-- FRAME_COUNT of section `i`. -/
def AlmSlot.frames (a : AlmSlot) (i : Nat) : Nat := a.nat (a.sectionAt i + 4) 4
/-- Start of a core's frame-record stream. -/
def AlmSlot.coreStream (a : AlmSlot) (sect core : Nat) : Nat := a.nat (a.nat (a.sectionAt sect + 8) 8 + 8 * core) 8
/-- A core frame record. -/
def AlmSlot.coreRec (a : AlmSlot) (sect core idx : Nat) : Nat := a.coreStream sect core + 16 * idx
/-- A module frame record. -/
def AlmSlot.modRec (a : AlmSlot) (sect idx : Nat) : Nat := a.nat (a.sectionAt sect + 16) 8 + 32 * idx
/-- Task record `i` of a core frame record. -/
def AlmSlot.taskAt (a : AlmSlot) (sect core idx i : Nat) : Nat :=
  a.coreStream sect core + a.nat (a.coreRec sect core idx + 12) 4 + 32 * i
/-- TASKS of a core frame record. -/
def AlmSlot.taskCount (a : AlmSlot) (sect core idx : Nat) : Nat := a.nat (a.coreRec sect core idx) 2
/-- Gate entry `i` of a core frame record (R332). -/
def AlmSlot.gateAt (a : AlmSlot) (sect core idx i : Nat) : Nat :=
  a.taskAt sect core idx (a.taskCount sect core idx) + 8 * i

/-- A task record as the file holds it (Table 04-1). -/
def AlmSlot.task (a : AlmSlot) (sect core idx i : Nat) : TaskRec :=
  let o := a.taskAt sect core idx i
  ⟨a.nat o 8, a.nat (o + 8) 8, a.nat (o + 16) 4, a.nat (o + 20) 1, a.nat (o + 21) 1, a.nat (o + 22) 2, a.nat (o + 24) 4,
   a.nat (o + 28) 4⟩

/-- A valid task record (R89). -/
def TaskRec.valid (t : TaskRec) : Bool :=
  decide (1 ≤ t.threads) && decide (t.threads ≤ 128) && t.entry % 2 == 0 && t.entry / 2 ^ 52 == 0 &&
  t.lsBase % 256 == 0 && t.rsvd == 0 && field t.vctxByte 6 2 == 0 && t.flags / 2 == 0

/-- The gate of a task; sections other than BACKWARD and MIXED have none (R332). -/
def AlmSlot.gate (a : AlmSlot) (sect core idx i : Nat) : Gate :=
  if a.kind sect = 2 ∨ a.kind sect = 3 then
    let o := a.gateAt sect core idx i
    ⟨a.nat o 1, a.nat (o + 1) 1, a.nat (o + 2) 1, a.nat (o + 3) 1, a.nat (o + 4) 2⟩
  else ⟨0, 0, 0, 0, 0⟩

/-! ## Load checks (Table 03-13, R514) -/

/-- Whether `n` bytes at `off` lie before the signature block. -/
def AlmSlot.inFile (a : AlmSlot) (off n : Nat) : Bool := decide (off + n + 256 ≤ a.size)

/-- Whether `n` bytes at `off` are zero. -/
def AlmSlot.zeroAt (a : AlmSlot) (off n : Nat) : Bool := a.nat off n == 0

/-- A condition for every index below `n`. -/
def allBelow (n : Nat) (f : Nat → Bool) : Bool := (List.range n).all f

/-- Slot numbers that a stash table declares (R340). -/
def AlmSlot.stashSlots (a : AlmSlot) (sect : Nat) : List Nat :=
  let t := a.nat (a.sectionAt sect + 24) 8
  if t = 0 then [] else (List.range (a.nat t 4)).map fun i => a.nat (t + 8 + 32 * i) 2

/-- Every declared slot of the file with the offset of its entry. -/
def AlmSlot.allSlots (a : AlmSlot) : List (Nat × Nat) :=
  (List.range a.sections).flatMap fun k =>
    let t := a.nat (a.sectionAt k + 24) 8
    if t = 0 then [] else (List.range (a.nat t 4)).map fun i => (a.nat (t + 8 + 32 * i) 2, t + 8 + 32 * i)

/-- No two entries of a list are equal. -/
def distinct : List Nat → Bool
  | [] => true
  | x :: t => !t.contains x && distinct t

/-- A slot entry holds permitted values (R341). -/
def AlmSlot.slotOk (a : AlmSlot) (slots : List (Nat × Nat)) (o : Nat) : Bool :=
  let mode := a.nat (o + 2) 1
  let kind := a.nat (o + 3) 1
  let fb := a.nat (o + 4) 1
  let content := a.nat (o + 5) 1
  let thresh := a.nat (o + 6) 1
  let struct_ := a.nat (o + 7) 1
  let maxB := a.nat (o + 8) 4
  let res := a.nat (o + 12) 4
  let home := a.nat (o + 16) 8
  let chk := a.nat (o + 24) 2
  let names : Bool := match slots.find? fun p => p.1 == chk with
    | some p => a.nat (p.2 + 3) 1 == 1
    | none => false
  a.nat o 2 != 0xFFFF && decide (mode ≤ 1) && decide (kind ≤ 1) && decide (content ≤ 1) && decide (fb < 4) &&
  decide (thresh < 128) && !(decide (101 ≤ thresh) && decide (thresh ≤ 126)) && decide (struct_ ≤ 2) &&
  (content == 1 || (thresh == 0 && struct_ == 0)) && maxB % 16 == 0 && res % 16 == 0 && home % 16 == 0 &&
  home / 2 ^ 52 == 0 && a.zeroAt (o + 26) 6 &&
  !(kind == 1 && bit fb 1) && (!bit fb 1 || names) && (chk == 0xFFFF || slots.any fun p => p.1 == chk) &&
  (mode == 0 || (fb == 0 && content == 0 && thresh == 0 && struct_ == 0 && decide (maxB ≤ res)))

/-- A gate entry holds permitted values (Table 11-1). -/
def AlmSlot.gateOk (a : AlmSlot) (slots : List (Nat × Nat)) (o : Nat) : Bool :=
  let cond := a.nat (o + 1) 1
  let ctr := a.nat (o + 2) 1
  let sinc := a.nat (o + 3) 1
  let v := a.nat (o + 4) 2
  decide (a.nat o 1 ≤ 2) && decide (cond ≤ 3) && decide (ctr < 64) && (cond != 0 || ctr == 0) &&
  (if 2 ≤ cond then decide (1 ≤ sinc) && decide (sinc ≤ 7) && slots.any (fun p => p.1 == v) else sinc == 0) &&
  (cond != 0 || v == 0) && a.zeroAt (o + 6) 2

/-- A core frame record, its task records and its gates; TASK_LIST lies within the file even where TASKS is 0 (Table 03-11,
R75, R89, R332). -/
def AlmSlot.coreRecOk (a : AlmSlot) (slots : List (Nat × Nat)) (sect core idx : Nat) : Bool :=
  let o := a.coreRec sect core idx
  let n := a.taskCount sect core idx
  let gated := a.kind sect == 2 || a.kind sect == 3
  decide (a.nat (o + 2) 1 < 16) && a.zeroAt (o + 3) 1 &&
  a.inFile (a.taskAt sect core idx 0) (32 * n + if gated then 8 * n else 0) &&
  allBelow n (fun i => (a.task sect core idx i).valid && (!gated || a.gateOk slots (a.gateAt sect core idx i)))

/-- A module frame record (Table 03-12). -/
def AlmSlot.modRecOk (a : AlmSlot) (sect idx : Nat) : Bool :=
  let o := a.modRec sect idx
  decide (a.nat (o + 20) 2 < 2 ^ 11) && a.zeroAt (o + 24) 8

/-- Number of plans. -/
def AlmSlot.planCount (a : AlmSlot) : Nat := if a.nat 72 8 = 0 then 0 else a.nat (a.nat 72 8) 4
/-- Offset of plan `i`. -/
def AlmSlot.planAt (a : AlmSlot) (i : Nat) : Nat := a.nat (a.nat 72 8 + 8 + 8 * i) 8

/-- The plan table (R291). -/
def AlmSlot.plansOk (a : AlmSlot) : Bool :=
  let t := a.nat 72 8
  t == 0 || (a.inFile t 8 && a.zeroAt (t + 4) 4 && a.inFile (t + 8) (8 * a.nat t 4) && allBelow (a.nat t 4) fun i =>
    let p := a.planAt i
    a.inFile p 8 && decide (1 ≤ a.nat p 4) && a.inFile (p + 8) (8 * a.nat (p + 4) 4) &&
    allBelow (a.nat (p + 4) 4) fun c => decide (a.nat (p + 8 + 8 * c + 4) 2 < 4096) && a.zeroAt (p + 8 + 8 * c + 6) 2)

/-- A step entry of a collective (Table 09-9); `chunks` is the plan's CHUNKS. -/
def AlmSlot.stepOk (a : AlmSlot) (o : Nat) (chunks : Option Nat) : Bool :=
  let op := a.nat o 1
  let aux := a.nat (o + 24) 4
  decide (op ≤ 5) && decide (a.nat (o + 1) 1 < 8) && decide (a.nat (o + 2) 2 < 4096) && a.zeroAt (o + 6) 2 &&
  a.zeroAt (o + 28) 4 &&
  (match chunks with
    | some n => decide (a.nat (o + 4) 2 < n)
    | none => true) &&
  (op != 5 || (aux / 2 ^ 17 == 0 && field aux 16 14 != 0 && a.nat (o + 16) 8 / 2 ^ 52 == 0))

/-- A section's collective plan (R292, R291). -/
def AlmSlot.collectiveOk (a : AlmSlot) (t : Nat) : Bool :=
  t == 0 || (a.inFile t 8 && a.zeroAt (t + 4) 4 && a.inFile (t + 8) (8 * a.nat t 4) && allBelow (a.nat t 4) fun i =>
    let h := a.nat (t + 8 + 8 * i) 8
    let kind := a.nat h 1
    let fmt := a.nat (h + 1) 1
    let plan := a.nat (h + 2) 2
    let eb := a.nat (h + 16) 4
    a.inFile h 32 && decide (kind ≤ 3) && (if kind = 0 then fmt == 4 || fmt == 10 else fmt == 0) &&
    (kind == 3 || decide (plan < a.planCount)) && a.zeroAt (h + 6) 2 && a.zeroAt (h + 20) 12 &&
    (if kind = 0 ∨ kind = 3 then eb == 0 else true) && a.inFile (a.nat (h + 8) 8) (32 * a.nat (h + 4) 2) &&
    allBelow (a.nat (h + 4) 2) fun k =>
      a.stepOk (a.nat (h + 8) 8 + 32 * k) (if kind = 3 then none else some (a.nat (a.planAt plan + 4) 4)))

/-- Number of detour entries. -/
def AlmSlot.detours (a : AlmSlot) : Nat := if a.nat 80 8 = 0 then 0 else a.nat (a.nat 80 8) 4
/-- Offset of detour entry `i`. -/
def AlmSlot.detourAt (a : AlmSlot) (i : Nat) : Nat := a.nat 80 8 + 8 + 16 * i

/-- The detour table; bits [7:2] of an entry's BANK_MAP must be zero (R112; DESIGN CHOICE, log 170: the spec says nothing of these bits). -/
def AlmSlot.detoursOk (a : AlmSlot) : Bool :=
  let t := a.nat 80 8
  t == 0 || (a.inFile t 8 && a.zeroAt (t + 4) 4 && a.inFile (t + 8) (16 * a.nat t 4) &&
    distinct ((List.range a.detours).map fun i => a.nat (a.detourAt i) 1 * 65536 + a.nat (a.detourAt i + 2) 2) &&
    allBelow a.detours fun i =>
      let o := a.detourAt i
      let sect := a.nat (o + 2) 2
      a.nat o 1 != a.nat (o + 1) 1 && (sect == 0xFFFF || decide (sect < a.sections)) && a.nat (o + 4) 4 % 4096 == 0 &&
      decide (a.nat (o + 4) 4 + a.nat (o + 8) 4 ≤ lsLimit) && decide (a.nat (o + 13) 1 < 64) &&
      decide (a.nat (o + 14) 1 < 16) && decide (a.nat (o + 15) 1 < 4))

/-- A section header and every structure it names (R514). -/
def AlmSlot.sectionOk (a : AlmSlot) (slots : List (Nat × Nat)) (k : Nat) : Bool :=
  let h := a.sectionAt k
  let n := a.frames k
  let st := a.nat (h + 24) 8
  decide (a.kind k ≤ 7) && a.zeroAt (h + 1) 3 && decide (1 ≤ n) && a.zeroAt (h + 40) 24 &&
  a.inFile (a.nat (h + 8) 8) 2048 && a.inFile (a.nat (h + 16) 8) (32 * n) && allBelow n (a.modRecOk k) &&
  allBelow 256 (fun c => a.inFile (a.coreStream k c) (16 * n) && allBelow n (a.coreRecOk slots k c)) &&
  (st == 0 || (a.inFile st 8 && a.zeroAt (st + 4) 4 && a.inFile (st + 8) (32 * a.nat st 4) && bit (a.nat 7 1) 3)) &&
  a.collectiveOk (a.nat (h + 32) 8)

/-- Check 4: sizes, offsets, reserved fields and permitted values (Table 03-13, R514). -/
def AlmSlot.formOk (a : AlmSlot) : Bool :=
  let dim (o : Nat) : Bool := decide (1 ≤ a.nat o 1) && decide (a.nat o 1 ≤ 32)
  a.nat 0 4 == 0x4E4D4C41 && a.nat 4 2 == 2 && decide (a.size ≤ 2 ^ 30) && decide (384 ≤ a.size) &&
  a.nat 88 8 == a.size && a.nat 96 8 + 256 == a.size && a.nat 7 1 / 32 == 0 && a.zeroAt 60 4 && a.zeroAt 104 24 &&
  dim 16 && dim 17 && dim 18 &&
  a.inFile (a.nat 24 8) (64 * a.sections) && a.inFile (a.nat 32 8) (16 * a.nat 40 4) &&
  a.inFile (a.nat 48 8) (2 * a.stepLen) && a.inFile (a.nat 64 8) (2 * a.interludeLen) &&
  allBelow a.stepLen (fun i => decide (a.listAt false i < a.sections)) &&
  allBelow a.interludeLen (fun i => decide (a.listAt true i < a.sections)) &&
  a.plansOk && a.detoursOk &&
  allBelow a.sections (fun k => a.nat (a.sectionAt k + 24) 8 == 0 || a.inFile (a.nat (a.sectionAt k + 24) 8) 8) &&
  distinct (a.allSlots.map Prod.fst) && a.allSlots.all (fun p => a.slotOk a.allSlots p.2) &&
  allBelow a.sections (a.sectionOk a.allSlots)

/-- R69: no core has a unit fallow and an allowance for it in one frame. -/
def AlmSlot.fallowOk (a : AlmSlot) : Bool :=
  allBelow a.sections fun k => allBelow 256 fun c => allBelow (a.frames k) fun i =>
    let o := a.coreRec k c i
    let f := a.nat (o + 2) 1
    !(bit f 0 && a.nat (o + 8) 2 != 0) && !(bit f 1 && a.nat (o + 4) 2 != 0) && !(bit f 2 && a.nat (o + 6) 2 != 0)

/-- The status codes of Table 14-10. -/
def stOk : Nat := 0x0000
def stQueued : Nat := 0x0001
def stDeferred : Nat := 0x0002
def stOverQuota : Nat := 0x0003
def stDegraded : Nat := 0x0004
def stQuotaExceeded : Nat := 0x0010
def stExhausted : Nat := 0x0011
def stBadSignature : Nat := 0x0012
def stArchLevel : Nat := 0x0013
def stBusy : Nat := 0x0014
def stInvalid : Nat := 0x0015
def stNotEnabled : Nat := 0x0016

/-- The checks of Table 03-13 in order: the status of the first that fails, or OK. -/
def State.almanacCheck (s : State) (a : AlmSlot) : Nat :=
  let p := s.position
  if !s.blockValid a.bytes a.size (a.nat 96 8) 1 false then stBadSignature
  else if 2 < a.nat 6 1 then stArchLevel
  else if a.nat 7 1 % 32 &&& (31 - s.unitsEff % 32) != 0 then stNotEnabled
  else if !a.formOk then stInvalid
  else if !(a.nat 16 1 == p.shapeX && a.nat 17 1 == p.shapeY && a.nat 18 1 == p.shapeZ && a.nat 19 1 == p.x &&
      a.nat 20 1 == p.y && a.nat 21 1 == p.z) then stInvalid
  else if !(decide (1 ≤ a.stepLen) && a.kind (a.listAt false (a.stepLen - 1)) == 5 && a.fallowOk) then stInvalid
  else if !allBelow (a.nat 40 4) (fun i => (Legend.ofNat (a.nat (a.nat 32 8 + 16 * i) 16)).isSome) then stInvalid
  else stOk

/-! ## Detours in force (R112-R115) -/

/-- The detour entry for a core in a section (R112). -/
def AlmSlot.detourFor (a : AlmSlot) (core sect : Nat) : Option Nat :=
  let es := (List.range a.detours).map a.detourAt
  match es.find? fun o => a.nat o 1 == core && a.nat (o + 2) 2 == sect with
  | some o => some o
  | none => es.find? fun o => a.nat o 1 == core && a.nat (o + 2) 2 == 0xFFFF

/-- The rule that an entry gives. -/
def AlmSlot.detourRule (a : AlmSlot) (o : Nat) : Detour :=
  { core := BitVec.ofNat 8 (a.nat o 1), sub := BitVec.ofNat 8 (a.nat (o + 1) 1), lsBase := a.nat (o + 4) 4,
    lsSize := a.nat (o + 8) 4, vctxMap := BitVec.ofNat 8 (a.nat (o + 12) 1), scBase := BitVec.ofNat 6 (a.nat (o + 13) 1),
    stBase := BitVec.ofNat 4 (a.nat (o + 14) 1), bankMap := BitVec.ofNat 8 (a.nat (o + 15) 1) }

/-- Cores in retirement, rising. -/
def State.retiredCores (s : State) : List Nat := (s.cores.filter fun c => c.2.regs.retired).map Prod.fst

/-- The detour of a retired core in a section of an almanac; `none` where no entry applies or its SUB is retired (R115). -/
def State.detourIn (s : State) (a : AlmSlot) (core sect : Nat) : Option Detour :=
  match a.detourFor core sect with
  | some o =>
    let d := a.detourRule o
    if (s.core d.sub).regs.retired then none else some d
  | none => none

/-- The same in the active almanac. -/
def State.detourOf (s : State) (core sect : Nat) : Option Detour := s.detourIn s.run.active core sect

end Sys2Proof.Machine
end

