-- ==== Sys2Proof/Machine/Reply.lean ====
section
/-! DEFINITION. Starting a Damtin command, answering it, and the ledger writes that the module makes itself (spec/14
R425-R439, spec/15 R460-R461). -/

namespace Sys2Proof.Machine

/-! ## Replies (R426, R430, R431) -/

/-- IRQ of a packet. -/
def PktHdr.irq (h : PktHdr) : Bool := h.flags.getLsbD 1
/-- FENCE of a packet. -/
def PktHdr.fence (h : PktHdr) : Bool := h.flags.getLsbD 0

/-- What a packet's PARAMS hold at an offset, of a size in bytes (Table 14-11). -/
def PktHdr.param (h : PktHdr) (off size : Nat) : Nat := natOfBytes ((h.params.drop off).take size)

/-- Whether a packet is the command with this OPCODE and these parameters: offset, size, value (R429, R437). -/
def PktHdr.says (h : PktHdr) (op : Nat) (fields : List (Nat × Nat × Nat)) : Bool :=
  h.op.toNat == op && fields.all fun f => h.param f.1 f.2.1 == f.2.2

/-- Opcodes of Table 14-11. -/
def knownOpcodes : List Nat :=
  [0x0001, 0x0002, 0x0003, 0x0004, 0x0005, 0x0006, 0x0101, 0x0102, 0x0103, 0x0104, 0x0201, 0x0202, 0x0203, 0x0210, 0x0220,
   0x0301, 0x0302, 0x0303, 0x0304, 0x0401, 0x0402, 0x0403, 0x0404, 0x0405, 0x0406, 0x0410, 0x0411, 0x0501, 0x0502, 0x0503,
   0x0504, 0x0601, 0x0602, 0x0603, 0x0620, 0x0621, 0x0630, 0x0701, 0x0702, 0x0801, 0x0802, 0x0820, 0x0821, 0x0830, 0x0901,
   0x0910, 0x0911]

/-- The queue in which a packet is in progress: a queue that exists, or one that a Function Level Reset deleted (R415). -/
def State.pairOf (s : State) (h : PktHdr) : Option QPair :=
  ((mapFind s.hif.queues h.queue.toNat).toList ++ s.hif.gone).find? fun q => q.progress.contains h

/-- Packets of the queue that were accepted before this one and have not replied. -/
def QPair.before (q : QPair) (h : PktHdr) : List PktHdr := q.progress.takeWhile fun p => p != h

/-- Whether the packet may start: it has been accepted and not answered; the packets of a queue start in the order of their
acceptance, a FENCE packet only after every earlier one has replied (R427). One that has started and waits may go on. -/
def State.mayStart (s : State) (h : PktHdr) : Bool :=
  match s.pairOf h with
  | some q => q.started.contains h || (if h.fence then (q.before h).isEmpty else (q.before h).all fun p => q.started.contains p)
  | none => false

/-- A packet is answered no more: it leaves its queue. -/
def QPair.finish (q : QPair) (h : PktHdr) : QPair := { q with progress := q.progress.erase h, started := q.started.erase h }

/-- The reply of a command waits in its queue; a queue that a Function Level Reset deleted gets none (R415, R426, R430). -/
def State.putReply (s : State) (h : PktHdr) (r : ReplyMsg) : State :=
  match (mapFind s.hif.queues h.queue.toNat).filter fun q => q.progress.contains h with
  | some q =>
    { s with hif := { s.hif with queues := mapPut s.hif.queues h.queue.toNat { q.finish h with replies := q.replies ++ [r] } } }
  | none => { s with hif := { s.hif with gone := (s.hif.gone.map fun q => q.finish h).filter fun q => !q.progress.isEmpty } }

/-- The packets of a queue whose OPCODE Table 14-11 does not have are answered INVALID_PARAM in their turn (R427, R433). -/
def State.answerUnknown (s : State) (n : Nat) : State :=
  ((mapGet [] (s.hif.queues.map fun q => (q.1, q.2.progress)) n)).foldl (fun s p =>
    if !knownOpcodes.contains p.op.toNat && s.mayStart p then s.putReply p ⟨p.tag.toNat, stInvalid, false, p.irq, 0, 0, 0⟩ else s) s

/-- A command replies, and packets that waited for it may have their turn (R426, R427, R430). -/
def State.reply (s : State) (h : PktHdr) (status : Nat) (r0 : Nat := 0) (r1 : Nat := 0) (r2 : Nat := 0) : State :=
  (s.putReply h ⟨h.tag.toNat, status, false, h.irq, r0 % 2 ^ 64, r1 % 2 ^ 64, r2 % 2 ^ 64⟩).answerUnknown h.queue.toNat

/-- The reply of a command that has waited; the module's own have none. -/
def State.replyTo (s : State) (h : Option PktHdr) (status : Nat) (r0 : Nat := 0) (r1 : Nat := 0) (r2 : Nat := 0) : State :=
  match h with
  | some p => s.reply p status r0 r1 r2
  | none => s

/-- The packet has started, in the queue that holds it. -/
def QPair.start (q : QPair) (h : PktHdr) : QPair :=
  if q.progress.contains h && !q.started.contains h then { q with started := q.started ++ [h] } else q

/-- A packet whose command goes on waiting has started, and later packets of its queue need not wait for it (R427). -/
def State.begun (s : State) (h : PktHdr) : State :=
  let qs := s.hif.queues.map fun q => (q.1, if q.1 = h.queue.toNat then q.2.start h else q.2)
  let gs := s.hif.gone.map fun q => q.start h
  ({ s with hif := { s.hif with queues := qs, gone := gs } }).answerUnknown h.queue.toNat

/-! ## Transfers (R60, R439) -/

/-- Whether a transfer from host memory may start (R60, R439). -/
def State.hostInOpen (s : State) : Bool := !s.almanacRuns || decide (0 < s.bud.hostIn)
/-- Whether a transfer to host memory may start (R60, R439). -/
def State.hostOutOpen (s : State) : Bool := !s.almanacRuns || decide (0 < s.bud.hostOut)

/-- Charges a host transfer. -/
def State.chargeIn (s : State) (n : Nat) : State := { s with bud := { s.bud with hostIn := s.bud.hostIn - ((n + 63) / 64 : Nat) } }
/-- Charges a host transfer. -/
def State.chargeOut (s : State) (n : Nat) : State := { s with bud := { s.bud with hostOut := s.bud.hostOut - ((n + 63) / 64 : Nat) } }

/-- Writes bytes to host memory. -/
def State.hostWrite (s : State) (addr : Nat) (bytes : List Byte) : State :=
  { s with hostMem := s.hostMem.writeBytes addr bytes }

/-- A long result goes to RADDR, once the HOST meter lets the transfer start, and the reply repeats its first 24 bytes; without a
RADDR the command is invalid (R431, R439). -/
def State.replyLong (s : State) (h : PktHdr) (status : Nat) (bytes : List Byte) : State :=
  if h.raddr = 0 then s.reply h stInvalid
  else if !s.hostOutOpen then s.begun h
  else
    ((s.chargeOut bytes.length).hostWrite h.raddr.toNat bytes).reply h status
      (natOfBytes (bytes.take 8)) (natOfBytes ((bytes.drop 8).take 8)) (natOfBytes ((bytes.drop 16).take 8))

/-! ## Starting a command (R427, R433, R435) -/

/-- Whether the opcode needs an open session (R435). -/
def needsSession (op : Nat) : Bool :=
  (decide (0x0100 ≤ op) && decide (op ≤ 0x07FF) && op != 0x0701) || op == 0x0910 || op == 0x0911

/-- Whether a unit of UNIT_ENABLE is in the effective enable set. -/
def State.unitOn (s : State) (i : Nat) : Bool := bit s.unitsEff i

/-- The unit whose configuration a command is: the smithy, the granary or parity, refused with NOT_ENABLED before any other
refusal (R432, R346, R351, R298). -/
def unitOf (op : Nat) : Option Nat :=
  if op = 0x0410 then some 2 else if op = 0x0411 then some 3 else if op = 0x0504 then some 4 else none

/-- Whether the unit that a command configures is off. -/
def State.unitOff (s : State) (op : Nat) : Bool := (unitOf op).any fun u => !s.unitOn u

/-- Whether a packet's session is open: one that a Function Level Reset found accepted completes without (R415, R435). -/
def State.sessionFor (s : State) (h : PktHdr) : Bool := s.hif.session || s.hif.gone.any fun q => q.progress.contains h

/-- A command runs, when a packet with its OPCODE and parameters has been accepted: not before the order of its queue allows it;
`busy` before anything else where its rule says so; family 0x00xx in queue 0 only; not where its unit is off; within a session where it
needs one (R427, R429, R432, R433, R435, R437). -/
def damtinFirst (busy : State → Bool) (op : Nat) (h : PktHdr) (fields : List (Nat × Nat × Nat)) (body : State → State) (s : State) :
    State :=
  if !h.says op fields || !s.mayStart h then s
  else if busy s then s.reply h stBusy
  else if op < 0x0100 ∧ h.queue ≠ 0 then s.reply h stInvalid
  else if s.unitOff op then s.reply h stNotEnabled
  else if needsSession op && !s.sessionFor h then s.reply h stInvalid
  else body s

/-- A command of which no rule has BUSY before anything else. -/
def damtin (op : Nat) (h : PktHdr) (fields : List (Nat × Nat × Nat)) (body : State → State) (s : State) : State :=
  damtinFirst (fun _ => false) op h fields body s

/-- The step that a reply reports as the one in effect, for a change due at the next step (R518). A STEP_RUN on IDLE that has begun no
step yet has START_STEP before it. -/
def State.stepInEffect (s : State) : Nat :=
  match s.run.state with
  | .idle => 0
  | .held => s.run.nextStep
  | _ => if s.run.startAt.isSome && !s.run.inStep && s.run.resumePos.isNone then s.run.nextStep else s.run.step + 1

/-! ## The module's own ledger writes (R116, R450, R460, R461) -/

/-- Writes made to a ledger register. -/
def State.wearOf (s : State) (n : Nat) : Nat := mapGet 0 s.reeve.ledger.wear n

/-- Whether a ledger register is exhausted (R461). -/
def State.exhausted (s : State) (n : Nat) : Bool := decide (1000000 ≤ s.wearOf n)

/-- Whether the writes accepted for a ledger register bring it to its limit (R461). -/
def State.full (s : State) (n : Nat) : Bool :=
  decide (1000000 ≤ s.wearOf n + (s.reeve.ledger.waiting.filter fun w => w.reg == n).length)

/-- A ledger write is accepted: reads return its value from now on; it waits to become durable (R460). -/
def State.ledgerAccept (s : State) (n v : Nat) (hdr : Option PktHdr) (scope : Nat) : State :=
  let l := s.reeve.ledger
  let l1 := { l with vals := mapPut l.vals n (v % 2 ^ 64), waiting := l.waiting ++ [⟨n, v % 2 ^ 64, hdr, scope⟩] }
  { s with reeve := { s.reeve with ledger := l1 } }

/-- The value that the store holds or will hold of a register once its accepted writes are made (R460). -/
def Ledger.kept (l : Ledger) (n : Nat) : Nat :=
  match l.waiting.reverse.find? fun w => w.reg == n with
  | some w => w.value
  | none => mapGet 0 l.stored n

/-- A value that takes effect in the running module and is not stored (R461). -/
def State.ledgerEffect (s : State) (n v : Nat) : State :=
  let l := s.reeve.ledger
  { s with reeve := { s.reeve with ledger := { l with vals := mapPut l.vals n (v % 2 ^ 64) } } }

/-- A write by the module: of an exhausted register the change takes effect and is not stored, and the reeve logs it (R460, R461). -/
def State.ledgerOwn (s : State) (n v : Nat) : State :=
  if s.ledger n = v % 2 ^ 64 then s
  else if s.full n then raise cLedgerExhausted 5 n 0 (s.ledgerEffect n v)
  else s.ledgerAccept n v none 0

/-! ## Retiring and returning cores (R111, R116, R488) -/

/-- A core retires: CORE_STATUS and its ledger bit (R116, R117). -/
def State.retireCore (s : State) (c cause : Nat) : State :=
  if (s.core (BitVec.ofNat 8 c)).regs.retired then s
  else
    let s1 := s.modCore (BitVec.ofNat 8 c) fun k => { k with regs := { k.regs with retired := true, retireCause := cause } }
    let reg := 0x20 + c / 64
    s1.ledgerOwn reg (s1.ledger reg ||| 2 ^ (c % 64))

/-- A core returns to service (R488). -/
def State.returnCore (s : State) (c : Nat) : State :=
  let s1 := s.modCore (BitVec.ofNat 8 c) fun k =>
    { k with regs := { k.regs with retired := false, retireCause := 0 }, detour := none }
  let reg := 0x20 + c / 64
  if bit (s1.ledger reg) (c % 64) then s1.ledgerOwn reg (s1.ledger reg - 2 ^ (c % 64)) else s1

end Sys2Proof.Machine
end

