-- ==== Sys2Proof/Machine/MaintBase.lean ====
section
/-! DEFINITION. The maintenance activities, their compatibility and their registration, and what falls due at a step
boundary (spec/16 R483-R488). -/

namespace Sys2Proof.Machine

/-! ## The activities (Tables 16-6 and 16-7) -/

/-- What makes a frame fallow for an activity: a bit of the core frame record or of the module frame record, the HBM
allowance, the bit of the target's port, or nothing (Table 16-6, Tables 03-11 and 03-12). -/
inductive Fallow where
  | none | core (bit : Nat) | module (bit : Nat) | hbm | port
deriving DecidableEq, Repr

/-- A row of Table 16-6: class in the order of Table 16-7, number of targets, optional unit it needs, fallow unit, frames. -/
structure MaintKind where
  cls : Nat
  targets : Nat
  unit : Option Nat
  fallow : Fallow
  frames : Nat
deriving DecidableEq, Repr

/-- Table 16-6: 0 CORE, 1 HAMLET, 2 STACK, 3 PORT, 4 DIE, 5 GROUP. -/
def maintKind (act : Nat) : Option MaintKind := match act with
  | 0x01 => some ⟨0, 256, none, .core 1, 1⟩
  | 0x02 => some ⟨0, 256, none, .core 2, 1⟩
  | 0x03 => some ⟨0, 256, none, .core 0, 1⟩
  | 0x10 => some ⟨1, 16, some 0, .module 0, 1⟩
  | 0x11 => some ⟨1, 16, some 1, .module 1, 1⟩
  | 0x20 => some ⟨2, 8, none, .hbm, 2⟩
  | 0x21 => some ⟨2, 8, some 2, .module 2, 1⟩
  | 0x22 => some ⟨2, 8, some 4, .module 3, 1⟩
  | 0x23 => some ⟨2, 8, none, .none, 0⟩
  | 0x30 => some ⟨3, 6, none, .port, 1⟩
  | 0x40 => some ⟨4, 1, some 3, .module 4, 1⟩
  | 0x41 => some ⟨4, 1, none, .none, 0⟩
  | 0x42 => some ⟨4, 1, none, .none, 0⟩
  | 0x50 => some ⟨5, 1, none, .none, 0⟩
  | _ => none

/-- Whether an activity needs its unit for itself (R483). -/
def MaintKind.exclusive (k : MaintKind) : Bool := k.frames != 0

/-- Whether two classes may be registered together, for targets that differ or not (Table 16-7). -/
def compatible (a b : Nat) (differ : Bool) : Bool :=
  if a == b then differ && decide (a ≤ 3)
  else !((a == 5 && (b == 2 || b == 3)) || (b == 5 && (a == 2 || a == 3)))

/-- Whether an activity is in a final state (R486). -/
def MaintAct.final (a : MaintAct) : Bool := a.state == .done || a.state == .failed || a.state == .cancelled

/-- Class of an activity. -/
def MaintAct.cls (a : MaintAct) : Nat := match maintKind a.act with
  | some k => k.cls
  | none => 0

/-- Activities that are not in a final state. -/
def State.openActs (s : State) : List MaintAct := s.maint.acts.filter fun a => !a.final

/-- Whether a class and target conflict with an activity of the list that is not in a final state (R484). -/
def conflicts (acts : List MaintAct) (cls target : Nat) : Bool :=
  acts.any fun a => !a.final && !compatible cls a.cls (a.target != target)

/-! ## Registration (R485, R486) -/

/-- A handle in a final state stays readable until 64 later handles have been issued (R486). -/
def keepActs (next : Nat) (acts : List MaintAct) : List MaintAct :=
  acts.filter fun a => !a.final || decide (next ≤ a.handle + 64)

/-- A new activity takes the next handle. -/
def State.register (s : State) (act target deadline : Nat) (st : MaintState) : State :=
  let h := s.maint.next
  { s with maint := { s.maint with next := h + 1,
                                   acts := keepActs (h + 1) (s.maint.acts ++ [⟨h, act, target, deadline, st, 0, 0, false, 0, false⟩]) } }

/-- CORE_RETURN registers the three tests of a core that are not registered yet; tests of one core exclude each other, so
the later ones queue (R484, R488). -/
def State.registerReturn (s : State) (c : Nat) : State :=
  let s1 := [1, 2, 3].foldl (fun (s : State) act =>
    if s.openActs.any (fun a => a.act == act && a.target == c) then s
    else s.register act c (2 ^ 64 - 1) (if conflicts s.maint.acts 0 c then .queued else .waiting)) s
  { s1 with maint := { s1.maint with returns := s1.maint.returns ++ [(c, none)] } }

/-! ## The step boundary (R487, R488) -/

/-- CORE_RETURNs that were DEFERRED are tried again (R488). -/
def State.retryReturns (s : State) : State :=
  if s.bel.econ || s.rec0.stopping then s
  else s.maint.deferred.foldl State.registerReturn { s with maint := { s.maint with deferred := [] } }

/-- At a step boundary parity pages that PARITY_VERIFY found wrong are to be recomputed, each failed unit raises UNIT_FAILED, and
deferred returns are tried again (R487, R488). -/
def State.maintBoundary (s : State) : State :=
  let s1 : State := { s with rec0 := { s.rec0 with rebuild := (s.rec0.rebuild ++ s.maint.recompute).eraseDups },
                             maint := { s.maint with recompute := [], unitFailed := [] } }
  let s2 := s.maint.unitFailed.foldl (fun s u => raise cUnitFailed u.1 u.2 0 s) s1
  s2.retryReturns

end Sys2Proof.Machine
end

