-- ==== Sys2Proof/Machine/Aperture.lean ====
section
/-! DEFINITION. Accesses through the aperture: their pieces in order, as the page's home serves them (spec/14 R420, R421). -/

namespace Sys2Proof.Machine

/-- Changes the tiers. -/
def State.modTier (s : State) (f : Tier → Tier) : State := { s with tier := f s.tier }

/-- Changes the host interface's list of aperture accesses. -/
def State.setAper (s : State) (l : List AperAccess) : State := { s with hif := { s.hif with aper := l } }

/-- The other aperture accesses. -/
def State.otherAper (s : State) (tag : Nat) : List AperAccess := s.hif.aper.filter fun a => a.tag != tag

/-- An aperture access is over; what was asked for it is forgotten. -/
def State.endAper (s : State) (tag : Nat) : State := (s.setAper (s.otherAper tag)).modTier fun t => t.forget (.aperture tag)

/-- An aperture access that fails (R420). -/
def State.apertureAbort (s : State) : State :=
  ({ s with hif := { s.hif with errAperture := true } }).send .completerAbort

/-- Whether a page is homed in host memory: this module's, or another's as the directory entry last seen says (DEDUCED, log 158). -/
def State.hostHomed (s : State) (vpn : Nat) : Bool := match s.look vpn with
  | .entry e => e.tier == .host || (e.tier != .local && e.away)
  | _ => false

/-- An aperture access whose pieces have all been done: a read gives its bytes, a write ends once it is visible (R252, R420). -/
def State.closeAper (s : State) (a : AperAccess) : State :=
  match a.data with
  | none => (s.endAper a.tag).send (.busData a.got)
  | some _ => if a.acks = 0 then (s.endAper a.tag).send .busWritten else s.setAper (s.otherAper a.tag ++ [a])

/-- The pieces of an aperture access that are not done, in order, until one fails or waits (R420). -/
def State.aperGo (s : State) (a : AperAccess) : List (Nat × Nat) → State
  | [] => s.closeAper a
  | p :: t =>
    if s.hostHomed (p.1 / pageBytes) then (s.endAper a.tag).apertureAbort
    else match a.data with
      | none => match s.readPiece (.aperture a.tag) p.1 p.2 false s.bel.frame false with
        | .ok b s1 => State.aperGo s1 { a with done := a.done + 1, got := a.got ++ b } t
        | .wait s1 => s1.setAper (s1.otherAper a.tag ++ [a])
        | .late s1 => s1.setAper (s1.otherAper a.tag ++ [a])
        | .fault _ s1 => (s1.endAper a.tag).apertureAbort
      | some d => match s.writePiece (.aperture a.tag) p.1 ((d.drop (p.1 - a.va)).take p.2) with
        | .ok k s1 => State.aperGo s1 { a with done := a.done + 1, acks := a.acks + k } t
        | .wait s1 => s1.setAper (s1.otherAper a.tag ++ [a])
        | .fault _ s1 => (s1.endAper a.tag).apertureAbort

/-- An aperture access begins. -/
def State.startAper (s : State) (va len : Nat) (data : Option (List Byte)) : State :=
  ({ s with freeCtr := s.freeCtr + 1 }).aperGo ⟨s.freeCtr, va, len, data, 0, [], 0⟩ (piecesOf va len)

/-- Aperture accesses that wait for an answer go on when one has come (R237, R242, R251). -/
def State.retryAper (s : State) : State :=
  s.hif.aper.foldl (fun s a =>
    if s.hif.aper.contains a && decide (a.done < (piecesOf a.va a.len).length) then s.aperGo a ((piecesOf a.va a.len).drop a.done) else s) s

/-- A write of an aperture access has become visible. -/
def State.aperAck (s : State) (tag : Nat) : State :=
  match s.hif.aper.find? fun a => a.tag == tag with
  | some a =>
    let b := { a with acks := a.acks - 1 }
    if b.done = (piecesOf b.va b.len).length then s.closeAper b else s.setAper (s.otherAper tag ++ [b])
  | none => s

/-- An access of the aperture fails for want of an entry anywhere (R237, R420). -/
def State.aperFail (s : State) (tag : Nat) : State :=
  if s.hif.aper.any fun a => a.tag == tag then (s.endAper tag).apertureAbort else s

end Sys2Proof.Machine
end

