-- ==== Sys2Proof/Machine/Mem.lean ====
section
/-! DEFINITION. Pages: frames, quotas, allocation, freeing, moves, staged copies and heat, as the rows of spec/08 and the
memory commands use them (R234-R267, R512). -/

namespace Sys2Proof.Machine

/-! ## Frames (R234, R235, R262) -/

/-- Frames that hold something or may never be used. -/
def Tier.usedFrames (t : Tier) : List Nat :=
  (t.xlate.filterMap fun e => if e.2.tier = .local ∨ e.2.tier = .staged then some e.2.frame else none) ++
  (t.movesIn.filterMap fun m => if m.2.host.isNone then some m.2.frame else none) ++ (t.signposts.filterMap fun p => p.2.frame) ++ t.retired

/-- A free job frame of a stack, the first from an implementation's own starting point (R235, DESIGN CHOICE, log 9). -/
def State.freeFrameIn (s : State) (stack : Nat) : Option Nat :=
  let used := s.tier.usedFrames
  let hint := Config.frameHint s.freeCtr
  let cand := (List.range (min (used.length + 1) jobFrames)).map fun i =>
    stack * framesPerStack + (hint + i) % jobFrames
  cand.find? fun f => !used.contains f

/-- Takes a frame for a page: stack VPN mod 8 first, then the next that has one (R235). -/
def State.takeFrame (s : State) (vpn : Nat) : Option (Nat × State) :=
  match (List.range 8).findSome? fun k => s.freeFrameIn ((vpn + k) % 8) with
  | some f => some (f, { s with freeCtr := s.freeCtr + 1 })
  | none => none

/-- The bytes of a frame. -/
def State.frameBytes (s : State) (f : Nat) : List Byte := s.tier.hbm.readBytes (frameByte f 0) pageBytes

/-- A frame of zeros with correct check bytes. -/
def State.blankFrame (s : State) (f : Nat) : State :=
  s.modTier fun t => { t with hbm := t.hbm.zero (frameByte f 0) pageBytes,
                              poison := t.poison.filter fun w => decide (w < f * 2048) || decide (f * 2048 + 2048 ≤ w) }

/-- Zeros a frame (R264, R513). -/
def State.zeroFrame (s : State) (f : Nat) : State := (s.chargeHbm (f / framesPerStack) pageBytes).blankFrame f

/-- The bytes of a whole frame. -/
def State.putFrame (s : State) (f : Nat) (bytes : List Byte) : State :=
  (s.blankFrame f).modTier fun t => { t with hbm := t.hbm.writeBytes (frameByte f 0) bytes }

/-- Sets OVER for quotas above their limit and clears it at a tick for those that are not; a new one is an event (R64). -/
def State.quotaCheck (s : State) : State :=
  (List.range 5).foldl (fun s c =>
    let excess := decide (s.quotaLimit c < s.quotaUse c)
    let was := s.tier.excess.contains c
    if excess && !was then raise cOverQuota 0 c 0 (s.modTier fun t => { t with excess := c :: t.excess })
    else if !excess && was then s.modTier fun t => { t with excess := t.excess.erase c }
    else s) s

/-- The bytes from `a` on with those of a write over them where both lie. -/
def splice (a : Nat) (old : List Byte) (va : Nat) (new : List Byte) : List Byte :=
  if va + new.length ≤ a ∨ a + old.length ≤ va then old
  else
    let pre := va - a
    let mid := (new.drop (a - va)).take (old.length - pre)
    old.take pre ++ mid ++ old.drop (pre + mid.length)

/-- Bytes of pages that this module homes in HBM, with the writes that wait for holders in place; other pages give zeros. -/
def State.peekLocal (s : State) (va n : Nat) : List Byte :=
  (piecesOf va n).flatMap fun p => match mapFind s.tier.xlate (p.1 / pageBytes) with
    | some e => if e.tier = .local then
        s.tier.writes.foldl (fun b w => splice p.1 b w.va w.bytes) (s.tier.hbm.readBytes (frameByte e.frame (p.1 % pageBytes)) p.2)
        else List.replicate p.2 0
    | none => List.replicate p.2 0

/-- A read of `n` bytes at an address by a unit of this module, of pages that it homes in HBM, charges their stacks (R513). -/
def State.chargeLocal (s : State) (va n : Nat) : State :=
  (piecesOf va n).foldl (fun s p => match mapFind s.tier.xlate (p.1 / pageBytes) with
    | some e => if e.tier = .local then s.chargeHbm (e.frame / framesPerStack) p.2 else s
    | none => s) s

/-- Writes bytes of pages that this module homes in HBM, at once or once the holders of a lent page have been told; other pages are
left alone. The number of acknowledgements that `who` awaits (R252). -/
def State.pokeFor (s : State) (who : Requester) (va : Nat) (bytes : List Byte) : Nat × State :=
  ((piecesOf va bytes.length).foldl (fun (a : (Nat × State) × List Byte) p =>
    (match mapFind a.1.2.tier.xlate (p.1 / pageBytes) with
      | some e =>
        if e.tier ≠ .local then a.1
        else if (mapGet [] a.1.2.tier.holders (p.1 / pageBytes)).isEmpty then (a.1.1, a.1.2.applyAtHome e p.1 (a.2.take p.2))
        else (a.1.1 + 1, a.1.2.holdWrite who p.1 (a.2.take p.2))
      | none => a.1, a.2.drop p.2)) ((0, s), bytes)).1

/-- Such a write by a unit of the module that awaits nothing. -/
def State.pokeLocal (s : State) (va : Nat) (bytes : List Byte) : State := (s.pokeFor (.own (2 ^ 52)) va bytes).2

/-! ## Poisoned words that the module's own units meet (R261) -/

/-- The ECC word of this module's HBM that holds a virtual word of 32 bytes, where the module homes its page in HBM. -/
def State.wordHere (s : State) (vw : Nat) : Option Nat := match mapFind s.tier.xlate (vw / 2048) with
  | some e => if e.tier = .local then some (e.frame * 2048 + vw % 2048) else none
  | none => none

/-- The virtual words, among those of `n` bytes at an address, that are poisoned here. -/
def State.poisonIn (s : State) (va n : Nat) : List Nat :=
  (eccWords va n).filter fun w => (s.wordHere w).any fun x => s.tier.poison.contains x

/-- A unit reads poisoned words: UE_COUNT of each stack among them rises, and the words are ones of this stop (R261, R472). -/
def State.countPoison (s : State) (vws : List Nat) : State :=
  let bad := vws.filterMap s.wordHere
  let s1 := ((bad.map fun w => w / 2048 / framesPerStack).eraseDups).foldl (fun s k => s.modTier fun t =>
    let e := mapGet ⟨0, 0, 0⟩ t.ecc k
    { t with ecc := mapPut t.ecc k { e with ue := satAdd 16 e.ue 1 } }) s
  { s1 with rec0 := { s1.rec0 with ueNow := s1.rec0.ueNow ++ bad } }

/-- A unit of the module that reads `n` bytes at an address for no command of a core: a poisoned word among them raises MEM_UE at the
stack (R261; DEDUCED, log 166). -/
def State.meetPoison (s : State) (va n : Nat) : State :=
  match s.poisonIn va n with
  | [] => s
  | w :: t => raise cMemUe 2 (((s.wordHere w).getD 0) / 2048 / framesPerStack) 0 (s.countPoison (w :: t))

/-- Virtual words are poisoned here. -/
def State.spoil (s : State) (vws : List Nat) : State :=
  s.modTier fun t => { t with poison := t.poison ++ (vws.filterMap s.wordHere).filter fun w => !t.poison.contains w }

/-- A unit writes, at `dst`, what it has computed word by word from `bytes.length` bytes at each of the sources: a word that rests on a
poisoned one is poisoned itself (R261; DEDUCED, log 166). The number of acknowledgements that `who` awaits. -/
def State.writeSum (s : State) (who : Requester) (srcs : List Nat) (dst : Nat) (bytes : List Byte) : Nat × State :=
  let n := bytes.length
  let bad := srcs.flatMap fun a => (s.poisonIn a n).map fun w => dst / 32 + w - a / 32
  let r := (srcs.foldl (fun s a => (s.meetPoison a n).chargeLocal a n) s).pokeFor who dst bytes
  (r.1, r.2.spoil bad)

/-! ## Host pool (R512) -/

/-- Host pages of the pool that hold a page. -/
def State.poolUsed (s : State) : List Nat :=
  (s.tier.xlate.filterMap fun e => if e.2.tier = .host then some e.2.host else none) ++
  (s.tier.movesOut.filterMap fun m => if m.2.toHost ∧ m.2.dest = s.modNo then some m.2.hostPage else none) ++
  (s.tier.movesIn.filterMap fun m => m.2.host)

/-- Free pages of the host pool, the lowest first. -/
def State.poolFree (s : State) : List Nat :=
  let used := s.poolUsed
  ((List.range s.tier.poolPages).map fun k => s.tier.poolBase / pageBytes + k).filter fun p => !used.contains p

/-! ## Directory entries and translation entries -/

/-- A directory entry of this module, or one that it keeps as deputy (R240, R476). -/
def State.putDir (s : State) (vpn : Nat) (e : DEntry) : State := s.modTier fun t => { t with dir := mapPut t.dir vpn e }

/-- The directory entry's place: kept here, or sent to its directory module. -/
def State.storeDir (s : State) (vpn : Nat) (e : DEntry) : State :=
  let d := s.dirAt vpn
  if d = s.modNo then s.putDir vpn e else s.send (.dirEntry d vpn (some e))

/-- The 64-bit translation entry (Table 08-2, Table 08-3). -/
def XEntry.toNat (e : XEntry) : Nat :=
  let tier := match e.tier with
    | .local => 0
    | .pool => 1
    | .host => 2
    | .staged => 3
  let wher := match e.tier with
    | .local => e.frame % 2 ^ 24
    | .pool => e.mod % 2 ^ 12
    | .host => e.host % 2 ^ 48
    | .staged => e.mod % 2 ^ 12 * 2 ^ 24 + e.frame % 2 ^ 24
  2 ^ 63 + tier * 2 ^ 61 + bnat e.w * 2 ^ 60 + bnat e.pin * 2 ^ 59 + bnat e.lent * 2 ^ 58 + bnat e.stage * 2 ^ 57 +
    bnat e.late * 2 ^ 56 + wher

/-- The 128-bit directory entry (Table 08-4). -/
def DEntry.toNat (vpn : Nat) (e : DEntry) : Nat :=
  vpn % 2 ^ 36 * 2 ^ 92 + e.owner % 2 ^ 12 * 2 ^ 80 + e.home % 2 ^ 12 * 2 ^ 68 + bnat e.homeHost * 2 ^ 67 +
    bnat e.moving * 2 ^ 66 + bnat e.pin * 2 ^ 65 + bnat e.w * 2 ^ 64 + bnat e.stage * 2 ^ 63 + bnat e.late * 2 ^ 62 +
    e.flip % 2 ^ 48

/-! ## Commands and messages whose write ends (R101, R237, R289, R296) -/

/-- A core fault of a queue's started command that a memory answer brings. -/
def faultStarted (c : CoreId) (q : Nat) (code : Nat) (s : State) : State :=
  match ((s.core c).queue q).run with
  | some r =>
    if r.failed then s
    else
      let s1 := s.modCore c fun k => k.markFailed q
      raiseCore code c r.args.task.taskId { s1 with tier := s1.tier.forget (.engine c q) }
  | none => s

/-- One acknowledgement less for a command that waits. -/
def Core.ackOne (k : Core) (q : Nat) : Core :=
  let x := k.queue q
  k.setQueue q { x with run := x.run.map fun r => { r with acks := r.acks - 1 } }

/-- The counter of a PASS (R296). -/
def State.passAdd (s : State) (aux : Option (Nat × Nat × Nat)) : State :=
  match aux with
  | some a => s.modCore (BitVec.ofNat 8 a.1) fun k => k.addCounter (BitVec.ofNat 6 a.2.1) (BitVec.ofNat 16 a.2.2)
  | none => s

/-- A message that this module has sent to itself needs no acknowledgement any more. -/
def State.selfAck (s : State) (tag : Nat) : State := match s.tier.writesOut.find? fun w => w.tag == tag with
  | some w =>
    let s1 := s.modTier fun t => { t with writesOut := t.writesOut.filter fun x => x.tag != tag }
    match w.who with
    | .engine c q => s1.modCore c fun k => k.ackOne q
    | _ => s1
  | none => s

/-- Once every byte of an XSEND or a PASS is visible, its counter is added to and the sender gets its acknowledgement (R289, R296). -/
def State.bulkDone (s : State) (m tag : Nat) : State :=
  let who := Requester.bulk m tag
  if s.tier.writes.any (fun w => w.who == who) || s.tier.writesOut.any (fun w => w.who == who) then s
  else match s.tier.bulks.find? fun b => b.1 == m && b.2.1 == tag with
    | some b =>
      let s1 := (s.modTier fun t => { t with bulks := t.bulks.erase b }).passAdd b.2.2
      if m = s.modNo then s1.selfAck tag else s1.send (.bulkAck m tag)
    | none => s

/-- A write has become visible: whoever made it is told (R101, R252, R289). -/
def State.writeDone (s : State) (who : Requester) : State := match who with
  | .engine c q => s.modCore c fun k => k.ackOne q
  | .remote m tag => s.send (.writeAck m tag s.modNo)
  | .bulk m tag => s.bulkDone m tag
  | .aperture tag => s.aperAck tag
  | _ => s

/-- A write ends without effect: no entry of its page stands anywhere (R237, R264). -/
def State.writeFailed (s : State) (who : Requester) (va : Nat) : State := match who with
  | .engine c q => faultStarted c q cXlateInvalid s
  | .remote m tag => s.send (.notHome m va tag none)
  | .bulk m tag =>
    let s1 := s.modTier fun t => { t with bulks := t.bulks.filter fun b => !(b.1 == m && b.2.1 == tag) }
    if m = s.modNo then match s1.tier.writesOut.find? fun w => w.tag == tag with
      | some w => match w.who with
        | .engine c q => faultStarted c q cXlateInvalid (s1.modTier fun t => { t with writesOut := t.writesOut.filter fun x => x.tag != tag })
        | _ => s1
      | none => s1
    else s1.send (.notHome m va tag none)
  | .aperture tag => s.aperFail tag
  | _ => s

/-! ## The MAINT budget (R59, R60, R439) -/

/-- Whether a unit's MAINT meter is above zero: 0 to 7 the tier agent of a stack, 8 the die. -/
def State.maintOpen (s : State) (unit : Nat) : Bool := !s.almanacRuns || decide (0 < mapGet 0 s.bud.maint unit)

/-- Charges a unit's MAINT meter. -/
def State.chargeMaint (s : State) (unit cycles : Nat) : State :=
  { s with bud := { s.bud with maint := mapSet 0 s.bud.maint unit (mapGet 0 s.bud.maint unit - cycles) } }

/-- W, PIN, STAGE and LATE of a directory entry in bits 0 to 3. -/
def DEntry.attrs (e : DEntry) : Nat := bnat e.w + 2 * bnat e.pin + 4 * bnat e.stage + 8 * bnat e.late

/-! ## Freeing (R64, R249, R264) -/

/-- The module that a move takes a page to from here is told that the page is freed (R249). -/
def State.tellDest (s : State) (vpn : Nat) : State := match mapFind s.tier.movesOut vpn with
  | some m => if m.dest = s.modNo then s else s.send (.pageFree m.dest vpn)
  | none => s

/-- What this module holds of a page goes: entry, frame, directory entry, moves, staged copy, holders, who are told; writes that
wait for them end (R249, R252, R264). -/
def State.dropPage (s : State) (vpn : Nat) : State :=
  let held := s.tier.writes.filter fun w => w.va / pageBytes == vpn
  let s1 := ((s.invalHolders vpn).tellDest vpn).modTier fun t => { t with
    xlate := mapErase t.xlate vpn, dir := mapErase t.dir vpn, owners := mapErase t.owners vpn,
    staged := mapErase t.staged vpn, holders := mapErase t.holders vpn, invals := t.invals.filter fun v => v != vpn,
    writes := t.writes.filter (fun w => w.va / pageBytes != vpn), movesOut := mapErase t.movesOut vpn,
    movesIn := mapErase t.movesIn vpn, grants := mapErase t.grants vpn, signposts := mapErase t.signposts vpn,
    heat := mapErase t.heat vpn, codePages := t.codePages.filter fun p => p != vpn }
  held.foldl (fun s w => s.writeFailed w.who w.va) s1

/-- Other modules that may home a page, as far as this one knows: by its directory entry, and by its translation entry. -/
def State.homesOf (s : State) (vpn : Nat) : List Nat :=
  let byDir := match mapFind s.tier.dir vpn with
    | some e => [if e.homeHost then e.owner else e.home]
    | none => []
  let byEntry := match mapFind s.tier.xlate vpn with
    | some e => if e.tier = .pool ∨ e.tier = .staged then [e.mod] else []
    | none => []
  (byDir ++ byEntry).eraseDups.filter fun m => m != s.modNo

/-- The modules that a change of a page is told to: those that may home it, and its directory module, which tells the home that its own
entry names (R264). -/
def State.tellOf (s : State) (vpn : Nat) : List Nat :=
  let d := s.dirAt vpn
  (if d = s.modNo then s.homesOf vpn else s.homesOf vpn ++ [d]).eraseDups

/-- Frees a page that this module's software allocated: here, at its home and at its directory module. -/
def State.freePage (s : State) (vpn : Nat) : State :=
  (s.tellOf vpn).foldl (fun s m => s.send (.pageFree m vpn)) (s.dropPage vpn)

/-- The attributes of a page reach what this module keeps of it, and the module that a move takes it to from here (R249, R264). -/
def State.setAttrs (s : State) (vpn : Nat) (w pin stage late : Bool) : State :=
  let s1 := s.modTier fun t => { t with
    xlate := match mapFind t.xlate vpn with
      | some e => mapPut t.xlate vpn { e with w := w, pin := pin, stage := stage, late := late }
      | none => t.xlate,
    dir := match mapFind t.dir vpn with
      | some e => mapPut t.dir vpn { e with w := w, pin := pin, stage := stage, late := late }
      | none => t.dir,
    movesIn := match mapFind t.movesIn vpn with
      | some m => mapPut t.movesIn vpn { m with attrs := bnat w + 2 * bnat pin + 4 * bnat stage + 8 * bnat late }
      | none => t.movesIn }
  match mapFind s1.tier.movesOut vpn with
  | some m => if m.dest = s1.modNo then s1 else s1.send (.pageAttr m.dest vpn w pin stage late)
  | none => s1

/-- Changes the attributes of a page at its home, its directory module and here (R264). -/
def State.attrPage (s : State) (vpn : Nat) (w pin stage late : Bool) : State :=
  (s.tellOf vpn).foldl (fun s m => s.send (.pageAttr m vpn w pin stage late)) (s.setAttrs vpn w pin stage late)

/-- Applies a function to the pages of a range in ascending order. -/
def overPages : Nat → Nat → (Nat → State → State) → State → State
  | _, 0, _, s => s
  | v, n + 1, f, s => overPages (v + 1) n f (f v s)

/-! ## Staged copies (R249-R253) -/

/-- Drops a stage frame; the entry is POOL again (R252, R253). -/
def State.dropStage (s : State) (vpn : Nat) : State :=
  match mapFind s.tier.xlate vpn with
  | some e =>
    if e.tier = .staged then
      s.modTier fun t => { t with xlate := mapPut t.xlate vpn { e with tier := .pool, frame := 0 },
                                  staged := mapErase t.staged vpn }
    else s
  | none => s

/-- Drops a stage frame on this module's own account and tells the home (R253). -/
def State.yieldStage (s : State) (vpn : Nat) : State :=
  match mapFind s.tier.staged vpn with
  | some f => (s.dropStage vpn).send (.stageDropped f.home vpn)
  | none => s

/-- The least recently staged page (R253). -/
def State.oldestStage (s : State) : Option Nat :=
  match s.tier.staged with
  | [] => none
  | h :: t => some (t.foldl (fun b p => if p.2.order < b.2.order then p else b) h).1

/-- Stages what a read brought of a page: a frame if it has none, and the 64-byte units the read covers (R250, R251); each staging
takes the next place in the order of R253. -/
def State.stageRead (s : State) (vpn home off : Nat) (bytes : List Byte) : State :=
  match mapFind s.tier.xlate vpn with
  | none => s
  | some e =>
    let first := (off + 63) / 64
    let last := (off + bytes.length) / 64
    let units := (List.range (last - first)).map fun i => first + i
    let put (s : State) (f : StageFrame) : State :=
      (s.writeFrame f.frame (64 * first) ((bytes.drop (64 * first - off)).take (64 * (last - first)))).modTier fun t => { t with
        staged := mapPut t.staged vpn { f with valid := (f.valid ++ units).eraseDups, order := t.stageCtr },
        stageCtr := t.stageCtr + 1 }
    match mapFind s.tier.staged vpn with
    | some f => put s f
    | none =>
      let s1 := if s.quotaRoom 4 1 then s else match s.oldestStage with
        | some v => s.yieldStage v
        | none => s
      if !(s1.quotaRoom 0 1 && s1.quotaRoom 4 1) then s1.send (.stageDropped home vpn)
      else match s1.takeFrame vpn with
        | none => s1.send (.stageDropped home vpn)
        | some (f, s2) =>
          put (s2.modTier fun t => { t with xlate := mapPut t.xlate vpn { e with tier := .staged, frame := f, mod := home } })
            ⟨f, home, [], 0⟩

/-- Applies writes at the home whose invalidations have all been acknowledged, and tells their writers (R252). -/
def State.releaseWrites (s : State) (vpn : Nat) : State :=
  match mapFind s.tier.xlate vpn with
  | none => s
  | some e =>
    let mine := s.tier.writes.filter fun w => w.va / pageBytes == vpn && w.left.isEmpty
    let s1 := s.modTier fun t => { t with writes := t.writes.filter fun w => !(w.va / pageBytes == vpn && w.left.isEmpty) }
    mine.foldl (fun s w => (s.applyAtHome e w.va w.bytes).writeDone w.who) s1

/-- A holder has gone: the page's LENT and the writes that wait for it; a flip that awaited it (R252, R253, Table 08-6). -/
def State.loseHolder (s : State) (src vpn : Nat) : State :=
  let hs := (mapGet [] s.tier.holders vpn).filter fun h => h != src
  let s1 := s.modTier fun t => { t with
    holders := if hs.isEmpty then mapErase t.holders vpn else mapPut t.holders vpn hs,
    xlate := match mapFind t.xlate vpn with
      | some e => mapPut t.xlate vpn { e with lent := !hs.isEmpty }
      | none => t.xlate,
    invals := if hs.isEmpty then t.invals.filter (fun v => v != vpn) else t.invals,
    movesOut := t.movesOut.map (fun m => if m.1 = vpn then (vpn, { m.2 with flipFrom := s.tickFor }) else m),
    writes := t.writes.map fun w => if w.va / pageBytes == vpn then { w with left := w.left.filter fun h => h != src } else w }
  s1.releaseWrites vpn

/-- The pages whose staged copies stand in the way of a write of the module's own: their holders are told (R252). -/
def State.recall (s : State) (vpns : List Nat) : State := vpns.foldl State.invalHolders s

/-- Whether none of the pages is lent. -/
def State.recalled (s : State) (vpns : List Nat) : Bool := vpns.all fun v => (mapGet [] s.tier.holders v).isEmpty

/-! ## Moves (R245-R249, R265) -/

/-- Pieces of a move: 32 of 2 KiB (Table 08-6). -/
def movePieces : Nat := 32

/-- The poisoned words of `n` bytes of a frame from `off` on, counted from there. -/
def State.badWords (s : State) (frame off n : Nat) : List Nat :=
  ((eccWords (frameByte frame off) n).filter fun w => s.tier.poison.contains w).map fun w => w - frameByte frame off / 32

/-- Charges a copy of a page to or from a place: its stack, or the host link (R248). -/
def State.chargePlace (s : State) (e : XEntry) (out : Bool) : State :=
  if e.tier = .host then (if out then s.chargeHostOut pageBytes else s.chargeHostIn pageBytes)
  else s.chargeHbm (e.frame / framesPerStack) pageBytes

/-- One piece of a page on the move goes to the new home, with the words of it that are poisoned (R261, Table 08-6). -/
def State.sendPiece (s : State) (vpn : Nat) (m : MoveOut) (e : XEntry) (i : Nat) : State :=
  let bytes := match e.tier with
    | .host => s.hostMem.readBytes (e.host * pageBytes + 2048 * i) 2048
    | _ => s.tier.hbm.readBytes (frameByte e.frame (2048 * i)) 2048
  let bad := if e.tier = .host then [] else s.badWords e.frame (2048 * i) 2048
  let tag := s.fab.tagNext
  { s with fab := { s.fab with tagNext := tag + 1 },
           tier := { s.tier with writesOut := s.tier.writesOut ++ [⟨tag, .own vpn, i, [], true, none⟩] },
           outbox := s.outbox ++ [.movePiece m.dest vpn i bytes bad] }

/-- The old home streams a page whose move is granted, once the MAINT budget of the page's tier agent is open: 32 pieces to another
module, or a copy between its own HBM and host memory. A page with a poisoned word goes to no host memory, which could not say so: its
move is abandoned in time (R248, R261; DESIGN CHOICE, log 144). -/
def State.streamMove (s : State) (vpn : Nat) : State :=
  match mapFind s.tier.movesOut vpn, mapFind s.tier.xlate vpn with
  | some m, some e =>
    if m.sent || !s.maintOpen (vpn % 8) || (m.toHost && e.tier == .local && !(s.badWords e.frame 0 pageBytes).isEmpty) then s
    else
      let s1 := ((s.chargeMaint (vpn % 8) (Config.copyCycles pageBytes)).chargePlace e false).modTier fun t =>
        { t with movesOut := mapPut t.movesOut vpn { m with sent := true, flipFrom := s.tickFor } }
      if m.dest = s.modNo then
        match mapFind s1.tier.movesIn vpn with
        | some i => s1.chargeHbm (i.frame / framesPerStack) pageBytes
        | none => s1.chargeHostOut pageBytes
      else (List.range movePieces).foldl (fun s i => s.sendPiece vpn m e i) s1
  | _, _ => s

/-- Every move that waits for its MAINT budget. -/
def State.streamMoves (s : State) : State := s.tier.movesOut.foldl (fun s m => s.streamMove m.1) s

/-- The old home begins a granted move: it invalidates staged copies and streams the page (Table 08-6). -/
def State.beginMoveOut (s : State) (vpn dest : Nat) (toHost : Bool) (hostPage tick owner : Nat) : State :=
  ((s.modTier fun t => { t with movesOut := mapPut t.movesOut vpn ⟨dest, toHost, hostPage, tick, owner, false, [], 0, 0⟩ }).invalHolders
    vpn).streamMove vpn

/-- Whether this module's quotas take one more page of an owner, in HBM or in host memory (R265, R512). -/
def State.acceptsPage (s : State) (owner : Nat) (toHost : Bool) : Bool :=
  if toHost then s.quotaRoom 3 1 && !s.poolFree.isEmpty else s.quotaRoom 0 1 && (owner == s.modNo || s.quotaRoom 1 1)

/-- The new home of a granted move reserves a frame, or a page of its host pool, if it accepts the page (Table 08-6, R265, R512). -/
def State.beginMoveIn (s : State) (vpn source : Nat) (toHost : Bool) (tick owner attrs : Nat) : State :=
  if !s.acceptsPage owner toHost then s
  else if toHost then
    match s.poolFree with
    | h :: _ => s.modTier fun t => { t with movesIn := mapPut t.movesIn vpn ⟨source, 0, tick, owner, some h, attrs⟩ }
    | [] => s
  else
    match s.takeFrame vpn with
    | some (f, s1) => s1.modTier fun t => { t with movesIn := mapPut t.movesIn vpn ⟨source, f, tick, owner, none, attrs⟩ }
    | none => s

/-- This module's part in a granted move: as old home, as new home (Table 08-6). A page that this module moves between its own HBM
and its own host memory begins to move where there is room for it (R512). -/
def State.moveGranted (s : State) (vpn source dest : Nat) (toHost : Bool) (tick owner attrs : Nat) : State :=
  let s1 := if dest = s.modNo ∧ (!toHost || source != s.modNo) then s.beginMoveIn vpn source toHost tick owner attrs else s
  match mapFind s1.tier.xlate vpn with
  | some e =>
    if e.tier = .local ∨ e.tier = .host then
      if dest ≠ s.modNo then s1.beginMoveOut vpn dest toHost 0 tick owner
      else if toHost then (if s1.acceptsPage owner true then s1.beginMoveOut vpn dest toHost (s1.poolFree.headD 0) tick owner else s1)
      else if (mapFind s1.tier.movesIn vpn).isSome then s1.beginMoveOut vpn dest toHost 0 tick owner
      else s1
    else s1
  | none => s1

/-- The directory's answer to a request to move a page: granted or refused (R247, R249). -/
def State.moveAllowed (s : State) (e : DEntry) : Bool :=
  !e.moving && !e.pin && !s.bel.econ && decide (e.flip + s.tier.regs.hold ≤ s.bel.frame)

/-- Whether the destination of a move accepts: this module by its quotas, another one as its answer `accepts` says (R265). -/
def State.destAccepts (s : State) (owner dest : Nat) (toHost accepts : Bool) : Bool :=
  if dest = s.modNo then s.acceptsPage owner toHost else accepts

/-- A request to move a page reaches its directory module, here (R247, R265). -/
def State.askMove (s : State) (vpn by_ dest : Nat) (toHost accepts : Bool) : State :=
  match mapFind s.tier.dir vpn with
  | none => s
  | some e =>
    if s.moveAllowed e && s.destAccepts e.owner dest toHost accepts then
      let source := if e.homeHost then e.owner else e.home
      let s1 := (s.putDir vpn { e with moving := true }).modTier fun t =>
        { t with grants := mapPut t.grants vpn (dest + (if toHost then 2 ^ 12 else 0), s.bel.frame) }
      let others := ([by_, source, dest].eraseDups).filter fun m => m != s.modNo
      let s2 := others.foldl (fun s m => s.send (.moveGrant m vpn dest e.attrs true)) s1
      s2.moveGranted vpn source dest toHost s.bel.frame e.owner e.attrs
    else if by_ = s.modNo then s else s.send (.moveGrant by_ vpn dest e.attrs false)

/-- Asks the directory module of a page for a move to a destination that accepts (R245, R246). -/
def State.requestMove (s : State) (vpn dest : Nat) (toHost : Bool) : State :=
  let d := s.dirAt vpn
  if d = s.modNo then s.askMove vpn s.modNo dest toHost true else s.send (.moveReq d vpn dest toHost)

/-- A granted move ends without a flip (R248, R249). -/
def State.endMove (s : State) (vpn : Nat) : State :=
  s.modTier fun t => { t with
    movesOut := mapErase t.movesOut vpn, movesIn := mapErase t.movesIn vpn, grants := mapErase t.grants vpn,
    dir := match mapFind t.dir vpn with
      | some e => mapPut t.dir vpn { e with moving := false }
      | none => t.dir }

/-! ## Heat epochs (R243-R246) -/

/-- Pages of a tier agent whose heat a condition selects, ordered: by heat (falling or rising), then by VPN. -/
def pickHeat (l : List (Nat × Nat)) (hottest : Bool) : List (Nat × Nat) :=
  l.mergeSort fun a b =>
    if a.2 = b.2 then decide (a.1 ≤ b.1) else if hottest then decide (b.2 ≤ a.2) else decide (a.2 ≤ b.2)

/-- Heat of a page. -/
def State.heatOf (s : State) (vpn : Nat) : Nat := (mapGet (0, 0) s.tier.heat vpn).1

/-- H := min(H − (H >> DECAY) + a, 65535) for every tracked page (R243). -/
def State.decayHeat (s : State) : State :=
  s.modTier fun t => { t with heat :=
    (t.heat.map fun e => (e.1, (min (e.2.1 - e.2.1 / 2 ^ t.regs.decay + e.2.2) 65535, 0))).filter fun e => e.2.1 != 0 }

/-- Pulls that a tier agent requests (R245). -/
def State.pullsOf (s : State) (agent : Nat) : List Nat :=
  if s.tier.regs.promote = 0 then []
  else
    let hot := s.tier.heat.filterMap fun h =>
      match mapFind s.tier.xlate h.1 with
      | some e =>
        if h.1 % 8 = agent ∧ s.tier.regs.promote ≤ h.2.1 ∧ (e.tier = .pool ∨ e.tier = .host) ∧ e.pin = false then
          some (h.1, h.2.1) else none
      | none => none
    ((pickHeat hot true).take 8).map Prod.fst

/-- Destinations of a page that leaves this module's HBM, in order (R246, Table 08-12): a module and whether its host
memory. A page does not move to the module that homes it (DEDUCED, log 67). -/
def State.pushDests (s : State) (vpn : Nat) : List (Nat × Bool) :=
  let owner := mapGet s.modNo s.tier.owners vpn
  if owner = s.modNo then ((s.tier.targets.filter fun m => m != s.modNo).map fun m => (m, false)) ++ [(s.modNo, true)]
  else [(owner, false), (owner, true)]

/-- The first of several destinations that accepts a page; `room` names the other modules that do (R246, R265). -/
def State.firstDest (s : State) (room : List (Nat × Bool)) (vpn : Nat) (dests : List (Nat × Bool)) : Option (Nat × Bool) :=
  dests.find? fun d => s.destAccepts (mapGet s.modNo s.tier.owners vpn) d.1 d.2 (room.contains d)

/-- Unpinned home pages of a tier agent, coldest first. -/
def State.coldPages (s : State) (agent limit : Nat) (sel : Nat → Bool) : List Nat :=
  let cold := s.tier.xlate.filterMap fun e =>
    if e.1 % 8 = agent ∧ e.2.tier = .local ∧ e.2.pin = false ∧ s.heatOf e.1 ≤ limit ∧ sel e.1 = true ∧
        (mapFind s.tier.movesOut e.1).isNone then some (e.1, s.heatOf e.1) else none
  (pickHeat cold false).map Prod.fst

/-- Pages that HBM use above 15/16 of its limit pushes out, at most 8 of an agent, coldest first, each with the destination that
accepts it; pages that leave already count as gone (R246). -/
def State.pushes (room : List (Nat × Bool)) (s : State) : List (Nat × Nat × Bool) :=
  let going := (s.tier.movesOut.filter fun m => match mapFind s.tier.xlate m.1 with
    | some e => e.tier == .local
    | none => false).length
  let excess := s.quotaUse 0 - going - s.quotaLimit 0 * 15 / 16
  let ofAgent (a : Nat) : List (Nat × Nat × Bool) :=
    ((s.coldPages a s.tier.regs.demote (fun _ => true)).filterMap fun v =>
      (s.firstDest room v (s.pushDests v)).map fun d => (v, d.1, d.2)).take 8
  let all := (List.range 8).flatMap ofAgent
  ((pickHeat (all.map fun p => (p.1, s.heatOf p.1)) false).take excess).filterMap fun p => all.find? fun q => q.1 == p.1

/-- Requests these pushes (R246). -/
def State.pushHeat (room : List (Nat × Bool)) (s : State) : State :=
  (s.pushes room).foldl (fun s p => s.requestMove p.1 p.2.1 p.2.2) s

/-! ## Frames retired (R262) -/

/-- A frame and its poison are copied into a fresh frame (R262). -/
def State.copyFrame (s : State) (f g : Nat) : State :=
  let s1 := ((s.chargeHbm (f / framesPerStack) pageBytes).chargeHbm (g / framesPerStack) pageBytes).putFrame g (s.frameBytes f)
  s1.modTier fun t => { t with poison := t.poison ++ (t.poison.filter fun w => w / 2048 == f).map fun w => w % 2048 + g * 2048 }

/-- A frame's page, or the page that a move fills it with, moves to a free frame of the same stack, or of another stack, and the
frame is never used again (R262). -/
def State.retireFrame (s : State) (f : Nat) : State :=
  let stack := f / framesPerStack
  let s1 := s.modTier fun t => { t with
    retired := t.retired ++ [f], corr := mapErase t.corr f,
    ecc := mapPut t.ecc stack (let e := mapGet ⟨0, 0, 0⟩ t.ecc stack; { e with retired := e.retired + 1 }) }
  let fresh (v : Nat) : Option (Nat × State) := match s1.freeFrameIn stack with
    | some g => some (g, { s1 with freeCtr := s1.freeCtr + 1 })
    | none => s1.takeFrame v
  let s2 := match s1.tier.xlate.find? (fun e => (e.2.tier == .local || e.2.tier == .staged) && e.2.frame == f),
      s1.tier.movesIn.find? (fun m => m.2.host.isNone && m.2.frame == f) with
    | some (v, e), _ => match fresh v with
      | none => s1
      | some (g, s3) => (s3.copyFrame f g).modTier fun t => { t with
          xlate := mapPut t.xlate v { e with frame := g },
          staged := match mapFind t.staged v with
            | some x => mapPut t.staged v { x with frame := g }
            | none => t.staged }
    | none, some (v, m) => match fresh v with
      | none => s1
      | some (g, s3) => (s3.copyFrame f g).modTier fun t => { t with movesIn := mapPut t.movesIn v { m with frame := g } }
    | none, none => s1
  raise cFrameRetired 2 stack 0 s2

end Sys2Proof.Machine
end

