-- ==== Sys2Proof/Machine/TableBase.lean ====
section
/-! DEFINITION. Fields and addresses of tables (spec/12 R366-R370, R378-R388). -/

namespace Sys2Proof.Machine

/-- `n` bytes of the entry at an offset (Table 12-1). -/
def Table.nat (t : Table) (off n : Nat) : Nat := natOfBytes ((t.image.drop off).take n)
/-- LAYOUT. -/
def Table.layout (t : Table) : Nat := t.nat 2 1
/-- TRAINED. -/
def Table.trained (t : Table) : Bool := bit (t.nat 3 1) 0
/-- DEFROW. -/
def Table.defRow (t : Table) : Bool := bit (t.nat 3 1) 1
/-- LATE: SUBSTITUTE. -/
def Table.late (t : Table) : Bool := bit (t.nat 3 1) 2
/-- HOTMOVE. -/
def Table.hotMove (t : Table) : Bool := bit (t.nat 3 1) 3
/-- STEPBIND. -/
def Table.stepBound (t : Table) : Bool := bit (t.nat 3 1) 4
/-- LOCAL. -/
def Table.isLocal (t : Table) : Bool := bit (t.nat 3 1) 5
/-- ELEMS. -/
def Table.elems (t : Table) : Nat := t.nat 4 2
/-- ROWS. -/
def Table.rows (t : Table) : Nat := t.nat 8 8
/-- STRIDE. -/
def Table.stride (t : Table) : Nat := t.nat 16 4
/-- HOT_SLOTS. -/
def Table.hotSlots (t : Table) : Nat := t.nat 20 4
/-- LOAD_LIMIT. -/
def Table.loadLimit (t : Table) : Nat := t.nat 36 4
/-- HOT_BASE. -/
def Table.hotBase (t : Table) : Nat := t.nat 48 8
/-- GRAD_BASE. -/
def Table.gradBase (t : Table) : Nat := t.nat 56 8
/-- LEG. -/
def Table.leg (t : Table) : Option Legend := Legend.ofNat (t.nat 64 16)
/-- LEG_G. -/
def Table.legG (t : Table) : Option Legend := Legend.ofNat (t.nat 80 16)

/-- Rows per page of a stride (R353). -/
def rowsPerPage (stride : Nat) : Nat := 65536 / stride

/-- Address of row `r` of a tensor (R353, R368). -/
def rowAddr (base stride r : Nat) : Nat :=
  base + r / rowsPerPage stride * 65536 + r % rowsPerPage stride * stride

/-- gstride (R378). -/
def Table.gstride (t : Table) : Nat := 8 * ((9 * t.elems + 7) / 8)
/-- ghalf (R378). -/
def Table.ghalf (t : Table) : Nat := 65536 * ((t.rows + rowsPerPage t.gstride - 1) / rowsPerPage t.gstride)
/-- Address of a gradient row in the gradient area (R378). -/
def Table.gradAddr (t : Table) (half row : Nat) : Nat := rowAddr (t.gradBase + half * t.ghalf) t.gstride row
/-- Address of the gradient row of a hot slot (R385). -/
def Table.hotGradAddr (t : Table) (half slot : Nat) : Nat :=
  let hhalf := 65536 * ((t.hotSlots + rowsPerPage t.gstride - 1) / rowsPerPage t.gstride)
  rowAddr (t.nat 122 6 * 65536 + half * hhalf) t.gstride slot

/-- Bytes of a part of a hot slot, padded to 8 (R385). -/
def pad8 (n : Nat) : Nat := 8 * ((n + 7) / 8)

/-- The zero gradient row: W = 0, E = 16 in every word (R378, R381). -/
def Table.zeroGrad (t : Table) : List Byte := (List.replicate t.elems (A48.toBytes ⟨0, 16⟩)).flatten

/-- The hot slot of this module that holds a row and has flipped to it. -/
def Table.hotOf (t : Table) (row : Nat) : Option Nat :=
  (t.hot.find? fun h => h.2.row == row && h.2.live).map Prod.fst

/-- Where this module keeps the gradient of a row that it homes (R378, R385). -/
def Table.gradHere (t : Table) (half row : Nat) : Nat := match t.hotOf row with
  | some i => t.hotGradAddr half i
  | none => t.gradAddr half row

/-- A table of the directory. -/
def State.table (s : State) (n : Nat) : Option Table := mapFind s.tables.entries n

/-- Replaces a table. -/
def State.putTable (s : State) (n : Nat) (t : Table) : State :=
  { s with tables := { s.tables with entries := mapPut s.tables.entries n t } }

/-- The version of a number. -/
def Table.version (t : Table) (v : Nat) : Option TabVersion :=
  (t.versions.find? fun e => e.2.version == v).map Prod.snd

/-- The CURRENT version. -/
def Table.currentV (t : Table) : Option TabVersion :=
  (t.versions.find? fun e => e.2.state == .current).map Prod.snd

/-- TABLE_DESTROY takes effect: the current version becomes RETIRING and a PENDING one is freed (R391). -/
def Table.retireAll (t : Table) : Table :=
  { t with versions := (t.versions.filter fun v => v.2.state != .pending).map fun v => (v.1, { v.2 with state := .retiring }) }

/-- A due version: a superseded one is freed, any other becomes CURRENT (R370). -/
def Table.takeVersion (t : Table) (rec_ : Nat) (frame : Nat) : Table × Option TabVersion :=
  match mapFind t.versions rec_ with
  | none => (t, none)
  | some v =>
    if t.versions.any fun o => decide (v.version < o.2.version) then (t, some v)
    else
      let vs := t.versions.map fun o =>
        if o.1 = rec_ then (o.1, { o.2 with state := .current, from_ := frame })
        else if o.2.state = .current then (o.1, { o.2 with state := .retiring }) else o
      ({ t with versions := vs, image := t.image.take 40 ++ bytesOfNat 4 v.version ++ t.image.drop 44 }, none)

/-- Records of the PENDING versions that are due at a tick, the earliest first. -/
def Table.dueVersions (t : Table) (frame : Nat) : List Nat :=
  let due := (t.versions.filter fun v => v.2.state == .pending && decide (v.2.from_ ≤ frame)).map fun v => (v.2.from_, v.1)
  (due.mergeSort fun a b => decide (a.1 ≤ b.1)).map Prod.snd

/-- The table as it stands once the tick's publishes and its destroy have taken effect: what a task of the frame that begins
there binds (R370, R371, R391). -/
def Table.atTick (t : Table) (frame : Nat) : Table :=
  let t1 := (t.dueVersions frame).foldl (fun t r => (t.takeVersion r frame).1) t
  match t.destroy with
  | some f => if f ≤ frame then t1.retireAll else t1
  | none => t1

/-- The key of a row of a version in redirects, moves, signposts and the row cache. -/
def rowKey (version row : Nat) : Nat := version * 2 ^ 64 + row

/-- The row of a key. -/
def keyRow (key : Nat) : Nat := key % 2 ^ 64
/-- The version of a key. -/
def keyVersion (key : Nat) : Nat := key / 2 ^ 64

/-- Address of the base slot of a row (R368). -/
def Table.baseAddr (t : Table) (key : Nat) : Nat :=
  rowAddr (((t.version (keyVersion key)).map TabVersion.base).getD 0) t.stride (keyRow key)

/-! ## The row cache (R387) -/

/-- The home that the row cache names. -/
def State.cached (s : State) (tn key : Nat) : Option Nat :=
  (s.tables.cache.find? fun c => c.1 == (tn, key)).map Prod.snd

/-- Puts a home into the row cache, the least recently used entry leaving a full one. -/
def State.cachePut (s : State) (tn key home : Nat) : State :=
  let c := s.tables.cache.filter fun c => c.1 != (tn, key)
  { s with tables := { s.tables with cache := (c.drop (c.length + 1 - 65536)) ++ [((tn, key), home)] } }

/-- A use of the cache makes its entry the newest. -/
def State.cacheUse (s : State) (tn key : Nat) : State := match s.cached tn key with
  | some m => s.cachePut tn key m
  | none => s

/-- Drops a cache entry. -/
def State.cacheDrop (s : State) (tn key : Nat) : State :=
  { s with tables := { s.tables with cache := s.tables.cache.filter fun c => c.1 != (tn, key) } }

/-- A reply about a row names its home: the row cache keeps it, unless it is the home of the base slot's page (R387, R388). -/
def State.noteRowHome (s : State) (tn key home : Nat) : State :=
  match s.table tn with
  | some t => match s.look (t.baseAddr key / pageBytes) with
    | .entry e => if e.tier = .pool ∧ e.mod = home then s.cacheDrop tn key else s.cachePut tn key home
    | _ => s.cachePut tn key home
  | none => s

/-- The version that the adds of a TRAINED table go to: it never holds another (R370, R371). -/
def Table.addVersion (t : Table) : Nat := ((t.versions.find? fun v => v.2.state != .pending).map fun v => v.2.version).getD 0

/-! ## Rows of versions -/

/-- The hot slot of this module that is the home of a row (R385, R388). -/
def Table.hotAt (t : Table) (key : Nat) : Option Nat :=
  (t.hot.find? fun h => h.2.row == keyRow key && h.2.version == keyVersion key && h.2.live).map Prod.fst

/-- Bytes of a value row. -/
def Table.valueBytes (t : Table) : Nat := match t.leg with
  | some l => l.fmt.rowBytes t.elems
  | none => 0

/-- Bytes of a state row of FORMAT `fmt`; 0 where the table has none. -/
def Table.stateBytes (t : Table) (fmt : Nat) : Nat := match Fmt.ofCode fmt with
  | some f => if fmt = 0 then 0 else f.rowBytes t.elems
  | none => 0

/-- Bytes of the first-state row. -/
def Table.mBytes (t : Table) : Nat := if t.nat 96 8 = 0 then 0 else t.stateBytes (t.nat 120 1)
/-- Bytes of the second-state row. -/
def Table.vBytes (t : Table) : Nat := if t.nat 104 8 = 0 then 0 else t.stateBytes (t.nat 121 1)

/-- HS: bytes of a hot slot (R385). -/
def Table.slotBytes (t : Table) : Nat :=
  64 * ((16 + pad8 t.valueBytes + pad8 t.mBytes + pad8 t.vBytes + 63) / 64)

/-- Address of hot slot `i` (R385). -/
def Table.slotAddr (t : Table) (i : Nat) : Nat := rowAddr t.hotBase t.slotBytes i
/-- Addresses of the parts of a hot slot: value, first state, second state. -/
def Table.slotParts (t : Table) (i : Nat) : Nat × Nat × Nat :=
  let a := t.slotAddr i + 16
  (a, a + pad8 t.valueBytes, a + pad8 t.valueBytes + pad8 t.mBytes)

/-- Addresses of the base slot's value and state rows (R353, R366). -/
def Table.baseParts (t : Table) (key : Nat) : Nat × Nat × Nat :=
  (t.baseAddr key, rowAddr (t.nat 96 8) (t.nat 112 4) (keyRow key), rowAddr (t.nat 104 8) (t.nat 116 4) (keyRow key))

/-- Whether this module homes a page. -/
def State.homesVa (s : State) (va : Nat) : Bool := match mapFind s.tier.xlate (va / pageBytes) with
  | some e => e.tier == .local || e.tier == .host
  | none => false

/-- Where a row is, as far as this module knows. -/
inductive RowAt where
  | slot (i : Nat)
  | base
  | away (mod : Nat)
  | unknown
deriving DecidableEq, Repr

/-- This module's knowledge of a row: its own hot slot, its own base slot, the home that its redirect record names, or
nothing (R386, R387). -/
def State.rowAt (s : State) (t : Table) (key : Nat) : RowAt :=
  match t.hotAt key with
  | some i => .slot i
  | none =>
    if s.homesVa (t.baseAddr key) then
      match mapFind t.redirects key with
      | some r => if r.home = s.modNo then .base else .away r.home
      | none => .base
    else .unknown

/-- Where an access to a row goes when this module is not its home. -/
def State.rowDest (s : State) (tn : Nat) (t : Table) (key : Nat) : Option Nat :=
  match s.rowAt t key with
  | .away m => some m
  | .unknown => match s.cached tn key with
    | some m => some m
    | none => match s.look (t.baseAddr key / pageBytes) with
      | .entry e => some e.mod
      | _ => none
  | _ => none

/-! ## Load (R383) -/

/-- Counts one request of a sender. -/
def Cand.hit (c : Cand) (sender : Nat) : Cand :=
  { c with count := c.count + 1, senders := mapPut c.senders sender (mapGet 0 c.senders sender + 1) }

/-- The candidate of least count. -/
def leastCand : List Cand → Option Cand
  | [] => none
  | c :: t => match leastCand t with
    | some d => if c.count ≤ d.count then some c else some d
    | none => some c

/-- The space-saving rule over 256 candidates. -/
def countCand (cs : List Cand) (row sender : Nat) : List Cand :=
  if cs.any fun c => c.row == row then cs.map fun c => if c.row = row then c.hit sender else c
  else if cs.length < 256 then cs ++ [⟨row, 1, [(sender, 1)]⟩]
  else match leastCand cs with
    | some m => cs.map fun c => if c.row = m.row then ⟨row, m.count + 1, [(sender, 1)]⟩ else c
    | none => cs

/-- Counts a served row read or an applied add. -/
def State.countLoad (s : State) (tn key sender : Nat) : State :=
  match s.table tn with
  | some t => s.putTable tn { t with load := t.load + 1, frameLoad := t.frameLoad + 1, cands := countCand t.cands (keyRow key) sender }
  | none => s

/-- The sender of most of a candidate's requests. -/
def Cand.top (c : Cand) : Nat := match c.senders with
  | [] => 0
  | h :: t => (t.foldl (fun b p => if b.2 < p.2 then p else b) h).1

/-! ## Gradient words (R379-R381) -/

/-- Adds sums to the gradient words of a row that this module homes; the acknowledgements that `who` awaits, where the page is lent
(R252, R379, R380). -/
def State.applyAdd (s : State) (who : Requester) (tn : Nat) (t : Table) (row : Nat) (sums : List (Option Int)) (sender : Nat) :
    Nat × State :=
  let half := s.run.step % 2
  let a := t.gradHere half row
  let old := a48s t.elems (s.peekLocal a (9 * t.elems))
  let new := (old.zip sums).flatMap fun p => (match p.2 with
    | some q => if p.1.isOvf then A48.ovf else ⟨p.1.w + q, 16⟩
    | none => A48.ovf).toBytes
  let r := s.writeSum who [a] a new
  let s2 := r.2.putTable tn { t with added := if t.added.contains (row, half) then t.added else t.added ++ [(row, half)] }
  (r.1, s2.countLoad tn (rowKey t.addVersion row) sender)

/-- An add of this module's own that waits, once this module turns out to home the base slot of its row: it is applied here, or goes to the
home that the redirect record names (R379, R387). -/
def State.addHere (s : State) (w : WriteOut) (a : AddOut) (t : Table) : State :=
  let gone := s.modTier fun x => { x with writesOut := x.writesOut.filter fun o => o.tag != w.tag }
  match s.rowAt t (rowKey t.addVersion a.row) with
  | .away m => (s.modTier fun x => { x with writesOut := x.writesOut.map fun o => if o.tag = w.tag then { o with again := false } else o }).send
      (.tableAdd m s.modNo a.table a.row a.sums a.seq w.tag)
  | _ =>
    let r := gone.applyAdd w.who a.table t a.row a.sums s.modNo
    if r.1 = 0 then r.2.writeDone w.who else r.2

/-- Empties the gradient half of step `n`: the words that received a contribution two steps ago, or in a stopped run of
this step (R381). -/
def State.resetHalves (s : State) (n : Nat) : State :=
  s.tables.entries.foldl (fun s e =>
    let h := n % 2
    let mine := e.2.added.filter fun a => a.2 == h
    let s1 := mine.foldl (fun s a => s.pokeLocal (e.2.gradHere h a.1) e.2.zeroGrad) s
    s1.putTable e.1 { e.2 with added := e.2.added.filter (fun a => a.2 != h), addSeq := 0 }) s

end Sys2Proof.Machine
end

