-- ==== Sys2Proof/Machine/Steps.lean ====
section
/-! DEFINITION. The run of steps: sections, almanac frames and their tasks, meters, holds, the step boundary (spec/03
R49-R64, R72-R82; spec/04 R87-R89, R95, R111-R115; spec/14 R440, R441). -/

namespace Sys2Proof.Machine

/-! ## Sections and their detours (R112, R115, R117) -/

/-- The section that the current frame belongs to. -/
def State.curSect (s : State) : Nat := s.run.active.listAt s.run.interlude s.run.pos

/-- The step number that tasks of the current frame carry: n + 1 in an interlude after step n (R395). -/
def State.taskStep (s : State) : Nat := if s.run.interlude then s.run.step + 1 else s.run.step

/-- Cores whose CORE_STATUS a section sets: those the state lists. -/
def State.listedCores (s : State) : List Nat := s.cores.map Prod.fst

/-- The first tick of a section: DETOUR and HOSTING, and DETOUR_EXHAUSTED where no rule serves (R115, R117). -/
def State.beginSection (s : State) : State :=
  let sect := s.curSect
  let ret := s.retiredCores
  let rules := ret.map fun c => (c, s.detourOf c sect)
  let s1 := rules.foldl (fun s r => s.modCore (BitVec.ofNat 8 r.1) fun k => { k with detour := r.2 }) s
  let subs := rules.filterMap fun r => r.2.map fun d => d.sub.toNat
  let s2 := (s1.listedCores ++ subs).eraseDups.foldl (fun s c =>
    let h := subs.contains c
    let k := s.core (BitVec.ofNat 8 c)
    if k.regs.hosting = h then s else s.setCore (BitVec.ofNat 8 c) { k with regs := { k.regs with hosting := h } }) s1
  rules.foldl (fun s r => if r.2.isNone then raise cDetourExhausted 1 r.1 0 s else s) s2

/-! ## Meters (R59, R60, R114) -/

/-- Full-pace limits of the classes (Table 03-5); POOL has none. -/
def classLimit (cls : Nat) (A : Nat) : Nat := match cls with
  | 2 => min A 65535
  | 3 => min A 61740
  | 4 => min A 6625
  | 5 => A
  | 6 => min A 18218
  | _ => min A 16384

/-- Offset of a class's allowance in a core frame record (Table 03-11). -/
def coreField (cls : Nat) : Nat := match cls with
  | 0 => 4
  | 1 => 6
  | 2 => 8
  | _ => 10

/-- Allowance A of a core for a class in the current frame: its own and those of the cores it hosts, of which nothing above the
full-pace limit is used (R59, R114). -/
def State.coreA (s : State) (c cls : Nat) : Nat :=
  let a := s.run.active
  let own (n : Nat) : Nat := a.nat (a.coreRec s.curSect n s.run.frameIdx + coreField cls) 2
  if (s.core (BitVec.ofNat 8 c)).regs.retired then 0
  else
    let guests := s.retiredCores.filter fun r => match (s.core (BitVec.ofNat 8 r)).detour with
      | some d => d.sub.toNat == c
      | none => false
    classLimit cls (own c + (guests.map own).foldl (· + ·) 0)

/-- Allowance A of the module for a field of the module frame record (Table 03-12). -/
def State.modA (s : State) (off : Nat) : Nat :=
  s.run.active.nat (s.run.active.modRec s.curSect s.run.frameIdx + off) 2

/-- BUD_CEIL[c].IN_FORCE (R61). -/
def State.inForce (s : State) (cls : Nat) : Nat := if s.bel.econ && decide (cls ≤ 1) then 128 else 256

/-- BUD_CEIL[c].CEIL. -/
def State.ceilOf (s : State) (cls : Nat) : Nat := mapGet 256 s.bud.ceil cls

/-- allow := floor(A × min(CEIL, IN_FORCE × p) / 256) (R60), A limited to what the hardware can use (R59). -/
def State.allow (s : State) (cls A : Nat) : Nat :=
  classLimit cls A * min (s.ceilOf cls) (s.inForce cls * (if s.bel.half then 2 else 1)) / 256

/-- A meter at a refill: the allowance plus a negative balance (R60). -/
def refill (m : Int) (allow : Nat) : Int := (if m < 0 then m else 0) + allow

/-- Refills the meters of one core. -/
def State.refillCore (s : State) (c : Nat) : State :=
  let k := s.core (BitVec.ofNat 8 c)
  let f (cls : Nat) (m : Int) : Int := refill m (s.allow cls (s.coreA c cls))
  let maint := (List.range 4).foldl (fun l i => mapSet 0 l i (f 7 (mapGet 0 l i))) k.meters.maint
  let m : CoreMeters := ⟨f 0 k.meters.mill, f 1 k.meters.vector, f 2 k.meters.gather, maint⟩
  if m = k.meters then s else s.setCore (BitVec.ofNat 8 c) { k with meters := m }

/-- Refills every meter of the module from the current frame's records (R60). -/
def State.refillAll (s : State) : State :=
  let s1 := (List.range 256).foldl State.refillCore s
  let b := s1.bud
  let hbm := (List.range 8).foldl (fun m i => mapSet 0 m i (refill (mapGet 0 m i) (s1.allow 3 (s1.modA 0)))) b.hbm
  let fab := (List.range 6).foldl (fun m i => mapSet 0 m i (refill (mapGet 0 m i) (s1.allow 4 (s1.modA (8 + 2 * i))))) b.fabric
  { s1 with bud := { b with hbm := hbm, fabric := fab, pool := refill b.pool (s1.allow 5 (s1.modA 2)),
                            hostOut := refill b.hostOut (s1.allow 6 (s1.modA 4)),
                            hostIn := refill b.hostIn (s1.allow 6 (s1.modA 6)),
                            maint := (List.range 9).foldl (fun m i => mapSet 0 m i (refill (mapGet 0 m i) (s1.allow 7 (s1.modA 22))))
                              b.maint } }

/-! ## Tasks of a frame (R49, R87, R89, R113, R371, R372) -/

/-- The version of each table that a task of this frame binds: the CURRENT one at this tick, for a STEPBIND table in a step the
one bound by the step; none from the tick of a destroy (R371, R372, R391). An interlude stands outside a step. -/
def State.bindings (s : State) : List (Nat × Nat) :=
  s.tables.entries.filterMap fun e =>
    (e.2.atTick s.bel.frame).currentV.bind fun v =>
      if e.2.stepBound && !s.run.interlude then (mapFind s.run.stepBind e.1).map fun b => (e.1, b)
      else some (e.1, v.version)

/-- The tasks that core `src`'s list places in the current frame, on it or on its host core (R49, R113). -/
def State.placeTasks (s : State) (src : Nat) (det : Option Detour) : State :=
  let a := s.run.active
  let sect := s.curSect
  let idx := s.run.frameIdx
  let n := a.taskCount sect src idx
  if n = 0 then s
  else
    let binds := s.bindings
    let c := match det with
      | none => BitVec.ofNat 8 src
      | some d => d.sub
    let ts : List TaskInst := (List.range n).map fun i =>
      let r := a.task sect src idx i
      { ctx := { uid := s.run.uidNext + i, taskId := BitVec.ofNat 32 r.taskId, lsBase := r.lsBase, step := s.taskStep,
                 frame := s.bel.frame, detour := det, versions := binds },
        list := BitVec.ofNat 8 src, pos := i, sect := sect, mixed := a.kind sect == 3, trec := r,
        gate := a.gate sect src idx i, stage := if r.valid then .eligible else .invalid,
        live := 0 }
    let s1 := s.modCore c fun k => { k with tasks := k.tasks ++ ts }
    { s1 with run := { s1.run with uidNext := s1.run.uidNext + n } }

/-- The current almanac frame begins: its tasks become eligible, its meters fill (R49, R60, R87). A host core gets the tasks of the
retired cores that it serves after its own, those of a lower core number first (R113; DESIGN CHOICE, log 161). -/
def State.openFrame (s : State) : State :=
  let ret := s.retiredCores
  let own := (List.range 256).filter fun c => !ret.contains c
  let s1 := own.foldl (fun s c => s.placeTasks c none) s
  let s2 := ret.foldl (fun s c => match (s.core (BitVec.ofNat 8 c)).detour with
    | some d => s.placeTasks c (some d)
    | none => s) s1
  let f : OpenFrame :=
    { first := s.bel.frame, bells := if s.bel.half then 2 else 1, sect := s.curSect, half := s.bel.half, econ := s.bel.econ,
      detour := ret.any fun c => (s.core (BitVec.ofNat 8 c)).detour.isSome, slips := [], overrun := [], recorded := false }
  ({ s2 with run := { s2.run with openFrames := s2.run.openFrames ++ [f], frameLive := true } }).refillAll

/-- Whether the running almanac frame ends at this tick (R58). -/
def State.frameOver (s : State) : Bool :=
  match s.run.openFrames.getLast? with
  | some f => decide (f.first + f.bells ≤ s.bel.frame)
  | none => true

/-! ## Holds and the step boundary (R82, R440, R441) -/

/-- A hold that is due: every STEP_HOLD at or before the last boundary, or COUNT (R440, R441). -/
def State.holdDue (s : State) : Bool :=
  s.run.countHold == some s.run.committed || s.run.holds.any fun h => decide (h.1 ≤ s.run.committed)

/-- After a step's commit and any interlude, the module holds where a hold is due; every pending STEP_HOLD replies with
the boundary (R441). -/
def State.takeHolds (s : State) : State :=
  if s.run.anyCommit && !s.run.inStep && !s.run.interludeDue && !s.run.interlude && !s.run.frameLive && s.almanacRuns &&
      s.run.startAt.isNone && s.holdDue then
    let b := s.run.committed
    let s1 := s.run.holds.foldl (fun s h => s.replyTo h.2 stOk b) s
    { s1 with run := { s1.run with state := .held, holds := [], countHold := none } }
  else s

/-- Whether an interlude stands between step n and the next (R72). -/
def AlmSlot.interludeAfter (a : AlmSlot) (n : Nat) : Bool :=
  a.interludeEvery != 0 && (n + 1) % a.interludeEvery == 0 && a.interludeLen != 0

/-- The step boundary of step n: its commit record is written (R10, R301 Phase C, R302, R481). -/
def State.boundary (s : State) : State :=
  let n := s.run.step
  let lost := s.rec0.since.foldl (fun a t => satAdd 32 a (s.bel.frame - t)) s.bud.lostFrames
  let s1 : State := { s with
    run := { s.run with committed := n, anyCommit := true, inStep := false, bounded := true, nextStep := n + 1,
                        interludeDue := s.run.active.interludeAfter n,
                        state := if s.run.state = .replaying then .running else s.run.state,
                        tries := mapErase s.run.tries n, stepBind := [], bindOf := none, oldBind := some (n, s.run.stepBind) },
    bud := { s.bud with lostFrames := lost },
    rec0 := { s.rec0 with since := [], poisonSeen := [] } }
  s1.maintBoundary.takeHolds

/-! ## Pending seeds (R397, R398) -/

/-- A pending seed for step `n` or an earlier one takes effect; a step that has begun before
keeps the seed it had then (R397, R398). -/
def State.takeSeed (s : State) (n : Nat) : State :=
  let s1 : State := match s.rng.pending with
    | some p => if p.2 ≤ n then { s with rng := { s.rng with seed := p.1, seedFrom := n, pending := none } } else s
    | none => s
  if (mapFind s1.run.seedAt n).isSome then s1
  else { s1 with run := { s1.run with seedAt := mapPut (s1.run.seedAt.filter fun e => decide (n ≤ e.1 + 4)) n s1.rng.seed } }

/-! ## The tick (R48, R49, R58, R62, R72) -/

/-- One latched change takes effect (R62). -/
def State.takeChange (s : State) (l : Latched) : State :=
  match l with
  | .ceil c v => { s with bud := { s.bud with ceil := mapSet 256 s.bud.ceil c v } }
  | .quota c v => s.modTier fun t => { t with quota := mapSet 0 t.quota c v }
  | .tierHeat p d h y e =>
    s.modTier fun t => { t with regs := { t.regs with promote := p, demote := d, hold := h, decay := y, epoch := e } }
  | .targets m b n => s.modTier fun t => { t with targets := m, poolBase := b, poolPages := n }
  | .memFree v n => overPages v n (fun v s => s.freePage v) s
  | .memAttr v n w p g l => overPages v n (fun v s => s.attrPage v w p g l) s

/-- Changes latched for this tick or an earlier one, in the order of acceptance (R62). -/
def State.takeLatched (s : State) : State :=
  let due := s.bud.latched.filter fun l => decide (l.1 ≤ s.bel.frame)
  let s1 : State := { s with bud := { s.bud with latched := s.bud.latched.filter fun l => !decide (l.1 ≤ s.bel.frame) } }
  (due.foldl (fun s l => s.takeChange l.2) s1).quotaCheck

/-- The economy cap comes into force at the tick after a cause asserts; the request follows the causes (R65, R67, R68). -/
def State.tickEconomy (s : State) : State :=
  let b := s.bel
  let cause := b.supplyCause || b.thermalCause
  let enter := cause && !b.econ
  let b1 : Bel := { b with econ := b.econ || cause, request := cause,
                           econSupply := b.supplyCause, econThermal := b.thermalCause,
                           overrunOff := if enter && !b.half then true else b.overrunOff,
                           halfSince := if enter && !b.half then none else b.halfSince,
                           lastReq := if cause && b.root then some b.frame else b.lastReq }
  let s1 : State := { s with bel := b1, run := { s.run with openFrames := s.run.openFrames.map fun f =>
    if f.first + f.bells ≤ b.frame then f else { f with econ := f.econ || b1.econ } } }
  if enter then raise cEconomy 0 0 0 s1 else s1

/-- The root announces half pace while requests stand (R65, R58). A request that comes while full pace is announced is answered
within 3 frames all the same: half pace follows at its own tick, or replaces full pace at the same tick. -/
def State.rootAnnounce (s : State) : State :=
  let fresh := match s.bel.lastReq with
    | some f => decide (s.bel.frame ≤ f + 1)
    | none => false
  let half : Bool × Nat := (true, s.bel.frame + 3)
  if s.bel.root && fresh then
    match s.bel.annPace with
    | none => if s.bel.half then s else { s with bel := { s.bel with annPace := some half } }
    | some (true, _) => s
    | some (false, t) =>
      if s.bel.annNext.isSome then s
      else if t < s.bel.frame + 3 then { s with bel := { s.bel with annNext := some half } }
      else { s with bel := { s.bel with annPace := some half } }
  else s

/-- Bell state at a tick: the root locks; marks not seen are counted (R52, R54). -/
def Bel.tickState (b : Bel) : Bel :=
  if b.root then { b with state := .locked, markless := 0, seen := false, holdFrames := 0 }
  else { b with markless := if b.seen then 0 else b.markless + 1, seen := false,
                lockCount := if b.seen then b.lockCount else 0,
                holdFrames := if b.state = .holdover then (if 2048 < b.holdFrames then 2049 else min (b.holdFrames + 1) 2048)
                  else 0 }

/-- An announced pace change whose tick has passed stands no longer. -/
def Bel.dropPace (b : Bel) : Bel :=
  if b.annPace.any fun a => decide (a.2 < b.frame) then { b with annPace := b.annNext, annNext := none } else b

/-- Frames of the step and of its sections are counted; at the tick after the boundary CURRENT moves to LAST (R82). -/
def State.countFrames (s : State) : State :=
  let b := s.bud
  let inList := s.run.inStep || s.run.frameLive
  let kind := s.run.active.kind s.curSect
  let ph := mapGet (0, 0) b.phases kind
  let phases := if inList || s.run.bounded then mapPut b.phases kind (ph.1, satAdd 32 ph.2 1) else b.phases
  let cur := if s.run.inStep || s.run.bounded then satAdd 32 b.stepCur 1 else b.stepCur
  if s.run.bounded then
    { s with bud := { b with stepLast := cur, stepCur := 0, phases := phases.map fun p => (p.1, (p.2.2, 0)) },
             run := { s.run with bounded := false } }
  else { s with bud := { b with stepCur := cur, phases := phases } }

/-! ## Owed work of frames that have ended (R50, R295) -/

/-- Whether a received partial that no step has taken is owed work of a frame (R295). -/
def State.stagedOwes (s : State) (f : Nat) : Bool := s.fab.staging.any fun p => p.owed == some f

/-- The core that owes what belongs to no core: the first in service (DESIGN CHOICE, log 139). -/
def State.firstCore (s : State) : Nat :=
  let out := s.retiredCores
  ((List.range 256).find? fun c => !out.contains c).getD 0

/-- Whether a core owes work of the frame whose first bell is `f`: its own, or a received partial that no step has taken (R50, R295). -/
def State.coreOwes (s : State) (c f : Nat) : Bool :=
  (s.core (BitVec.ofNat 8 c)).owes f || (s.stagedOwes f && c == s.firstCore)

/-- Whether any core owes work of a frame. -/
def State.frameOwed (s : State) (f : Nat) : Bool := s.stagedOwes f || s.cores.any fun c => c.2.owes f

/-- A section has ended: received partials that stand in staging are owed work of its last frame (R295; DESIGN CHOICE, log 139). -/
def State.owePartials (s : State) : State :=
  match s.run.openFrames.getLast? with
  | some f => { s with fab := { s.fab with staging := s.fab.staging.map fun p =>
      if p.peer.isSome && p.owed.isNone then { p with owed := some f.first } else p } }
  | none => s

/-- Whether a context is being written, or is due at the boundary that has passed (R121). -/
def State.saveDue (s : State) : Bool :=
  s.run.saving || (match s.run.save with
    | some r => s.run.anyCommit && decide (r.step ≤ s.run.committed)
    | none => false)

/-- The almanac goes on at a tick: the next frame, the next section, the end of the list, or the first frame of an
interlude, which waits for a context save that is due. A stopped module runs no frame, and its meters refill all the same (R58, R60,
R72, R121, R468). -/
def State.advanceFrame (s : State) : State :=
  if s.rec0.stopped then s.refillAll
  else if s.run.frameLive then
    if !s.frameOver then s
    else if s.run.frameIdx + 1 < s.run.active.frames s.curSect then
      ({ s with run := { s.run with frameIdx := s.run.frameIdx + 1 } }).openFrame
    else
      let s1 := s.owePartials
      let len := if s1.run.interlude then s1.run.active.interludeLen else s1.run.active.stepLen
      if s1.run.pos + 1 < len then
        ({ s1 with run := { s1.run with pos := s1.run.pos + 1, frameIdx := 0 } }).beginSection.openFrame
      else if s1.run.interlude then
        ({ s1 with run := { s1.run with frameLive := false, interlude := false, interludeDue := false } }).refillAll.takeHolds
      else ({ s1 with run := { s1.run with frameLive := false } }).refillAll.takeHolds
  else if s.run.interludeDue && !s.run.interlude && !s.run.inStep && s.almanacRuns && s.smithy.phase == 0 && !s.saveDue &&
      (match s.run.startAt with
        | some t => decide (t ≤ s.bel.frame) && s.bel.state == .locked
        | none => s.bel.state == .locked || s.bel.state == .holdover) then
    let s1 := s.takeSeed (s.run.step + 1)
    ({ s1 with run := { s1.run with interlude := true, pos := 0, frameIdx := 0 } }).beginSection.openFrame
  else s.refillAll

/-- Frames that are recorded and owed by no core are settled. -/
def State.settleFrames (s : State) : State :=
  { s with run := { s.run with openFrames := s.run.openFrames.filter fun f =>
      !f.recorded || s.frameOwed f.first } }

/-- Whether any core owes work of an almanac frame that has ended (R50). -/
def State.anyOwed (s : State) : Bool :=
  s.run.openFrames.any fun f => decide (f.first + f.bells ≤ s.bel.frame) && s.frameOwed f.first

/-- After half pace has taken effect, FRAME_OVERRUN is raised again from the first tick at which no core owes work (R67). -/
def State.resumeOverrun (s : State) : State :=
  if s.bel.overrunOff && s.bel.halfSince.isSome && !s.anyOwed then
    { s with bel := { s.bel with overrunOff := false, halfSince := none } }
  else s

/-- BELL_TICK (R48): FRAME_NO increments; the economy cap, latched changes, the almanac's next frame, meters and counts. -/
def bellTick (s : State) : State :=
  let s0 : State := { s with bel := { s.bel with frame := (s.bel.frame + 1) % 2 ^ 48, cycle := 0, sent := [] } }
  let s1 := { s0 with bel := s0.bel.tickState.dropPace }
  (s1.countFrames.tickEconomy.takeLatched.advanceFrame.settleFrames.resumeOverrun).rootAnnounce

/-! ## Pace (R58, R65, R67, R68) -/

/-- A core's meters follow a pace change at its tick: they were filled at the old pace. -/
def State.repace (before after : State) : State :=
  let d (cls : Nat) (A : Nat) : Int := (after.allow cls A : Int) - before.allow cls A
  let s1 := (List.range 256).foldl (fun s c =>
    let k := s.core (BitVec.ofNat 8 c)
    let m : CoreMeters := ⟨k.meters.mill + d 0 (s.coreA c 0), k.meters.vector + d 1 (s.coreA c 1),
      k.meters.gather + d 2 (s.coreA c 2),
      (List.range 4).foldl (fun l i => mapSet 0 l i (mapGet 0 l i + d 7 (s.coreA c 7))) k.meters.maint⟩
    if m = k.meters then s else s.setCore (BitVec.ofNat 8 c) { k with meters := m }) after
  let b := s1.bud
  { s1 with bud := { b with
      hbm := (List.range 8).foldl (fun m i => mapSet 0 m i (mapGet 0 m i + d 3 (s1.modA 0))) b.hbm,
      fabric := (List.range 6).foldl (fun m i => mapSet 0 m i (mapGet 0 m i + d 4 (s1.modA (8 + 2 * i)))) b.fabric,
      pool := b.pool + d 5 (s1.modA 2), hostOut := b.hostOut + d 6 (s1.modA 4), hostIn := b.hostIn + d 6 (s1.modA 6),
      maint := (List.range 9).foldl (fun m i => mapSet 0 m i (mapGet 0 m i + d 7 (s1.modA 22))) b.maint } }

/-- PACE_CHANGE: at the tick that the root announced, the pace changes; a frame that begins at this tick takes the new
pace; full pace lifts the cap when every cause has cleared (R58, R65, R68). -/
def paceChange (s : State) : State :=
  match s.bel.annPace with
  | some (half, t) =>
    if s.bel.frame ≠ t ∨ s.bel.cycle ≠ 0 then s
    else
      let cause := s.bel.supplyCause || s.bel.thermalCause
      let b1 : Bel := { s.bel with half := half, annPace := s.bel.annNext, annNext := none,
                                   halfSince := if half && s.bel.overrunOff then some s.bel.frame else s.bel.halfSince,
                                   econ := if half || cause then s.bel.econ else false,
                                   econSupply := if half || cause then s.bel.econSupply else false,
                                   econThermal := if half || cause then s.bel.econThermal else false }
      let starts := match s.run.openFrames.getLast? with
        | some f => f.first == s.bel.frame
        | none => true
      let s1 : State := { s with bel := b1, run := { s.run with openFrames := s.run.openFrames.map fun f =>
        if f.first = s.bel.frame then { f with bells := if half then 2 else 1, half := half, econ := b1.econ } else f } }
      if starts || !s.run.frameLive then s.repace s1 else s1
  | none => s

/-- ECON_REQUEST_TIMEOUT: the root has received no request for 2 consecutive frames and announces full pace (R65). -/
def econTimeout (s : State) : State :=
  match s.bel.lastReq with
  | some f =>
    if s.bel.root && s.bel.half && s.bel.annPace.isNone && !s.bel.request && decide (f + 3 ≤ s.bel.frame) then
      { s with bel := { s.bel with annPace := some (false, s.bel.frame + 3), lastReq := none } }
    else s
  | none => s

/-- OVERRUN_CHECK_RESUME: 512 frames after half pace took effect the ordinary check resumes (R67). -/
def overrunResume (s : State) : State :=
  match s.bel.halfSince with
  | some t => if s.bel.overrunOff && decide (t + 512 ≤ s.bel.frame) then
      { s with bel := { s.bel with overrunOff := false, halfSince := none } } else s
  | none => s

/-! ## Slip and overrun (R50, R51, R67, R80, R467) -/

/-- Raises a core's OVERRUN in the slip record that stands in the ring for a frame (R51, R80). -/
def markOverrun (ring : List (Nat × Nat)) (first : Nat) : List (Nat × Nat) :=
  ring.map fun r => if r.2 % 2 ^ 48 = first % 2 ^ 48 ∧ r.2 ≠ 0 then
    (r.1, r.2 % 2 ^ 48 + 0xFFFF * 2 ^ 48 + r.2 / 2 ^ 64 % 8 * 2 ^ 64 + 2 ^ 67 + r.2 / 2 ^ 68 * 2 ^ 68) else r

/-- Whether a FRAME_OVERRUN raised now retires no core: a port of the module is DOWN or training, or was within the last 512 frames
(R467). -/
def State.portsBusy (s : State) : Bool :=
  decide (s.bel.frame < s.rec0.portBusy) ||
    (List.range 6).any fun i => (s.port i).state == .down || (s.port i).state == .train

/-- FRAME_OVERRUN: a core still owes work of a frame one full frame after its end (R51, R67, R467). -/
def frameOverrun (c : CoreId) (s : State) : State :=
  match s.run.openFrames.find? fun f =>
      decide (f.first + f.bells + 1 ≤ s.bel.frame) && s.coreOwes c.toNat f.first && !f.overrun.contains c.toNat with
  | some f =>
    if s.bel.overrunOff || s.rec0.stopped then s
    else
      let s1 : State := { s with
        run := { s.run with openFrames := s.run.openFrames.map fun g =>
          if g.first = f.first then { g with overrun := g.overrun ++ [c.toNat] } else g },
        bud := if f.recorded then { s.bud with ring := markOverrun s.bud.ring f.first } else s.bud,
        rec0 := { s.rec0 with spared := if s.portsBusy then s.rec0.spared ++ [c.toNat] else s.rec0.spared } }
      raise cFrameOverrun 1 c.toNat 0 s1
  | none => s

/-- The slip of each core for a frame, the running slip of a core that still owes work included (R50). -/
def State.slipsOf (s : State) (f : OpenFrame) : List (Nat × Nat) :=
  let owing := (List.range 256).filterMap fun c => if s.coreOwes c f.first = true ∧ s.slipNow f ≠ 0 then some (c, s.slipNow f) else none
  owing ++ (f.slips.filter fun p => !(owing.any fun q => q.1 == p.1))

/-- The largest slip, of the lowest core on a tie. -/
def topSlip : List (Nat × Nat) → Nat × Nat → Nat × Nat
  | [], b => b
  | p :: t, b => topSlip t (if b.2 < p.2 ∨ (p.2 = b.2 ∧ p.1 < b.1) then p else b)

/-- A slip record (Table 03-15). -/
def slipWord (f : OpenFrame) (slips : List (Nat × Nat)) : Nat :=
  let top := topSlip slips (slips.headD (0, 0))
  f.first % 2 ^ 48 + (if !f.overrun.isEmpty then 0xFFFF else min top.2 0xFFFF) * 2 ^ 48 + bnat f.econ * 2 ^ 64 +
    bnat f.half * 2 ^ 65 + bnat f.detour * 2 ^ 66 + bnat (!f.overrun.isEmpty) * 2 ^ 67 + top.1 % 256 * 2 ^ 72 +
    slips.length % 2 ^ 16 * 2 ^ 80 + f.sect % 2 ^ 16 * 2 ^ 112

/-- SLIP_RECORD_WRITE: one full frame after the end of a frame in which a core slipped (R80, R81). -/
def slipRecordWrite (s : State) : State :=
  match s.run.openFrames.find? fun f => !f.recorded && decide (f.first + f.bells + 1 ≤ s.bel.frame) with
  | none => s
  | some f =>
    let slips := s.slipsOf f
    let s1 : State := { s with run := { s.run with openFrames := s.run.openFrames.map fun g =>
      if g.first = f.first then { g with recorded := true } else g } }
    if slips.isEmpty then s1
    else { s1 with bud := { s1.bud with
      ring := mapSet 0 s1.bud.ring s1.bud.slipNext (slipWord f slips),
      slipNext := (s1.bud.slipNext + 1) % 1024, slipTotal := satAdd 32 s1.bud.slipTotal 1 } }

end Sys2Proof.Machine
end

