-- ==== Sys2Proof/Machine/Bell.lean ====
section
/-! DEFINITION. The bell across the machine, the begin of a step, the almanac switch, the start of tasks and the stop of a
module (spec/03 R52-R58, R77; spec/04 R87, R95; spec/11 R333-R335; spec/14 R440; spec/16 R468). -/

namespace Sys2Proof.Machine

/-! ## Lock, holdover, loss (R52, R54) -/

/-- BELL_LOCK: 64 consecutive frames within half a cycle (R52). -/
def bellLock (s : State) : State :=
  if s.bel.state = .acquire ∧ 64 ≤ s.bel.lockCount ∧ s.bel.root = false then
    { s with bel := { s.bel with state := .locked } } else s

/-- BELL_HOLDOVER: no mark for 4 consecutive frames (R52). FREE holds until the first mark. -/
def bellHoldover (s : State) : State :=
  if s.bel.root = false ∧ 4 ≤ s.bel.markless ∧ (s.bel.state = .locked ∨ s.bel.state = .acquire) then
    { s with bel := { s.bel with state := .holdover, holdFrames := 0 } } else s

/-- BELL_LOST: HOLDOVER has lasted 2,048 frames (R54); it is raised once, and 2,049 says that it was. -/
def bellLost (s : State) : State :=
  if s.bel.state = .holdover ∧ s.bel.holdFrames = 2048 then
    raise cBellLost 0 0 0 { s with bel := { s.bel with holdFrames := 2049 } } else s

/-! ## Marks (R65, R281) -/

/-- A mark's block: its fields by offset (Table 09-6). -/
def markNat (b : List Byte) (off n : Nat) : Nat := natOfBytes ((b.drop off).take n)

/-- Whether a received block is a MARK whose CRC holds. -/
def markGood (b : List Byte) : Bool :=
  b.length == 32 && markNat b 0 1 == 1 && markNat b 28 4 == crc32c (b.take 28)

/-- What a mark of the upstream port changes: the frame while it is acquired, the pace and the announced pace, RUN, the
delay, the lock count; HOLDOVER ends (R52, R58, R281). `off` is the distance of the tick from the corrected mark in half
cycles. -/
def Bel.onMark (b : Bel) (m : List Byte) (count : Nat) (off : Int) : Bel :=
  let flags := markNat m 1 1
  let frame := markNat m 8 6
  let acq := b.state == .free || b.state == .acquire
  let inn := markNat m 4 1
  { b with
    state := if b.state = .free then .acquire else if b.state = .holdover then .locked else b.state,
    frame := if acq then frame else b.frame,
    half := if acq then bit flags 0 else b.half,
    annPace := if inn = 0 then b.annPace else some (bit flags 1, frame + inn),
    peerRun := bit flags 3,
    seen := true, markless := 0, holdFrames := 0,
    lockCount := if b.state = .free then 0 else if off.natAbs ≤ 1 then b.lockCount + 1 else 0,
    delay := (count + 2 ^ 33 - markNat m 20 4 - markNat m 24 2) % 2 ^ 32 / 2 }

/-- MARK: a received MARK block (R52, R54, R65, R281). A block whose CRC fails is discarded. A keeper in BYPASS passes it on, and the die
reads it all the same (R282, R283). -/
def mark (port : Port) (block : List Byte) (count : Nat) (off : Int) (s0 : State) : State :=
  let s := if (s0.port port.val).bypass then s0.send (.mark (port.val + 1 - 2 * (port.val % 2)) block) else s0
  if !markGood block then s
  else
    let p := port.val
    let b1 : Bel := { s.bel with ports := mapPut s.bel.ports p (markNat block 16 4, count % 2 ^ 32),
                                 lastReq := if bit (markNat block 1 1) 2 then some s.bel.frame else s.bel.lastReq }
    let up := !s.bel.root && (s.bel.upPort == p || s.bel.upPort == 7)
    let s1 : State := { s with bel := if up then b1.onMark block count off else b1 }
    let lost := up && (s.bel.state == .locked || s.bel.state == .holdover) && decide (128 < off.natAbs)
    let s2 := if lost then raise cBellLost 0 0 0 s1 else s1
    s2.rootAnnounce

/-- The MARK block that a port sends (Table 09-6). RUN is the root's: every other module passes it on (R281). -/
def State.markBlock (s : State) (port count : Nat) : List Byte :=
  let b := s.bel
  let root := if b.root then s.modNo else (List.range s.modCount).find? (fun n => !s.fab.dead.contains n) |>.getD 0
  let relay := match b.lastReq with
    | some f => decide (b.frame ≤ f + 1)
    | none => false
  let econ := port == b.upPort && (b.request || relay)
  let (newPace, inn) := match b.annPace with
    | some (h, t) => (h, if b.frame < t then t - b.frame else 0)
    | none => (false, 0)
  let echo := mapGet (0, 0) b.ports port
  let hold := (count + 2 ^ 32 - echo.2) % 2 ^ 32
  let body := bytesOfNat 1 1 ++
    bytesOfNat 1 (bnat b.half + 2 * bnat (newPace && inn != 0) + 4 * bnat econ +
      8 * bnat (if b.root then s.almanacRuns else b.peerRun)) ++
    bytesOfNat 2 (root % 4096) ++ bytesOfNat 1 inn ++ bytesOfNat 3 0 ++ bytesOfNat 6 b.frame ++ bytesOfNat 2 0 ++
    bytesOfNat 4 (count % 2 ^ 32) ++ bytesOfNat 4 echo.1 ++ bytesOfNat 2 (hold % 2 ^ 16) ++ bytesOfNat 2 0
  body ++ bytesOfNat 4 (crc32c body)

/-- MARK_SEND: an UP port sends one MARK per frame, within 256 cycles after the tick; in BYPASS the die sends nothing
(R281, R283). -/
def markSend (port : Port) (count : Nat) (s : State) : State :=
  match mapFind s.fab.ports port.val with
  | some p =>
    if p.state = .up ∧ p.bypass = false ∧ s.bel.sent.contains port.val = false ∧ s.bel.cycle ≤ 256 then
      ({ s with bel := { s.bel with sent := s.bel.sent ++ [port.val] } }).send (.mark port.val (s.markBlock port.val count))
    else s
  | none => s

/-- TICK_IN_CAPTURE (R57). -/
def tickInCapture (s : State) : State :=
  if s.pwr.domain ≠ .running ∨ s.pwr.dieReset = true then s
  else { s with bel := { s.bel with capValid := true, capFrame := s.bel.frame, capCycle := s.bel.cycle } }

/-! ## The almanac switch and the begin of a step (R77, R95, R99, R161, R381, R440) -/

/-- Whether any core has unfinished work, or a received partial is owed. -/
def State.anyWork (s : State) : Bool := (s.cores.any fun c => c.2.busy) || s.fab.staging.any fun p => p.owed.isSome

/-- Addresses of the first bundles of an almanac's tasks (R89). -/
def AlmSlot.entries (a : AlmSlot) : List Nat :=
  if a.loaded then
    ((List.range a.sections).flatMap fun k => (List.range 256).flatMap fun c => (List.range (a.frames k)).flatMap fun i =>
      (List.range (a.taskCount k c i)).map fun j => (a.task k c i j).entry).eraseDups
  else []

/-- Addresses that a thread can come to from a bundle at `pc`, as its words tell: the bundle after it, the target of a branch or a jump,
the last bundle of a loop. Where JR goes only the run tells (R150). -/
def Bundle.follows (b : Bundle) (pc : Nat) : List Nat :=
  let next := pc + b.len
  match b.s with
  | some (.br _ _ _ off) => [next, lowBits 64 ((pc : Int) + 2 * off.toInt)]
  | some (.jmp off) => [lowBits 64 ((pc : Int) + 2 * off.toInt)]
  | some (.jr _) | some .stop => []
  | some (.loop _ stop) | some (.loopi _ stop) => [next, pc + 2 * stop.toNat]
  | _ => [next]

/-- `n` bytes of code, where this module holds them. -/
def State.codeBytes (s : State) (a n : Nat) : Option (List Byte) :=
  ((piecesOf a n).mapM fun (p : Nat × Nat) => match mapFind s.tier.xlate (p.1 / pageBytes) with
    | some e => match e.tier with
      | .local => some (s.tier.hbm.readBytes (frameByte e.frame (p.1 % pageBytes)) p.2)
      | .host => some (s.hostMem.readBytes (e.host * pageBytes + p.1 % pageBytes) p.2)
      | _ => none
    | none => none).map List.flatten

/-- The bundle at an address, where this module holds it and its words are those of a bundle. -/
def State.codeAt (s : State) (a : Nat) : Option Bundle := do
  let h ← s.codeBytes a 2
  let b ← s.codeBytes a (bundleLen (natOfBytes h))
  decodeBundle b

/-- The bundles that are reached from some addresses: each with its length, 0 where the bundle is not known here. The fuel bounds the
bundles looked at. -/
def State.walkCode (s : State) : Nat → List Nat → List (Nat × Nat) → List (Nat × Nat)
  | 0, _, seen => seen
  | _, [], seen => seen
  | k + 1, a :: rest, seen =>
    if seen.any fun x => x.1 == a then State.walkCode s k rest seen
    else match s.codeAt a with
      | some b => State.walkCode s k (b.follows a ++ rest) ((a, b.len) :: seen)
      | none => State.walkCode s k rest ((a, 0) :: seen)

/-- Pages that hold code of an almanac: those of its tasks' first bundles and of what they can come to (R127; DESIGN CHOICE, log 50). -/
def State.codeOf (s : State) (a : AlmSlot) : List Nat :=
  ((s.walkCode (2 ^ 32) a.entries []).flatMap fun x => [x.1 / pageBytes, (x.1 + x.2 - 1) / pageBytes]).eraseDups

/-- The two slots change places: counters clear, code of the old almanac is forgotten, and the pages that hold the new one's are
read-only; a fetch from another page adds it (R77, R99, R127; DESIGN CHOICE, log 50). -/
def State.swapSlots (s : State) : State :=
  { s with run := { s.run with active := s.run.staged, staged := s.run.active, armed := none },
           cores := s.cores.map fun c => (c.1, { c.2 with sc := [], code := [], heads := [] }),
           tier := { s.tier with codePages := s.codeOf s.run.staged } }

/-- ALMANAC_SWITCH_EFFECT: at the first tick after the commit of step S − 1 and any interlude at which no core owes work of
the old almanac (R77). -/
def almanacSwitchEffect (s : State) : State :=
  if s.run.armed = some s.run.nextStep ∧ s.run.anyCommit = true ∧ s.run.committed + 1 = s.run.nextStep ∧
      s.bel.cycle = 0 ∧ s.run.inStep = false ∧ s.run.bounded = false ∧ s.run.interludeDue = false ∧ s.run.frameLive = false ∧
      s.smithy.phase = 0 ∧ s.anyWork = false ∧ s.rec0.stopping = false then s.swapSlots else s

/-- Whether a leave or a join stands at the last boundary (R489, R490). -/
def State.boundaryEvent (s : State) : Bool :=
  s.run.anyCommit && (s.fab.leave == some s.run.committed || s.fab.join == some s.run.committed)

/-- Whether a DIE component is to be installed at the boundary that has passed (R451). -/
def State.dieDue (s : State) : Bool := match s.reeve.diePending with
  | some (_, same, n) => same && s.run.anyCommit && decide (n ≤ s.run.committed)
  | none => false

/-- Whether the next step may begin now (R54, R77, R121, R301, R440, R451, R473). -/
def State.mayBegin (s : State) : Bool :=
  s.almanacRuns && !s.run.inStep && !s.run.bounded && !s.run.interludeDue && !s.run.interlude && !s.run.frameLive &&
  (s.smithy.phase == 0 || s.run.resumePos.isSome) && s.run.armed != some s.run.nextStep && !s.saveDue && !s.dieDue && !s.rec0.stopping && s.rec0.rebuild.isEmpty && s.rec0.holdIdle.isNone &&
  s.run.active.loaded && s.bel.cycle == 0 && !s.boundaryEvent &&
  (match s.run.startAt with
    | some t => decide (t ≤ s.bel.frame) && s.bel.state == .locked
    | none => (s.bel.state == .locked || s.bel.state == .holdover) && !s.holdDue)

/-- What the first tick of a step clears on every core (R95, R99); the code buffer, whose capacity and replacement are the module's own, is
emptied too, and holds every bundle fetched until then (R127; DESIGN CHOICE, log 167). -/
def Core.stepClear (k : Core) : Core := { k with sc := [], st := [], code := [], heads := [], ended := [] }

/-- Every core's counters and descriptors clear (R95, R99). -/
def State.clearCores (s : State) : State := { s with cores := s.cores.map fun c => (c.1, c.2.stepClear) }

/-- Returns and retirements that are due at step `n` (R111, R115, R488). -/
def State.takeRetirements (s : State) (n : Nat) : State :=
  let back := s.maint.returns.filter fun r => match r.2 with
    | some m => decide (m ≤ n)
    | none => false
  let due := s.run.retireNext.filter fun r => decide (r.2 ≤ n)
  let s1 : State := { s with maint := { s.maint with returns := s.maint.returns.filter fun r => !back.contains r },
                             run := { s.run with retireNext := s.run.retireNext.filter fun r => !decide (r.2 ≤ n) } }
  due.foldl (fun s r => s.retireCore r.1 1) (back.foldl (fun s r => s.returnCore r.1) s1)

/-- The timing-audit change that is due; it clears the hazard registers of every core (R161). -/
def State.takeAudit (s : State) (n : Nat) : State :=
  match s.auditNext with
  | some (on, m) =>
    if m ≤ n then
      { s with audit := on, auditNext := none,
               cores := s.cores.map fun c => (c.1, { c.2 with regs := { c.2.regs with hazard := 0, hazardAddr := 0 } }) }
    else s
  | none => s

/-- Versions of STEPBIND tables that are current at the first tick of step `n`; a replay keeps those it had (R372). -/
def State.bindStep (s : State) (n : Nat) : State :=
  if s.run.bindOf = some n then s
  else { s with run := { s.run with bindOf := some n, stepBind := s.tables.entries.filterMap fun e =>
    if e.2.stepBound then (e.2.atTick s.bel.frame).currentV.map fun v => (e.1, v.version) else none } }

/-- What a step's first tick sets up beside the cores: granary, smithy, gradient halves (R344, R346, R351, R359, R381). -/
def State.beginServices (s : State) (n : Nat) : State :=
  let g := s.granary
  let m := s.smithy
  ({ s with granary := ⟨[], g.next.getD g.spill, none, 0⟩,
            smithy := { m with cfg := if m.next.isSome then m.next else m.cfg, next := none, rows := [], touched := [],
                               requests := 0, phase := 0, parityStarted := false, applyStarted := false,
                               tables := [] } }).resetHalves n

/-- STEP_BEGIN (R72, R95, R440). A step that resumes a SECTION context goes on at its section and clears nothing (R122). Maintenance that a stop suspended goes on (R483). -/
def stepBegin (s : State) : State :=
  if !s.mayBegin then s
  else
    let n := s.run.nextStep
    let replay := s.run.state == .replaying
    let pos := s.run.resumePos.getD 0
    let s1 : State := { s with run := { s.run with step := n, inStep := true, interlude := false, pos := pos, frameIdx := 0,
                                                   startAt := none, resumePos := none, ranSinceReset := true,
                                                   state := if replay then .replaying else .running },
                               maint := { s.maint with suspended := false } }
    let s2 : State := if s.run.resumePos.isSome then s1
      else
        ({ s1 with fab := { s1.fab with phase := .none, bDone := [], bSent := false, deltas := [] } }).clearCores.beginServices n
    (((((s2.takeSeed n).takeRetirements n).takeAudit n).bindStep n).beginSection).openFrame

/-! ## The start of tasks (R87-R90, R333-R335) -/

/-- Threads of a core that hold no task, rising. -/
def Core.freeThreads (k : Core) : List Nat := (List.range 128).filter fun t => (mapFind k.threads t).isNone

/-- The physical vector context that a task names. -/
def TaskInst.context (t : TaskInst) : Option VCtx :=
  if t.trec.vctxByte < 128 then none else some (t.ctx.vreg (BitVec.ofNat 2 t.trec.vctxByte))

/-- Whether the conditions of R87 other than list order hold. -/
def Core.canStart (k : Core) (earlier : List TaskInst) (t : TaskInst) : Bool :=
  decide (t.trec.threads ≤ k.freeThreads.length) &&
  (match t.context with
    | none => true
    | some c => !(k.threads.any fun th => th.2.vctx == some c)) &&
  (t.trec.flags % 2 == 0 || earlier.all fun e => e.stage == .ended || e.stage == .skipped)

/-- What a gate says now: not yet, start, or skip (R333, R334). -/
inductive GateSays where
  | wait | go | skip
deriving DecidableEq, Repr

/-- The gate of a task; under a detour its counter is translated (R333, R334). -/
def State.gateOf (s : State) (c : CoreId) (t : TaskInst) : GateSays :=
  let g := t.gate
  match g.cond with
  | 0 => .go
  | 1 =>
    let v := (s.core c).counter (t.ctx.ctr (BitVec.ofNat 6 g.ctr))
    if condHolds 2 v (BitVec.ofNat 16 g.value) then .go else .wait
  | n =>
    match mapFind s.granary.slots g.value with
    | some x => match x.state with
      | .pending => .wait
      | .dropped => if n = 3 then .go else .skip
      | _ => if n = 2 then .go else .skip
    | none => .wait

/-- A task with the tasks of its frame that stand before it on its core. -/
def withEarlier : List TaskInst → List TaskInst → List (List TaskInst × TaskInst)
  | _, [] => []
  | e, t :: r => (e, t) :: withEarlier (e ++ [t]) r

/-- Whether a task has not started. -/
def TaskInst.unstarted (t : TaskInst) : Bool := t.stage == .eligible || t.stage == .invalid

/-- Whether a task whose turn it is can start now, or be skipped, or raise TASK_INVALID. -/
def State.taskReady (s : State) (c : CoreId) (p : List TaskInst × TaskInst) : Bool :=
  p.2.stage == .invalid || (match s.gateOf c p.2 with
    | .wait => false
    | .skip => true
    | .go => (s.core c).canStart p.1 p.2)

/-- pick() of R335 over the unstarted tasks of a frame of a MIXED section. -/
def State.pickMixed (s : State) (c : CoreId) (ts : List (List TaskInst × TaskInst)) : Option TaskInst :=
  let ready := ts.filter fun p => p.2.unstarted && (p.2.stage == .invalid || s.gateOf c p.2 != .wait)
  let cls (n : Nat) : List (List TaskInst × TaskInst) := ready.filter fun p => p.2.gate.cls == n
  match ((cls 1).find? (s.taskReady c)), ((cls 0).find? (s.taskReady c)) with
  | some p, _ => some p.2
  | none, some p => some p.2
  | none, none =>
    if (cls 1).isEmpty && (cls 0).isEmpty then ((cls 2).find? (s.taskReady c)).map Prod.snd else none

/-- The task that starts next on a core, over the frames that hold unstarted tasks, the oldest first (R87, R335). In a MIXED
section only its oldest frame counts; `later` lists the MIXED sections whose oldest frame has been asked. -/
def State.pickTask (s : State) (c : CoreId) : List Nat → List Nat → Option TaskInst
  | _, [] => none
  | later, f :: rest =>
    let ts := withEarlier [] ((s.core c).tasks.filter fun t => t.ctx.frame == f)
    match ts.find? fun p => p.2.mixed with
    | some p =>
      if later.contains p.2.sect then s.pickTask c later rest
      else match s.pickMixed c ts with
        | some t => some t
        | none => s.pickTask c (p.2.sect :: later) rest
    | none => match ts.find? fun p => p.2.unstarted with
      | some p => if s.taskReady c p then some p.2 else s.pickTask c later rest
      | none => s.pickTask c later rest

/-- Changes a task of a core by its instance number. -/
def Core.modTask (k : Core) (uid : Nat) (f : TaskInst → TaskInst) : Core :=
  { k with tasks := k.tasks.map fun t => if t.ctx.uid = uid then f t else t }

/-- Thread `j` of a task at its start (R88). -/
def threadOf (t : TaskInst) (j : Nat) : Thread :=
  { task := t.ctx, first := j == 0, vctx := t.context, pc := BitVec.ofNat 64 t.trec.entry,
    s := mapSet 0 (mapSet 0 [] 0 (BitVec.ofNat 64 j)) 1 (BitVec.ofNat 64 t.trec.threads),
    a := mapSet 0 [] 0 (BitVec.ofNat 64 t.trec.arg), loops := [], pend := [], held := none, stopped := false }

/-- The task takes the lowest-numbered free threads (R87, R88). -/
def Core.startTask (k : Core) (t : TaskInst) : Core :=
  let free := k.freeThreads.take t.trec.threads
  let k1 := (free.zip (List.range t.trec.threads)).foldl (fun (k : Core) p =>
    { k with threads := mapPut k.threads p.1 (threadOf t p.2) }) k
  k1.modTask t.ctx.uid fun x => { x with stage := .live, live := t.trec.threads }

/-- TASK_START: at most one task of a core starts, or is skipped by its gate, in a cycle (R87, R334, R335). A stopped
module and one that writes a context start none (R121, R468). -/
def taskStart (c : CoreId) (s : State) : State :=
  let k := s.core c
  let frames := ((k.tasks.filter TaskInst.unstarted).map fun t => t.ctx.frame).eraseDups
  if s.rec0.stopped || s.run.saving then s
  else match s.pickTask c [] (frames.mergeSort fun a b => decide (a ≤ b)) with
    | none => s
    | some t =>
      if t.stage = .invalid then
        raiseCore cTaskInvalid c t.ctx.taskId (s.setCore c (k.modTask t.ctx.uid fun x => { x with stage := .ended }))
      else match s.gateOf c t with
        | .skip =>
          let k1 := k.modTask t.ctx.uid fun x => { x with stage := .skipped }
          s.setCore c (k1.addCounter (t.ctx.ctr (BitVec.ofNat 6 t.gate.ctr)) (BitVec.ofNat 16 t.gate.sinc))
        | _ => s.setCore c (k.startTask t)

/-! ## The stop of a module (R468, R363, R481) -/

/-- What a stopped core keeps: commands already started, V instructions in the buffers, and its registers (R468); its code buffer is
emptied (DESIGN CHOICE, log 167). -/
def Core.stopCore (k : Core) : Core :=
  { k with threads := [], ended := [], tasks := [],
           queues := k.queues.map fun q => (q.1, { q.2 with waiting := [] }), code := [], heads := [] }

/-- The G of this module's parity group as it reports it, 0 where it belongs to none (R298, R469). -/
def State.groupG (s : State) : Nat := match s.fab.parity with
  | some c => c.g
  | none => 0

/-- The module stops: it reports how far its steps are recorded, and maintenance is suspended. The work of Phases A and
B goes; a member that has sent B_DONE waits for the verdict of R303, and one in Phase D finishes it (R363, R468, R469, R481, R483). -/
def State.stopNow (s : State) : State :=
  let early := s.smithy.phase ≤ 2 ∧ s.fab.bSent = false
  let m := s.smithy
  { s with
    outbox := s.outbox ++ [Msg.stopped s.run.nextStep s.groupG],
    cores := s.cores.map fun c => (c.1, c.2.stopCore),
    rec0 := { s.rec0 with stopped := true, since := s.rec0.since ++ [s.bel.frame] },
    run := { s.run with frameLive := false, interlude := false, openFrames := [], saving := false,
                         save := s.run.save.map (fun r => { r with begun := none, written := false }) },
    fab := { s.fab with staging := [], deltas := if early then [] else s.fab.deltas,
                        phase := if early then .none else s.fab.phase, bDone := if early then [] else s.fab.bDone,
                        bSent := if early then false else s.fab.bSent, ready := [] },
    smithy := if early then { m with rows := [], touched := [], requests := 0, phase := 0, parityStarted := false,
                                     applyStarted := false, tables := [] } else m,
    bud := { s.bud with stops := satAdd 16 s.bud.stops 1 },
    maint := { s.maint with suspended := true } }

/-- MODULE_STOP: the first tick after STOP was sent or received (R468). -/
def moduleStop (s : State) : State :=
  if s.rec0.stopping = false ∨ s.rec0.stopped = true ∨ s.bel.cycle ≠ 0 ∨ s.bel.frame = s.rec0.stopAt then s else s.stopNow

end Sys2Proof.Machine
end

