-- ==== Sys2Proof/Machine/Vector.lean ====
section
/-! DEFINITION. The vector engine: conversion entries, element operations, reductions, conversions, table functions,
fused kernels, and the issue of a V instruction quarter by quarter (spec/07). -/

namespace Sys2Proof.Machine

/-! ## Exact rationals -/

/-- Sum. -/
def Q.add (a b : Q) : Q := ⟨a.num * b.den + b.num * a.den, a.den * b.den⟩
/-- Difference. -/
def Q.sub (a b : Q) : Q := ⟨a.num * b.den - b.num * a.den, a.den * b.den⟩
/-- Product. -/
def Q.mul (a b : Q) : Q := ⟨a.num * b.num, a.den * b.den⟩
/-- Quotient; `none` for a zero divisor (R224). -/
def Q.div (a b : Q) : Option Q :=
  if b.num = 0 then none
  else if 0 < b.num then some ⟨a.num * b.den, a.den * b.num.toNat⟩
  else some ⟨-(a.num * b.den), a.den * (-b.num).toNat⟩

/-- The value of a code under an unblocked legend, or with block exponent `b` (R22). -/
def Legend.value (l : Legend) (q b : Int) : Q := Q.scale ⟨q * l.m, 1⟩ (l.T + b - 15)

/-- x0 of a value for a target legend (R37). -/
def Q.toLegend (v : Q) (l : Legend) : Q := Q.scale ⟨v.num, v.den * l.m⟩ (15 - l.T)

/-! ## Conversion entries (Tables 07-1, 07-2) -/

/-- A conversion entry, field by field (Table 07-1). -/
structure Conv where
  kind : Nat
  flags : Nat
  legs : List Nat
  sreg : Nat
  param : Nat
  base : Nat
  rowStride : Nat
  regs : Nat
  branch : Nat
deriving DecidableEq, Repr

/-- Parses the 32 bytes of an entry. -/
def Conv.ofBytes (b : List Byte) : Conv :=
  let n (off len : Nat) : Nat := natOfBytes ((b.drop off).take len)
  { kind := n 0 1, flags := n 1 1, legs := [n 2 2, n 4 2, n 6 2, n 8 2, n 10 2, n 12 2], sreg := n 14 1, param := n 15 1,
    base := n 16 8, rowStride := n 24 4, regs := n 28 2, branch := n 30 2 }

/-- Legend field: 0 A, 1 B, 2 C, 3 D, 4 E, 5 F. -/
def Conv.leg (c : Conv) (i : Nat) : Nat := c.legs.getD i 0

/-- The legend index of a field: bits [15:12] are reserved and ignored (R4, Table 07-1). -/
def Conv.legIndex (c : Conv) (i : Nat) : Nat := c.leg i % 4096

/-- REG1 to REG4 by index 0 to 3. -/
def Conv.reg (c : Conv) (i : Nat) : BitVec 4 := BitVec.ofNat 4 (c.regs / 16 ^ i)

/-- What an opcode uses of its entry: KIND, legend fields, register fields, PARAM (Table 07-2). -/
structure ConvUse where
  kind : Nat
  legs : List Nat
  regs : List Nat
  param : Bool
deriving DecidableEq, Repr

/-- Table 07-2; `none` for an opcode that uses no entry. -/
def convUse (op : Nat) : Option ConvUse :=
  match op with
  | 0x18 | 0x19 => some ⟨0, [0, 3], [], false⟩
  | 0x20 | 0x21 | 0x22 => some ⟨1, [0, 3], [], false⟩
  | 0x58 => some ⟨2, [3], [], true⟩
  | 0x38 => some ⟨3, [0, 1, 3, 4], [0, 1], false⟩
  | 0x39 => some ⟨3, [0, 1, 2, 3, 4, 5], [0, 1, 2, 3], false⟩
  | 0x3A => some ⟨4, [0, 1, 3], [0, 1], false⟩
  | 0x3B => some ⟨4, [0, 1, 2, 3], [0, 1], false⟩
  | _ => none

/-- Whether an entry raises CONV_INVALID for its opcode: its KIND, a legend field, register field or PARAM that the opcode does
not use, an unknown distribution (R209, R210, R212, R399). Reserved bits are ignored (R4). -/
def convInvalid (u : ConvUse) (c : Conv) : Bool :=
  c.kind != u.kind || ((List.range 6).any fun i => !(u.legs.contains i) && c.leg i != 0) ||
  ((List.range 4).any fun i => !(u.regs.contains i) && (c.reg i).toNat != 0) ||
  (if u.param then decide (3 < c.param) else c.param != 0)

/-- Legends that an instruction reads, given its FLAGS (R212). -/
def legsRead (op : Nat) (c : Conv) : List Nat :=
  match op with
  | 0x38 => [0, 1, 3] ++ (if bit c.flags 1 || bit c.flags 2 then [4] else [])
  | 0x39 => [0, 1, 2, 3, 5] ++ (if bit c.flags 1 then [4] else [])
  | 0x3A => [0, 3] ++ (if bit c.flags 0 then [1] else [])
  | _ => ((convUse op).elim [] ConvUse.legs)

/-- The legends of an instruction, by field; `none` raises LEGEND_INVALID (R212). -/
structure ConvLegs where
  a : Legend
  b : Legend
  c : Legend
  d : Legend
  e : Legend
  f : Legend
deriving DecidableEq, Repr

/-- A stand-in for a legend that the instruction does not read. -/
def legUnused : Legend := ⟨.i32, 0, 32768, 0, false, 0⟩

/-- Reads the legends an instruction needs and checks them (R212). -/
def convLegs (s : State) (op : Nat) (c : Conv) : Option ConvLegs := do
  let need := legsRead op c
  let get (i : Nat) : Option Legend := if need.contains i then s.legend (c.legIndex i) else some legUnused
  let a ← get 0
  let b ← get 1
  let cc ← get 2
  let d ← get 3
  let e ← get 4
  let f ← get 5
  let isI32 (l : Legend) : Bool := l.fmt == .i32
  let srcOk := if c.kind = 0 then a.fmt != .a48 else isI32 a
  let othersOk := isI32 b && isI32 cc && isI32 e && isI32 f
  let dOk := d.fmt != .a48 && (c.kind == 0 || !d.fmt.blocked)
  let bitsOk := op != 0x58 || c.param != 0 || (isI32 d && d.T == 0)
  let widenOk := op != 0x19 || (!a.fmt.blocked && !d.fmt.blocked && a.T == d.T && a.m == d.m &&
    decide (d.fmt.minq ≤ a.fmt.minq) && decide (a.fmt.maxq ≤ d.fmt.maxq))
  if srcOk && othersOk && dOk && bitsOk && widenOk then some ⟨a, b, cc, d, e, f⟩ else none

/-! ## What an instruction reads at a quarter -/

/-- Words read at the first issue of quarter `q`: 256 words of each register; `tb0` is quarter 0 of TB (block exponents),
`gain` quarter 0 of REG2 as read at the instruction's first issue (R205). -/
structure Snap where
  q : Nat
  ta : List W32
  tb : List W32
  td : List W32
  r1 : List W32
  r2 : List W32
  r3 : List W32
  r4 : List W32
  tb0 : List W32
  gain : List W32
deriving DecidableEq, Repr

/-- Word (r, c) of a quarter, r counted within the quarter. -/
def wordAt (ws : List W32) (r c : Nat) : W32 := ws.getD (32 * r + c) 0

/-- I32 code of a word (R207). -/
def codeOf (w : W32) : Code := Fmt.i32.decode w.toNat

/-- Word of an I32 code. -/
def wordOf (c : Code) : W32 := BitVec.ofNat 32 (Fmt.i32.encode c)

/-- A code of a narrower format extended to 32 bits (R208). -/
def extendCode (f : Fmt) (c : Code) : W32 :=
  match f with
  | .u8 => BitVec.ofNat 32 (f.encode c)
  | _ => BitVec.ofInt 32 (signedOf f.bits (f.encode c))

/-- Positions of a quarter in row-major order. -/
def quarterCells : List (Nat × Nat) := (List.range 8).flatMap fun r => (List.range 32).map fun c => (r, c)

/-- A word-by-word result with its counts. -/
abbrev WordRes := W32 × NumCount

/-- Collects word results. -/
def collect (l : List WordRes) : List (Option W32) × NumCount :=
  (l.map fun w => some w.1, l.foldl (fun n w => n.add w.2) NumCount.none)

/-- An exact integer result as an I32 word; `none` has propagated (R213). -/
def i32Res (x : Option Int) : WordRes :=
  match x with
  | none => (wordOf none, NumCount.none)
  | some y => let r := fitOrOvf .i32 y; (wordOf r.1, r.2)

/-- Two-operand exact operation on codes. -/
def code2 (f : Int → Int → Int) (a b : Code) : Option Int :=
  match a, b with
  | some x, some y => some (f x y)
  | _, _ => none

/-- The element instructions of Table 07-3 on one word; `old` is the td word. `none`: td is not written. -/
def elemWord (op : Nat) (a b : W32) : Option WordRes :=
  let ca := codeOf a
  let cb := codeOf b
  match op with
  | 0x01 => some (i32Res (code2 (· + ·) ca cb))
  | 0x02 => some (i32Res (code2 (· - ·) ca cb))
  | 0x03 => some (i32Res (code2 (· * ·) ca cb))
  | 0x04 => some (i32Res (code2 min ca cb))
  | 0x05 => some (i32Res (code2 max ca cb))
  | 0x06 => some (a &&& b, NumCount.none)
  | 0x07 => some (a ||| b, NumCount.none)
  | 0x08 => some (a ^^^ b, NumCount.none)
  | 0x09 => some (i32Res (code2 (fun x _ => x * ((2 ^ (b.toNat % 32) : Nat) : Int)) ca cb))
  | 0x0A => some (i32Res (code2 (fun x _ => x / ((2 ^ (b.toNat % 32) : Nat) : Int)) ca cb))
  | 0x0B => if a = 0 then none else some (b, NumCount.none)
  | 0x0C => some ((match ca, cb with
      | some x, some y => if x < y then 1 else 0
      | _, _ => 0), NumCount.none)
  | 0x0D => some ((match ca, cb with
      | some x, some y => if x = y then 1 else 0
      | _, _ => 0), NumCount.none)
  | 0x10 => some (i32Res (code2 (· + ·) ca cb))
  | 0x11 => some (i32Res (code2 max ca cb))
  | 0x12 => some (i32Res (code2 min ca cb))
  | _ => some (a, NumCount.none)

/-- The element operand tb, or MOD sign-extended for the immediate forms (R135). -/
def elemB (op : Nat) (f : VR) (sn : Snap) (p : Nat × Nat) : W32 :=
  if op = 0x10 ∨ op = 0x11 ∨ op = 0x12 then f.mod.signExtend 32 else wordAt sn.tb p.1 p.2

/-- Element instructions on a quarter. -/
def elemQuarter (op : Nat) (f : VR) (sn : Snap) : List (Option W32) × NumCount :=
  let rs := quarterCells.map fun p => elemWord op (wordAt sn.ta p.1 p.2) (elemB op f sn p)
  (rs.map fun r => r.map Prod.fst, rs.foldl (fun n r => match r with
    | some w => n.add w.2
    | none => n) NumCount.none)

/-- Sum of codes in the tree of R35, OVF where a partial sum leaves the range; the flag says OVF arose (R36, R214). -/
def sumCodes (l : List Code) : Code × Bool :=
  let leaves := l.map fun c => (c, false)
  let f (a b : Code × Bool) : Code × Bool :=
    match a.1, b.1 with
    | some x, some y => let r := fitOrOvf .i32 (x + y); (r.1, a.2 || b.2 || r.1.isNone)
    | _, _ => (none, a.2 || b.2)
  (reduceTree f leaves).getD (some 0, false)

/-- One reduced word written `n` times; arisen OVF counts once per word written, propagated OVF not at all (R214). -/
def sumWord (l : List Code) : WordRes :=
  let r := sumCodes l
  let propagated := l.any Option.isNone
  (wordOf r.1, NumCount.ovfIf (r.1.isNone && !propagated))

/-- VRSUM and VRMAX on a quarter (R214). -/
def rowReduce (op : Nat) (sn : Snap) : List (Option W32) × NumCount :=
  collect ((List.range 8).flatMap fun r =>
    let row := (List.range 32).map fun c => codeOf (wordAt sn.ta r c)
    let w : WordRes :=
      if op = 0x28 then sumWord row
      else (wordOf (row.foldl (fun m c => match m, c with
        | some x, some y => some (max x y)
        | _, _ => none) (row.headD none)), NumCount.none)
    List.replicate 32 w)

/-- VCSUM over the whole tile, from its four snapshots (R214). -/
def colReduce (sns : List Snap) : List (Option W32) × NumCount :=
  let rows : List (List Code) := sns.flatMap fun sn => (List.range 8).map fun r =>
    (List.range 32).map fun c => codeOf (wordAt sn.ta r c)
  let cols := (List.range 32).map fun c => sumWord (rows.map fun r => r.getD c none)
  collect ((List.range 32).flatMap fun _ => cols)

/-- VCOMPRESS over the whole tile (R219). -/
def compressWords (ta tb : List W32) : List W32 :=
  let kept := ((ta.zip tb).filter fun p => p.2 != 0).map Prod.fst
  kept ++ List.replicate (ta.length - kept.length) 0

/-- VEXPAND over the whole tile (R220). -/
def expandWords : List W32 → List W32 → List W32
  | _, [] => []
  | src, m :: t => if m = 0 then 0 :: expandWords src t else src.headD 0 :: expandWords (src.drop 1) t

/-! ## Conversions and table functions -/

/-- The logical index of word (r, c) of the tile (R211). -/
def convIndex (c : Conv) (cap : VCap) (r col : Nat) : Nat :=
  let sv := if bit c.sreg 7 then (mapGet (0 : W64) cap.s (c.sreg % 32)).toNat else 0
  (c.base + r * c.rowStride + col + sv) % 2 ^ 64

/-- What V kernels need beside their operands: legends, entry, capture, random key for LEG_D. -/
structure VEnv where
  legs : ConvLegs
  conv : Conv
  cap : VCap
  key : RandKey
deriving DecidableEq, Repr

/-- The rounding word of word (r, c) (R211, R394). -/
def VEnv.round (e : VEnv) (r c : Nat) : Nat := roundWordFor e.legs.d.round e.key (convIndex e.conv e.cap r c)

/-- Narrows a value into LEG_D as a result word (R37-R41, R208). -/
def narrowWord (e : VEnv) (r c : Nat) (v : Option Q) : WordRes :=
  let d := e.legs.d
  let n := narrowOne d.fmt d.sat d.round (e.round r c) (v.map fun q => q.toLegend d)
  (extendCode d.fmt n.1, n.2)

/-- Source code and block exponent of a word under LEG_A (R216). -/
def srcElem (l : Legend) (w : W32) (expWord : W32) : Elem :=
  if l.fmt.blocked then
    let b := expWord.toNat % 256
    if b = 0x80 then ⟨none, 0⟩ else ⟨l.fmt.decode (w.toNat % 2 ^ l.fmt.bits), signedOf 8 b⟩
  else ⟨l.fmt.decode (w.toNat % 2 ^ l.fmt.bits), 0⟩

/-- VNARROW on a quarter: td words, and for a blocked LEG_D the exponent words of row 0 of TB (R216, R217). -/
def narrowQuarter (e : VEnv) (sn : Snap) : List (Option W32) × List (Nat × W32) × NumCount :=
  let a := e.legs.a
  let d := e.legs.d
  let rows := (List.range 8).map fun r =>
    let R := 8 * sn.q + r
    let xs := (List.range 32).map fun c =>
      let x := srcElem a (wordAt sn.ta r c) (wordAt sn.tb0 0 R)
      (x.x0 a d, e.round R c)
    if d.fmt.blocked then
      let nb := narrowBlock d.fmt d.sat d.round xs
      let ew : W32 := match nb.b with
        | none => 0xFFFFFF80
        | some b => BitVec.ofInt 32 b
      let codes := match nb.b with
        | none => List.replicate 32 (0 : W32)
        | some _ => nb.codes.map (extendCode d.fmt)
      (codes, [(R, ew)], nb.count)
    else
      let rs := xs.map fun x => narrowOne d.fmt d.sat d.round x.2 x.1
      (rs.map (fun r => extendCode d.fmt r.1), [], (rs.map Prod.snd).foldl NumCount.add NumCount.none)
  (rows.flatMap fun r => r.1.map some, rows.flatMap fun r => r.2.1, rows.foldl (fun n r => n.add r.2.2) NumCount.none)

/-- VWIDEN of one word (R218). -/
def widenWord (a d : Legend) (w : W32) : W32 := extendCode d.fmt (a.fmt.decode (w.toNat % 2 ^ a.fmt.bits))

/-- A table function of one word (R222). -/
def funcWord (op : Nat) (e : VEnv) (r c : Nat) (w : W32) : WordRes :=
  let a := e.legs.a
  match codeOf w with
  | none => (extendCode e.legs.d.fmt none, NumCount.none)
  | some q =>
    let v := match op with
      | 0x20 => some (expValue (a.value q 0))
      | 0x21 => logValue q a.T a.m
      | _ => rsqrtValue q a.T a.m
    match v with
    | none => (extendCode e.legs.d.fmt none, ⟨0, 1⟩)
    | some _ => narrowWord e r c v

/-- VRAND of one word (R215, R399). -/
def randWord (e : VEnv) (r c : Nat) : WordRes :=
  let ws := randWords e.key (convIndex e.conv e.cap r c) purposeVrand
  if e.conv.param = 0 then (BitVec.ofNat 32 (ws.headD 0), NumCount.none)
  else narrowWord e r c (some (distValue e.conv.param ws))

/-- Per-word kernels over a quarter. -/
def mapQuarter (sn : Snap) (f : Nat → Nat → WordRes) : List (Option W32) × NumCount :=
  collect (quarterCells.map fun p => f (8 * sn.q + p.1) p.2)

/-! ## Fused kernels (R224-R229) -/

/-- A value under an I32 legend, `none` for OVF. -/
def valOf (l : Legend) (w : W32) : Option Q := (codeOf w).map fun q => l.value q 0

/-- Result of a fused kernel: OVF propagated where a value read is OVF (`none`), OVF arisen for a division by 0. -/
inductive FusedVal where
  | val (q : Q)
  | propagated
  | arisen
deriving DecidableEq, Repr

/-- Narrows a fused result once (R224). -/
def fusedWord (e : VEnv) (r c : Nat) : FusedVal → WordRes
  | .val q => narrowWord e r c (some q)
  | .propagated => (extendCode e.legs.d.fmt none, NumCount.none)
  | .arisen => (extendCode e.legs.d.fmt none, ⟨0, 1⟩)

/-- Lifts an optional value. -/
def FusedVal.ofOption : Option Q → FusedVal
  | some q => .val q
  | none => .propagated

/-- VNORM of word (r, c), r within the quarter (R225). -/
def normVal (e : VEnv) (sn : Snap) (r c : Nat) : FusedVal :=
  let L := e.legs
  let fl := e.conv.flags
  FusedVal.ofOption (do
    let x ← valOf L.a (wordAt sn.ta r c)
    let mu ← if bit fl 0 then valOf L.a (wordAt sn.r1 r 0) else some ⟨0, 1⟩
    let rho ← valOf L.b (wordAt sn.tb r 0)
    let g ← if bit fl 1 then valOf L.e (wordAt sn.gain 0 c) else some ⟨1, 1⟩
    let be ← if bit fl 2 then valOf L.e (wordAt sn.gain 1 c) else some ⟨0, 1⟩
    pure ((((x.sub mu).mul rho).mul g).add be))

/-- VNORMB of word (r, c) (R226). -/
def normBVal (e : VEnv) (sn : Snap) (r c : Nat) : FusedVal :=
  let L := e.legs
  let fl := e.conv.flags
  FusedVal.ofOption (do
    let dy ← valOf L.a (wordAt sn.ta r c)
    let rho ← valOf L.b (wordAt sn.tb r 0)
    let x ← valOf L.c (wordAt sn.r3 r c)
    let mu ← if bit fl 0 then valOf L.c (wordAt sn.r1 r 0) else some ⟨0, 1⟩
    let g ← if bit fl 1 then valOf L.e (wordAt sn.gain 0 c) else some ⟨1, 1⟩
    let cr ← valOf L.f (wordAt sn.r4 r 0)
    let dr ← if bit fl 0 then valOf L.f (wordAt sn.r4 r 1) else some ⟨0, 1⟩
    let xh := (x.sub mu).mul rho
    pure (rho.mul (((g.mul dy).sub dr).sub (xh.mul cr))))

/-- VSMAX of word (r, c) (R227, R229). -/
def smaxVal (e : VEnv) (sn : Snap) (r c : Nat) : FusedVal :=
  let L := e.legs
  if bit e.conv.flags 1 && wordAt sn.r2 r c != 0 then .val ⟨0, 1⟩
  else match valOf L.a (wordAt sn.ta r c), valOf L.a (wordAt sn.tb r 0) with
    | some x, some m =>
      let v := expValue (x.sub m)
      if bit e.conv.flags 0 then
        match valOf L.b (wordAt sn.r1 r 0) with
        | none => .propagated
        | some d => match v.div d with
          | some q => .val q
          | none => .arisen
      else .val v
    | _, _ => .propagated

/-- VSMAXB of word (r, c) (R228, R229). -/
def smaxBVal (e : VEnv) (sn : Snap) (r c : Nat) : FusedVal :=
  let L := e.legs
  if bit e.conv.flags 1 && wordAt sn.r2 r c != 0 then .val ⟨0, 1⟩
  else FusedVal.ofOption (do
    let dy ← valOf L.a (wordAt sn.ta r c)
    let sr ← valOf L.b (wordAt sn.tb r 0)
    let p ← valOf L.c (wordAt sn.r1 r c)
    pure (p.mul (dy.sub sr)))

/-- A fused kernel over a quarter. -/
def fusedQuarter (e : VEnv) (sn : Snap) (f : Nat → Nat → FusedVal) : List (Option W32) × NumCount :=
  collect (quarterCells.map fun p => fusedWord e (8 * sn.q + p.1) p.2 (f p.1 p.2))

/-! ## Issue counts and latencies (Table 05-13) -/

/-- Issues per quarter. -/
def vIssues (op : Nat) : Nat :=
  if op = 0x38 ∨ op = 0x3A then 3 else if op = 0x39 ∨ op = 0x3B then 4 else 1

/-- Latency in issues; 0 for an instruction without latency. -/
def vLatency (op : Nat) : Nat :=
  if op = 0x03 ∨ op = 0x09 ∨ op = 0x0A then 3
  else if op ≤ 0x12 ∨ op = 0x60 then 2
  else if op = 0x18 ∨ op = 0x19 ∨ op = 0x58 then 4
  else if op = 0x28 ∨ op = 0x29 then 5
  else if op = 0x2A ∨ op = 0x30 ∨ op = 0x31 ∨ (0x20 ≤ op ∧ op ≤ 0x22) ∨ op = 0x40 then 6
  else if 0x38 ≤ op ∧ op ≤ 0x3B then 8
  else if op = 0x48 then 3
  else 0

/-- Instructions whose result depends on more than one quarter (R158). -/
def vWhole (op : Nat) : Bool := op == 0x2A || op == 0x30 || op == 0x31

/-- Quarters that QSEL selects. -/
def quartersOf (qsel : BitVec 3) : List Nat := if qsel = 4 then [0, 1, 2, 3] else [qsel.toNat]

/-! ## Register file and issue by issue passing -/

/-- Quarter `q` of register `r`: 256 words; zeros where nothing was written (R206). -/
def VContext.quarter (x : VContext) (r : BitVec 4) (q : Nat) : List W32 :=
  mapGet (List.replicate 256 0) x.tiles (r.toNat * 4 + q)

/-- Writes the words of a result that are present. -/
def VContext.writeTile (x : VContext) (p : PendTile) : VContext :=
  let old := mapGet (List.replicate 256 0) x.tiles p.key
  { x with tiles := mapSet (List.replicate 256 0) x.tiles p.key
             ((old.zip p.words).map fun w => w.2.getD w.1) }

/-- Results due at an issue become visible, in issue order (R158, R160). -/
def VContext.arrive (x : VContext) (n : Nat) : VContext :=
  let y := (x.pend.filter fun p => p.due == n).foldl VContext.writeTile x
  { y with pend := y.pend.filter fun p => p.due != n }

/-- Passes `n` further issues of the context. -/
def VContext.pass : Nat → VContext → VContext
  | 0, x => x
  | n + 1, x => VContext.pass n (VContext.arrive { x with issues := x.issues + 1 } (x.issues + 1))

/-- Quarters of a context that results write whole in its next `n` issues. -/
def VContext.written (n : Nat) (x : VContext) : List Nat :=
  (x.pend.filter fun p => p.words.all Option.isSome && decide (x.issues < p.due) && decide (p.due ≤ x.issues + n)).map PendTile.key

/-- Quarters of a tile register that are written whole hold no error any more (R519). -/
def CoreErrors.tilesWritten (e : CoreErrors) (ctxNo : Nat) (keys : List Nat) : CoreErrors :=
  { e with tile := e.tile.filter fun t => !(keys.any fun g => t == ctxNo * 64 + g) }

/-- Quarters of tile registers (register·4 + quarter) that the instruction reads at its first issue for quarter `q`:
element operands and statistics of the quarter; block exponents in row 0 of TB; gains at the instruction's first issue
only (R205, Table 07-2). -/
def vKeysRead (op : Nat) (f : VR) (m : VM) (c : Conv) (legs : ConvLegs) (q : Nat) (first : Bool) : List Nat :=
  let at_ (r : BitVec 4) : List Nat := [r.toNat * 4 + q]
  let gain : List Nat := if first then [(c.reg 1).toNat * 4] else []
  if op = 0x41 then at_ m.t
  else if op = 0x40 ∨ op = 0x48 ∨ op = 0x50 ∨ op = 0x51 ∨ op = 0x58 then []
  else if (0x01 ≤ op ∧ op ≤ 0x0D) ∨ op = 0x30 ∨ op = 0x31 then at_ f.ta ++ at_ f.tb
  else if op = 0x18 then at_ f.ta ++ (if legs.a.fmt.blocked then [f.tb.toNat * 4] else [])
  else if op = 0x38 then at_ f.ta ++ at_ f.tb ++ (if bit c.flags 0 then at_ (c.reg 0) else []) ++
    (if bit c.flags 1 || bit c.flags 2 then gain else [])
  else if op = 0x39 then at_ f.ta ++ at_ f.tb ++ at_ (c.reg 2) ++ at_ (c.reg 3) ++
    (if bit c.flags 0 then at_ (c.reg 0) else []) ++ (if bit c.flags 1 then gain else [])
  else if op = 0x3A then at_ f.ta ++ at_ f.tb ++ (if bit c.flags 0 then at_ (c.reg 0) else []) ++
    (if bit c.flags 1 then at_ (c.reg 1) else [])
  else if op = 0x3B then at_ f.ta ++ at_ f.tb ++ at_ (c.reg 0) ++ (if bit c.flags 1 then at_ (c.reg 1) else [])
  else at_ f.ta

/-- Quarters that the instruction writes with the issue of quarter `q`. -/
def vKeysWritten (op : Nat) (f : VR) (m : VM) (legs : ConvLegs) (q : Nat) : List Nat :=
  if op = 0x40 then [m.t.toNat * 4 + q]
  else if op = 0x41 then []
  else if vWhole op then (if q = 3 then (List.range 4).map fun i => f.td.toNat * 4 + i else [])
  else if op = 0x18 && legs.d.fmt.blocked then [f.td.toNat * 4 + q, f.tb.toNat * 4]
  else [f.td.toNat * 4 + q]

/-- Reads operands for quarter `q` (R205). -/
def takeSnap (x : VContext) (f : VR) (c : Conv) (q : Nat) (gain : List W32) : Snap :=
  { q := q, ta := x.quarter f.ta q, tb := x.quarter f.tb q, td := x.quarter f.td q, r1 := x.quarter (c.reg 0) q,
    r2 := x.quarter (c.reg 1) q, r3 := x.quarter (c.reg 2) q, r4 := x.quarter (c.reg 3) q,
    tb0 := x.quarter f.tb 0, gain := gain }

/-- Words of row 0 of a register that are written, as a quarter-0 result (R217). -/
def rowZeroWords (es : List (Nat × W32)) : List (Option W32) :=
  (List.range 256).map fun i => (es.find? fun e => e.1 == i).map Prod.snd

/-- The result of a per-quarter instruction: results by register, and counts. Of a blocked VNARROW whose TB is its TD, the
exponent words stand in row 0 over the codes written with them, and no hazard is found in that (DESIGN CHOICE, log 134). -/
def quarterResult (op : Nat) (f : VR) (e : VEnv) (sn : Snap) (tile : List W32) :
    List (Nat × List (Option W32)) × NumCount :=
  let key := f.td.toNat * 4 + sn.q
  let one (r : List (Option W32) × NumCount) : List (Nat × List (Option W32)) × NumCount := ([(key, r.1)], r.2)
  if op = 0x18 then
    let r := narrowQuarter e sn
    ((key, r.1) :: (if e.legs.d.fmt.blocked then [(f.tb.toNat * 4, rowZeroWords r.2.1)] else []), r.2.2)
  else if op = 0x19 then
    one (mapQuarter sn fun r c => (widenWord e.legs.a e.legs.d (wordAt sn.ta (r - 8 * sn.q) c), NumCount.none))
  else if 0x20 ≤ op ∧ op ≤ 0x22 then one (mapQuarter sn fun r c => funcWord op e r c (wordAt sn.ta (r - 8 * sn.q) c))
  else if op = 0x58 then one (mapQuarter sn fun r c => randWord e r c)
  else if op = 0x28 ∨ op = 0x29 then one (rowReduce op sn)
  else if op = 0x38 then one (fusedQuarter e sn (normVal e sn))
  else if op = 0x39 then one (fusedQuarter e sn (normBVal e sn))
  else if op = 0x3A then one (fusedQuarter e sn (smaxVal e sn))
  else if op = 0x3B then one (fusedQuarter e sn (smaxBVal e sn))
  else if op = 0x48 then ([(key, ((tile.drop (256 * sn.q)).take 256).map some)], NumCount.none)
  else one (elemQuarter op f sn)

/-- The result of VCSUM, VCOMPRESS or VEXPAND from its four snapshots. -/
def wholeResult (op : Nat) (f : VR) (sns : List Snap) : List (Nat × List (Option W32)) × NumCount :=
  let r : List (Option W32) × NumCount :=
    if op = 0x2A then colReduce sns
    else
      let ta := sns.flatMap Snap.ta
      let tb := sns.flatMap Snap.tb
      ((if op = 0x30 then compressWords ta tb else expandWords ta tb).map some, NumCount.none)
  ((List.range 4).map fun q => (f.td.toNat * 4 + q, (r.1.drop (256 * q)).take 256), r.2)

/-! ## Local-store forms (R143) -/

/-- Element bytes of WIDTH. -/
def widthBytes (w : BitVec 2) : Nat := if w = 0 then 4 else if w = 1 then 2 else 1

/-- Task offset of quarter `q` of VLD or VST. -/
def vmOffset (m : VM) (cap : VCap) (q : Nat) : Nat :=
  ((mapGet (0 : W64) cap.a m.ar.toNat).toNat + 64 * m.off.toNat) % 2 ^ 64 + 256 * q * widthBytes m.width

/-- Words of a quarter from its local-store bytes, sign-extended (R143). -/
def loadWords (w : Nat) : Nat → List Byte → List W32
  | 0, _ => []
  | n + 1, bs => BitVec.ofInt 32 (signedOf (8 * w) (natOfBytes (bs.take w))) :: loadWords w n (bs.drop w)

/-! ## Issue of a whole instruction -/

/-- Faults of a V instruction as CORE_VSTAT numbers them (Table 07-5). -/
inductive VFault where
  | conv | legend | range | ue | hazard (kind reg : Nat)
deriving DecidableEq, Repr

/-- The fault code of Table 16-1. -/
def VFault.code : VFault → Nat
  | .conv => cConvInvalid
  | .legend => cLegendInvalid
  | .range => cLsRange
  | .ue => cCoreUe
  | .hazard _ _ => cTimingHazard

/-- The environment of a V instruction, or the fault its first issue finds (R205, R209-R212, R231). Of several, an unreadable or invalid
conversion word comes first, then the legends, then the SREG hazard, then what a quarter meets (DESIGN CHOICE, log 168). -/
def vEnvOf (s : State) (k : Core) (v : VInstr) : Except VFault VEnv :=
  let op := v.op.toNat
  let f := VR.ofBits v.bits
  let t := v.cap.task
  let noEnv : VEnv := ⟨⟨legUnused, legUnused, legUnused, legUnused, legUnused, legUnused⟩, Conv.ofBytes [], v.cap,
    s.randKey t 0 0⟩
  match convUse op with
  | none =>
    if op = 0x40 ∨ op = 0x41 then
      let m := VM.ofBits v.bits
      if (quartersOf m.qsel).all fun q => (t.lsAddr (vmOffset m v.cap q) (256 * widthBytes m.width)).isSome then .ok noEnv
      else .error .range
    else .ok noEnv
  | some u =>
    match t.lsAddr (32 * f.mod.toNat) 32 with
    | none => .error .range
    | some p =>
      if k.errors.lsBad p 32 then .error .ue
      else
        let c := Conv.ofBytes (k.ls.readBytes p 32)
        if convInvalid u c then .error .conv
        else match convLegs s op c with
          | none => .error .legend
          | some L =>
            if s.audit && bit c.sreg 7 && v.cap.tagged.contains (c.sreg % 32) then .error (.hazard 0 (c.sreg % 32))
            else .ok ⟨L, c, v.cap, s.randKey t L.d.tensorId c.branch⟩

/-- Progress of a V instruction through its quarters. -/
structure VRun where
  k : Core
  x : VContext
  sns : List Snap
  count : NumCount
  charged : Nat
  bad : Option VFault
deriving DecidableEq, Repr

/-- The instruction's `n` issues for a quarter pass, from the context as `x` has it: results that come due become visible, and quarters
that they write whole hold no error any more (R158, R519). -/
def VRun.pass (r : VRun) (ctxNo n : Nat) (x : VContext) : VRun :=
  { r with x := VContext.pass n x, k := { r.k with errors := r.k.errors.tilesWritten ctxNo (x.written n) }, charged := r.charged + n }

/-- A hazard of a quarter's reads or results in audit mode (R162): KIND and register; of several, the first read, else the first
result (DESIGN CHOICE, log 135). -/
def quarterHazard (x : VContext) (reads : List Nat) (due : Nat) (dests : List Nat) : Option (Nat × Nat) :=
  match reads.find? fun r => x.pend.any fun p => p.key == r with
  | some r => some (1, 48 + r / 4)
  | none => match dests.find? fun d => x.pend.any fun p => p.key == d && p.due == due with
    | some d => some (2, 48 + d / 4)
    | none => none

/-- One quarter of an instruction: its operands are read at its first issue; its result is due `latency` issues after its
last one (R158, R205). -/
def vQuarter (s : State) (ctxNo : Nat) (v : VInstr) (e : VEnv) (gain tile : List W32) (r : VRun) (q : Nat) : VRun :=
  if r.bad.isSome then r
  else
    let op := v.op.toNat
    let f := VR.ofBits v.bits
    let m := VM.ofBits v.bits
    let n := vIssues op
    let due := r.x.issues + n - 1 + vLatency op
    let reads := vKeysRead op f m e.conv e.legs q (r.charged == 0)
    match (if s.audit then quarterHazard r.x reads due (vKeysWritten op f m e.legs q) else none) with
    | some (kind, reg) => { r with bad := some (.hazard kind reg) }
    | none =>
      if reads.any fun g => r.k.errors.tile.contains (ctxNo * 64 + g) then { r with bad := some .ue }
      else
        if op = 0x40 then
          let w := widthBytes m.width
          match v.cap.task.lsAddr (vmOffset m v.cap q) (256 * w) with
          | none => r
          | some p =>
            if r.k.errors.lsBad p (256 * w) then { r with bad := some .ue }
            else
              let ws := (loadWords w 256 (r.k.ls.readBytes p (256 * w))).map some
              r.pass ctxNo n { r.x with pend := r.x.pend ++ [⟨m.t.toNat * 4 + q, ws, due⟩] }
        else if op = 0x41 then
          let w := widthBytes m.width
          match v.cap.task.lsAddr (vmOffset m v.cap q) (256 * w) with
          | none => r
          | some p =>
            let bytes := (r.x.quarter m.t q).flatMap fun x => bytesOfNat w x.toNat
            let k1 : Core := { r.k with ls := r.k.ls.writeBytes p bytes, errors := r.k.errors.lsWritten p (256 * w) }
            ({ r with k := k1 } : VRun).pass ctxNo n r.x
        else
          let sn := takeSnap r.x f e.conv q gain
          if vWhole op then ({ r with sns := r.sns ++ [sn] } : VRun).pass ctxNo n r.x
          else
            let res := quarterResult op f e sn tile
            let ps := res.1.map fun d => PendTile.mk d.1 d.2 due
            ({ r with count := r.count.add res.2 } : VRun).pass ctxNo n { r.x with pend := r.x.pend ++ ps }

/-- A faulting V instruction stops its context for the step, and its fault is recorded and raised (R162, R163, R231). VCTX of CORE_HAZARD is
0 for KIND 0 (DESIGN CHOICE, log 168). -/
def vFaultAt (c : CoreId) (ctx : VCtx) (v : VInstr) (f : VFault) (k : Core) (x : VContext) (s : State) : State :=
  let task := v.cap.task.taskId
  let regs := match f with
    | .conv => k.regs.noteVector ctx.toNat 1 v.op.toNat task.toNat
    | .legend => k.regs.noteVector ctx.toNat 2 v.op.toNat task.toNat
    | .range => k.regs.noteVector ctx.toNat 3 v.op.toNat task.toNat
    | .ue => k.regs
    | .hazard kind reg => k.regs.noteHazard kind (if kind = 0 then 0 else ctx.toNat) v.cap.thread.toNat reg task.toNat v.cap.addr
  raiseCore f.code c task (s.setCore c ({ k with regs := regs }.setVContext ctx { x with stopped := true }))

/-- Whether the instruction can issue at its context's turn: meter, VWAIT condition, a tile to pop (R157, R204). -/
def vCanIssue (k : Core) (v : VInstr) : Bool :=
  let f := VC.ofBits v.bits
  decide (0 < k.meters.vector) &&
    (v.op != 0x50 || condHolds f.cond (k.counter (v.cap.task.ctr f.ctr)) f.value) &&
    (v.op != 0x48 || !k.tileQ.isEmpty)

/-- The issue of the instruction at the head of a context's buffer, when it is the row's instruction: all its quarters at
consecutive issues (R157-R160, R205; DEDUCED, log 4). -/
def vIssue (op : BitVec 7) (c : CoreId) (ctx : VCtx) (s : State) : State :=
  let k := s.core c
  let x := k.vcontext ctx
  match x.buf with
  | [] => s
  | v :: rest =>
    if v.op != op || x.stopped || !vCanIssue k v then s
    else match vEnvOf s k v with
      | .error f => vFaultAt c ctx v f k x s
      | .ok e =>
        let o := op.toNat
        let f := VR.ofBits v.bits
        let x0 := { x with buf := rest }
        if o = 0x50 ∨ o = 0x51 then
          let sig := if o = 0x51 then
              some (v.cap.task.ctr (VC.ofBits v.bits).ctr, (VC.ofBits v.bits).value)
            else none
          let x1 := VContext.pass 1 x0
          s.setCore c ({ k with meters := { k.meters with vector := k.meters.vector - 1 },
                                errors := k.errors.tilesWritten ctx.toNat (x0.written 1) }.setVContext ctx
            { x1 with unret := x1.unret ++ [VUnret.mk op v.cap.task sig] })
        else
          let gain := x0.quarter (e.conv.reg 1) 0
          let tile := (k.tileQ.head?.map Tile.words).getD []
          let r0 : VRun := ⟨k, x0, [], NumCount.none, 0, none⟩
          let r1 := (quartersOf (vQsel v.bits)).foldl (vQuarter s ctx.toNat v e gain tile) r0
          let last := r1.x.issues - 1
          let wr := if vWhole o && r1.bad.isNone then wholeResult o f r1.sns else ([], NumCount.none)
          let x2 := { r1.x with pend := r1.x.pend ++ wr.1.map fun d => PendTile.mk d.1 d.2 (last + vLatency o) }
          let k2 := { r1.k with meters := { r1.k.meters with vector := r1.k.meters.vector - r1.charged },
                                tileQ := if o = 0x48 then r1.k.tileQ.drop 1 else r1.k.tileQ }
          match r1.bad with
          | some b =>
            if r1.charged = 0 then vFaultAt c ctx v b k x s
            else (vFaultAt c ctx v b k2 x2 s).countNum c r1.count
          | none =>
            (s.setCore c (k2.setVContext ctx { x2 with unret := x2.unret ++ [VUnret.mk op v.cap.task none] })).countNum c
              (r1.count.add wr.2)

end Sys2Proof.Machine
end

