-- ==== Sys2Proof/Machine/Tiles.lean ====
section
/-! DEFINITION. Operand tiles: header, the DENSE, COMPACT and S24 forms, reading, writing and the choice of a form
(spec/06, R184-R189). -/

namespace Sys2Proof.Machine

/-- A tile header's fields (Table 06-5). -/
structure TileHdr where
  fmt : Nat
  form : Nat
  bySize : Bool
  structFail : Bool
  hasOvf : Bool
  rows : Nat
  kp : Nat
  nnz : Nat
  bytes : Nat
deriving DecidableEq, Repr

/-- The header of a 128-bit value; `none` where a reserved field is not zero (R184). -/
def TileHdr.ofNat (v : Nat) : Option TileHdr :=
  if field v 15 13 = 0 ∧ bit v 23 = false ∧ field v 39 33 = 0 ∧ field v 63 56 = 0 ∧ field v 127 80 = 0 then
    some { fmt := field v 7 0, form := field v 9 8, bySize := bit v 10, structFail := bit v 11, hasOvf := bit v 12,
           rows := field v 22 16, kp := field v 32 24, nnz := field v 55 40, bytes := field v 79 64 }
  else none

/-- The 128-bit value of a header. -/
def TileHdr.toNat (h : TileHdr) : Nat :=
  h.fmt + h.form * 2 ^ 8 + bnat h.bySize * 2 ^ 10 + bnat h.structFail * 2 ^ 11 + bnat h.hasOvf * 2 ^ 12 +
    h.rows * 2 ^ 16 + h.kp * 2 ^ 24 + h.nnz * 2 ^ 40 + h.bytes * 2 ^ 64

/-- Formats that a tile can hold (Table 06-5). -/
def tileFmt (code : Nat) : Option Fmt :=
  match Fmt.ofCode code with
  | some .i32 | some .u8 | some .a48 | none => none
  | f => f

/-- Rounds up to a multiple of 16. -/
def up16 (n : Nat) : Nat := (n + 15) / 16 * 16

/-- Bytes of block exponents (R185). -/
def expBytes (f : Fmt) (rows kp : Nat) : Nat := if f.blocked then rows * (kp / 32) else 0

/-- Bytes of a tile, header included (R185). -/
def tileBytes (f : Fmt) (form rows kp nnz : Nat) : Nat :=
  let body := match form with
    | 0 => rows * (kp * f.bits / 8)
    | 1 => rows * kp / 8 + (nnz * f.bits + 7) / 8
    | _ => (rows * (kp / 4) + 1) / 2 + (rows * (kp / 2) * f.bits + 7) / 8
  up16 (16 + expBytes f rows kp + body)

/-- A tile read whole: its header, format, and rows of elements; an element of an OVF block is OVF (R20). -/
structure TileData where
  hdr : TileHdr
  fmt : Fmt
  rows : List (List Elem)
deriving DecidableEq, Repr

/-- Cuts a list into rows of `n`. -/
def rowsOf {α : Type} (n : Nat) : Nat → List α → List (List α)
  | 0, _ => []
  | k + 1, l => l.take n :: rowsOf n k (l.drop n)

/-- Scatters the non-zero codes of a COMPACT body over its bitmap (R185). -/
def placeCompact : List Bool → List Nat → List Nat
  | [], _ => []
  | true :: t, codes => codes.headD 0 :: placeCompact t (codes.drop 1)
  | false :: t, codes => 0 :: placeCompact t codes

/-- Expands one S24 group of four from its position nibble and two codes (R185). -/
def placeS24 (nib c0 c1 : Nat) : List Nat :=
  (List.range 4).map fun i => if i = nib % 4 then c0 else if i = nib / 4 % 4 then c1 else 0

/-- The codes of a tile body, row-major; `none` where a COMPACT bitmap or an S24 nibble is invalid (Table 06-9). -/
def bodyCodes (f : Fmt) (h : TileHdr) (body : List Byte) : Option (List Nat) :=
  let cells := h.rows * h.kp
  match h.form with
  | 0 => some (splitBits f.bits cells (natOfBytes body))
  | 1 =>
    let bm := (splitBits 1 cells (natOfBytes (body.take (cells / 8)))).map fun b => b == 1
    let codes := splitBits f.bits h.nnz (natOfBytes (body.drop (cells / 8)))
    if (bm.filter id).length = h.nnz then some (placeCompact bm codes) else none
  | 2 =>
    let groups := cells / 4
    let nibBytes := (groups + 1) / 2
    let nibs := splitBits 4 groups (natOfBytes (body.take nibBytes))
    let codes := splitBits f.bits (2 * groups) (natOfBytes (body.drop nibBytes))
    if nibs.all fun n => decide (n % 4 < n / 4) then
      some ((nibs.zip (rowsOf 2 groups codes)).flatMap fun p => placeS24 p.1 (p.2.getD 0 0) (p.2.getD 1 0))
    else none
  | _ => none

/-- Elements of a row from its codes and block exponents (R20, R22). -/
def rowElems (f : Fmt) (exps : List Nat) (codes : List Nat) : List Elem :=
  if f.blocked then
    ((chunk32 (codes.length + 1) codes).zip exps).flatMap fun p =>
      p.1.map fun c => if p.2 = 0x80 then ⟨none, ovfBlock⟩ else ⟨f.decode c, signedOf 8 p.2⟩
  else codes.map fun c => ⟨f.decode c, 0⟩

/-- Reads the tile at a task-relative offset and makes the checks of Table 06-9 that concern the tile itself; a failed
check stops with TILE_INVALID (R172, R192). -/
def readTile (off : Nat) : EM TileData := do
  echeck (off % 16 == 0) cTileInvalid
  let hb ← lsRead off 16
  let h ← eget (TileHdr.ofNat (natOfBytes hb)) cTileInvalid
  let f ← eget (tileFmt h.fmt) cTileInvalid
  echeck (decide (h.form ≤ 2) && (h.kp == 64 || h.kp == 128 || h.kp == 256) && decide (1 ≤ h.rows) && decide (h.rows ≤ 64))
    cTileInvalid
  echeck (h.bytes == tileBytes f h.form h.rows h.kp h.nnz) cTileInvalid
  let body ← lsRead (off + 16) (h.bytes - 16)
  let eb := expBytes f h.rows h.kp
  let codes ← eget (bodyCodes f h (body.drop eb)) cTileInvalid
  let exps := (body.take eb).map BitVec.toNat
  let per := h.kp / 32
  pure ⟨h, f, (List.range h.rows).map fun r =>
    rowElems f ((exps.drop (r * per)).take per) ((codes.drop (r * h.kp)).take h.kp)⟩

/-- Whether a code's bit pattern is non-zero; OVF codes count (R184). -/
def nonZero (c : Code) : Bool := c != some 0

/-- A row of a tile to be written: per block (unblocked: one) its exponent, `none` for an OVF block, and its codes. -/
structure TileRow where
  exps : List (Option Int)
  codes : List Code
deriving DecidableEq, Repr

/-- At most two of a list's flags. -/
def atMostTwo (l : List Bool) : Bool := decide ((l.filter id).length ≤ 2)

/-- One-way 2:4: every group of four along K holds at most two non-zero codes (R188). -/
def oneWay (rows : List (List Bool)) : Bool :=
  rows.all fun r => (rowsOf 4 (r.length / 4) r).all atMostTwo

/-- Two-way 2:4: in every aligned 4×4 block every row and every column holds at most two; absent rows are zero (R188). -/
def twoWay (rows : List (List Bool)) : Bool :=
  oneWay rows &&
    (List.range ((rows.length + 3) / 4)).all fun g =>
      let four := (rows.drop (4 * g)).take 4
      (List.range ((rows.headD []).length)).all fun k => atMostTwo (four.map fun r => r.getD k false)

/-- Kept positions of a group of four: its non-zero positions, filled up from the lowest free ones (R185). -/
def keepTwo (g : List Bool) : Nat × Nat :=
  let nz := (List.range 4).filter fun i => g.getD i false
  let zs := (List.range 4).filter fun i => !(g.getD i false)
  let two := (nz ++ zs).take 2
  let a := two.getD 0 0
  let b := two.getD 1 1
  (min a b, max a b)

/-- The default threshold of a KP (Table 06-6). -/
def defaultThresh (kp : Nat) : Nat := if kp = 64 then 40 else if kp = 128 then 35 else 30

/-- The form of a tile: FORM, BYSIZE, STRUCT_FAIL (R186). -/
def chooseForm (f : Fmt) (struct thresh rows kp nnz : Nat) (nz : List (List Bool)) : Nat × Bool × Bool :=
  if struct = 1 ∧ oneWay nz ∨ struct = 2 ∧ twoWay nz then (2, false, false)
  else if struct ≠ 0 then (0, false, true)
  else
    let thr := if thresh = 0 then defaultThresh kp else thresh
    if thresh = 127 then (0, false, false)
    else if nnz * 100 ≤ thr * (rows * kp) then
      if tileBytes f 0 rows kp nnz < tileBytes f 1 rows kp nnz then (0, true, false) else (1, false, false)
    else (0, false, false)

/-- Encoded bytes of a tile, and whether STRUCT_VIOLATION arose; `compact` chooses the form of R186, otherwise DENSE. -/
def encodeTile (f : Fmt) (kp : Nat) (compact : Bool) (struct thresh : Nat) (rows : List TileRow) : List Byte × Bool :=
  let codes := rows.map TileRow.codes
  let nz := codes.map fun r => r.map nonZero
  let nnz := (nz.flatten.filter id).length
  let n := rows.length
  let ch := if compact then chooseForm f struct thresh n kp nnz nz else (0, false, false)
  let raw := codes.flatten.map f.encode
  let exps : List Byte := if f.blocked then rows.flatMap fun r => r.exps.map fun e => match e with
      | some b => BitVec.ofInt 8 b
      | none => 0x80
    else []
  let body : List Byte := match ch.1 with
    | 0 => bytesOfNat (n * (kp * f.bits / 8)) (packBits f.bits raw)
    | 1 => bytesOfNat (n * kp / 8) (packBits 1 (nz.flatten.map bnat)) ++
        bytesOfNat ((nnz * f.bits + 7) / 8) (packBits f.bits ((codes.flatten.filter nonZero).map f.encode))
    | _ =>
      let groups := rowsOf 4 (n * kp / 4) raw
      let flags := rowsOf 4 (n * kp / 4) nz.flatten
      let keep := flags.map keepTwo
      bytesOfNat ((n * (kp / 4) + 1) / 2) (packBits 4 (keep.map fun p => p.1 + 4 * p.2)) ++
        bytesOfNat ((n * (kp / 2) * f.bits + 7) / 8)
          (packBits f.bits ((groups.zip keep).flatMap fun g => [g.1.getD g.2.1 0, g.1.getD g.2.2 0]))
  let size := tileBytes f ch.1 n kp nnz
  let ovf := codes.any (fun r => r.any Option.isNone) || rows.any fun r => r.exps.any Option.isNone
  let h : TileHdr := ⟨f.code, ch.1, ch.2.1, ch.2.2, ovf, n, kp, nnz, size⟩
  let all := bytesOfNat 16 h.toNat ++ exps ++ body
  (all ++ List.replicate (size - all.length) 0, ch.2.2)

end Sys2Proof.Machine
end

