-- ==== Sys2Proof/Machine/Mill.lean ====
section
/-! DEFINITION. The mill: passes, banks, drains, raw stores, residue faults and the tile queue (spec/06, R190-R201;
spec/02, R29-R34). -/

namespace Sys2Proof.Machine

/-- Row `r` of bank `b`: 64 accumulators, cleared where nothing was written. -/
def Core.bankRow (k : Core) (b : Bool) (r : Nat) : List A48 :=
  mapGet (List.replicate 64 A48.zero) k.banks (bnat b * 64 + r)

/-- The hidden residues of a bank row (R197). -/
def Core.hiddenRow (k : Core) (b : Bool) (r : Nat) : List Nat :=
  mapGet (List.replicate 64 0) k.hidden (bnat b * 64 + r)

/-- Writes a bank row and its hidden residues. -/
def Core.putBankRow (k : Core) (b : Bool) (r : Nat) (x : List A48) (h : List Nat) : Core :=
  { k with banks := mapSet (List.replicate 64 A48.zero) k.banks (bnat b * 64 + r) x,
           hidden := mapSet (List.replicate 64 0) k.hidden (bnat b * 64 + r) h }

/-- Restores a bank row; its residues are computed again (R197). -/
def Core.setBankRow (k : Core) (b : Bool) (r : Nat) (x : List A48) : Core :=
  k.putBankRow b r x (x.map fun a => res255 a.w)

/-- Clears a bank (R26). -/
def Core.clearBank (k : Core) (b : Bool) : Core :=
  { k with banks := k.banks.filter fun e => decide (e.1 / 64 ≠ bnat b),
           hidden := k.hidden.filter fun e => decide (e.1 / 64 ≠ bnat b) }

/-- Whether an accumulator of a bank disagrees with its hidden residue (R197). -/
def Core.bankWrong (k : Core) (b : Bool) : Bool :=
  (List.range 64).any fun r => ((k.bankRow b r).zip (k.hiddenRow b r)).any fun p => p.2 != res255 p.1.w

/-- Charges the MILL meter (Table 06-11). -/
def chargeMill (n : Nat) : EM Unit := do
  let w ← get
  emod fun s => s.modCore w.core fun k => { k with meters := { k.meters with mill := k.meters.mill - n } }

/-- A residue check that fails: the fault, with CORE_MILLSTAT (R198); kind 0 a pass sum, 1 an accumulator. -/
def residueFault (kind : Nat) (bank : Bool) : EM Unit := do
  let w ← get
  emod fun s => s.modCore w.core fun k => { k with regs := k.regs.noteResidue kind bank w.task.taskId.toNat }
  efault cResidue

/-- The check of a drain or a raw store (R197). -/
def accCheck (bank : Bool) : EM Unit := do
  let w ← get
  if (w.s.core w.core).bankWrong bank then residueFault 1 bank else pure ()

/-! ## Passes -/

/-- Block sum and exponent of one block position (R29). -/
def blockSum (a w : List Elem) : Int × Int :=
  ((a.zip w).foldl (fun t p => t + p.1.q.getD 0 * p.2.q.getD 0) 0, (a.headD ⟨some 0, 0⟩).b + (w.headD ⟨some 0, 0⟩).b)

/-- Pass sum and exponent over block sums (R30). -/
def passSum (blocks : List (Int × Int)) : Int × Int :=
  match blocks.filter fun b => b.1 != 0 with
  | [] => (0, 0)
  | b :: t =>
    let fmax := t.foldl (fun m x => max m x.2) b.2
    let fmin := t.foldl (fun m x => min m x.2) b.2
    let g := max fmin (fmax - 24)
    ((b :: t).foldl (fun p x => p + shiftFloor x.1 (x.2 - g)) 0, g)

/-- Byte `u` of a code: of a 16-bit operand the low byte, or the signed high one; any other operand is one slice (R29, R196). -/
def byteSlice (wide : Bool) (u : Nat) (q : Int) : Int :=
  if wide then (if u = 0 then q % 256 else q / 256) else if u = 0 then q else 0

/-- The elements of a slice of an operand. -/
def sliceElems (wide : Bool) (u : Nat) (l : List Elem) : List Elem := l.map fun e => { e with q := e.q.map (byteSlice wide u) }

/-- The residue of the sum of a block position, or of a byte slice of it, by the separate path: the sum of the products of the codes'
residues (R196). -/
def blockResidue (a w : List Elem) : Nat :=
  (a.zip w).foldl (fun t p => (t + res255 (p.1.q.getD 0) * res255 (p.2.q.getD 0)) % 255) 0

/-- The pass sum of one output element: OVF where an element or block that feeds it is OVF (R31); `err` is the error of each
block sum. -/
def outputSum (a w : List Elem) (err : Nat → Int) : Code × Int :=
  if a.any (fun e => e.q.isNone) || w.any fun e => e.q.isNone then (none, 0)
  else
    let n := a.length + 1
    let blocks := ((chunk32 n a).zip (chunk32 n w)).map fun p => blockSum p.1 p.2
    let r := passSum ((blocks.zip (List.range blocks.length)).map fun b => (b.1.1 + err b.2, b.1.2))
    (some r.1, r.2)

/-- Width class of a mill operand in bits; `none` for no operand (Table 06-7). -/
def millWidth (f : Fmt) : Option Nat :=
  match f with
  | .i16 | .b16 => some 16
  | .i8 | .b8 => some 8
  | .i4 | .b4 => some 4
  | .i2 | .b2 => some 2
  | _ => none

/-- Pass K and dense cycles of a width pair; `none` for a pair the mill has not (Table 06-7). -/
def millMode (a w : Nat) : Option (Nat × Nat) :=
  if a = 2 then none
  else if a = 16 ∧ w = 16 then some (64, 256)
  else if a = 16 ∨ w = 16 then some (64, 128)
  else if a = 4 ∧ w = 4 then some (128, 64)
  else if a = 4 ∧ w = 2 then some (256, 64)
  else some (64, 64)

/-- K-groups of the A tile that hold a non-zero code or an OVF block, at least 1 (R191). -/
def activeGroups (a : TileData) : Nat :=
  let n := a.hdr.kp / 8
  let g := (List.range 8).filter fun i => a.rows.any fun r => ((r.drop (i * n)).take n).any fun e => nonZero e.q
  max g.length 1

/-- Cycles of a pass (R191). -/
def passCycles (c : Nat) (force : Bool) (a w : TileData) : Nat :=
  let c1 := if w.hdr.form = 2 then c / 2 else c
  let g := if a.hdr.form = 0 || force then 8 else activeGroups a
  c1 * g / 8

/-- A row of code 0 for an absent row of a tile. -/
def zeroRow (kp : Nat) : List Elem := List.replicate kp ⟨some 0, 0⟩

/-- The error of a block sum of an output element of the next pass: a slice's error weighs as its bytes do. -/
def passError (errs : List MillError) (r c j : Nat) : Int :=
  (errs.filter fun e => e.row == r && e.col == c && e.block == j).foldl (fun t e => t + e.delta * 256 ^ (e.slice / 2 + e.slice % 2)) 0

/-- The error of the sum that one byte-slice pass forms for it. -/
def sliceError (errs : List MillError) (e : MillError) : Int :=
  (errs.filter fun x => x.row == e.row && x.col == e.col && x.block == e.block && x.slice == e.slice).foldl (fun t x => t + x.delta) 0

/-- Whether a residue check of a pass fails: the sum of a block position, with its error, has not the residue of the separate path; for
16-bit operands each byte slice is checked (R196). A sum without error always has it (`blockResidue_eq`), so the sums with errors are looked at. -/
def passWrong (errs : List MillError) (a w : TileData) : Bool :=
  let z := zeroRow a.hdr.kp
  errs.any fun e =>
    let ab := ((chunk32 (a.hdr.kp + 1) (a.rows.getD e.row z)).getD e.block [])
    let wb := ((chunk32 (a.hdr.kp + 1) (w.rows.getD e.col z)).getD e.block [])
    let sa := sliceElems (millWidth a.fmt == some 16) (e.slice / 2) ab
    let sw := sliceElems (millWidth w.fmt == some 16) (e.slice % 2) wb
    res255 ((blockSum sa sw).1 + sliceError errs e) != blockResidue sa sw

/-- Adds one pass to a bank, with the hidden residues; counts OVF that arises (R27, R29-R31, R197). -/
def addPass (b : Bool) (errs : List MillError) (a w : TileData) (c : CoreId) (s : State) : State :=
  let z := zeroRow a.hdr.kp
  (List.range 64).foldl (fun s r =>
    let k := s.core c
    let ar := a.rows.getD r z
    let res := (((k.bankRow b r).zip (k.hiddenRow b r)).zip (List.range 64)).map fun p =>
      let o := outputSum ar (w.rows.getD p.2 z) (passError errs r p.2)
      (p.1.1.add o.1 o.2, p.1.1.addRes p.1.2 o.1 o.2)
    (s.setCore c (k.putBankRow b r (res.map fun x => x.1.1) (res.map Prod.snd))).countNum c
      ⟨0, (res.filter fun x => x.1.2).length⟩) s

/-- The tiles of pass i, checked, and the dense cycles of their widths (Table 06-9, R192). -/
def passTiles (e : EArgs) (i : Nat) : EM (TileData × TileData × Nat) := do
  echeck (e.d1.isLs && e.d2.isLs) cTileInvalid
  let a ← readTile (e.d1.access i)
  let wt ← readTile (e.d2.access i)
  let wa ← eget (millWidth a.fmt) cTileInvalid
  let ww ← eget (millWidth wt.fmt) cTileInvalid
  let mode ← eget (millMode wa ww) cTileInvalid
  echeck (a.hdr.form != 2 && a.hdr.kp == mode.1 && wt.hdr.kp == mode.1) cTileInvalid
  pure (a, wt, mode.2)

/-- Pass i of MPASS: both tiles are checked, then added (Table 06-9, R192, R196). -/
def onePass (e : EArgs) (i : Nat) : EM Unit := do
  let w ← get
  let t ← passTiles e i
  let errs := (w.s.core w.core).errors.mill.filter fun x => x.bank == e.bank
  emod fun s => s.modCore w.core fun k =>
    { k with errors := { k.errors with mill := k.errors.mill.filter fun x => x.bank != e.bank } }
  if passWrong errs t.1 t.2.1 then residueFault 0 e.bank else pure ()
  emod (addPass e.bank errs t.1 t.2.1 w.core)
  chargeMill (passCycles t.2.2 (e.mode == 1) t.1 t.2.1)

/-- MPASS (R192). With PASSES = 0 it meets no descriptor (DEDUCED, log 129). -/
def mpassWork (e : EArgs) : EM Unit := do
  let n := e.param.toNat / 2 ^ 48
  if n = 0 then pure ()
  else
    needDesc e.d1
    needDesc e.d2
    echeck (decide (n ≤ e.d1.count) && decide (n ≤ e.d2.count)) cLsRange
    let _ ← (List.range n).mapM (onePass e)
    pure ()

/-- MCLEAR (R193). -/
def mclearWork (e : EArgs) : EM Unit := do
  let w ← get
  emod fun s => s.modCore w.core fun k => k.clearBank e.bank
  chargeMill 4

/-! ## Drains (R32, R33, R193, R194) -/

/-- What a drain needs: T and m of its tiles, the result legend, D, BLOCK, the random key. -/
structure DrainEnv where
  T : Int
  m : Nat
  res : Legend
  d : Int
  block : Nat
  key : RandKey
deriving DecidableEq, Repr

/-- Rounded and residual words of an accumulator, with their counts (R32, R33). -/
def drainWord (e : DrainEnv) (split : Bool) (r c : Nat) (a : A48) : WordRes × WordRes :=
  let x : Option Q := if a.isOvf then none else some (Q.scale ⟨a.w, 1⟩ (a.e - 16 - e.d))
  let word := roundWordFor e.res.round e.key (4096 * e.block + 64 * r + c)
  let n := narrowOne .i32 e.res.sat e.res.round word x
  let main : WordRes := (wordOf n.1, n.2)
  if !split then (main, (0, NumCount.none))
  else match x, n.1 with
    | some v, some q =>
      let rr := checkRange .i32 e.res.sat ((v.sub ⟨q, 1⟩).scale 16).floor
      (main, (wordOf rr.1, rr.2))
    | _, _ => (main, (wordOf none, NumCount.none))

/-- The tiles of a drain in order, each quadrant's rounded tile before its residual, with counts (R194). -/
def drainTiles (e : DrainEnv) (split : Bool) (bank : Nat → List A48) (uid : Nat) : List Tile × NumCount :=
  let quads : List (Nat × Nat) := [(0, 0), (0, 32), (32, 0), (32, 32)]
  let parts := quads.map fun q =>
    let ws := (List.range 32).flatMap fun r =>
      (((bank (q.1 + r)).drop q.2).take 32).zip (List.range 32) |>.map fun p =>
        drainWord e split (q.1 + r) (q.2 + p.2) p.1
    let t1 : Tile := ⟨ws.map fun w => w.1.1, { e.res with fmt := .i32, T := e.T, m := e.m }, uid⟩
    let t2 : Tile := ⟨ws.map fun w => w.2.1, { e.res with fmt := .i32, T := e.T - 16, m := e.m }, uid⟩
    (if split then [t1, t2] else [t1], ws.foldl (fun n w => (n.add w.1.2).add w.2.2) NumCount.none)
  (parts.flatMap Prod.fst, parts.foldl (fun n p => n.add p.2) NumCount.none)

/-- MDRAIN and MDRAINS: the tiles are formed and wait for slots of the tile queue (R193, R194, R200). -/
def mdrainWork (split : Bool) (e : EArgs) : EM Unit := do
  let w ← get
  let p := e.param.toNat
  let la ← eget (w.s.legend (field p 63 52)) cLegendInvalid
  let lw ← eget (w.s.legend (field p 51 40)) cLegendInvalid
  let lr ← eget (w.s.legend (field p 39 28)) cLegendInvalid
  let pl := prodLegend la lw
  let d := signedOf 8 (field p 7 0)
  let T := pl.t + d
  echeck (decide (-128 ≤ T) && decide (T ≤ 127) && (!split || decide (-128 ≤ T - 16))) cLegendInvalid
  accCheck e.bank
  let env : DrainEnv := ⟨T, pl.m, lr, d, field p 27 8, w.s.randKey e.task lr.tensorId 0⟩
  let k := w.s.core w.core
  let r := drainTiles env split (k.bankRow e.bank) e.task.uid
  emod fun s => (s.modCore w.core fun k => { k with drained := r.1 }).countNum w.core r.2
  chargeMill (if split then 256 else 128)

/-- A drain's row: the work once, with the command still running until its tiles have entered the queue (R195, R200). -/
def drainRow (split : Bool) (c : CoreId) (s : State) : State :=
  match startedAs (s.core c) 1 .m (if split then 4 else 3) 0 with
  | none => s
  | some r =>
    if !(s.core c).drained.isEmpty then s
    else match (mdrainWork split r.args).run (EWork.start s c 1 r.args.task) with
      | .ok _ w => w.s
      | .error .wait _ => s
      | .error (.fault code) w => raiseCore code c r.args.task.taskId (w.s.modCore c fun k => k.markFailed 1)

/-- TILE_QUEUE_WRITE: the next drained tile enters a free slot; the drain is done with its last (R200). -/
def tileQueueWrite (c : CoreId) (s : State) : State :=
  let k := s.core c
  match k.drained with
  | [] => s
  | t :: rest =>
    if 8 ≤ k.tileQ.length then s
    else
      let k1 := { k with drained := rest, tileQ := k.tileQ ++ [t] }
      s.setCore c (if rest.isEmpty then k1.markDone 1 0 else k1)

/-! ## Raw stores (R34, R194) -/

/-- Bytes of a bank in memory. -/
def bankBytes : Nat := 36864

/-- MSTORE. -/
def mstoreWork (e : EArgs) : EM Unit := do
  needDesc e.d1
  echeck (e.d1.total == bankBytes) cLsRange
  accCheck e.bank
  let w ← get
  let k := w.s.core w.core
  descWriteAll e.d1 e.d1.accesses ((List.range 64).flatMap fun r => (k.bankRow e.bank r).flatMap A48.toBytes)
  chargeMill 288

/-- MLOAD. -/
def mloadWork (e : EArgs) : EM Unit := do
  needDesc e.d1
  echeck (e.d1.total == bankBytes) cLsRange
  let bytes ← descReadAll e.d1
  let w ← get
  emod fun s => s.modCore w.core fun k =>
    ((List.range 64).zip (rowsOf 64 64 (a48s 4096 bytes))).foldl (fun k p => k.setBankRow e.bank p.1 p.2) k
  chargeMill 288

end Sys2Proof.Machine
end

