-- ==== Sys2Proof/Machine/Gather.lean ====
section
/-! DEFINITION. The gather engine: CSR blocks, row tables, GATHER, GMERGE, GCOMPACT, SCATTER, SCATTER_ADD and FETCH
(spec/06, R166-R183, R516). -/

namespace Sys2Proof.Machine

/-! ## Parameter word (Table 06-2) -/

/-- Fields of the G parameter word. -/
structure GParam where
  ls : Nat
  legTab : Nat
  legLs : Nat
  thresh : Nat
  struct : Nat
  defRow : Bool
  strict : Bool
  kpSel : Nat
  rsvd : Nat
deriving DecidableEq, Repr

/-- Splits a parameter word. -/
def GParam.of (p : W64) : GParam :=
  let v := p.toNat
  ⟨64 * field v 63 49, field v 48 37, field v 36 25, field v 24 18, field v 17 16, bit v 15, bit v 14, field v 13 12,
   field v 11 0⟩

/-- KP of KPSEL. -/
def kpOf (sel : Nat) : Nat := if sel = 0 then 64 else if sel = 1 then 128 else 256

/-- The word's own checks: fields that must be zero and invalid values raise LIST_INVALID (R170, R186). -/
def GParam.check (p : GParam) (compact tiles : Bool) : EM Unit :=
  echeck (p.rsvd == 0 && p.kpSel != 3 && p.struct != 3 && (compact || (p.thresh == 0 && p.struct == 0)) &&
    (tiles || p.kpSel == 0) && !(decide (101 ≤ p.thresh) && decide (p.thresh ≤ 126))) cListInvalid

/-! ## CSR blocks (R167, R168) -/

/-- A valid CSR block; an index `none` is the invalid code (R166). -/
structure Csr where
  segs : Nat
  row0 : Nat
  hasW : Bool
  wleg : Nat
  offs : List Nat
  idx : List (Option Nat)
  wts : List Code
deriving DecidableEq, Repr

/-- `n` numbers of `w` bytes each. -/
def natsOf (w : Nat) : Nat → List Byte → List Nat
  | 0, _ => []
  | n + 1, b => natOfBytes (b.take w) :: natsOf w n (b.drop w)

/-- Whether a list of offsets does not decrease. -/
def nonDecreasing : List Nat → Bool
  | a :: b :: t => decide (a ≤ b) && nonDecreasing (b :: t)
  | _ => true

/-- Parses and checks a CSR block; `none` raises LIST_INVALID (R168). -/
def Csr.parse (b : List Byte) : Option Csr :=
  let n (off len : Nat) : Nat := natOfBytes ((b.drop off).take len)
  let segs := n 0 4
  let ent := n 4 4
  let ity := n 8 1
  let fl := n 9 1
  let wleg := n 10 2
  let unit := bit fl 0
  let hasW := bit fl 1
  let w := if ity = 0 then 2 else 4
  let offBytes := if unit then 0 else 4 * (segs + 1)
  let need := 32 + offBytes + (ent * w + 7) / 8 * 8 + (if hasW then 2 * ent else 0)
  if 32 ≤ b.length ∧ need ≤ b.length ∧ ity ≤ 1 ∧ fl < 4 ∧ n 12 4 = 0 ∧ n 24 8 = 0 ∧ (hasW = true ∨ wleg = 0) ∧
      (unit = true → segs = ent) then
    let offs := if unit then List.range (segs + 1) else natsOf 4 (segs + 1) (b.drop 32)
    if offs.headD 0 = 0 ∧ nonDecreasing offs = true ∧ offs.getLastD 0 = ent then
      let inv := if ity = 0 then 0xFFFF else 0xFFFFFFFF
      let ib := b.drop (32 + offBytes)
      some { segs := segs, row0 := n 16 8, hasW := hasW, wleg := wleg, offs := offs,
             idx := (natsOf w ent ib).map fun i => if i = inv then none else some i,
             wts := if hasW then (natsOf 2 ent (ib.drop ((ent * w + 7) / 8 * 8))).map Fmt.i16.decode else [] }
    else none
  else none

/-- Batch positions of segment `s`. -/
def Csr.entries (c : Csr) (s : Nat) : List Nat :=
  let lo := c.offs.getD s 0
  (List.range (c.offs.getD (s + 1) 0 - lo)).map fun i => lo + i

/-- Segment of a batch position. -/
def Csr.segOf (c : Csr) (p : Nat) : Nat := ((List.range c.segs).find? fun s => decide (p < c.offs.getD (s + 1) 0)).getD 0

/-! ## Elements of rows -/

/-- A row element as a source: a code with its block exponent, or an A48 word. -/
inductive SrcEl where
  | int (e : Elem)
  | acc (a : A48)
deriving DecidableEq, Repr

/-- Elements in a row of `bytes` bytes; `none` where it holds no whole number of elements or blocks (R169). -/
def Fmt.rowElems (f : Fmt) (bytes : Nat) : Option Nat :=
  if f = .a48 then if bytes % 9 = 0 then some (bytes / 9) else none
  else if f.blocked then if bytes % (1 + 4 * f.bits) = 0 then some (bytes / (1 + 4 * f.bits) * 32) else none
  else if bytes * 8 % f.bits = 0 then some (bytes * 8 / f.bits) else none

/-- Elements of a stored row. -/
def decodeSrc (f : Fmt) (n : Nat) (b : List Byte) : List SrcEl :=
  if f = .a48 then (a48s n b).map .acc else (f.decodeRow n b).map .int

/-- The value of an element under its legend; `none` is OVF (R22, R25). -/
def SrcEl.value (l : Legend) : SrcEl → Option Q
  | .int e => e.q.map fun q => l.value q e.b
  | .acc a => if a.isOvf then none else some (Q.scale ⟨a.w * l.m, 1⟩ (a.e - 16 + l.T - 15))

/-- A row as the module writes it: one exponent per block (`none`: an OVF block), codes with fillers, or A48 words. -/
structure OutRow where
  exps : List (Option Int)
  codes : List Code
  acc : List A48
deriving DecidableEq, Repr

/-- Stored bytes of a row (R19, R20, R34). -/
def OutRow.bytes (f : Fmt) (r : OutRow) : List Byte :=
  if f = .a48 then r.acc.flatMap A48.toBytes
  else if f.blocked then
    ((chunk32 (r.codes.length + 1) r.codes).zip r.exps).flatMap fun p => encodeBlock f p.2 p.1
  else encodeFlat f r.codes

/-- Pads codes of a blocked row to whole blocks. -/
def padBlocks (f : Fmt) (codes : List Code) : List Code :=
  if f.blocked then codes ++ List.replicate ((32 - codes.length % 32) % 32) (some 0) else codes

/-- A value as an A48 word of a legend: the spec gives no rounding into A48, so the word is a free value (DESIGN CHOICE, log
136). -/
def freeA48 (l : Legend) (v : Option Q) : A48 :=
  match v with
  | none => A48.ovf
  | some v => let x := v.toLegend l; A48.ofBytes (bytesOfNat 9 (Config.a48Value x.num x.den).toNat)

/-- Narrows values into a legend, element e of logical row ρ keyed by ρ·n + e (R37-R41, R516). -/
def narrowOut (l : Legend) (key : RandKey) (row : Nat) (vals : List (Option Q)) : OutRow × NumCount :=
  let n := vals.length
  if l.fmt = .a48 then (⟨[], [], vals.map (freeA48 l)⟩, NumCount.none) else
  let xs := (vals.zip (List.range n)).map fun v =>
    (v.1.map fun q => q.toLegend l, roundWordFor l.round key ((row * n + v.2) % 2 ^ 64))
  if l.fmt.blocked then
    let bs := (chunk32 (n + 1) xs).map fun c => narrowBlock l.fmt l.sat l.round c
    (⟨bs.map NarrowedBlock.b, padBlocks l.fmt (bs.flatMap fun b => match b.b with
        | some _ => b.codes
        | none => b.codes.map fun _ => some 0), []⟩,
     (bs.map fun b => b.count).foldl NumCount.add NumCount.none)
  else
    let rs := xs.map fun x => narrowOne l.fmt l.sat l.round x.2 x.1
    (⟨[], rs.map Prod.fst, []⟩, (rs.map Prod.snd).foldl NumCount.add NumCount.none)

/-- Codes moved unchanged between legends of one scale (R42). -/
def moveOut (f : Fmt) (n : Nat) (els : List SrcEl) (b : List Byte) : OutRow :=
  if f = .a48 then ⟨[], [], els.map fun e => match e with
    | .acc a => if a.isOvf then A48.ovf else a
    | .int _ => A48.zero⟩
  else if f.blocked then
    let exps := (List.range ((n + 31) / 32)).map fun k =>
      let x := (b.getD (k * (1 + 4 * f.bits)) 0).toNat
      if x = 0x80 then none else some (signedOf 8 x)
    let codes := els.map fun e => match e with
      | .int x => x.q
      | .acc _ => some 0
    ⟨exps, (padBlocks f codes).zip (List.range (n + 32)) |>.map fun p =>
        if (exps.getD (p.2 / 32) (some 0)).isNone then some 0 else p.1, []⟩
  else ⟨[], els.map fun e => match e with
    | .int x => x.q
    | .acc _ => some 0, []⟩

/-- An all-zero row: code 0 in every element, block exponent −127 (R20, R176). -/
def zeroOut (f : Fmt) (n : Nat) : OutRow :=
  if f = .a48 then ⟨[], [], List.replicate n A48.zero⟩
  else ⟨if f.blocked then List.replicate ((n + 31) / 32) (some (-127)) else [], padBlocks f (List.replicate n (some 0)), []⟩

/-! ## The work of one G command -/

/-- What every listed G command has at hand after its first checks. -/
structure GEnv where
  p : GParam
  tab : Legend
  ls : Legend
  str : Desc
  csr : Csr
  n : Nat
  rows : Nat
  valid : Nat
  key : RandKey
deriving DecidableEq, Repr

/-- Bytes of a row that the table's default row holds; `none` is the zero row (R169). -/
def GEnv.defaultRow (g : GEnv) : Option Nat := if g.p.defRow then some (g.rows - 1) else none

/-- The table row of an index: its number, or `none` where it misses (R178 and "Indices that miss"). -/
def GEnv.hit (g : GEnv) (i : Option Nat) : Option Nat := i.bind fun r => if r < g.valid then some r else none

/-- Counts misses; under STRICT any miss stops the command before it reads a row or writes a byte (R181). -/
def missCheck (strict : Bool) (misses : Nat) : EM Unit := do
  let w ← get
  if strict then echeck (misses == 0) cIndexRange
  else emod fun s => s.modCore w.core fun k => { k with regs := k.regs.noteRange misses }

/-- The checks and reads that precede the work of a command with an index list over a row table (R168-R172, R181). -/
def gPrepare (e : EArgs) (compact tiled : Bool) (a48Ok : Legend → Legend → Csr → EM Unit) : EM GEnv := do
  let w ← get
  let p := GParam.of e.param
  p.check compact (compact || tiled)
  needDesc e.d1
  needDesc e.d2
  let tab ← eget (w.s.legend p.legTab) cLegendInvalid
  let ls ← eget (w.s.legend p.legLs) cLegendInvalid
  if compact || tiled then echeck (tileFmt ls.fmt.code).isSome cLegendInvalid
  let n ← eget (tab.fmt.rowElems e.d2.size.toNat) cListInvalid
  let rows := e.d2.count
  echeck (!p.defRow || decide (0 < rows)) cListInvalid
  let csr ← (do
    let b ← descReadAll e.d1
    eget (Csr.parse b) cListInvalid)
  a48Ok tab ls csr
  let g : GEnv := ⟨p, tab, ls, e.d2, csr, n, rows, rows - bnat p.defRow, w.s.randKey e.task ls.tensorId 0⟩
  missCheck p.strict (csr.idx.filter fun i => (g.hit i).isNone).length
  pure g

/-- Charges GATHER units (R175). -/
def chargeGather (n : Nat) : EM Unit := do
  let w ← get
  emod fun s => s.modCore w.core fun k => { k with meters := { k.meters with gather := k.meters.gather - n } }

/-- Counts substituted rows (R258). -/
def noteSubst (n : Nat) : EM Unit :=
  if n = 0 then pure ()
  else emod fun s => { s with tier := { s.tier with regs := { s.tier.regs with
    subst := satAdd 32 s.tier.regs.subst n, nondet := true, lateStep := s.run.step } } }

/-- Reads table row `r`; with `sub`, `none` where its data is late (R169, R257). -/
def readTableRow (sub : Bool) (d : Desc) (r : Nat) : EM (Option (List Byte)) := do
  chargeGather 1
  if sub && !d.isLs then vaReadRow (d.access r) d.size.toNat
  else
    let b ← spaceRead d (d.access r) d.size.toNat
    pure (some b)

/-- Reads of a requester that are under way; a row that crosses a page counts twice. -/
def EWork.outstanding (w : EWork) : Nat := (w.s.tier.reads.filter fun x => x.who == w.who).length

/-- Reads one row, unless 96 row reads are outstanding and this would be another (R174): then it is read later. -/
def readWithin96 (rd : Nat → EM (Option (List Byte))) (r : Nat) : EM (Option (List Byte)) := do
  let w0 ← get
  let b ← rd r
  let w1 ← get
  if w0.outstanding < w1.outstanding && decide (96 < w1.outstanding) then
    set { w0 with missing := true }
    pure (some [])
  else pure b

/-- Reads each distinct row once (R174, R175): (row, bytes or late). -/
def readRows (rd : Nat → EM (Option (List Byte))) (rows : List Nat) : EM (List (Nat × Option (List Byte))) :=
  rows.eraseDups.mapM fun r => do
    let b ← readWithin96 rd r
    pure (r, b)

/-- The rows of all entries in batch-position order, misses and late rows replaced by the default row (R179, R257). A zero
default row of a blocked table has the exponent byte 0x00 in every block (DESIGN CHOICE, log 169). -/
def entryRowsBy (g : GEnv) (rd : Nat → EM (Option (List Byte))) (size : Nat) (idx : List (Option Nat)) :
    EM (List (List Byte)) := do
  let used := (idx.filterMap g.hit) ++ (if idx.any fun i => (g.hit i).isNone then g.defaultRow.toList else [])
  let got ← readRows rd used
  let late := got.any fun r => r.2.isNone
  let defs ← (match g.defaultRow with
    | some d => if late && !(got.any fun r => r.1 == d) then readRows rd [d] else pure []
    | none => pure [])
  awaitReads
  let zero := List.replicate size (0 : Byte)
  let look (r : Nat) : Option (List Byte) := ((got ++ defs).find? fun x => x.1 == r).bind Prod.snd
  let defBytes := match g.defaultRow with
    | some d => (look d).getD zero
    | none => zero
  noteSubst ((idx.filter fun i => match g.hit i with
    | some r => (look r).isNone
    | none => false).length)
  pure (idx.map fun i => match g.hit i with
    | some r => (look r).getD defBytes
    | none => defBytes)

/-- The same over the row table of the command's STR descriptor; `sub` for a command whose late rows are substituted (R257). -/
def entryRows (sub : Bool) (g : GEnv) (idx : List (Option Nat)) : EM (List (List Byte)) :=
  entryRowsBy g (readTableRow sub g.str) g.str.size.toNat idx

/-- One stored row converted into the local-store legend (R176, R42). -/
def convertRow (tab ls : Legend) (key : RandKey) (n row : Nat) (b : List Byte) : OutRow × NumCount :=
  let els := decodeSrc tab.fmt n b
  if tab.sameScale ls then (moveOut ls.fmt n els b, NumCount.none)
  else narrowOut ls key row (els.map (SrcEl.value tab))

/-- Writes rows to the local store row by row, each at a multiple of 16 bytes (R172, TILED = 0). -/
def writeFlat (f : Fmt) (at_ n : Nat) : Nat → List OutRow → EM Unit
  | _, [] => pure ()
  | i, r :: t => do
    lsWrite (at_ + i * up16 (f.rowBytes n)) (r.bytes f)
    writeFlat f at_ n (i + 1) t

/-- The slice of a row that tile `j` of KP elements holds, filled with code 0 (R172). -/
def OutRow.slice (f : Fmt) (kp j : Nat) (r : OutRow) : TileRow :=
  let c := (r.codes.drop (j * kp)).take kp
  let e := (r.exps.drop (j * kp / 32)).take (kp / 32)
  ⟨if f.blocked then e ++ List.replicate (kp / 32 - e.length) (some (-127)) else [],
   c ++ List.replicate (kp - c.length) (some 0)⟩

/-- Cuts a list into groups of 64. -/
def groups64 {α : Type} : Nat → List α → List (List α)
  | 0, _ => []
  | k + 1, l => if l.isEmpty then [] else l.take 64 :: groups64 k (l.drop 64)

/-- Tiles of rows in row-group order, then in order of K (R172): bytes of each tile and whether STRUCT_VIOLATION arose. -/
def tilesOf (f : Fmt) (kp n : Nat) (compact : Bool) (struct thresh : Nat) (rows : List OutRow) : List (List Byte × Bool) :=
  (groups64 (rows.length + 1) rows).flatMap fun grp =>
    (List.range ((n + kp - 1) / kp)).map fun j =>
      encodeTile f kp compact struct thresh (grp.map fun r => r.slice f kp j)

/-- Writes the rows of a command to its local-store side (R172, R186, R189). -/
def writeSide (g : GEnv) (tiled compact : Bool) (rows : List OutRow) : EM Unit := do
  let w ← get
  if tiled || compact then
    let ts := tilesOf g.ls.fmt (kpOf g.p.kpSel) g.n compact g.p.struct g.p.thresh rows
    lsWrite g.p.ls (ts.flatMap Prod.fst)
    emod fun s => s.modCore w.core fun k => { k with regs := k.regs.noteStruct (ts.filter Prod.snd).length }
  else writeFlat g.ls.fmt g.p.ls g.n 0 rows

/-- Adds counts to the command's core. -/
def noteNum (n : NumCount) : EM Unit := do
  let w ← get
  emod fun s => s.countNum w.core n

/-- The legends between which rows move: A48 only to A48 of one scale (R171, R176). -/
def legendsOk (tab ls : Legend) (_ : Csr) : EM Unit := echeck (ls.fmt != .a48 || tab.sameScale ls) cLegendInvalid

/-- GATHER (R171, R176). -/
def gatherWork (e : EArgs) : EM Unit := do
  let tiled := e.mode == 8
  let g ← gPrepare e false tiled legendsOk
  let rows ← entryRows true g g.csr.idx
  let out := (rows.zip (List.range rows.length)).map fun r => convertRow g.tab g.ls g.key g.n (g.csr.row0 + r.2) r.1
  noteNum (out.foldl (fun n r => n.add r.2) NumCount.none)
  writeSide g tiled false (out.map Prod.fst)

/-! ## Merging (R176) -/

/-- The leaf of one element in SUM or, with a weight, in WSUM; the flag says OVF arose. An A48 word's is the word itself in SUM, and W times
the weight at exponent E − 16 in WSUM (DEDUCED, log 48). -/
def mergeLeaf (x : SrcEl) (wt : Option Code) : A48 × Bool :=
  match wt with
  | some none => (A48.ovf, false)
  | _ =>
    let k : Int := match wt with
      | some (some v) => v
      | _ => 1
    match x with
    | .acc a => if a.isOvf then (A48.ovf, false) else if wt.isNone then (a, false) else A48.zero.add (some (a.w * k)) (a.e - 16)
    | .int e => A48.zero.add (e.q.map fun q => q * k) e.b

/-- Combines leaves in the tree of R35, carrying how many OVF arose (R28). -/
def combineAll (l : List (A48 × Bool)) : A48 × Nat :=
  let f (a b : A48 × Nat) : A48 × Nat := let r := a.1.combine b.1; (r.1, a.2 + b.2 + bnat r.2)
  (reduceTree f (l.map fun x => (x.1, bnat x.2))).getD (A48.zero, 0)

/-- The larger or smaller of two values; OVF where either is (Table 02-4). -/
def pickValue (isMax : Bool) (a b : Option Q) : Option Q :=
  match a, b with
  | some x, some y => if (x.num * y.den ≤ y.num * x.den) = isMax then some y else some x
  | _, _ => none

/-- The merged row of a segment from its entries' rows and weights (R176). -/
def mergeRow (g : GEnv) (op : Nat) (pl : ProdLegend) (row : Nat) (ents : List (List SrcEl × Option Code)) :
    OutRow × NumCount :=
  if ents.isEmpty then (zeroOut g.ls.fmt g.n, NumCount.none)
  else if op = 1 ∨ op = 2 then
    let vals := (List.range g.n).map fun i =>
      ((reduceTree (pickValue (op == 1)) (ents.map fun x => SrcEl.value g.tab (x.1.getD i (.int ⟨some 0, 0⟩)))).getD none)
    narrowOut g.ls g.key row vals
  else
    let roots := (List.range g.n).map fun i =>
      combineAll (ents.map fun x => mergeLeaf (x.1.getD i (.int ⟨some 0, 0⟩)) (if op = 3 then x.2 else none))
    let arisen := roots.foldl (fun n r => n + r.2) 0
    if g.ls.fmt = .a48 then (⟨[], [], roots.map Prod.fst⟩, ⟨0, arisen⟩)
    else
      let vals := roots.map fun r => if r.1.isOvf then none else some (Q.scale ⟨r.1.w * pl.m, 1⟩ (r.1.e - 16 + pl.t - 15))
      let o := narrowOut g.ls g.key row vals
      (o.1, o.2.add ⟨0, arisen⟩)

/-- The legend of a merge's leaves: the product legend with the weights' in WSUM, else the table's; `none` where the weights' is
none (R176). -/
def mergeLegend (s : State) (op : Nat) (tab : Legend) (csr : Csr) : Option ProdLegend :=
  if op = 3 then (s.legend csr.wleg).map (prodLegend tab) else some ⟨tab.T, tab.m⟩

/-- The legends and weights of a merge: WSUM has weights; into A48 only a sum of the same T and m (R171, R176). -/
def mergeOk (op : Nat) (tab ls : Legend) (csr : Csr) : EM Unit := do
  let w ← get
  echeck (op != 3 || csr.hasW) cListInvalid
  let pl ← eget (mergeLegend w.s op tab csr) cLegendInvalid
  echeck (ls.fmt != .a48 || (op != 1 && op != 2 && pl.t == ls.T && pl.m == ls.m)) cLegendInvalid

/-- GMERGE and GCOMPACT (R171, R176, R186). -/
def mergeWork (compact : Bool) (e : EArgs) : EM Unit := do
  let tiled := !compact && e.mode.getLsbD 3
  let op := e.mode.toNat % 4
  let w ← get
  let g ← gPrepare e compact tiled (mergeOk op)
  let pl := (mergeLegend w.s op g.tab g.csr).getD ⟨g.tab.T, g.tab.m⟩
  let rows ← entryRows true g g.csr.idx
  let els := rows.map (decodeSrc g.tab.fmt g.n)
  let out := (List.range g.csr.segs).map fun s =>
    mergeRow g op pl (g.csr.row0 + s) ((g.csr.entries s).map fun p =>
      (els.getD p [], if op = 3 then some (g.csr.wts.getD p none) else none))
  noteNum (out.foldl (fun n r => n.add r.2) NumCount.none)
  writeSide g tiled compact (out.map Prod.fst)

/-! ## Scatters (R177, R178) -/

/-- Reads segment rows of the local-store side, flat or from tiles (R172). -/
def readSide (g : GEnv) (tiled : Bool) : EM (List (List SrcEl × List Byte)) := do
  let f := g.ls.fmt
  if !tiled then
    (List.range g.csr.segs).mapM fun i => do
      let b ← lsRead (g.p.ls + i * up16 (f.rowBytes g.n)) (f.rowBytes g.n)
      pure (decodeSrc f g.n b, b)
  else
    let kp := kpOf g.p.kpSel
    let nt := (g.n + kp - 1) / kp
    let ngrp := (g.csr.segs + 63) / 64
    let r ← ((List.range ngrp).foldlM (fun (st : Nat × List (List SrcEl × List Byte)) grp => do
      let rows := min 64 (g.csr.segs - 64 * grp)
      let ts ← ((List.range nt).foldlM (fun (st : Nat × List TileData) _ => do
        let t ← readTile st.1
        echeck (t.hdr.fmt == f.code && t.hdr.kp == kp && t.hdr.rows == rows && t.hdr.form != 2) cTileInvalid
        pure (st.1 + t.hdr.bytes, st.2 ++ [t])) (st.1, []))
      pure (ts.1, st.2 ++ (List.range rows).map fun i =>
        (((ts.2.flatMap fun t => t.rows.getD i []).take g.n).map SrcEl.int, []))) (g.p.ls, []))
    pure r.2

/-- Codes of a tiled source moved unchanged, block by block: an OVF block stays one, every other block keeps its exponent and its
codes (R42). -/
def moveTiled (f : Fmt) (n : Nat) (els : List SrcEl) : OutRow :=
  let blocks := (List.range ((n + 31) / 32)).map fun k => (els.drop (32 * k)).take 32
  let exp (b : List SrcEl) : Option Int := match b.head? with
    | some (.int x) => if x.b = ovfBlock then none else some x.b
    | _ => some 0
  let code (e : SrcEl) : Code := match e with
    | .int x => if x.b = ovfBlock then some 0 else x.q
    | .acc _ => some 0
  ⟨if f.blocked then blocks.map exp else [], padBlocks f (els.map code), []⟩

/-- A source row written under the table legend: codes moved, or narrowed with keys of the segment's row (R42, R176); into A48 of
the same T and m an integer widens exactly, as a leaf does (R42, R27). `b` holds the row's bytes where it is not tiled. -/
def scatterRow (g : GEnv) (row : Nat) (els : List SrcEl) (b : List Byte) : OutRow × NumCount :=
  if g.tab.sameScale g.ls then
    (if b.isEmpty then moveTiled g.tab.fmt g.n els else moveOut g.tab.fmt g.n els b, NumCount.none)
  else if g.tab.fmt = .a48 ∧ g.tab.T = g.ls.T ∧ g.tab.m = g.ls.m then
    (⟨[], [], els.map fun e => (mergeLeaf e none).1⟩, NumCount.none)
  else narrowOut g.tab { g.key with tensor := g.tab.tensorId } row (els.map (SrcEl.value g.ls))

/-- Targets that entries hit, in order of first use, each with its batch positions in order (R177, R178). -/
def targets (g : GEnv) : List (Nat × List Nat) :=
  let hits := (g.csr.idx.zip (List.range g.csr.idx.length)).filterMap fun p => (g.hit p.1).map fun r => (r, p.2)
  (hits.map Prod.fst).eraseDups.map fun r => (r, (hits.filter fun h => h.1 == r).map Prod.snd)

/-- Writes a target row (R175). -/
def writeTableRow (d : Desc) (r : Nat) (b : List Byte) : EM Unit := do
  chargeGather 1
  spaceWrite d (d.access r) b

/-- SCATTER: the highest batch position stands (R177). -/
def scatterWork (e : EArgs) : EM Unit := do
  let tiled := e.mode == 8
  let g ← gPrepare e false tiled legendsOk
  let src ← readSide g tiled
  let _ ← (targets g).mapM fun t => do
    let s := g.csr.segOf (t.2.getLastD 0)
    let x := src.getD s ([], [])
    let o := scatterRow g (g.csr.row0 + s) x.1 x.2
    noteNum o.2
    writeTableRow g.str t.1 (o.1.bytes g.tab.fmt)
  pure ()

/-- Adds two elements of one legend: exact integer sum, or R28 for A48; the count is of OVF that arose (R178). -/
def addEls (f : Fmt) (a b : SrcEl × Nat) : SrcEl × Nat :=
  match a.1, b.1 with
  | .acc x, .acc y => let r := x.combine y; (.acc r.1, a.2 + b.2 + bnat r.2)
  | .int x, .int y => match x.q, y.q with
    | some p, some q => let r := fitOrOvf f (p + q); (.int ⟨r.1, 0⟩, a.2 + b.2 + r.2.ovf)
    | _, _ => (.int ⟨none, 0⟩, a.2 + b.2)
  | _, _ => (a.1, a.2 + b.2)

/-- Codes or words of elements as an output row. -/
def elsOut (els : List SrcEl) : OutRow :=
  ⟨[], els.map fun e => match e with
    | .int x => x.q
    | .acc _ => some 0,
   els.map fun e => match e with
    | .acc a => a
    | .int _ => A48.zero⟩

/-- The legends of SCATTER_ADD: one scale, an integer format or A48 (R178). -/
def addLegendsOk (tab ls : Legend) (_ : Csr) : EM Unit :=
  echeck (tab.sameScale ls && (tab.fmt == .i8 || tab.fmt == .i16 || tab.fmt == .i32 || tab.fmt == .a48)) cLegendInvalid

/-- The sums of a target row: its old elements and those of its entries' segments, in the tree of R35 (R178). -/
def addedRow (g : GEnv) (src : List (List SrcEl × List Byte)) (ps : List Nat) (old : List Byte) : List (SrcEl × Nat) :=
  let els := decodeSrc g.tab.fmt g.n old
  (List.range g.n).map fun i =>
    let leaves := ps.map fun p => ((src.getD (g.csr.segOf p) ([], [])).1.getD i (.int ⟨some 0, 0⟩), 0)
    let merged := (reduceTree (addEls g.tab.fmt) leaves).getD (.int ⟨some 0, 0⟩, 0)
    addEls g.tab.fmt (els.getD i (.int ⟨some 0, 0⟩), 0) merged

/-- SCATTER_ADD (R178). -/
def scatterAddWork (e : EArgs) : EM Unit := do
  let tiled := e.mode == 8
  let g ← gPrepare e false tiled addLegendsOk
  let src ← readSide g tiled
  let ts := targets g
  let olds ← ts.mapM fun t => do
    chargeGather 1
    readWithin96 (fun r => do
      let b ← spaceRead g.str (g.str.access r) g.str.size.toNat
      pure (some b)) t.1
  awaitReads
  let _ ← (ts.zip olds).mapM fun t => do
    let res := addedRow g src t.1.2 (t.2.getD [])
    noteNum ⟨0, res.foldl (fun n r => n + r.2) 0⟩
    writeTableRow g.str t.1.1 ((elsOut (res.map Prod.fst)).bytes g.tab.fmt)
  pure ()

/-- FETCH: the accesses of STR to consecutive local-store bytes at LS (R171, R175). It names no legend, element or default row, and checks
none (R169, R170; DESIGN CHOICE, log 169). -/
def fetchWork (e : EArgs) : EM Unit := do
  let p := GParam.of e.param
  echeck (p.rsvd == 0 && p.kpSel == 0 && p.thresh == 0 && p.struct == 0) cListInvalid
  needDesc e.d2
  let bs ← e.d2.accesses.mapM fun a => do
    chargeGather 1
    spaceRead e.d2 a e.d2.size.toNat
  awaitReads
  lsWrite p.ls bs.flatten

end Sys2Proof.Machine
end

