-- ==== Sys2Proof/Machine/SmithyBase.lean ====
section
/-! DEFINITION. Covered and staging pages, staged deltas, parity groups and stripes, and the commit record (spec/09
R298-R302, R517; spec/11 R351, R360-R363). -/

namespace Sys2Proof.Machine

/-! ## Words -/

/-- Adds byte strings as 64-bit words, modulo 2^64 per word; the fuel bounds the number of words (R299, R360). -/
def zipWords (f : Nat → Nat → Nat) : Nat → List Byte → List Byte → List Byte
  | 0, _, _ => []
  | k + 1, a, b =>
    bytesOfNat 8 (f (natOfBytes (a.take 8)) (natOfBytes (b.take 8))) ++ zipWords f k (a.drop 8) (b.drop 8)

/-- Word-wise sum. -/
def addWords (a b : List Byte) : List Byte := zipWords (fun x y => x + y) ((a.length + 7) / 8) a b
/-- Word-wise difference. -/
def subWords (a b : List Byte) : List Byte := zipWords (fun x y => x + 2 ^ 64 - y) ((a.length + 7) / 8) a b

/-! ## Parity groups (R298, R299) -/

/-- Gg: members of the module's own group (R298). -/
def State.groupSize (s : State) : Nat :=
  match s.fab.parity with
  | some c => min c.g (s.position.shapeX - s.position.x / c.g * c.g)
  | none => 0

/-- Member index: COORD_X mod G (R298). -/
def State.memberIdx (s : State) : Nat :=
  match s.fab.parity with
  | some c => s.position.x % c.g
  | none => 0

/-- Module number of the member of an index. -/
def State.memberMod (s : State) (i : Nat) : Nat :=
  match s.fab.parity with
  | some c => s.position.number (s.position.x / c.g * c.g + i) s.position.y s.position.z
  | none => s.modNo

/-- Module numbers of the group. -/
def State.group (s : State) : List Nat := (List.range s.groupSize).map s.memberMod

/-- Whether commits run Phase B: a group that is not degraded (R301, R303, R478). -/
def State.parityRuns (s : State) : Bool := s.fab.parity.isSome && decide (2 ≤ s.groupSize) && !s.fab.degraded

/-- Stripe of protected page `k` of member `m` in a group of `g` (R299). -/
def stripeOf (g m k : Nat) : Nat :=
  let r := k % (g - 1)
  g * (k / (g - 1)) + (if r < m then r else r + 1)

/-- The protected page of member `m` that lies in stripe `st`, where one does (R299). -/
def pageOfStripe (g m st : Nat) : Option Nat :=
  let j := st % g
  if j = m then none else some ((g - 1) * (st / g) + (if j < m then j else j - 1))

/-- Address of the page of stripe `st` in a parity buffer. -/
def ParityCfg.stripeVa (c : ParityCfg) (g buf st : Nat) : Nat :=
  (if buf = 0 then c.buf0 else c.buf1) + st / g * pageBytes

/-- Stripes that this module holds. -/
def State.heldStripes (s : State) : List Nat :=
  match s.fab.parity with
  | some c => (List.range ((c.dmax + s.groupSize - 2) / (s.groupSize - 1))).map fun i => i * s.groupSize + s.memberIdx
  | none => []

/-! ## The covered range (R351, R478) -/

/-- Covered base VPN and pages: the protected range of a parity group, else SMITHY_CONFIG's (R351). -/
def State.coverBase (s : State) : Nat × Nat :=
  match s.fab.parity, s.smithy.cfg with
  | some c, _ => (c.base / pageBytes, c.pages)
  | none, some m => (m.cov / pageBytes, m.covPages)
  | none, none => (0, 0)

/-- Place of a covered page in ascending VPN, adopted pages of a lost member counted (R351, R478). -/
def State.coverIndex (s : State) (vpn : Nat) : Option Nat :=
  let b := s.coverBase
  let inBase := decide (b.1 ≤ vpn) && decide (vpn < b.1 + b.2)
  if inBase || s.fab.adopted.contains vpn then
    some (min (vpn - b.1) b.2 + (s.fab.adopted.filter fun a => decide (a < vpn)).length)
  else none

/-- Address of the staging page of a covered page; `none` where there is none. -/
def State.stagePage (s : State) (vpn : Nat) : Option Nat :=
  match s.coverIndex vpn, s.smithy.cfg with
  | some k, some m => if k < m.stagePages then some (m.stage + k * pageBytes) else none
  | _, _ => none

/-- Writes 64-bit deltas of words of a covered page into its staging page and marks the page touched; the first touch of
the step finds every other word zero (R360). -/
def State.stageDelta (s : State) (va : Nat) (delta : List Byte) : State :=
  let vpn := va / pageBytes
  match s.stagePage vpn with
  | none => s
  | some p =>
    let s1 := if s.smithy.touched.contains vpn then s
      else
        let s2 := match mapFind s.tier.xlate (p / pageBytes) with
          | some e => s.zeroFrame e.frame
          | none => s
        { s2 with smithy := { s2.smithy with touched := s2.smithy.touched ++ [vpn] } }
    s1.pokeLocal (p + va % pageBytes) delta

/-- Address of a covered word's delta in its staging page. -/
def State.stageAddr (s : State) (va : Nat) : Option Nat := (s.stagePage (va / pageBytes)).map fun p => p + va % pageBytes

/-- Staged delta bytes of a covered address; zero for an untouched page. -/
def State.stagedDelta (s : State) (va n : Nat) : List Byte :=
  let vpn := va / pageBytes
  match s.stagePage vpn with
  | some p => if s.smithy.touched.contains vpn then s.peekLocal (p + va % pageBytes) n else List.replicate n 0
  | none => List.replicate n 0

/-- Adds (or subtracts) the staged delta of a covered page in place (R301 Phase D, R470). -/
def State.applyDelta (s : State) (add : Bool) (vpn : Nat) : State :=
  match s.stagePage vpn with
  | none => s
  | some p =>
    let d := s.peekLocal p pageBytes
    let a := vpn * pageBytes
    let v := s.peekLocal a pageBytes
    (s.writeSum (.own (2 ^ 52)) [p, a] a (if add then addWords v d else subWords v d)).2

/-! ## The commit (R301, R302, R517) -/

/-- Whether a commit is in progress on this module (R517). -/
def State.commitBusy (s : State) : Bool :=
  decide (3 ≤ s.smithy.phase) ||
  (s.run.inStep && (decide (0 < s.smithy.requests) || decide (0 < s.smithy.phase) ||
    (!s.run.interlude && s.run.active.kind s.curSect == 5)))

/-- BUF of the record: the buffer that becomes current (R302). -/
def State.nextBuf (s : State) : Nat := if s.parityRuns then 1 - s.fab.buf else s.fab.buf

/-- The 64 bytes of a commit record (R302). -/
def CommitRec.image (r : CommitRec) : List Byte :=
  let body := bytesOfNat 8 r.step ++ bytesOfNat 6 r.frame ++ bytesOfNat 1 r.buf ++ bytesOfNat 1 r.g ++ bytesOfNat 8 r.almanac ++
    List.replicate 36 0
  body ++ bytesOfNat 4 (crc32c body)

/-- The record that 64 bytes hold, if their CRC does (R302). -/
def CommitRec.of (b : List Byte) : Option CommitRec :=
  if blkNat b 60 4 = crc32c (b.take 60) then some ⟨blkNat b 0 8, blkNat b 8 6, blkNat b 14 1, blkNat b 15 1, blkNat b 16 8⟩ else none

/-- Where a slot of the commit record stands: the first bytes of the system reserve of stack 0 (DESIGN CHOICE, log 146). -/
def recordByte (slot : Nat) : Nat := frameByte jobFrames (64 * slot)

/-- The commit record in a slot (R302). -/
def State.recordIn (s : State) (slot : Nat) : Option CommitRec := CommitRec.of (s.tier.hbm.readBytes (recordByte slot) 64)

/-- Writes 64 bytes into a slot. -/
def State.putRecord (s : State) (slot : Nat) (b : List Byte) : State :=
  (s.chargeHbm 0 64).modTier fun t => { t with hbm := t.hbm.writeBytes (recordByte slot) b }

/-- The last committed step: the higher STEP of the slots whose CRC holds (R302). -/
def State.lastRecord (s : State) : Option CommitRec := match s.recordIn 0, s.recordIn 1 with
  | some a, some b => if a.step < b.step then some b else some a
  | some a, none => some a
  | none, b => b

/-- The commit record is written: slot step mod 2, FAB_COMMIT, the step boundary; TIER_STAGE.PHASE is 3 (R302, R301, R10). -/
def State.writeRecord (s : State) : State :=
  let n := s.run.step
  let s1 := s.putRecord (n % 2) (CommitRec.image ⟨n, s.bel.frame, s.nextBuf, s.groupSize, s.run.active.ident⟩)
  ({ s1 with fab := { s1.fab with lastStep := n, lastFrame := s1.bel.frame, phase := .c },
             smithy := { s1.smithy with phase := 3, undo := [] } }).boundary

/-- A pending PARITY_CONFIG takes effect: the group builds parity anew. A member that is not live
leaves the group degraded, and no parity is built; a degraded group stays so until the build completes (R298, R300, R478). -/
def State.takeParity (s : State) : State :=
  match s.fab.parityPending with
  | some (b, c) =>
    if s.run.anyCommit && decide (b ≤ s.run.committed) then
      let s1 : State := { s with fab := { s.fab with parity := some c, parityPending := none, valid := false, built := false,
                                                      adopted := [] } }
      let down := s1.group.any fun m => !s1.isLive m
      { s1 with fab := { s1.fab with degraded := s.fab.degraded || down, building := !down } }
    else s
  | none => s

/-- Whether the meters of the stacks that a page's Phase D reaches are above zero (R364). -/
def State.applyOpen (s : State) (vpn : Nat) : Bool :=
  s.metersOpen true false (vpn * pageBytes, 1) && (match s.stagePage vpn with
    | some p => s.metersOpen false false (p, 1)
    | none => true)

/-- Phase D of one touched page: its delta is added in place and its mark goes; it stays known for an undo (R301, R362, R470). -/
def State.applyPage (s : State) (vpn : Nat) : State :=
  let s1 := s.applyDelta true vpn
  { s1 with smithy := { s1.smithy with touched := s1.smithy.touched.erase vpn, undo := s1.smithy.undo ++ [vpn] } }

/-- End of Phase D: the alternate buffer becomes current and the next step may begin (R301, R362). -/
def State.endPhaseD (s : State) : State :=
  let b := if s.parityRuns then 1 - s.fab.buf else s.fab.buf
  ({ s with fab := { s.fab with buf := b, phase := .done, deltas := [] },
            smithy := { s.smithy with phase := 0, requests := 0 } }).takeParity

/-- Phase D as far as it can go: the holders of lent pages are told, and every page that none holds and whose meters are open is done
(R252, R362, R364); TIER_STAGE.PHASE is 4 while pages are left (R365). `all` waits for neither, for a stopped module that finishes its commit (R303). -/
def State.phaseD (all : Bool) (s : State) : State :=
  let t := s.smithy.touched
  let s1 := t.foldl (fun s v => if all || (s.recalled [v] && s.applyOpen v) then s.applyPage v else s) (s.recall t)
  if s1.smithy.touched.isEmpty then s1.endPhaseD else { s1 with smithy := { s1.smithy with phase := 4 } }

/-! ## When a commit may begin (R10, R298) -/

/-- Whether the step's REDUCE sections have completed here: none is running or to come, and no core owes work of one (R10). -/
def State.reduceDone (s : State) : Bool :=
  let a := s.run.active
  !((List.range a.stepLen).any fun i => a.kind (a.listAt false i) == 4 &&
    (decide (s.run.pos < i) || (i == s.run.pos && s.run.frameLive))) &&
  !(s.run.openFrames.any fun f => a.kind f.sect == 4 && s.frameOwed f.first)

/-- What this module tells the members of its group: G, DMAX, base and D (R298, R474). -/
def ParityCfg.told (c : ParityCfg) : Nat × Nat × Nat × Nat := (c.g, c.dmax, c.base, c.pages)

/-- Whether a member has come as far as this step's commit (R10). -/
def State.memberReady (s : State) (m : Nat) : Bool := match mapFind s.fab.ready m with
  | some n => decide (s.run.step ≤ n)
  | none => false

/-- Whether what a member has told agrees with this module's G and DMAX (R298). -/
def State.memberAgrees (s : State) (c : ParityCfg) (m : Nat) : Bool := match mapFind s.fab.memberCfg m with
  | some x => x.1 == c.g && x.2.1 == c.dmax
  | none => false

/-- Whether the step's commit may begin here: its reduce section has completed on every live member of the group, and under parity
the members' G and DMAX agree (R10, R298; DEDUCED, log 76). After the boundary nothing holds a commit's commands back. -/
def State.commitOpen (s : State) : Bool :=
  !s.run.inStep || s.run.interlude || (s.reduceDone && match s.fab.parity with
    | none => true
    | some c => s.group.all fun m => !s.isLive m || (s.memberReady m && (s.fab.degraded || s.memberAgrees c m)))

/-- Once the step's reduce section has completed here, the module tells the other members so, with its G, DMAX, base and D; a member
that is as far and does not agree raises PARITY_MISMATCH (R10, R298, R474; DEDUCED, log 76). -/
def State.tellReady (s : State) : State :=
  match s.fab.parity with
  | none => s
  | some c =>
    let me := s.modNo
    if !s.run.inStep || s.run.interlude || s.rec0.stopping || mapFind s.fab.ready me == some s.run.step || !s.reduceDone then s
    else
      let s1 : State := { s with fab := { s.fab with ready := mapPut s.fab.ready me s.run.step,
                                                     memberCfg := mapPut s.fab.memberCfg me c.told } }
      let others := s1.group.filter fun m => m != me
      let s2 := others.foldl (fun s m => s.send (.groupCfg m s.run.step c.g c.dmax c.base c.pages)) s1
      if !s2.fab.degraded && others.any fun m => s2.memberReady m && !s2.memberAgrees c m then raise cParityMismatch 0 0 0 s2 else s2

/-- Whether a command is one of a commit: smithy staging, parity reduction or APPLY (R352, R361, R362). -/
def EngCmd.commits (c : EngCmd) : Bool := c.slot == .x && c.op == 2 && (c.tgt == 3 || c.tgt == 4 || c.tgt == 7)

/-- A command of a commit has started. The first staging request is a start point of the commit (R517); one that starts after the
parity reduction or an APPLY raises SMITHY_ORDER (R361, R362). The first parity reduction of a group's member ends Phase A, and
an APPLY after the first retires at once (R361, R362). -/
def State.commitStarted (s : State) (c : CoreId) (q : Nat) (cmd : EngCmd) (a : EArgs) : State :=
  let m := s.smithy
  if cmd.tgt = 3 then
    if m.applyStarted || m.parityStarted then faultStarted c q cSmithyOrder s
    else { s with smithy := { m with phase := max m.phase 1 } }
  else if cmd.tgt = 7 then { s with smithy := { m with parityStarted := m.parityStarted || s.fab.parity.isSome } }
  else
    let base : StReg := match cmd.task.detour with
      | some d => d.stBase
      | none => 0
    if cmd.d1 ≠ base ∨ cmd.d2 ≠ base ∨ a.param ≠ 0 then s
    else if m.applyStarted then s.modCore c fun k => k.markDone q 0
    else { s with smithy := { m with applyStarted := true } }

/-! ## Granary slots (R342-R344) -/

/-- A slot entry of the active almanac (Table 11-2). -/
structure SlotEntry where
  mode : Nat
  spill : Bool
  recompute : Bool
  tiles : Bool
  thresh : Nat
  struct : Nat
  maxBytes : Nat
  reserve : Nat
  home : Nat
deriving DecidableEq, Repr

/-- The entry of a declared slot. -/
def AlmSlot.slotEntry (a : AlmSlot) (slot : Nat) : Option SlotEntry :=
  (a.allSlots.find? fun p => p.1 == slot).map fun p =>
    let o := p.2
    let fb := a.nat (o + 4) 1
    { mode := a.nat (o + 2) 1, spill := bit fb 0, recompute := bit fb 1, tiles := a.nat (o + 5) 1 == 1,
      thresh := a.nat (o + 6) 1, struct := a.nat (o + 7) 1, maxBytes := a.nat (o + 8) 4, reserve := a.nat (o + 12) 4,
      home := a.nat (o + 16) 8 }

/-- Sets a granary slot. -/
def State.setSlot (s : State) (slot : Nat) (x : GSlot) : State :=
  { s with granary := { s.granary with slots := mapPut s.granary.slots slot x } }

/-- A core and queue as one number: who is filling a PENDING slot. -/
def ownerOf (c : CoreId) (q : Nat) : Nat := c.toNat * 16 + q

/-- A STASH has started: a declared slot that is EMPTY is PENDING, for this request to fill (R344). -/
def State.stashStarted (s : State) (c : CoreId) (q : Nat) (a : EArgs) : State :=
  let slot := field a.param.toNat 63 48
  match s.run.active.slotEntry slot, mapFind s.granary.slots slot with
  | some _, none => s.setSlot slot ⟨.pending, ownerOf c q, 0⟩
  | _, _ => s

/-- ENGINE_COMMAND_START of any command: one of a commit waits until the commit may begin; a STASH takes its slot (R10, R106, R344). -/
def commandStart (c : CoreId) (q : Nat) (s : State) : State :=
  match ((s.core c).queue q).waiting, ((s.core c).queue q).run with
  | .eng cmd :: _, none =>
    if cmd.commits then
      let s1 := s.tellReady
      if !s1.commitOpen then s1
      else
        let s2 := engineStart c q s1
        match ((s2.core c).queue q).run with
        | some r => s2.commitStarted c q cmd r.args
        | none => s2
    else
      let s2 := engineStart c q s
      match ((s2.core c).queue q).run with
      | some r => if cmd.slot = .x ∧ cmd.op = 2 ∧ cmd.tgt = 5 then s2.stashStarted c q r.args else s2
      | none => s2
  | _, _ => s

/-- Members whose B_DONE has come are all of the group (R301). -/
def State.allDone (s : State) : Bool := s.group.all fun m => s.fab.bDone.contains m

/-- Who sends the deltas of an automatic apply. -/
def autoDelta : Requester := .own (2 ^ 52 + 1)

/-- Whether delta pages of this module are not acknowledged: those that a request of the parity-reduction queue of some core sent, or an
automatic apply. -/
def State.deltasOut (s : State) : Bool :=
  s.tier.writesOut.any (fun w => w.who == autoDelta) || s.cores.any fun c => c.2.queues.any fun q => match q.2.run with
    | some r => r.cmd.slot == .x && r.cmd.tgt == 7 && r.acks != 0
    | none => false

/-- End of Phase B on this module: its own delta pages are acknowledged; it sends B_DONE to every member, itself included
(R301; DEDUCED, log 40). -/
def State.tryBDone (s : State) : State :=
  if s.smithy.phase = 2 ∧ s.fab.bSent = false ∧ s.parityRuns = true ∧ s.deltasOut = false then
    let others := s.group.filter fun m => m != s.modNo
    let s1 : State := { s with fab := { s.fab with bSent := true, bDone := (s.fab.bDone ++ [s.modNo]).eraseDups, phase := .b } }
    others.foldl (fun s m => s.send (.bDone m s.run.step)) s1
  else s

end Sys2Proof.Machine
end

