-- ==== Sys2Proof/Machine/TierMsg.lean ====
section
/-! DEFINITION. The rows of the memory tiers: reads, writes, directory traffic, moves, staged copies, heat epochs, quota
excess, ECC and host reads (spec/08). The payloads are the model's (DESIGN CHOICE, log 6). -/

namespace Sys2Proof.Machine

/-! ## ECC (R260, R261) -/

/-- Total HBM bytes of the module. -/
def hbmBytes : Nat := 8 * framesPerStack * pageBytes

/-- Frames in 24 hours (R262): 86,400 s of 16,384 cycles at 1.7 GHz. -/
def dayFrames : Nat := 8964843750

/-- The corrections of a frame that fall in the last 24 hours (R262). -/
def State.corrOf (s : State) (frame : Nat) : List Nat :=
  (mapGet [] s.tier.corr frame).filter fun f => decide (s.bel.frame < f + dayFrames)

/-- The ECC outcome of a word that has been read: 0 no error; 1 corrected, delivered corrected and written back; 2 uncorrectable, and
the word is poisoned (R260, R261). -/
def State.eccOutcome (s : State) (word : Nat) (outcome : BitVec 2) : State :=
  let frame := word / 2048
  let stack := frame / framesPerStack
  let e := mapGet ⟨0, 0, 0⟩ s.tier.ecc stack
  if outcome = 1 then
    s.modTier fun t => { t with ecc := mapPut t.ecc stack { e with ce := satAdd 32 e.ce 1 },
                                corr := mapPut t.corr frame (s.corrOf frame ++ [s.bel.frame]) }
  else if outcome = 2 ∧ s.tier.poison.contains word = false then
    s.modTier fun t => { t with poison := t.poison ++ [word] }
  else s

/-- HBM_READ_COMPLETE: a word of local HBM has been read. A requested poisoned word raises MEM_UE at the command. A read of the scrub
takes of the MAINT budget of the stack's tier agent and faults nothing (R260, R261, R262). -/
def hbmReadComplete (word : Nat) (outcome : BitVec 2) (req : Option (CoreId × Nat)) (scrub : Bool) (s : State) :
    Host.Outcome State Fault Refusal :=
  if hbmBytes ≤ 32 * word then .fault (.noSuchHbm (32 * word))
  else
    let stack := word / 2048 / framesPerStack
    if scrub then
      .next (if s.maintOpen stack then ((s.eccOutcome word outcome).chargeHbm stack 32).chargeMaint stack (Config.copyCycles 32) else s)
    else
      let s1 := s.eccOutcome word outcome
      .next (match req with
        | some (c, q) =>
          if s1.tier.poison.contains word && (((s.core c).queue q).run.any fun r => !r.done) then
            let e1 := mapGet ⟨0, 0, 0⟩ s1.tier.ecc stack
            let s2 := s1.modTier fun t => { t with ecc := mapPut t.ecc stack { e1 with ue := satAdd 16 e1.ue 1 } }
            faultStarted c q cMemUe { s2 with rec0 := { s2.rec0 with ueNow := s2.rec0.ueNow ++ [word] } }
          else s1
        | none => s1)

/-! ## Reads (R241, R242, R247, R250, R251, R257) -/

/-- Where a module stands to a page that an access from another module names. -/
inductive Standing where
  | home (e : XEntry)
  | signpost (to_ : Nat)
  | stranger
deriving DecidableEq, Repr

/-- Whether this module is the page's home, holds a signpost for it, or neither (R241, R242, R247). -/
def State.standing (s : State) (vpn : Nat) : Standing :=
  match mapFind s.tier.xlate vpn with
  | some e =>
    if e.tier = .local ∨ e.tier = .host then .home e
    else match mapFind s.tier.signposts vpn with
      | some p => .signpost p.home
      | none => .stranger
  | none => match mapFind s.tier.signposts vpn with
    | some p => .signpost p.home
    | none => .stranger

/-- The home records a reader as holder when it asks to stage and the page allows it: not while a move is granted, nor while staged
copies are being invalidated (R250, R252). -/
def State.lendTo (s : State) (vpn src : Nat) (e : XEntry) (stage : Bool) : State :=
  let hs := mapGet [] s.tier.holders vpn
  if stage && e.stage && !hs.contains src && decide (hs.length < 8) && (mapFind s.tier.movesOut vpn).isNone &&
      !s.tier.invals.contains vpn then
    s.modTier fun t => { t with holders := mapPut t.holders vpn (hs ++ [src]),
                                xlate := mapPut t.xlate vpn { e with lent := true } }
  else s

/-- Answers a read at the home from HBM; a poisoned word among the bytes is told to the requester (R261). -/
def State.serveRead (s : State) (e : XEntry) (src va n tag : Nat) : State :=
  match (s.addHeat (va / pageBytes) n).readFrame e.frame (va % pageBytes) n with
  | .ok b s1 => s1.send (.readData src va b tag s1.modNo)
  | .fault _ s1 => s1.send (.poisoned src va n tag)
  | .wait s1 => s1
  | .late s1 => s1

/-- READ_REQ: the home serves the read; a signpost forwards it; any other module answers NOT_HOME (R241, R242, R247). -/
def readReq (src va len tag : Nat) (stage : Bool) (s : State) : State :=
  let vpn := va / pageBytes
  match s.standing vpn with
  | .home e =>
    let s1 := s.lendTo vpn src e stage
    match e.tier with
    | .host =>
      let h := e.host * pageBytes + va % pageBytes
      (((s1.addHeat vpn len).chargeHostIn len).modTier fun t =>
        { t with reads := t.reads ++ [⟨.remote src tag, va, len, some h, false, s.bel.frame, false, none⟩] }).send (.hostRead h len)
    | _ => s1.serveRead e src va len tag
  | .signpost to_ => s.send (.readReq to_ src va len tag false none)
  | .stranger => s.send (.notHome src va tag none)

/-- Hands bytes that have come to whoever asked for them, or the word that they hold an uncorrectable error; late SUBSTITUTE data is
discarded (R251, R257, R261). -/
def State.deliver (s : State) (r : ReadOut) (bytes : List Byte) (bad : Bool := false) : State :=
  let s1 := s.modTier fun t => { t with reads := t.reads.filter fun x => !(x.who == r.who && x.va == r.va && x.len == r.len) }
  if r.late then s1
  else
    let here := s1.modTier fun t => { t with arrived := t.arrived ++ [⟨r.who, r.va, bytes, bad⟩] }
    match r.who with
    | .remote m tag => if bad then s1.send (.poisoned m r.va r.len tag) else s1.send (.readData m r.va bytes tag s1.modNo)
    | .aperture _ => here.retryAper
    | _ => here

/-- READ_DATA: data for every read of these bytes that is out; the reply names the home, and the read is staged where the
home took this module as a holder (R247, R251). With `poison` the home answers that the bytes of that length hold a poisoned word,
and none come (R261). -/
def readData (home va : Nat) (bytes : List Byte) (staged : Bool) (poison : Option Nat) (s : State) : State :=
  let vpn := va / pageBytes
  let n := poison.getD bytes.length
  let waiting := s.tier.reads.filter fun r => r.va == va && r.len == n && r.host.isNone
  let s1 := match mapFind s.tier.xlate vpn, waiting.findSome? ReadOut.row with
    | _, some r => s.noteRowHome r.1 r.2 home
    | some e, none => if e.tier = .pool ∧ e.mod ≠ home then s.putX vpn { e with mod := home } else s
    | none, none => s
  if poison.isSome then waiting.foldl (fun s r => s.deliver r (List.replicate n 0) true) s1
  else
    let s2 := if staged then s1.stageRead vpn home (va % pageBytes) bytes else s1
    waiting.foldl (fun s r => s.deliver r bytes) s2

/-- HOST_MEMORY_READ_COMPLETE: bytes of host memory arrive and go to the reads that wait for them (R257, R512). -/
def hostReadComplete (addr : Nat) (bytes : List Byte) (s : State) : State :=
  let s1 := { s with hostMem := s.hostMem.writeBytes addr bytes }
  (s1.tier.reads.filter fun r => r.host == some addr && r.len == bytes.length).foldl (fun s r => s.deliver r bytes) s1

/-- READ_DEADLINE: at the guard band of an almanac frame, SUBSTITUTE row reads of the core that have not come are late;
the gather engine uses the substitute row (R255, R257). -/
def readDeadline (c : CoreId) (s : State) : State :=
  let due (f : Nat) : Bool := s.run.openFrames.all fun o =>
    o.first != f || decide ((o.first + o.bells - 1) < s.bel.frame) ||
      (s.bel.frame == o.first + o.bells - 1 && decide (15360 ≤ s.bel.cycle))
  s.modTier fun t => { t with reads := t.reads.map fun r =>
    match r.who with
    | .engine k _ => if k = c ∧ r.sub ∧ due r.frame then { r with late := true } else r
    | _ => r }

/-! ## Writes (R241, R242, R247, R252, R289) -/

/-- A write that a moving page's old home forwards, or a piece of the page, is applied to the frame or the host page that the new home
fills, and charged there (R248, Table 08-6). -/
def State.fillMoving (s : State) (m : MoveIn) (va : Nat) (bytes : List Byte) : State :=
  match m.host with
  | some h => { s.chargeHostOut bytes.length with hostMem := s.hostMem.writeBytes (h * pageBytes + va % pageBytes) bytes }
  | none => s.writeFrame m.frame (va % pageBytes) bytes

/-- WRITE: the home invalidates staged copies and then applies the write; a signpost forwards it; the new home of a move
takes forwarded writes; any other module answers NOT_HOME (R241, R242, R247, R252). A stopped home discards a write (R468; DESIGN CHOICE,
log 164). -/
def writeMsg (src va : Nat) (bytes : List Byte) (tag : Nat) (s : State) : State :=
  let vpn := va / pageBytes
  match s.standing vpn with
  | .home e =>
    if s.rec0.stopped then s
    else match mapGet [] s.tier.holders vpn with
    | [] => (s.applyAtHome e va bytes).send (.writeAck src tag s.modNo)
    | _ => s.holdWrite (.remote src tag) va bytes
  | .signpost to_ => s.send (.write to_ src va bytes tag)
  | .stranger =>
    match mapFind s.tier.movesIn vpn with
    | some m => if m.source = src then (s.fillMoving m va bytes).send (.writeAck src tag s.modNo)
        else s.send (.notHome src va tag none)
    | none => s.send (.notHome src va tag none)

/-- An acknowledgement reaches whoever sent the message; one that a move awaits moves the first tick of its flip (R101, R274, R289,
Table 08-6). -/
def State.acked (s : State) (tag : Nat) : State :=
  match s.tier.writesOut.find? fun w => w.tag == tag with
  | none => s
  | some w =>
    let s1 := s.modTier fun t => { t with writesOut := t.writesOut.filter fun x => x.tag != tag }
    match w.who with
    | .engine c q => s1.modCore c fun k => k.ackOne q
    | .aperture t => s1.aperAck t
    | .bulk m t => s1.bulkDone m t
    | .own vpn =>
      match mapFind s1.tier.movesOut vpn with
      | some m =>
        let m1 := if w.bytes.isEmpty then { m with acked := (m.acked ++ [w.va]).eraseDups } else { m with writes := m.writes - 1 }
        s1.modTier fun t => { t with movesOut := mapPut t.movesOut vpn { m1 with flipFrom := s.tickFor } }
      | none => s1
    | .rowMove t k => match mapFind s1.tables.entries t with
      | some e =>
        let e1 := { e with moves := e.moves.map fun m => if m.1 = k then (k, { m.2 with copied := true, flipFrom := s.tickFor }) else m }
        { s1 with tables := { s1.tables with entries := mapPut s1.tables.entries t e1 } }
      | none => s1
    | _ => s1

/-- WRITE_ACK: the home's acknowledgement; it names the home (R247, R289). -/
def writeAck (tag home : Nat) (s : State) : State :=
  match s.tier.writesOut.find? fun w => w.tag == tag with
  | none => s
  | some w =>
    let vpn := w.va / pageBytes
    let s1 := match w.add, mapFind s.tier.xlate vpn with
      | some a, _ => s.noteRowHome a.table (rowKey (((s.table a.table).map Table.addVersion).getD 0) a.row) home
      | none, some e =>
        if (e.tier = TierKind.pool ∨ e.tier = TierKind.staged) ∧ e.mod ≠ home then s.putX vpn { e with mod := home } else s
      | none, none => s
    s1.acked tag

/-! ## The directory (R237, R242, R476) -/

/-- Whether a write waits for the directory's answer about a page. -/
def WriteOut.waitsFor (w : WriteOut) (vpn : Nat) : Bool := w.again && w.va / pageBytes == vpn

/-- Writes that wait for a directory's answer go to the home that it names, or are applied where this module is the home by now. An
XSEND that its receiver could not write, to a page that exists, met a page that may not be written (R238, R242). -/
def State.resendWrites (s : State) (vpn : Nat) : State :=
  let again := s.tier.writesOut.filter fun w => w.waitsFor vpn
  let gone (s : State) (w : WriteOut) : State := s.modTier fun t => { t with writesOut := t.writesOut.filter fun x => x.tag != w.tag }
  match s.look vpn with
  | .entry e =>
    again.foldl (fun s w =>
      if w.bytes.isEmpty then match w.add, w.who with
        | some a, _ => match e.tier, s.table a.table with
          | .local, some t | .host, some t => s.addHere w a t
          | _, _ => (s.modTier fun t => { t with writesOut := t.writesOut.map fun x =>
            if x.tag = w.tag then { x with again := false } else x }).send (.tableAdd e.mod s.modNo a.table a.row a.sums a.seq w.tag)
        | none, .engine c q => faultStarted c q cXlateWrite (gone s w)
        | none, _ => s
      else if e.tier = .local ∨ e.tier = .host then
        if (mapGet [] s.tier.holders vpn).isEmpty then ((gone s w).applyAtHome e w.va w.bytes).writeDone w.who
        else (gone s w).holdWrite w.who w.va w.bytes
      else (s.modTier fun t => { t with writesOut := t.writesOut.map fun x =>
        if x.tag = w.tag then { x with again := false } else x }).send (.write e.mod s.modNo w.va w.bytes w.tag)) s
  | _ => s

/-- Writes to a page that stands in no directory end; a command's raises XLATE_INVALID (R237). -/
def State.failWrites (s : State) (vpn : Nat) : State :=
  (s.tier.writesOut.filter fun w => w.waitsFor vpn).foldl (fun s w =>
    (s.modTier fun t => { t with writesOut := t.writesOut.filter fun x => x.tag != w.tag }).writeFailed w.who w.va) s

/-- The directory's entry of a page, or that there is none, reaches what waits for it: accesses proceed, or each meets XLATE_INVALID
(R237, R242). -/
def State.dirAnswer (s : State) (vpn : Nat) (e : Option DEntry) : State :=
  let waiters := s.tier.queries.filter fun q => q.1 == vpn
  let s1 := s.modTier fun t => { t with queries := t.queries.filter fun q => q.1 != vpn }
  let s2 := match e with
    | some d =>
      let stands := match mapFind s1.tier.xlate vpn with
        | some x => x.tier != TierKind.pool
        | none => d.home == s1.modNo
      (if stands then s1 else s1.putX vpn (xOfDir d)).resendWrites vpn
    | none => (s1.modTier fun t => { t with noEntry := t.noEntry ++ waiters }).failWrites vpn
  s2.wake.retryAper

/-- No route serves the module that an access needs (R280). -/
def State.noRoute (s : State) (who : Requester) : State := match who with
  | .engine c q => faultStarted c q cRouteNone s
  | .aperture tag => s.aperFail tag
  | _ => s

/-- NOT_HOME: the requester drops its entry, asks the directory and will send the access again (R242). -/
def notHome (va tag : Nat) (s : State) : State :=
  let vpn := va / pageBytes
  let mine (r : ReadOut) : Bool := r.va == va && r.host.isNone
  let asks := ((s.tier.reads.filter mine).map ReadOut.who ++
    (s.tier.writesOut.filter fun w => w.tag == tag).map WriteOut.who).eraseDups
  let s1 := (s.dropStage vpn).modTier fun t => { t with
    xlate := match mapFind t.xlate vpn with
      | some e => if e.tier = .pool then mapErase t.xlate vpn else t.xlate
      | none => t.xlate,
    reads := t.reads.filter fun r => !mine r,
    writesOut := t.writesOut.map fun w => if w.tag == tag then { w with again := true, va := if w.bytes.isEmpty then va else w.va } else w }
  match s1.look vpn with
  | .query d => asks.foldl (fun s w => (s.askDir w vpn d).getD (s.noRoute w)) s1
  | .entry _ => (s1.resendWrites vpn).wake.retryAper
  | .none => s1.dirAnswer vpn none

/-- DIR_QUERY: the directory module, or the deputy, answers (R237, R476). -/
def dirQuery (src vpn : Nat) (s : State) : State := s.send (.dirReply src vpn (mapFind s.tier.dir vpn))

/-- A page that another module has allocated here: a frame of zeros, and an entry, where the HBM and LEND quotas allow it (R264). -/
def State.adoptPage (s : State) (vpn : Nat) (d : DEntry) : State :=
  match s.takeFrame vpn with
  | some (f, s1) =>
    if s.acceptsPage d.owner false then
      ((s1.zeroFrame f).putX vpn { xOfDir d with tier := .local, frame := f, mod := 0 }).modTier fun t =>
        { t with owners := mapPut t.owners vpn d.owner }
    else s
  | none => s

/-- The directory module stores an entry, or erases one: the home that it named is told then, and a granted move of the page ends (R249,
R264). -/
def State.storeEntry (s : State) (vpn : Nat) (e : Option DEntry) : State := match e with
  | some d => s.putDir vpn d
  | none => (s.homesOf vpn).foldl (fun s m => s.send (.pageFree m vpn))
      (s.modTier fun t => { t with dir := mapErase t.dir vpn, grants := mapErase t.grants vpn })

/-- What an entry says to a module that keeps it, or holds the page: the directory module stores it or erases it; the home that the
owner chose makes the page; the home of another module's page frees it when there is none; attributes follow (R264). -/
def State.noteEntry (s : State) (vpn : Nat) (e : Option DEntry) : State :=
  let s1 := if s.dirAt vpn = s.modNo then s.storeEntry vpn e else s
  match e, mapFind s1.tier.xlate vpn with
  | some d, some _ => s1.setAttrs vpn d.w d.pin d.stage d.late
  | some d, none =>
    let s2 := s1.setAttrs vpn d.w d.pin d.stage d.late
    if d.home = s.modNo ∧ d.homeHost = false ∧ d.owner ≠ s.modNo ∧ (mapFind s.tier.movesIn vpn).isNone then s2.adoptPage vpn d else s2
  | none, some x =>
    if (x.tier = .local ∨ x.tier = .host) ∧ mapGet s.modNo s.tier.owners vpn = s.modNo then s1 else s1.dropPage vpn
  | none, none => s1.modTier fun t => { t with movesIn := mapErase t.movesIn vpn, movesOut := mapErase t.movesOut vpn }

/-- DIR_REPLY: the entry is installed and the waiting access proceeds; with none, the access raises XLATE_INVALID (R237). What an owner
tells the directory module and the home of a page that it makes, changes or frees arrives so too (R264; DESIGN CHOICE, log 69). -/
def dirReply (vpn : Nat) (e : Option DEntry) (s : State) : State := (s.noteEntry vpn e).dirAnswer vpn e

/-! ## Moves (R247, R248) -/

/-- MOVE_REQUEST: at the directory module the request is granted or refused, `accepts` being the answer of a destination that is
another module; elsewhere `granted` is the tick at which the directory granted it, with the page's attributes, and this module plays
its part as old or new home (R247, R265). -/
def moveRequest (by_ vpn source dest : Nat) (toHost : Bool) (owner : Nat) (accepts : Bool) (granted : Option (Nat × Nat)) (s : State) :
    State :=
  if s.dirAt vpn = s.modNo then s.askMove vpn by_ dest toHost accepts
  else match granted with
    | some g => s.moveGranted vpn source dest toHost g.1 owner g.2
    | none => s

/-- MOVE_PIECE: the new home writes a piece into the frame it has reserved, or into its host page, and acknowledges it; `bad` are the
words of the piece that are poisoned (R247, R261). -/
def movePiece (src vpn idx : Nat) (bytes : List Byte) (bad : List Nat) (tag : Nat) (s : State) : State :=
  match mapFind s.tier.movesIn vpn with
  | some m =>
    if m.source = src ∧ idx < movePieces then
      let s1 := s.fillMoving m (vpn * pageBytes + 2048 * idx) (bytes.take 2048)
      let s2 := if m.host.isSome then s1 else s1.modTier fun t =>
        { t with poison := t.poison ++ bad.map fun w => m.frame * 2048 + 64 * idx + w }
      s2.send (.bulkAck src tag)
    else s
  | none => s

/-- Whether the old home may flip now: at a tick after the grant, the page gone out, every piece and forwarded write acknowledged
and every staged copy dropped before cycle 16,256 of the frame before (Table 08-6); not 64 frames or more after the grant, when the move is
abandoned (R248). -/
def State.moveReady (s : State) (vpn : Nat) (m : MoveOut) : Bool :=
  s.bel.cycle == 0 && decide (m.grant < s.bel.frame) && decide (s.bel.frame < m.grant + 64) && decide (m.flipFrom ≤ s.bel.frame) && m.sent &&
  (mapGet [] s.tier.holders vpn).isEmpty && m.writes == 0 && (m.dest == s.modNo || m.acked.length == movePieces)

/-- Counts a flip (Table 08-8). -/
def State.countMove (s : State) : State :=
  s.modTier fun t => { t with regs := { t.regs with moves := satAdd 32 t.regs.moves 1 } }

/-- The old home's part of a flip. -/
def State.flipOut (s : State) (vpn : Nat) (m : MoveOut) (e : XEntry) : State :=
  let s1 :=
    if m.dest = s.modNo then
      if m.toHost then
        let s2 := { s with hostMem := s.hostMem.writeBytes (m.hostPage * pageBytes) (s.frameBytes e.frame) }
        s2.putX vpn { e with tier := .host, host := m.hostPage, frame := 0, lent := false }
      else match mapFind s.tier.movesIn vpn with
        | some i =>
          let bytes := s.hostMem.readBytes (e.host * pageBytes) pageBytes
          (s.putFrame i.frame bytes).putX vpn { e with tier := .local, frame := i.frame, host := 0, lent := false }
        | none => s
    else
      (s.putX vpn { e with tier := .pool, mod := m.dest, frame := 0, host := 0, lent := false, away := m.toHost }).modTier fun t =>
        { t with signposts := mapPut t.signposts vpn ⟨m.dest, if e.tier = .local then some e.frame else none, s.bel.frame⟩,
                 owners := if m.owner = s.modNo then t.owners else mapErase t.owners vpn }
  (s1.modTier fun t => { t with movesOut := mapErase t.movesOut vpn, movesIn := mapErase t.movesIn vpn }).countMove

/-- The new home's part of a flip: the attributes are the directory entry's (R237). -/
def State.flipIn (s : State) (vpn : Nat) (m : MoveIn) : State :=
  let e : XEntry := ⟨.local, bit m.attrs 0, bit m.attrs 1, false, bit m.attrs 2, bit m.attrs 3, m.frame, 0, 0, false⟩
  ((s.putX vpn (match m.host with
    | some h => { e with tier := .host, host := h, frame := 0 }
    | none => e)).modTier fun t =>
    { t with movesIn := mapErase t.movesIn vpn, staged := mapErase t.staged vpn,
             owners := mapPut t.owners vpn m.owner }).countMove

/-- The directory's part of a flip. -/
def State.flipDir (s : State) (vpn : Nat) : State :=
  match mapFind s.tier.grants vpn, mapFind s.tier.dir vpn with
  | some g, some e =>
    (s.putDir vpn { e with home := if 2 ^ 12 ≤ g.1 then e.owner else g.1, homeHost := decide (2 ^ 12 ≤ g.1), moving := false,
                           flip := s.bel.frame }).modTier fun t => { t with grants := mapErase t.grants vpn }
  | _, _ => s

/-- PAGE_FLIP: at a tick after all pieces and forwarded writes are acknowledged the home flips, at the old home, the new home and the
directory module (R247). -/
def pageFlip (vpn : Nat) (s : State) : State :=
  match mapFind s.tier.movesOut vpn, mapFind s.tier.xlate vpn with
  | some m, some e => if s.moveReady vpn m then (s.flipDir vpn).flipOut vpn m e else s
  | _, _ =>
    if s.bel.cycle = 0 then
      match mapFind s.tier.movesIn vpn with
      | some m => if m.grant < s.bel.frame ∧ s.bel.frame < m.grant + 64 then (s.flipDir vpn).flipIn vpn m else s
      | none => match mapFind s.tier.grants vpn with
        | some g => if g.2 < s.bel.frame ∧ s.bel.frame < g.2 + 64 then s.flipDir vpn else s
        | none => s
    else s

/-- SIGNPOST_EXPIRE: one frame after the flip the signpost goes and the frame is free (R247). -/
def signpostExpire (vpn : Nat) (s : State) : State :=
  match mapFind s.tier.signposts vpn with
  | some p => if p.flip < s.bel.frame then s.modTier fun t => { t with signposts := mapErase t.signposts vpn } else s
  | none => s

/-- Grant tick of a move that this module takes part in. -/
def State.grantTick (s : State) (vpn : Nat) : Option Nat :=
  match mapFind s.tier.grants vpn, mapFind s.tier.movesOut vpn, mapFind s.tier.movesIn vpn with
  | some g, _, _ => some g.2
  | _, some m, _ => some m.grant
  | _, _, some m => some m.grant
  | _, _, _ => none

/-- MOVE_ABANDON: a move not flipped within 64 frames of its grant is abandoned at a tick (R248). -/
def moveAbandon (vpn : Nat) (s : State) : State :=
  match s.grantTick vpn with
  | some g => if g + 64 ≤ s.bel.frame ∧ s.bel.cycle = 0 then s.endMove vpn else s
  | none => s

/-! ## Staged copies (R252, R253) -/

/-- INVAL: the holder drops its stage frame, counts it and acknowledges (R252). -/
def invalMsg (home vpn : Nat) (s : State) : State :=
  let s1 := match mapFind s.tier.staged vpn with
    | some _ => (s.dropStage vpn).modTier fun t => { t with regs := { t.regs with inval := satAdd 32 t.regs.inval 1 } }
    | none => s
  s1.send (.invalAck home vpn)

/-- INVAL_ACK (R252). -/
def invalAck (src vpn : Nat) (s : State) : State := s.loseHolder src vpn

/-- STAGE_DROP: the holder drops a stage frame of its own and tells the home (R253). -/
def stageDrop (vpn : Nat) (s : State) : State := s.yieldStage vpn

/-- STAGE_DROP_NOTICE: the home removes the holder (R253). -/
def stageDropNotice (src vpn : Nat) (s : State) : State := s.loseHolder src vpn

/-! ## Quota excess and retirement (R262, R266) -/

/-- Pages that leave for a class above its limit, coldest first, each with its destinations in order (Table 08-12). -/
def State.excessPages (s : State) (cls : Nat) : List (Nat × List (Nat × Bool)) :=
  let owner (v : Nat) : Nat := mapGet s.modNo s.tier.owners v
  let settled (v : Nat) (e : XEntry) : Bool := !e.pin && (mapFind s.tier.movesOut v).isNone &&
    (match mapFind s.tier.dir v with
      | some d => !d.moving
      | none => true)
  let pinned (v : Nat) : Bool := match mapFind s.tier.xlate v, mapFind s.tier.dir v with
    | some e, _ => e.pin || e.tier == .local || e.tier == .host
    | none, some d => d.pin
    | none, none => false
  let moving (v : Nat) : Bool := match mapFind s.tier.dir v with
    | some d => d.moving
    | none => false
  let cold (sel : Nat → XEntry → Bool) : List Nat :=
    (pickHeat (s.tier.xlate.filterMap fun e =>
      if sel e.1 e.2 && settled e.1 e.2 then some (e.1, s.heatOf e.1) else none) false).map Prod.fst
  match cls with
  | 0 => (cold fun _ e => e.tier == .local).map fun v => (v, s.pushDests v)
  | 1 => (cold fun v e => e.tier == .local && owner v != s.modNo).map fun v => (v, [(owner v, false), (owner v, true)])
  | 2 => ((pickHeat ((s.tier.owners.filter fun o => o.2 == s.modNo && !pinned o.1 && !moving o.1).map fun o =>
      (o.1, s.heatOf o.1)) false).map Prod.fst).map fun v => (v, [(s.modNo, true)])
  | 3 => (cold fun _ e => e.tier == .host).map fun v =>
      (v, (s.modNo, false) :: (s.tier.targets.filter fun m => m != s.modNo).map fun m => (m, false))
  | _ => []

/-- The first of these pages that a destination accepts and whose tier agent has MAINT budget, and where it goes (R265, R266). -/
def State.excessMove (s : State) (room : List (Nat × Bool)) (cls : Nat) : Option (Nat × Nat × Bool) :=
  ((s.excessPages cls).filter fun p => s.maintOpen (p.1 % 8)).findSome? fun p =>
    (s.firstDest room p.1 p.2).map fun d => (p.1, d.1, d.2)

/-- Pages of a class that leave it already by moves that this module knows to be granted (R246, R266). -/
def State.leaving (s : State) (cls : Nat) : Nat :=
  let owner (v : Nat) : Nat := mapGet s.modNo s.tier.owners v
  let tier (v : Nat) : Option TierKind := (mapFind s.tier.xlate v).map XEntry.tier
  match cls with
  | 0 => (s.tier.movesOut.filter fun m => tier m.1 == some .local).length
  | 1 => (s.tier.movesOut.filter fun m => tier m.1 == some .local && owner m.1 != s.modNo).length
  | 2 => (s.tier.movesIn.filter fun m => m.2.owner == s.modNo && m.2.source != s.modNo).length
  | 3 => (s.tier.movesOut.filter fun m => tier m.1 == some .host && owner m.1 == s.modNo).length
  | _ => 0

/-- Stage frames above a limit go at once; no data moves (R66, R266). -/
def State.dropStages (s : State) : State :=
  let s1 := if s.quotaLimit 0 < s.quotaUse 0 then
      (s.tier.staged.map Prod.fst).foldl (fun s v => s.yieldStage v) s
    else s
  (List.range (s1.quotaUse 4 - s1.quotaLimit 4)).foldl (fun s _ => match s.oldestStage with
    | some v => s.yieldStage v
    | none => s) s1

/-- QUOTA_EXCESS_PUSH: stage frames go at once; then the coldest page of each class above its limit, less the pages that leave already,
moves, within MAINT. No move begins while the economy cap is in force (R66, R249, R266). -/
def quotaExcess (room : List (Nat × Bool)) (s : State) : State :=
  let s1 := s.dropStages
  if s.bel.econ then s1
  else
    (List.range 4).foldl (fun s c =>
      if s.quotaLimit c < s.quotaUse c - s.leaving c then
        match s.excessMove room c with
        | some (v, d, h) => s.requestMove v d h
        | none => s
      else s) s1

/-- FRAME_RETIREMENT: at a tick, a frame with 16 or more corrections in 24 hours is retired (R262). -/
def frameRetirement (frame : Nat) (s : State) : Host.Outcome State Fault Refusal :=
  if 8 * framesPerStack ≤ frame then .fault (.noSuchHbm (frame * pageBytes))
  else if s.bel.cycle = 0 ∧ 16 ≤ (s.corrOf frame).length then .next (s.retireFrame frame)
  else .next s

end Sys2Proof.Machine
end

