-- ==== Sys2Proof/Machine/Tables.lean ====
section
/-! DEFINITION. Tables at work: binding, look-ups, gradient adds, load counts, row moves and the release of versions
(spec/12 R371-R391). -/

namespace Sys2Proof.Machine

/-! ## Look-ups (R374-R377) -/

/-- The version that a task has bound (R371). -/
def TaskCtx.bound (t : TaskCtx) (tn : Nat) : Option Nat := mapFind t.versions tn

/-- Row of an index code under the table's layout (R374). -/
def Table.rowOf (t : Table) (x : Nat) : Nat :=
  if t.layout = 1 then
    let y := (x + t.nat 24 8) * 0xBF58476D1CE4E5B9 % 2 ^ 64
    let z := y ^^^ (y / 2 ^ 31)
    z * t.rows / 2 ^ 64
  else x

/-- Reads a row of a bound version; `none` where its data is late (R257, R375, R387). -/
def readVersionRow (tn : Nat) (v : Nat) (r : Nat) : EM (Option (List Byte)) := do
  chargeGather 1
  let w ← get
  match w.s.table tn with
  | none => pure none
  | some t =>
    let key := rowKey v r
    let va := t.baseAddr key
    let n := t.valueBytes
    match w.s.rowAt t key with
    | .slot i => do
      emod fun s => s.countLoad tn key s.modNo
      let b ← vaReadSoon (t.slotParts i).1 n
      pure (some b)
    | .base => do
      emod fun s => s.countLoad tn key s.modNo
      pieceRead false true (va, n)
    | _ => do
      emod fun s => s.cacheUse tn key
      let w ← get
      match w.s.look (va / pageBytes), w.s.rowDest tn t key with
      | .entry e, some m =>
        if e.tier = .staged ∧ e.mod = m then pieceRead false true (va, n)
        else match w.s.findArrived w.who va n with
          | some b => match b.read w.s with
            | .fault c s => do set { w with s := s }; efault c
            | _ => pure (some b.bytes)
          | none =>
            match w.s.askPiece w.who { e with tier := .pool, mod := m } va n e.late w.task.frame (w.s.owed w.task) (some (tn, key)) with
            | .late s => do set { w with s := s }; pure none
            | .wait s => do set { w with s := s, missing := true }; pure (some (List.replicate n 0))
            | .ok b s => do set { w with s := s }; pure (some b)
            | .fault c s => do set { w with s := s }; efault c
      | _, _ => pieceRead false true (va, n)

/-- Rows of a table within a STR window, and those an index may name (R374, R375). -/
def Table.window (t : Table) (d : Desc) : Nat := min d.count (if t.defRow then t.rows - 1 else t.rows)

/-- The checks and reads that precede the work of LOOKUP: what it has at hand, its version, and the bytes of a row's values (R375).
A row has ELEMS elements under LEG and under LEG_LS alike, so its length always agrees (DEDUCED, log 137). -/
def lookupPrepare (e : EArgs) : EM (GEnv × Nat × Nat) := do
  let tiled := e.mode == 8
  let w ← get
  let p := GParam.of e.param
  p.check false tiled
  echeck (!p.defRow) cListInvalid
  needDesc e.d1
  let t ← eget (w.s.table p.legTab) cListInvalid
  echeck (t.layout != 2) cListInvalid
  let v ← eget (e.task.bound p.legTab) cListInvalid
  let tab ← eget t.leg cListInvalid
  let ls ← eget (w.s.legend p.legLs) cLegendInvalid
  if tiled then echeck (tileFmt ls.fmt.code).isSome cLegendInvalid
  echeck (ls.fmt != .a48 || tab.sameScale ls) cLegendInvalid
  let b ← descReadAll e.d1
  let csr0 ← eget (Csr.parse b) cListInvalid
  let csr := { csr0 with idx := csr0.idx.map fun i => i.map t.rowOf }
  let g : GEnv := ⟨{ p with defRow := t.defRow }, tab, ls, e.d2, csr, t.elems, t.rows, t.window e.d2,
    w.s.randKey e.task ls.tensorId 0⟩
  missCheck p.strict (csr.idx.filter fun i => (g.hit i).isNone).length
  pure (g, v, t.valueBytes)

/-- LOOKUP (R375). -/
def lookupWork (e : EArgs) : EM Unit := do
  let tiled := e.mode == 8
  let x ← lookupPrepare e
  let g := x.1
  let rows ← entryRowsBy g (readVersionRow g.p.legTab x.2.1) x.2.2 g.csr.idx
  let out := (rows.zip (List.range rows.length)).map fun r => convertRow g.tab g.ls g.key g.n (g.csr.row0 + r.2) r.1
  noteNum (out.foldl (fun n r => n.add r.2) NumCount.none)
  writeSide g tiled false (out.map Prod.fst)

/-- Fields of Table 12-3. -/
structure CompParam where
  lsA : Nat
  table : Nat
  legLs : Nat
  lsB : Nat
  strict : Bool
  kpSel : Nat
deriving DecidableEq, Repr

/-- Splits the parameter word of LOOKUP_COMP. -/
def CompParam.of (p : W64) : CompParam :=
  let v := p.toNat
  ⟨64 * field v 63 49, field v 48 37, field v 36 25, 64 * field v 24 10, bit v 9, field v 8 7⟩

/-- Reads the rows of a component that a command needs: those its codes name, and the default row where a code misses (R376). -/
def compRows (tn v : Nat) (t : Table) (codes : List (Option Nat)) : EM (List (Nat × Option (List Byte))) :=
  readRows (readVersionRow tn v) (codes.filterMap id ++ (if t.defRow && codes.any Option.isNone then [t.rows - 1] else []))

/-- The default row of a component: read once, when some entry takes it (R175, R377). -/
def compDefault (tn v : Nat) (t : Table) (got : List (Nat × Option (List Byte))) (need : Bool) : EM (List Byte) := do
  let zero := List.replicate t.valueBytes (0 : Byte)
  let all ← (if t.defRow && need && !(got.any fun x => x.1 == t.rows - 1) then readRows (readVersionRow tn v) [t.rows - 1] else pure [])
  pure (if t.defRow then (((got ++ all).find? fun x => x.1 == t.rows - 1).bind Prod.snd).getD zero else zero)

/-- What LOOKUP_COMP has at hand: for the rows of A and of B, and the bytes of every entry's row of each. -/
structure CompRows where
  a : GEnv
  b : GEnv
  rowsA : List (List Byte)
  rowsB : List (List Byte)
deriving DecidableEq, Repr

/-- The checks and reads of LOOKUP_COMP; bits [6:0] of its parameter word are reserved and read as any others (R4, R376, R377). -/
def compRead (e : EArgs) : EM CompRows := do
  let tiled := e.mode == 8
  let w ← get
  let p := CompParam.of e.param
  echeck (p.kpSel != 3 && (tiled || p.kpSel == 0)) cListInvalid
  needDesc e.d1
  let t ← eget (w.s.table p.table) cListInvalid
  echeck (t.layout == 2) cListInvalid
  let ta ← eget (w.s.table (t.nat 32 2)) cListInvalid
  let tb ← eget (w.s.table (t.nat 34 2)) cListInvalid
  let va ← eget (e.task.bound (t.nat 32 2)) cListInvalid
  let vb ← eget (e.task.bound (t.nat 34 2)) cListInvalid
  let tab ← eget t.leg cListInvalid
  let ls ← eget (w.s.legend p.legLs) cLegendInvalid
  if tiled then echeck (tileFmt ls.fmt.code).isSome cLegendInvalid
  echeck (ls.fmt != .a48 || tab.sameScale ls) cLegendInvalid
  let b ← descReadAll e.d1
  let csr ← eget (Csr.parse b) cListInvalid
  let nb := tb.rows
  let win := min e.d2.count t.rows
  let hit (i : Option Nat) : Option Nat := i.bind fun x => if x < win ∧ 0 < nb then some x else none
  missCheck p.strict (csr.idx.filter fun i => (hit i).isNone).length
  let codesA := csr.idx.map fun i => (hit i).map fun x => x / nb
  let codesB := csr.idx.map fun i => (hit i).map fun x => x % nb
  let ga ← compRows (t.nat 32 2) va ta codesA
  let gb ← compRows (t.nat 34 2) vb tb codesB
  let row (got : List (Nat × Option (List Byte))) (c : Option Nat) : Option (List Byte) :=
    c.bind fun r => (got.find? fun x => x.1 == r).bind Prod.snd
  let late := (codesA.zip codesB).map fun c => c.1.isSome && ((row ga c.1).isNone || (row gb c.2).isNone)
  let both := !ta.isLocal && !tb.isLocal
  let some_ := late.any id
  let da ← compDefault (t.nat 32 2) va ta ga (some_ && !ta.isLocal)
  let db ← compDefault (t.nat 34 2) vb tb gb (some_ && !tb.isLocal)
  awaitReads
  noteSubst (late.filter id).length
  let rowsA := (codesA.zip late).map fun r => if both && r.2 then da else (row ga r.1).getD da
  let rowsB := (codesB.zip late).map fun r => if both && r.2 then db else (row gb r.1).getD db
  let env (at_ branch : Nat) : GEnv := ⟨⟨at_, p.table, p.legLs, 0, 0, false, p.strict, p.kpSel, 0⟩, tab, ls, e.d2, csr, t.elems,
    t.rows, win, w.s.randKey e.task ls.tensorId branch⟩
  pure ⟨env p.lsA 0, env p.lsB 1, rowsA, rowsB⟩

/-- Converts the rows of one component and writes them (R376). -/
def compWrite (tiled : Bool) (g : GEnv) (rows : List (List Byte)) : EM Unit := do
  let out := (rows.zip (List.range rows.length)).map fun r => convertRow g.tab g.ls g.key g.n (g.csr.row0 + r.2) r.1
  noteNum (out.foldl (fun n r => n.add r.2) NumCount.none)
  writeSide g tiled false (out.map Prod.fst)

/-- LOOKUP_COMP (R376, R377). -/
def lookupCompWork (e : EArgs) : EM Unit := do
  let x ← compRead e
  compWrite (e.mode == 8) x.a x.rowsA
  compWrite (e.mode == 8) x.b x.rowsB

/-! ## Gradient adds (R378-R381) -/

/-- Sends a contribution to a row's home, or applies it here; where neither the row cache nor a translation entry names the home, the
directory is asked (R237, R379, R387). -/
def sendAdd (tn row : Nat) (sums : List (Option Int)) : EM Unit := do
  let w ← get
  match w.s.table tn with
  | none => pure ()
  | some t =>
    let key := rowKey ((w.task.bound tn).getD t.addVersion) row
    let seq := t.addSeq
    let s1 := (w.s.putTable tn { t with addSeq := seq + 1 }).cacheUse tn key
    match w.s.rowAt t key with
    | .slot _ | .base =>
      let r := s1.applyAdd w.who tn { t with addSeq := seq + 1 } row sums w.s.modNo
      set { w with acks := w.acks + r.1, s := r.2 }
    | _ =>
      match w.s.rowDest tn t key with
      | none =>
        let vpn := t.baseAddr key / pageBytes
        match w.s.lookFor w.who vpn with
        | .query d =>
          let s2 ← eget (w.s.askDir w.who vpn d) cRouteNone
          set { w with s := s2, missing := true }
          throw .wait
        | _ => efault cXlateInvalid
      | some m =>
        let _ ← eget (w.s.route m) cRouteNone
        let tag := s1.fab.tagNext
        set { w with acks := w.acks + 1,
                     s := { s1 with fab := { s1.fab with tagNext := tag + 1 },
                                    tier := { s1.tier with writesOut := s1.tier.writesOut ++
                                      [WriteOut.mk tag w.who 0 [] false (some (AddOut.mk tn row sums seq))] },
                                    outbox := s1.outbox ++ [Msg.tableAdd m s1.modNo tn row sums seq tag] } }

/-- Exact integer sum of contributions; `none` once any is OVF (R379). -/
def exactSum (l : List Code) : Option Int :=
  l.foldl (fun a c => match a, c with
    | some x, some y => some (x + y)
    | _, _ => none) (some 0)

/-- The TRAINED table whose gradient area a descriptor names (R379). -/
def State.addTable (s : State) (d : Desc) : Option Nat :=
  if d.space ≠ 0 then none
  else (s.tables.entries.find? fun e => e.2.trained && e.2.gradBase == d.base.toNat).map Prod.fst

/-- A table add (R379). -/
def tableAddWork (tn : Nat) (e : EArgs) : EM Unit := do
  let tiled := e.mode == 8
  let w ← get
  let p := GParam.of e.param
  p.check false tiled
  needDesc e.d1
  let t ← eget (w.s.table tn) cListInvalid
  let _ ← eget (e.task.bound tn) cListInvalid
  let lg ← eget t.legG cLegendInvalid
  let ls ← eget (w.s.legend p.legLs) cLegendInvalid
  echeck ((ls.fmt == .i8 || ls.fmt == .i16 || ls.fmt == .i32) && ls.T == lg.T && ls.m == lg.m) cLegendInvalid
  if tiled then echeck (tileFmt ls.fmt.code).isSome cLegendInvalid
  let b ← descReadAll e.d1
  let csr0 ← eget (Csr.parse b) cListInvalid
  let csr := { csr0 with idx := csr0.idx.map fun i => i.map t.rowOf }
  let g : GEnv := ⟨p, ls, ls, e.d2, csr, t.elems, t.rows, t.window e.d2, w.s.randKey e.task ls.tensorId 0⟩
  missCheck p.strict (csr.idx.filter fun i => (g.hit i).isNone).length
  let src ← readSide g tiled
  let _ ← (targets g).mapM fun x => do
    chargeGather 1
    let sums := (List.range t.elems).map fun i =>
      exactSum (x.2.map fun q => match (src.getD (csr.segOf q) ([], [])).1.getD i (.int ⟨some 0, 0⟩) with
        | .int c => c.q
        | .acc _ => some 0)
    sendAdd tn x.1 sums
  pure ()

/-- SCATTER_ADD: into a table's gradient area, a table add; elsewhere into the rows of its descriptor (R178, R379). -/
def scatterAddAny (e : EArgs) : EM Unit := do
  let w ← get
  match w.s.addTable e.d2 with
  | some tn => tableAddWork tn e
  | none => scatterAddWork e

/-- Counts a forward by a row signpost (Table 12-5). -/
def State.countForward (s : State) : State :=
  { s with tables := { s.tables with forwards := satAdd 24 s.tables.forwards 1 } }

/-- TABLE_ADD_APPLY: a contribution reaches a module: its home applies and acknowledges it, a signpost forwards it, any other
module answers NOT_HOME (R379, R387, R388). A stopped module discards it (R468). -/
def tableAddApply (src tn row : Nat) (sums : List (Option Int)) (seq tag : Nat) (s : State) : State :=
  match s.table tn with
  | none => if s.rec0.stopped then s else s.send (.notHome src 0 tag none)
  | some t =>
    let key := rowKey t.addVersion row
    if s.rec0.stopped then s
    else match s.rowAt t key with
    | .slot _ | .base =>
      let r := s.applyAdd (.remote src tag) tn t row sums src
      if r.1 = 0 then r.2.send (.writeAck src tag s.modNo) else r.2
    | .away m => match mapFind t.signposts key with
      | some p => s.countForward.send (.tableAdd p.1 src tn row sums seq tag)
      | none => s.send (.notHome src 0 tag (some m))
    | .unknown => match mapFind t.signposts key with
      | some p => s.countForward.send (.tableAdd p.1 src tn row sums seq tag)
      | none => s.send (.notHome src 0 tag none)

/-! ## Reads of rows from other modules (R387, R388) -/

/-- Serves a row read from a hot slot. -/
def State.serveSlot (s : State) (t : Table) (i src va n tag : Nat) : State :=
  let a := (t.slotParts i).1
  match mapFind s.tier.xlate (a / pageBytes) with
  | some e =>
    match (s.addHeat (a / pageBytes) n).readFrame e.frame (a % pageBytes) n with
    | .ok b s1 => s1.send (.readData src va b tag s1.modNo)
    | .fault _ s1 => s1.send (.poisoned src va n tag)
    | .wait s1 => s1
    | .late s1 => s1
  | none => s.send (.notHome src va tag none)

/-- READ_REQ: a read of memory, or of a table row, reaches this module (R241, R242, R387, R388). `row` names table, version
and row. -/
def readReqRow (src va len tag : Nat) (stage : Bool) (row : Option (Nat × Nat × Nat)) (s : State) : State :=
  match row with
  | none => readReq src va len tag stage s
  | some (tn, v, r) =>
    match s.table tn with
    | none => readReq src va len tag stage s
    | some t =>
      let key := rowKey v r
      match s.rowAt t key with
      | .slot i => (s.countLoad tn key src).serveSlot t i src va len tag
      | .base => readReq src va len tag stage (s.countLoad tn key src)
      | .away m => match mapFind t.signposts key with
        | some p => s.countForward.send (.readReq p.1 src va len tag false (some (tn, key)))
        | none => s.send (.notHome src va tag (some m))
      | .unknown => match mapFind t.signposts key with
        | some p => s.countForward.send (.readReq p.1 src va len tag false (some (tn, key)))
        | none => s.send (.notHome src va tag none)

/-- An add that a NOT_HOME sends back goes out again, to the home that the answer names or to the home of the base slot's page, once
the directory has told it (R237, R387). -/
def State.resendAdd (s : State) (tag : Nat) (home : Option Nat) : State :=
  match s.tier.writesOut.find? fun w => w.tag == tag with
  | none => s
  | some w => match w.add, w.add.bind fun a => s.table a.table with
    | some a, some t =>
      let va := t.baseAddr (rowKey t.addVersion a.row)
      let s1 := s.modTier fun x => { x with writesOut := x.writesOut.map fun o =>
        if o.tag = tag then { o with again := true, va := va } else o }
      match home, s.look (va / pageBytes) with
      | some m, _ => s.send (.tableAdd m s.modNo a.table a.row a.sums a.seq tag)
      | none, .query d => (s1.askDir w.who (va / pageBytes) d).getD (s1.noRoute w.who)
      | none, .entry _ => s1.resendWrites (va / pageBytes)
      | none, .none => s1.failWrites (va / pageBytes)
    | _, _ => s

/-- NOT_HOME: for memory, the requester asks the directory; for a table row, it caches the home that the answer names, or
drops its entry, and sends the access again (R242, R387). -/
def notHomeRow (va tag : Nat) (home : Option Nat) (row : Option (Nat × Nat × Nat)) (s : State) : State :=
  match row with
  | none => notHome va tag s
  | some (tn, v, r) =>
    let key := rowKey v r
    let s1 : State := { s with tables := { s.tables with redirects := satAdd 24 s.tables.redirects 1 } }
    let s2 := match home with
      | some m => s1.cachePut tn key m
      | none => s1.cacheDrop tn key
    ((s2.modTier fun t => { t with reads := t.reads.filter fun x => !(x.va == va && x.host.isNone) }).resendAdd tag home).wake

/-! ## Versions (R370-R373, R391) -/

/-- References to a version (R373). -/
def State.refs (s : State) (tn : Nat) (t : Table) (v : TabVersion) : Nat :=
  let uids := (s.cores.flatMap fun c => (c.2.workTasks.filter fun x => x.bound tn == some v.version).map TaskCtx.uid).eraseDups
  bnat (v.state == .current) + uids.length +
    bnat (t.stepBound && mapFind s.run.stepBind tn == some v.version)

/-- What goes with a version that becomes FREE: its record, hot rows, redirects, moves; and its pages at the next tick under
AUTOFREE (R373). -/
def State.freeVersion (s : State) (tn rec_ : Nat) (v : TabVersion) : State :=
  match s.table tn with
  | none => s
  | some t =>
    let mine (key : Nat) : Bool := keyVersion key == v.version
    let t1 := { t with versions := mapErase t.versions rec_,
                       hot := t.hot.filter fun h => h.2.version != v.version,
                       redirects := t.redirects.filter fun r => !mine r.1,
                       moves := t.moves.filter fun m => !mine m.1 }
    let s1 := s.putTable tn t1
    if v.autofree then
      { s1 with bud := { s1.bud with latched := s1.bud.latched ++ [(s1.tickFor, .memFree (v.base / pageBytes) v.pages)] } }
    else s1

/-- Every RETIRING version without references becomes FREE; a destroyed table whose versions are all FREE goes (R373,
R391). -/
def State.sweepVersions (s : State) : State :=
  s.tables.entries.foldl (fun s e =>
    let s1 := e.2.versions.foldl (fun s v => match s.table e.1 with
      | some t => if v.2.state = .retiring ∧ s.refs e.1 t v.2 = 0 then s.freeVersion e.1 v.1 v.2 else s
      | none => s) s
    match s1.table e.1 with
    | some t => if t.destroy.isSome ∧ decide (t.destroy.getD 0 ≤ s1.bel.frame) ∧ t.versions.isEmpty then
        { s1 with tables := { s1.tables with entries := mapErase s1.tables.entries e.1 } } else s1
    | none => s1) s

/-- At a tick: destroys take effect, the counts of the frame are taken (R383, R391). -/
def State.tickTables (s : State) : State :=
  let es := s.tables.entries.map fun e =>
    let t := { e.2 with frameMax := max e.2.frameMax e.2.frameLoad, frameLoad := 0 }
    (e.1, match t.destroy with
      | some f => if f ≤ s.bel.frame then t.retireAll else t
      | none => t)
  ({ s with tables := { s.tables with entries := es } }).sweepVersions

/-- VERSION_CURRENT: at their ticks, pending versions of a table become CURRENT and the former current one RETIRING
(R370). -/
def versionCurrent (tn : Nat) (s : State) : State :=
  match s.table tn with
  | none => s
  | some t =>
    ((t.dueVersions s.bel.frame).foldl (fun s r => match s.table tn with
      | none => s
      | some t =>
        let x := t.takeVersion r s.bel.frame
        match x.2 with
        | some v => s.freeVersion tn r v
        | none => s.putTable tn x.1) s).sweepVersions

/-- COMMAND_RETIRE with the release of versions (R101, R373). -/
def commandRetireAll (c : CoreId) (q : Nat) (s : State) : State := (engineRetire c q s).sweepVersions

/-- V_RETIRE with the release of versions (R520, R373). -/
def vRetireAll (c : CoreId) (ctx : VCtx) (i : Nat) (s : State) : State := (vRetire c ctx i s).sweepVersions

end Sys2Proof.Machine
end

