-- ==== Sys2Proof/Machine/RowMoves.lean ====
section
/-! DEFINITION. The moves of table rows and the end of a heat epoch (spec/08 R243-R246; spec/12 R383-R389). -/

namespace Sys2Proof.Machine

/-! ## A row's home (R385, R386) -/

/-- The module that homes the base slot of a row, as this module knows it. -/
def State.baseHome (s : State) (t : Table) (key : Nat) : Option Nat :=
  if s.homesVa (t.baseAddr key) then some s.modNo
  else match s.look (t.baseAddr key / pageBytes) with
    | .entry e => some e.mod
    | _ => none

/-- Addresses of the parts of a row at this module: of its hot slot, or of its base slot. -/
def Table.partsHere (t : Table) (key : Nat) : Nat × Nat × Nat := match t.hotAt key with
  | some i => t.slotParts i
  | none => t.baseParts key

/-- The bytes of a row's parts here as they will stand once the staged deltas have been applied (R389). -/
def State.rowWords (s : State) (t : Table) (key : Nat) : List Byte :=
  let p := t.partsHere key
  let one (a n : Nat) : List Byte := (addWords (s.peekLocal a (pad8 n)) (s.stagedDelta a (pad8 n))).take n
  one p.1 t.valueBytes ++ one p.2.1 t.mBytes ++ one p.2.2 t.vBytes

/-- Reading a part of a row to be copied charges its stack, and that of its staging page where a delta is staged, and may meet a poisoned
word of either (R261, R389, R513). -/
def State.readPart (s : State) (a n : Nat) : State :=
  if n = 0 then s
  else
    let s1 := (s.meetPoison a (pad8 n)).chargeLocal a n
    match s1.stageAddr a with
    | some p => if s1.smithy.touched.contains (a / pageBytes) then (s1.meetPoison p (pad8 n)).chargeLocal p n else s1
    | none => s1

/-- The step whose commit carries a TRAINED move granted now (R389). -/
def State.moveStep (s : State) : Nat :=
  if s.run.inStep && !s.smithy.parityStarted && !s.smithy.applyStarted && decide (s.smithy.phase ≤ 1) then s.run.step
  else s.run.step + 1

/-- The lowest hot slot that is not in use. -/
def Table.freeSlot (t : Table) : Option Nat :=
  (List.range (min t.hotSlots (t.hot.length + 1))).find? fun i => (mapFind t.hot i).isNone

/-- The header of a hot slot (R385). -/
def Table.slotHeader (t : Table) (key : Nat) : List Byte :=
  bytesOfNat 8 (keyRow key) ++ bytesOfNat 2 (t.nat 0 2) ++ bytesOfNat 4 (keyVersion key) ++ bytesOfNat 2 0

/-- A hot slot is taken for a row: reserved, its gradient rows empty (R385, R388). -/
def State.takeSlot (s : State) (tn : Nat) (t : Table) (key i : Nat) : State :=
  let h : HotSlot := ⟨keyRow key, keyVersion key, false, s.bel.frame, s.moveStep, false⟩
  let s1 := s.putTable tn { t with hot := mapPut t.hot i h }
  if t.trained then
    (s1.pokeLocal (t.hotGradAddr 0 i) t.zeroGrad).pokeLocal (t.hotGradAddr 1 i) t.zeroGrad
  else s1.pokeLocal (t.slotAddr i) (t.slotHeader key)

/-- The slot reserved for a row that has not flipped to it. -/
def Table.reserved (t : Table) (key : Nat) : Option (Nat × HotSlot) :=
  t.hot.find? fun h => h.2.row == keyRow key && h.2.version == keyVersion key && !h.2.live &&
    (mapFind t.signposts key).isNone

/-- Sends the copy of a moving row to its new home (R388, R389). -/
def State.sendCopy (s : State) (tn key : Nat) (m : RowMove) : State :=
  match s.table tn with
  | none => s
  | some t =>
    let tag := s.fab.tagNext
    let p := t.partsHere key
    let s0 := ((s.readPart p.1 t.valueBytes).readPart p.2.1 t.mBytes).readPart p.2.2 t.vBytes
    let s1 := s0.putTable tn { t with moves := mapPut t.moves key { m with sent := true } }
    { s1 with fab := { s1.fab with tagNext := tag + 1 },
              tier := { s1.tier with writesOut := s1.tier.writesOut ++ [WriteOut.mk tag (.rowMove tn key) 0 [] false none] },
              outbox := s1.outbox ++ [Msg.rowCopy m.dest tn key (s.rowWords t key) tag] }

/-- The copy of a row without TRAINED goes out once the MAINT budget of the tier agent of the row's page is open (R388). -/
def State.tryCopy (s : State) (tn key : Nat) : State :=
  match s.table tn with
  | none => s
  | some t => match mapFind t.moves key with
    | some m =>
      let unit := (t.partsHere key).1 / pageBytes % 8
      if t.trained || m.sent || !s.maintOpen unit then s
      else (s.chargeMaint unit (Config.copyCycles t.valueBytes)).sendCopy tn key m
    | none => s

/-- Every copy that waits for its MAINT budget. -/
def State.sendCopies (s : State) : State :=
  s.tables.entries.foldl (fun s e => e.2.moves.foldl (fun s m => s.tryCopy e.1 m.1) s) s

/-- The old home begins a granted move: a row without TRAINED is copied within MAINT; a TRAINED row in Phase A (R388, R389). -/
def State.beginRowMove (s : State) (tn key dest slot : Nat) (ret : Bool) : State :=
  match s.table tn with
  | none => s
  | some t =>
    (s.putTable tn { t with moves := mapPut t.moves key ⟨dest, slot, ret, s.bel.frame, s.moveStep, false, false, 0⟩ }).tryCopy tn key

/-- Records that name another module or a move. -/
def Table.liveRedirects (t : Table) (me : Nat) : Nat :=
  (t.redirects.filter fun r => r.2.home != me || r.2.moving.isSome).length

/-- The module that holds a row's redirect record grants or refuses a move (R384, R386). -/
def State.grantRow (s : State) (tn key by_ dest : Nat) (ret : Bool) (slot : Option Nat) : State :=
  match s.table tn with
  | none => s
  | some t =>
    let me := s.modNo
    let r : Redirect := (mapFind t.redirects key).getD ⟨me, 0, none, 0, 0, 0, false, (me, 0)⟩
    let known := (mapFind t.redirects key).isSome
    let ok := r.moving.isNone && !s.bel.econ && (!known || decide (r.flip + s.tier.regs.hold ≤ s.bel.frame)) &&
      decide (t.liveRedirects me < 65536 ∨ r.home ≠ me) &&
      (if ret then dest == me && r.home != me else dest != me && slot.isSome && dest != r.home)
    if ok then
      let r1 := { r with moving := some (dest, slot.getD 0), grant := s.bel.frame, step := s.moveStep, copied := false }
      let s1 := s.putTable tn { t with redirects := mapPut t.redirects key r1 }
      if r.home = me then s1.beginRowMove tn key dest (slot.getD 0) ret
      else s1.send (.rowMoveGrant r.home tn key dest (slot.getD 0) true)
    else
      ([by_, dest].eraseDups.filter fun m => m != me).foldl (fun s m => s.send (.rowMoveGrant m tn key dest (slot.getD 0) false)) s

/-- Asks for a move of a row that this module homes: a return goes to the record's module, any other to the destination
first (R384). -/
def State.requestRow (s : State) (tn : Nat) (t : Table) (key dest count : Nat) (ret : Bool) : State :=
  if ret then
    match s.baseHome t key with
    | some b => if b = s.modNo then s.grantRow tn key b b true none else s.send (.rowMoveReq b tn key s.modNo b count true)
    | none => s
  else s.send (.rowMoveReq dest tn key s.modNo dest count false)

/-- ROW_MOVE_REQUEST: at the destination, a slot is reserved where the load allows it; at the module of the redirect record,
the move is granted or refused, `slot` being the destination's; at the old home a granted move begins; `refused` tells the destination
that the record's module has refused, and its slot is free again (R384, R386). -/
def rowMoveRequest (tn version row by_ dest count : Nat) (ret : Bool) (slot : Option Nat) (refused : Bool) (s : State) : State :=
  match s.table tn with
  | none => s
  | some t =>
    let key := rowKey version row
    if refused then match t.reserved key with
      | some (i, _) => if dest = s.modNo then s.putTable tn { t with hot := mapErase t.hot i } else s
      | none => s
    else if s.homesVa (t.baseAddr key) then s.grantRow tn key by_ dest ret slot
    else if dest = s.modNo then
      let back := (s.baseHome t key).getD by_
      match t.freeSlot with
      | some i =>
        if t.lastLoad + count ≤ t.loadLimit ∧ s.bel.econ = false ∧ (t.hotAt key).isNone ∧ (t.reserved key).isNone then
          (s.takeSlot tn t key i).send (.rowMoveGrant back tn key dest i true)
        else s.send (.rowMoveGrant back tn key dest 0 false)
      | none => s.send (.rowMoveGrant back tn key dest 0 false)
    else match t.hotAt key, slot with
      | some _, some i => s.beginRowMove tn key dest i ret
      | _, _ => s

/-! ## Copies (R388, R389) -/

/-- Stages new bytes for a row's part as a delta against its present words (R389). -/
def State.stagePart (s : State) (a : Nat) (new : List Byte) : State :=
  if new.isEmpty then s
  else
    let n := pad8 new.length
    let old := s.peekLocal a n
    ((s.meetPoison a n).chargeLocal a n).stageDelta a (subWords (new ++ old.drop new.length) old)

/-- Stages the parts of a TRAINED row. -/
def State.stageRow (s : State) (t : Table) (p : Nat × Nat × Nat) (bytes : List Byte) : State :=
  ((s.stagePart p.1 (bytes.take t.valueBytes)).stagePart p.2.1 ((bytes.drop t.valueBytes).take t.mBytes)).stagePart p.2.2
    ((bytes.drop (t.valueBytes + t.mBytes)).take t.vBytes)

/-- ROW_COPY: the words of a moving row reach the new home, which writes them into the slot, or for a TRAINED row stages
them, and acknowledges (R388, R389). -/
def rowCopy (src tn version row : Nat) (bytes : List Byte) (tag : Nat) (s : State) : State :=
  match s.table tn with
  | none => s
  | some t =>
    let key := rowKey version row
    match t.reserved key with
    | some (i, h) =>
      let r := if t.trained then (0, (s.stagePart (t.slotAddr i) (t.slotHeader key)).stageRow t (t.slotParts i) bytes)
        else s.pokeFor (.remote src tag) (t.slotParts i).1 (bytes.take t.valueBytes)
      let s1 := r.2.putTable tn { t with hot := mapPut t.hot i { h with copied := true } }
      if r.1 = 0 then s1.send (.bulkAck src tag) else s1
    | none =>
      match mapFind t.redirects key with
      | some r =>
        if r.moving.isSome then
          let s1 := if t.trained then s.stageRow t (t.baseParts key) bytes else s
          (s1.putTable tn { t with redirects := mapPut t.redirects key { r with copied := true } }).send (.bulkAck src tag)
        else s
      | none => s

/-- Copies of TRAINED rows whose moves this step carries go out (R389). -/
def State.sendTrained (s : State) : State :=
  s.tables.entries.foldl (fun s e =>
    if e.2.trained then
      (e.2.moves.filter fun m => !m.2.sent && m.2.step == s.run.step).foldl (fun s m => s.sendCopy e.1 m.1 m.2) s
    else s) s

/-- Whether an inbound copy of the step is not yet staged (R389). -/
def State.inboundWaiting (s : State) : Bool :=
  s.tables.entries.any fun e => e.2.trained &&
    ((e.2.hot.any fun h => !h.2.live && !h.2.copied && h.2.step == s.run.step) ||
     (e.2.redirects.any fun r => r.2.moving.isSome && !r.2.copied && r.2.step == s.run.step &&
        (match r.2.moving with
          | some d => d.1 == s.modNo
          | none => false)))

/-! ## Flips, signposts and abandoned moves (R388, R389) -/

/-- Counts a flip (Table 12-5). -/
def State.countFlip (s : State) : State :=
  { s with tables := { s.tables with moves := satAdd 16 s.tables.moves 1 } }

/-- The flip of a row at this module: as old home, as new home, as the module of the redirect record. `ready` holds for each
part on the tick and the step of its grant, and where this module is the old home on the tick from which the copy lets it flip. -/
def State.flipRow (s : State) (tn key : Nat) (ready : Nat → Nat → Bool) : State :=
  match s.table tn with
  | none => s
  | some t =>
    let me := s.modNo
    let f := s.bel.frame
    let out := (mapFind t.moves key).filter fun m => m.copied && decide (m.flipFrom ≤ s.bel.frame) && ready m.grant m.step
    let inn := (t.reserved key).filter fun h => h.2.copied && ready h.2.flip h.2.step
    let t1 := match out with
      | some m => { t with moves := mapErase t.moves key, signposts := mapPut t.signposts key (m.dest, f),
                           hot := t.hot.map fun h => if h.2.row == keyRow key && h.2.version == keyVersion key && h.2.live
                             then (h.1, { h.2 with live := false, flip := f }) else h }
      | none => t
    let t2 := match inn with
      | some (i, h) => { t1 with hot := mapPut t1.hot i { h with live := true, flip := f } }
      | none => t1
    let rec1 := (mapFind t.redirects key).bind fun r => r.moving.map fun d => (r, d)
    let backHere := match rec1 with
      | some (r, d) => d.1 == me && r.copied && ready r.grant r.step
      | none => false
    let t3 := match rec1 with
      | some (r, d) =>
        if (d.1 = me ∧ backHere = false) ∨ (r.home = me ∧ out.isNone) ∨ ready r.grant r.step = false then t2
        else { t2 with redirects := mapPut t2.redirects key ⟨d.1, d.2, none, r.grant, r.step, f, false, (r.home, r.slot)⟩ }
      | none => t2
    let s1 := s.putTable tn t3
    let s2 := if out.isSome then s1.countFlip else s1
    if inn.isSome || backHere then s2.countFlip else s2

/-- ROW_MOVE_FLIP: at a tick after the grant, the copy acknowledged before cycle 16,256 of the frame before, a row without TRAINED
flips (R388). -/
def rowMoveFlip (tn version row : Nat) (s : State) : State :=
  match s.table tn with
  | some t => if t.trained ∨ s.bel.cycle ≠ 0 then s else s.flipRow tn (rowKey version row) fun grant _ => decide (grant < s.bel.frame)
  | none => s

/-- TRAINED_ROW_FLIP: at the first tick after the commit records of the step of its grant are written, a TRAINED row flips. This
module's record stands before the tick; that the other home's does, the command says (R389; DESIGN CHOICE, log 145). -/
def trainedRowFlip (tn version row : Nat) (s : State) : State :=
  match s.table tn with
  | some t =>
    if t.trained ∧ s.bel.cycle = 0 ∧ s.fab.lastFrame < s.bel.frame then
      s.flipRow tn (rowKey version row) fun _ n => s.run.anyCommit && decide (n ≤ s.run.committed) && s.smithy.phase == 0
    else s
  | none => s

/-- ROW_SIGNPOST_EXPIRE: one frame after the flip the signpost goes and an old hot slot is free (R388). -/
def rowSignpostExpire (tn version row : Nat) (s : State) : State :=
  match s.table tn with
  | none => s
  | some t =>
    let key := rowKey version row
    match mapFind t.signposts key with
    | some p =>
      if p.2 < s.bel.frame then
        let old (h : Nat × HotSlot) : Bool := !h.2.live && h.2.row == row && h.2.version == version
        s.putTable tn { t with signposts := mapErase t.signposts key, hot := t.hot.filter fun h => !old h,
                               gone := if t.trained then (t.gone.filter fun h => decide (s.fab.lastFrame ≤ h.2.flip)) ++ t.hot.filter old
                                 else t.gone }
      else s
    | none => s

/-- ROW_MOVE_ABANDON: a move of a row without TRAINED that has not flipped within 64 frames of its grant is abandoned, and
a TRAINED move whose step has stopped (R388, R389). -/
def rowMoveAbandon (tn version row : Nat) (s : State) : State :=
  match s.table tn with
  | none => s
  | some t =>
    let key := rowKey version row
    let due (grant : Nat) : Bool := if t.trained then s.rec0.stopped else decide (grant + 64 ≤ s.bel.frame) && s.bel.cycle == 0
    let moves := match mapFind t.moves key with
      | some m => if due m.grant then mapErase t.moves key else t.moves
      | none => t.moves
    let hot := match t.reserved key with
      | some (i, h) => if due h.flip then mapErase t.hot i else t.hot
      | none => t.hot
    let redirects := match mapFind t.redirects key with
      | some r => if r.moving.isSome && due r.grant then
          (if r.home = s.modNo then mapErase t.redirects key else mapPut t.redirects key { r with moving := none })
        else t.redirects
      | none => t.redirects
    s.putTable tn { t with moves := moves, hot := hot, redirects := redirects }

/-! ## The end of an epoch (R243-R246, R383, R384) -/

/-- Rows whose move this module asks for: candidates in descending count until the excess is covered, at most 16 (R384). -/
def pickRows : Nat → Nat → List Cand → List Cand
  | 0, _, _ => []
  | _, 0, _ => []
  | k + 1, excess, c :: t => c :: pickRows k (excess - c.count) t
  | _, _, [] => []

/-- A table's requests at an epoch end (R384). -/
def State.tableRequests (s : State) (tn : Nat) (t : Table) : State :=
  match t.currentV with
  | none => s
  | some v =>
    if !t.hotMove || t.loadLimit = 0 || s.bel.econ then s
    else
      let me := s.modNo
      let cs := t.cands.mergeSort fun a b => if a.count = b.count then decide (a.row ≤ b.row) else decide (b.count ≤ a.count)
      let here := cs.filter fun c =>
        let key := rowKey v.version c.row
        (match s.rowAt t key with
          | .slot _ | .base => true
          | _ => false) && c.top != me && (mapFind t.moves key).isNone && s.baseHome t key != some c.top
      let s1 := (pickRows 16 (t.load - t.loadLimit) here).foldl (fun s c =>
        s.requestRow tn t (rowKey v.version c.row) c.top c.count false) s
      (t.hot.filter fun h => h.2.live).foldl (fun s h =>
        let n := ((t.cands.find? fun c => c.row == h.2.row).map Cand.count).getD 0
        if n * 4096 < t.loadLimit then s.requestRow tn t (rowKey h.2.version h.2.row) 0 n true else s) s1

/-- The counts of an epoch pass to the last epoch's (R383). -/
def Table.endEpoch (t : Table) : Table :=
  { t with lastLoad := t.load, lastFrameMax := max t.frameMax t.frameLoad, lastCands := t.cands, load := 0, frameLoad := 0,
           frameMax := 0, cands := [] }

/-- The table of highest LOAD / LOAD_LIMIT (Table 12-6). -/
def topSkew : List (Nat × Table) → Option (Nat × Table)
  | [] => none
  | e :: t =>
    if e.2.loadLimit = 0 then topSkew t
    else match topSkew t with
      | some d => if d.2.lastLoad * e.2.loadLimit ≤ e.2.lastLoad * d.2.loadLimit then some e else some d
      | none => some e

/-- TBL_SKEW after an epoch (R383, Table 12-6). -/
def State.noteSkew (s : State) : State :=
  match topSkew s.tables.entries with
  | some (n, t) => { s with tables := { s.tables with skewTable := n, skewLoad := min t.lastLoad 0xFFFFFFFF,
                                                      skewRatio := min (t.lastLoad * 256 / t.loadLimit) 0xFFFF } }
  | none => { s with tables := { s.tables with skewTable := 0, skewLoad := 0, skewRatio := 0 } }

/-- EPOCH_END: at a tick that ends an epoch, heat decays, pulls and pushes are requested, and hot rows ask to move; none is
requested while the economy cap is in force; `room` names the other modules that accept a page (R243-R246, R383, R384, Table 03-7). -/
def epochEnd (room : List (Nat × Bool)) (s : State) : State :=
  if s.bel.frame % 2 ^ s.tier.regs.epoch ≠ 0 ∨ s.bel.cycle ≠ 0 then s
  else
    let s1 := s.decayHeat
    let s2 := if s1.bel.econ then s1
      else
        let s3 := (List.range 8).foldl (fun s a => (s.pullsOf a).foldl (fun s v =>
          if s.quotaRoom 0 1 then s.requestMove v s.modNo false else s) s) s1
        s3.pushHeat room
    let s4 := s2.tables.entries.foldl (fun s e => s.tableRequests e.1 e.2) s2
    let es := s4.tables.entries.map fun e => (e.1, e.2.endEpoch)
    ({ s4 with tables := { s4.tables with entries := es } }).noteSkew

/-- BELL_TICK with what the tables and the tiers do at a tick: moves that wait for the MAINT budget go on, and commands that waited may
find what they waited for (R48, R60, R248, R373, R383, R388, R391). -/
def bellTickAll (s : State) : State := (bellTick s.sweepVersions).tickTables.streamMoves.sendCopies.tellReady.wake

end Sys2Proof.Machine
end

