-- ==== Sys2Proof/Machine/Xfer.lean ====
section
/-! DEFINITION. The DMA/transfer engine: XCOPY, XSEND, collective steps, and the messages they send
(spec/05 R141; spec/09, R289-R296). -/

namespace Sys2Proof.Machine

/-- Sends a bulk message that will be acknowledged: no live route raises ROUTE_NONE (R280, R289, R290). -/
def sendBulk (dest : Nat) (msg : Nat → Msg) : EM Unit := do
  let w ← get
  let _ ← eget (w.s.route dest) cRouteNone
  let tag := w.s.fab.tagNext
  let s1 := w.s
  set { w with acks := w.acks + 1,
               s := { s1 with fab := { s1.fab with tagNext := tag + 1 },
                              tier := { s1.tier with writesOut := s1.tier.writesOut ++ [WriteOut.mk tag w.who 0 [] false none] },
                              outbox := s1.outbox ++ [msg tag] } }

/-! ## Data that arrives (R289, R293, R296) -/

/-- The first piece of a message's data that cannot be written: no entry anywhere, or one that allows no write. -/
def State.refuses (s : State) (who : Requester) (va n : Nat) : Option Nat :=
  ((piecesOf va n).find? fun p => match s.lookFor who (p.1 / pageBytes) with
    | .entry e => !e.w || s.tier.codePages.contains (p.1 / pageBytes)
    | .none => true
    | .query _ => false).map Prod.fst

/-- Pages of a message's data whose entries are still to come, with the modules to ask (R237). -/
def State.unknownPages (s : State) (who : Requester) (va n : Nat) : List (Nat × Nat) :=
  (piecesOf va n).filterMap fun p => match s.lookFor who (p.1 / pageBytes) with
    | .query d => some (p.1 / pageBytes, d)
    | _ => none

/-- Writes the pieces of a message's data; `some` address where a piece cannot be written. -/
def State.writeData (s : State) (who : Requester) : List (Nat × Nat) → List Byte → Option Nat × State
  | [], _ => (none, s)
  | p :: t, bytes =>
    match s.writePiece who p.1 (bytes.take p.2) with
    | .ok _ s1 => State.writeData s1 who t (bytes.drop p.2)
    | .wait s1 => (some p.1, s1)
    | .fault _ s1 => (some p.1, s1)

/-- The bytes of an XSEND or a PASS are written at their home, from here if need be; once every one is visible PASS adds to its counter and
the sender gets its acknowledgement. `refuse` is what becomes of data that cannot be written (R242, R252, R289, R296). -/
def State.takeData (s : State) (refuse : State → Nat → State) (src addr : Nat) (bytes : List Byte) (tag : Nat)
    (aux : Option (Nat × Nat × Nat)) : State :=
  match s.writeData (.bulk src tag) (piecesOf addr bytes.length) bytes with
  | (some va, s1) => refuse s1 va
  | (none, s1) => (s1.modTier fun t => { t with bulks := t.bulks ++ [(src, tag, aux)] }).bulkDone src tag

/-- A PASS to this module itself: the bytes are written here and the counter added to once every one is visible, with no cell sent (R280,
R296). -/
def passHere (addr : Nat) (bytes : List Byte) (aux : Nat × Nat × Nat) : EM Unit := do
  let w ← get
  match w.s.refuses w.who addr bytes.length, w.s.unknownPages w.who addr bytes.length with
  | some va, _ => efault (match w.s.lookFor w.who (va / pageBytes) with
    | .entry _ => cXlateWrite
    | _ => cXlateInvalid)
  | none, (v, d) :: _ => do
    let s1 ← eget (w.s.askDir w.who v d) cRouteNone
    set { w with s := s1, missing := true }
    throw .wait
  | none, [] =>
    let tag := w.s.fab.tagNext
    let s1 : State := { w.s with fab := { w.s.fab with tagNext := tag + 1 } }
    let s2 := s1.modTier fun t => { t with writesOut := t.writesOut ++ [WriteOut.mk tag w.who 0 [] false none] }
    let s3 := s2.takeData (fun s va => s.writeFailed (.bulk s.modNo tag) va) s1.modNo addr bytes tag (some aux)
    set { w with s := s3, acks := w.acks + bnat (s3.tier.writesOut.any fun x => x.tag == tag) }

/-- A partial or chunk that this module sends to itself goes into its own staging, once there is room (R280, R293). -/
def stageHere (key : PartKey) (bytes : List Byte) : EM Unit := do
  let w ← get
  if 2 ^ 28 < w.s.stagedBytes + bytes.length then throw .wait
  else emod fun s => ({ s with fab := { s.fab with staging := s.fab.staging ++ [(⟨key, some s.modNo, bytes, none⟩ : Staged)] } }).wake

/-- Sends a partial or chunk to a peer, or keeps it here where the peer is this module (R280, R293). -/
def sendPartial (peer : Nat) (key : PartKey) (bytes : List Byte) : EM Unit := do
  let w ← get
  if peer = w.s.modNo then stageHere key bytes
  else sendBulk peer fun tag => .partial_ peer key bytes tag

/-! ## XCOPY and XSEND -/

/-- Reads all the accesses of a descriptor, asking for everything before waiting. -/
def descReadSoon (d : Desc) : EM (List Byte) := do
  let bs ← d.accesses.mapM fun a => spaceRead d a d.size.toNat
  awaitReads
  pure bs.flatten

/-- XCOPY reads all its source bytes before it writes any, so a destination may overlap the source (R141; DESIGN CHOICE,
log 138). -/
def xcopyWork (e : EArgs) : EM Unit := do
  needDesc e.d1
  needDesc e.d2
  echeck (e.d1.total == e.d2.total) cLsRange
  let bytes ← descReadSoon e.d1
  descWriteAll e.d2 e.d2.accesses bytes

/-- XSEND (R289). A destination that is this module is written here. -/
def xsendWork (e : EArgs) : EM Unit := do
  needDesc e.d1
  let dest := e.param.toNat / 2 ^ 52
  let base := e.param.toNat % 2 ^ 52
  let w ← get
  echeck (dest == w.s.modNo || (w.s.route dest).isSome) cRouteNone
  let bytes ← descReadSoon e.d1
  if dest = w.s.modNo then vaWrite base bytes
  else sendBulk dest fun tag => .xsend dest base bytes tag none

/-! ## Collectives (R291-R296) -/

/-- is_node(lo, n, L) of R294; the fuel bounds the depth of the tree. -/
def isNodeFrom : Nat → Nat → Nat → Nat → Nat → Bool
  | 0, _, _, _, _ => false
  | k + 1, lo, n, a, m =>
    if m < n || lo < a || a + m < lo + n then false
    else if lo = a && n = m then true
    else if m = 1 then false
    else
      let h := halfPow m
      if lo < a + h then isNodeFrom k lo n a h else isNodeFrom k lo n (a + h) (m - h)

/-- Whether leaves lo..lo+n−1 form a node of R35's tree over L leaves (R294). -/
def isNode (lo n L : Nat) : Bool := isNodeFrom 33 lo n 0 L

/-- Bytes of a partial of the step's chunk (R293). -/
def CollStep.partBytes (c : CollStep) : Nat := c.elements * (if c.fmt = 10 then 9 else 4)

/-- Combines two partials of one chunk: R28 for A48, exact addition with OVF for I32 (R293). The count is of OVF arisen. -/
def combineParts (fmt : Nat) (n : Nat) (l r : List Byte) : List Byte × Nat :=
  if fmt = 10 then
    let rs := ((a48s n l).zip (a48s n r)).map fun p => p.1.combine p.2
    (rs.flatMap fun x => x.1.toBytes, (rs.filter Prod.snd).length)
  else
    let rs := ((natsOf 4 n l).zip (natsOf 4 n r)).map fun p =>
      addEls .i32 (.int ⟨Fmt.i32.decode p.1, 0⟩, 0) (.int ⟨Fmt.i32.decode p.2, 0⟩, 0)
    (rs.flatMap fun x => match x.1 with
      | .int e => bytesOfNat 4 (Fmt.i32.encode e.q)
      | .acc _ => [], rs.foldl (fun k x => k + x.2) 0)

/-- The entry of staging that a step takes: from a peer, what that peer sent; otherwise the held partial of the key, or the one
received under it (R293). -/
def State.stagedFor (s : State) (key : PartKey) : Option Nat → Option Staged
  | some m => s.fab.staging.find? fun p => p.key == key && p.peer == some m
  | none => match s.fab.staging.find? fun p => p.key == key && p.peer.isNone with
    | some p => some p
    | none => s.fab.staging.find? fun p => p.key == key

/-- Takes a partial from staging, which frees it; while it is not there the command waits (R293, R295). -/
def takeStaged (key : PartKey) (peer : Option Nat) : EM (List Byte) := do
  let w ← get
  match w.s.stagedFor key peer with
  | none => throw .wait
  | some p =>
    emod fun s => ({ s with fab := { s.fab with staging := s.fab.staging.erase p } }).pushLinks
    pure p.bytes

/-- The local operand under LOCAL, with its byte count checked (R294). -/
def localOperand (e : EArgs) (n : Nat) : EM (List Byte) := do
  needDesc e.d1
  echeck (e.d1.total == n) cLsRange
  descReadSoon e.d1

/-- Writes a step's result to STD, with its byte count checked (R294). -/
def writeResult (e : EArgs) (bytes : List Byte) : EM Unit := do
  needDesc e.d2
  echeck (e.d2.total == bytes.length) cLsRange
  descWriteAll e.d2 e.d2.accesses bytes

/-- XCOLL: one step of a collective (R293-R296). -/
def xcollWork (e : EArgs) : EM Unit := do
  let w ← get
  let p := e.param.toNat
  let coll := field p 63 48
  let c ← eget (w.s.collOf (w.s.core w.core) w.task e.param) cCollOrder
  let key (lo n : Nat) : PartKey := ⟨coll, c.chunk, lo, n⟩
  let pb := c.partBytes
  let cb := c.elements * c.elemBytes
  match c.op with
  | 0 => do
    echeck (isNode c.lo c.n c.leaves) cCollOrder
    let b ← (if c.local_ then localOperand e pb else takeStaged (key c.lo c.n) none)
    sendPartial c.peer (key c.lo c.n) b
  | 1 => do
    echeck (isNode c.lo c.n c.leaves && decide (2 ≤ c.n)) cCollOrder
    let h := halfPow c.n
    let lk := key c.lo h
    let rk := key (c.lo + h) (c.n - h)
    if c.final then
      needDesc e.d2
      echeck (e.d2.total == pb) cLsRange
    let mine ← (if c.local_ then localOperand e pb else takeStaged (if c.recvLeft then rk else lk) none)
    let got ← takeStaged (if c.recvLeft then lk else rk) (some c.peer)
    let r := if c.recvLeft then combineParts c.fmt c.elements got mine else combineParts c.fmt c.elements mine got
    noteNum ⟨0, r.2⟩
    if c.final then writeResult e r.1
    else emod fun s => { s with fab := { s.fab with staging := s.fab.staging ++ [⟨key c.lo c.n, none, r.1, none⟩] } }
  | 2 => do
    let b ← (if c.local_ then localOperand e pb else takeStaged (key 0 c.leaves) none)
    writeResult e b
  | 3 => do
    let b ← localOperand e cb
    sendPartial c.peer ⟨coll, c.chunk, 0, 0⟩ b
  | 4 => do
    needDesc e.d2
    echeck (e.d2.total == cb) cLsRange
    let b ← takeStaged ⟨coll, c.chunk, 0, 0⟩ (some c.peer)
    writeResult e b
  | 5 => do
    needDesc e.d1
    let b ← descReadSoon e.d1
    let aux := (field c.aux 7 0, field c.aux 13 8, field c.aux 16 14)
    if c.peer = w.s.modNo then passHere c.addr b aux
    else sendBulk c.peer fun tag => .xsend c.peer c.addr b tag (some aux)
  | _ => efault cCollOrder

end Sys2Proof.Machine
end

