-- ==== Sys2Proof/Machine/Smithy.lean ====
section
/-! DEFINITION. The granary and the smithy: STASH, UNSTASH, smithy staging, parity reduction, APPLY and the phases of a
commit (spec/11 R340-R365; spec/09 R298-R302). -/

namespace Sys2Proof.Machine

/-- The STS and STD fields of the started command, before any detour (R113). -/
def reqFields : EM (StReg × StReg) := do
  let w ← get
  let base : StReg := match w.task.detour with
    | some d => d.stBase
    | none => 0
  match ((w.s.core w.core).queue w.queue).run with
  | some r => pure (r.cmd.d1 - base, r.cmd.d2 - base)
  | none => pure (0, 0)

/-! ## Granary (R340-R350) -/

/-- A tile in memory as it will be written again: header, format and rows; `none` where Table 06-9 finds it invalid. -/
def parseTile (b : List Byte) : Option (TileHdr × Fmt × List TileRow) := do
  let h ← TileHdr.ofNat (natOfBytes (b.take 16))
  let f ← tileFmt h.fmt
  if h.form ≤ 2 ∧ (h.kp = 64 ∨ h.kp = 128 ∨ h.kp = 256) ∧ 1 ≤ h.rows ∧ h.rows ≤ 64 ∧
      h.bytes = tileBytes f h.form h.rows h.kp h.nnz ∧ h.bytes ≤ b.length then
    let body := (b.drop 16).take (h.bytes - 16)
    let eb := expBytes f h.rows h.kp
    let codes ← bodyCodes f h (body.drop eb)
    let exps := (body.take eb).map fun e => if e = 0x80#8 then (none : Option Int) else some (signedOf 8 e.toNat)
    let per := h.kp / 32
    some (h, f, (List.range h.rows).map fun r =>
      ⟨if f.blocked then (exps.drop (r * per)).take per else [], ((codes.drop (r * h.kp)).take h.kp).map f.decode⟩)
  else none

/-- Re-encodes a sequence of tiles; the flag of each says STRUCT_VIOLATION; `none` where a tile is invalid or, with
`dense`, not DENSE (R342, R343). -/
def recodeTiles (dense compact : Bool) (struct thresh : Nat) : Nat → List Byte → Option (List (List Byte × Bool))
  | 0, b => if b.isEmpty then some [] else none
  | k + 1, b =>
    if b.isEmpty then some []
    else do
      let t ← parseTile b
      if dense && t.1.form != 0 then none
      else
        let rest ← recodeTiles dense compact struct thresh k (b.drop t.1.bytes)
        some (encodeTile t.2.1 t.1.kp compact struct thresh t.2.2 :: rest)

/-- Whether every page of a range is homed in this module's host memory (R348). -/
def State.allHost (s : State) (va n : Nat) : Bool :=
  (piecesOf va n).all fun p => match mapFind s.tier.xlate (p.1 / pageBytes) with
    | some e => e.tier == .host
    | none => false

/-- Counts a drop or a spill (R350). -/
def TierRegs.noteDrop (r : TierRegs) : TierRegs := { r with drops := satAdd 20 r.drops 1, drop := true }
/-- Counts a spill (R350). -/
def TierRegs.noteSpill (r : TierRegs) : TierRegs := { r with spills := satAdd 20 r.spills 1, spill := true }

/-- STASH's work on a slot that it has made PENDING (R342-R348). -/
def stashWork (slot : Nat) (x : SlotEntry) (e : EArgs) : EM Unit := do
  let f ← reqFields
  echeck (f.2 == 0) cLsRange
  needDesc e.d1
  echeck (decide (e.d1.total ≤ x.maxBytes) && e.d1.total % 16 == 0) cLsRange
  let w ← get
  if x.mode = 1 ∧ w.s.allHost x.home (max x.maxBytes 1) = false then do
    emod fun s => { s with granary := { s.granary with slots := mapErase s.granary.slots slot } }
    efault cStashInvalid
  let src ← descReadSoon e.d1
  if x.mode = 1 then do
    vaWrite x.home src
    emod fun s => s.setSlot slot ⟨.stored, x.home, src.length⟩
  else do
    let ts ← (if x.tiles then eget (recodeTiles true true x.struct x.thresh (src.length / 16 + 1) src) cTileInvalid
      else pure [(src, false)])
    let out := ts.flatMap Prod.fst
    if x.tiles then
      emod fun s => s.modCore w.core fun k => { k with regs := k.regs.noteStruct (ts.filter Prod.snd).length }
    let n := out.length
    let g := w.s.granary
    let room := 64 * ((n + 63) / 64)
    if n ≤ x.reserve then do
      vaWrite x.home out
      emod fun s => s.setSlot slot ⟨.kept, x.home, n⟩
    else if x.spill && decide (g.cursor + room ≤ g.spill.2) then do
      let a := g.spill.1 + g.cursor
      vaWrite a out
      emod fun s =>
        let s1 := s.setSlot slot ⟨.spilled, a, n⟩
        { s1 with granary := { s1.granary with cursor := g.cursor + room },
                  tier := { s1.tier with regs := s1.tier.regs.noteSpill } }
    else if x.recompute then
      emod fun s =>
        let s1 := s.setSlot slot ⟨.dropped, 0, 0⟩
        { s1 with tier := { s1.tier with regs := s1.tier.regs.noteDrop } }
    else efault cStashExhausted

/-- STASH: its slot, PENDING since its start, takes its final state; a second STASH of a slot, and one of a slot that no table declares,
raise STASH_INVALID (R344, R345). -/
def stashRow (c : CoreId) (s : State) : State :=
  match tgtQueue s.unitsEff 5 with
  | none => s
  | some q =>
    match startedAs (s.core c) q .x 2 5 with
    | none => s
    | some r =>
      let slot := field r.args.param.toNat 63 48
      match s.run.active.slotEntry slot, mapFind s.granary.slots slot with
      | none, _ => runWork c q r (efault cStashInvalid) s
      | some x, some g =>
        if g.state = .pending ∧ g.addr = ownerOf c q then runWork c q r (stashWork slot x r.args) s
        else runWork c q r (efault cStashInvalid) s
      | some x, none => runWork c q r (stashWork slot x r.args) s

/-- The checks that precede UNSTASH's work: its slot as declared and as it stands (R343, R344). -/
def unstashPrepare (e : EArgs) : EM (SlotEntry × GSlot) := do
  let f ← reqFields
  echeck (f.1 == 0) cLsRange
  needDesc e.d2
  let w ← get
  let slot := field e.param.toNat 63 48
  let x ← eget (w.s.run.active.slotEntry slot) cStashInvalid
  let g ← eget (mapFind w.s.granary.slots slot) cStashInvalid
  echeck (g.state != .dropped) cStashInvalid
  echeck (decide (x.maxBytes ≤ e.d2.total)) cLsRange
  if g.state = .pending then throw .wait
  pure (x, g)

/-- UNSTASH (R343, R344). -/
def unstashWork (e : EArgs) : EM Unit := do
  let q ← unstashPrepare e
  let x := q.1
  let g := q.2
  let dense := bit e.param.toNat 47
  let b ← vaReadSoon g.addr g.size
  awaitReads
  let out ← (if x.tiles && dense then do
      let ts ← eget (recodeTiles false false 0 0 (b.length / 16 + 1) b) cTileInvalid
      pure (ts.flatMap Prod.fst)
    else pure b)
  let sz := max e.d2.size.toNat 1
  descWriteAll e.d2 (e.d2.accesses.take (out.length / sz)) out
  let rest := out.length % sz
  if rest = 0 then pure ()
  else match e.d2.accesses[out.length / sz]? with
    | some a => spaceWrite e.d2 a (out.drop (out.length - rest))
    | none => pure ()

/-! ## Update descriptors (R352-R354, R382) -/

/-- An update descriptor (Table 11-5). -/
structure Upd where
  kind : Nat
  flags : Nat
  elems : Nat
  legW : Nat
  legG : Nat
  legM : Nat
  legV : Nat
  rows : Nat
  wBase : Nat
  gBase : Nat
  mBase : Nat
  vBase : Nat
  mask : Nat
  wStr : Nat
  gStr : Nat
  mStr : Nat
  vStr : Nat
  lrQ : Nat
  lrT : Int
  b1 : Nat
  b2 : Nat
  wd : Nat
  eps : Nat
  row0 : Nat
deriving DecidableEq, Repr

/-- The fields of the 128 bytes; reserved bytes and bits are ignored (R4). -/
def Upd.of (b : List Byte) : Upd :=
  let n (o k : Nat) : Nat := natOfBytes ((b.drop o).take k)
  { kind := n 0 1, flags := n 1 1, elems := n 2 2, legW := n 4 2, legG := n 6 2, legM := n 8 2, legV := n 10 2,
    rows := n 12 4, wBase := n 16 8, gBase := n 24 8, mBase := n 32 8, vBase := n 40 8, mask := n 48 8, wStr := n 56 4,
    gStr := n 60 4, mStr := n 64 4, vStr := n 68 4, lrQ := n 72 4, lrT := signedOf 8 (n 76 1),
    b1 := n 78 2, b2 := n 80 2, wd := n 82 2, eps := n 84 4, row0 := n 88 8 }

/-- Whether the kind uses a first state. -/
def Upd.hasM (u : Upd) : Bool := u.kind != 0
/-- Whether the kind uses a second state. -/
def Upd.hasV (u : Upd) : Bool := u.kind == 2
/-- MASKED. -/
def Upd.masked (u : Upd) : Bool := bit u.flags 0

/-- Legends of a request: parameters, gradient, first and second state. -/
structure UpdLegs where
  w : Legend
  g : Legend
  m : Option Legend
  v : Option Legend
deriving DecidableEq, Repr

/-- Reads the legends; an index at or above LEGEND_COUNT raises LEGEND_INVALID (R354). -/
def updLegs (u : Upd) : EM UpdLegs := do
  let w ← get
  let lw ← eget (w.s.legend (u.legW % 4096)) cLegendInvalid
  let lg ← eget (w.s.legend (u.legG % 4096)) cLegendInvalid
  let lm ← (if u.hasM then do let l ← eget (w.s.legend (u.legM % 4096)) cLegendInvalid; pure (some l) else pure none)
  let lv ← (if u.hasV then do let l ← eget (w.s.legend (u.legV % 4096)) cLegendInvalid; pure (some l) else pure none)
  pure ⟨lw, lg, lm, lv⟩

/-- A base and a stride that R353 allows for rows of `n` bytes. -/
def layoutOk (base stride n : Nat) : Bool :=
  base % 65536 == 0 && stride % 8 == 0 && decide (n ≤ stride) && decide (1 ≤ stride) && decide (stride ≤ 65536)

/-- The checks of R354 on fields alone. -/
def Upd.fieldsOk (u : Upd) (l : UpdLegs) (first count : Nat) : Bool :=
  let st (f : Fmt) : Bool := f == .i16 || f == .i32
  let okM : Bool := match l.m with
    | some m => st m.fmt && layoutOk u.mBase u.mStr (m.fmt.rowBytes u.elems)
    | none => u.legM == 0 && u.mBase == 0 && u.mStr == 0
  let okV : Bool := match l.v with
    | some v => st v.fmt && layoutOk u.vBase u.vStr (v.fmt.rowBytes u.elems)
    | none => u.legV == 0 && u.vBase == 0 && u.vStr == 0
  let fw := l.w.fmt
  decide (u.kind ≤ 3) && decide (1 ≤ u.elems) && decide (u.elems ≤ 8192) &&
  (u.masked || u.mask == 0) && (u.kind != 0 || u.b1 == 0) && (u.kind == 2 || u.kind == 3 || u.b2 == 0) &&
  (if u.kind = 2 then decide (1 ≤ u.eps) && decide (u.eps < 2 ^ 31) else u.eps == 0) && decide (u.lrQ < 2 ^ 31) &&
  decide (first + count ≤ u.rows) &&
  (fw == .i8 || fw == .i16 || fw == .i32 || ((fw == .b8 || fw == .b16) && u.elems % 32 == 0)) &&
  (l.g.fmt == .i16 || l.g.fmt == .i32 || l.g.fmt == .a48) && okM && okV &&
  layoutOk u.wBase u.wStr (fw.rowBytes u.elems) && layoutOk u.gBase u.gStr (l.g.fmt.rowBytes u.elems)

/-- The TRAINED table whose version stands at W_BASE (R382). -/
def State.updTable (s : State) (wBase : Nat) : Option (Nat × Table) :=
  s.tables.entries.find? fun e => e.2.trained && e.2.versions.any fun v => v.2.base == wBase

/-- A table request agrees with its entry (R382). -/
def Upd.agrees (u : Upd) (l : UpdLegs) (t : Table) (step : Nat) : Bool :=
  let f (x : Option Legend) : Nat := match x with
    | some y => y.fmt.code
    | none => 0
  u.gBase == t.gradBase + step % 2 * t.ghalf && some l.g == t.legG && u.gStr == t.gstride && some l.w == t.leg &&
  u.wStr == t.stride && u.elems == t.elems &&
  u.mBase == t.nat 96 8 && u.vBase == t.nat 104 8 && u.mStr == t.nat 112 4 && u.vStr == t.nat 116 4 &&
  f l.m == t.nat 120 1 && f l.v == t.nat 121 1

/-! ## One row (R355-R358) -/

/-- Where a row to be staged stands: parameters, first and second state, gradient; its logical row; its row number. -/
structure UpdRow where
  w : Nat
  m : Nat
  v : Nat
  g : Nat
  logical : Nat
  row : Nat
deriving DecidableEq, Repr

/-- What a row comes to: new rows of parameters and states, or a skip for its gradient or for other OVF (R358). -/
inductive RowResult where
  | new (w m v : List Byte)
  | skipGrad
  | skipOther
deriving DecidableEq, Repr

/-- Values of a stored row. -/
def rowValues (l : Legend) (n : Nat) (b : List Byte) : List (Option Q) := (decodeSrc l.fmt n b).map (SrcEl.value l)

/-- A row without OVF: its values. -/
def allSome (l : List (Option Q)) : Option (List Q) := l.mapM id

/-- Whether an output row holds no OVF code and no OVF block. -/
def OutRow.clean (r : OutRow) : Bool := r.exps.all Option.isSome && r.codes.all Option.isSome

/-- Sign of a rational. -/
def Q.sign (x : Q) : Q := if 0 < x.num then ⟨1, 1⟩ else if x.num < 0 then ⟨-1, 1⟩ else ⟨0, 1⟩

/-- A quotient by 2^16. -/
def q16 (n : Nat) : Q := ⟨n, 65536⟩

/-- Element-wise combination of two rows. -/
def zipQ (f : Q → Q → Q) (a b : List Q) : List Q := (a.zip b).map fun p => f p.1 p.2

/-- Narrowed values and codes of a state row. -/
def narrowState (l : Legend) (key : RandKey) (row : Nat) (vals : List Q) : OutRow :=
  (narrowOut l { key with tensor := l.tensorId } row (vals.map some)).1

/-- Values of an unblocked output row's codes. -/
def OutRow.values (r : OutRow) (l : Legend) : List Q := r.codes.map fun c => l.value (c.getD 0) 0

/-- ρ of each element from the narrowed second state; `none` where VRSQRT has a code ≤ 0 (R355, R358). -/
def rhoRow (l : Legend) (eps : Nat) (r : OutRow) : Option (List Q) :=
  r.codes.mapM fun c => rsqrtValue (c.getD 0 + eps) l.T l.m

/-- The update of one row (R355-R358, Table 11-6). -/
def updateRow (u : Upd) (l : UpdLegs) (key : RandKey) (x : UpdRow) (wb mb vb gb : List Byte) : RowResult :=
  let n := u.elems
  let lr : Q := Q.scale ⟨u.lrQ, 1⟩ u.lrT
  let b1 := q16 u.b1
  let b2 := q16 u.b2
  let c1 : Q := Q.sub ⟨1, 1⟩ b1
  let c2 : Q := Q.sub ⟨1, 1⟩ b2
  match allSome (rowValues l.g n gb) with
  | none => .skipGrad
  | some g =>
    let finish (w : List Q) (dir : List Q) (m v : List Byte) : RowResult :=
      let new := zipQ (fun a d => Q.sub a (Q.mul lr (Q.add d (Q.mul (q16 u.wd) a)))) w dir
      let o := (narrowOut l.w { key with tensor := l.w.tensorId } x.logical (new.map some)).1
      if o.clean then .new (o.bytes l.w.fmt) m v else .skipOther
    match allSome (rowValues l.w n wb), l.m, l.v with
    | none, _, _ => .skipOther
    | some w, none, _ => finish w g [] []
    | some w, some lm, none =>
      match allSome (rowValues lm n mb) with
      | none => .skipOther
      | some m =>
        let next := if u.kind = 1 then zipQ (fun a d => Q.add (Q.mul b1 a) d) m g
          else zipQ (fun a d => Q.add (Q.mul b2 a) (Q.mul c2 d)) m g
        let o := narrowState lm key x.logical next
        if !o.clean then .skipOther
        else
          let dir := if u.kind = 1 then o.values lm
            else zipQ (fun a d => (Q.add (Q.mul b1 a) (Q.mul c1 d)).sign) m g
          finish w dir (o.bytes lm.fmt) []
    | some w, some lm, some lv =>
      match allSome (rowValues lm n mb), allSome (rowValues lv n vb) with
      | some m, some v =>
        let om := narrowState lm key x.logical (zipQ (fun a d => Q.add (Q.mul b1 a) (Q.mul c1 d)) m g)
        let ov := narrowState lv key x.logical (zipQ (fun a d => Q.add (Q.mul b2 a) (Q.mul c2 (Q.mul d d))) v g)
        if !om.clean || !ov.clean then .skipOther
        else match rhoRow lv u.eps ov with
          | none => .skipOther
          | some rho => finish w (zipQ Q.mul (om.values lm) rho) (om.bytes lm.fmt) (ov.bytes lv.fmt)
      | _, _ => .skipOther

/-! ## Staging requests (R352-R361, R364, R382) -/

/-- Whether a row's address lies in a covered page that this module homes, with a staging page (R354). -/
def State.coveredHere (s : State) (va : Nat) : Bool :=
  (s.stagePage (va / pageBytes)).isSome && (match mapFind s.tier.xlate (va / pageBytes) with
    | some e => e.tier == .local
    | none => false)

/-- Rows of a request over a plain tensor or a table's base slots. -/
def Upd.baseRows (u : Upd) (first count : Nat) : List UpdRow :=
  (List.range count).map fun i =>
    let r := first + i
    { w := rowAddr u.wBase u.wStr r, m := if u.hasM then rowAddr u.mBase u.mStr r else 0,
      v := if u.hasV then rowAddr u.vBase u.vStr r else 0, g := rowAddr u.gBase u.gStr r, logical := u.row0 + r, row := r }

/-- Rows of a table in this module's hot area (R382). -/
def Upd.hotRows (u : Upd) (t : Table) (half : Nat) : List UpdRow :=
  (t.hot.filter fun h => h.2.live).map fun h =>
    let p := t.slotParts h.1
    { w := p.1, m := p.2.1, v := p.2.2, g := t.hotGradAddr half h.1, logical := u.row0 + h.2.row, row := h.2.row }

/-- The stack that holds a page of this module. -/
def State.stackOf (s : State) (va : Nat) : Nat := match mapFind s.tier.xlate (va / pageBytes) with
  | some e => e.frame / framesPerStack
  | none => 0

/-- Counts a skipped row at a stack (R358). -/
def State.countSkip (s : State) (stack : Nat) (grad : Bool) : State :=
  let r := mapGet ⟨0, 0, false⟩ s.smithy.regs stack
  let r1 : SmithyReg := { skipGrad := if grad then satAdd 24 r.skipGrad 1 else r.skipGrad,
                          skipOther := if grad then r.skipOther else satAdd 24 r.skipOther 1, skip := true }
  { s with smithy := { s.smithy with regs := mapPut s.smithy.regs stack r1 } }

/-- A row frozen by the mask (R357). -/
def frozenRow (u : Upd) (x : UpdRow) : EM Bool := do
  if u.masked then
    let b ← vaRead (u.mask + x.row / 8) 1
    pure (bit (natOfBytes b) (x.row % 8))
  else pure false

/-- What a row of a staging request reads: where it stands, its parameters, first and second state, and gradient. -/
structure UpdData where
  row : UpdRow
  w : List Byte
  m : List Byte
  v : List Byte
  g : List Byte
deriving DecidableEq, Repr

/-- Reads what an unfrozen row needs. -/
def readUpd (u : Upd) (l : UpdLegs) (x : UpdRow) : EM UpdData := do
  let n := u.elems
  let wb ← vaReadSoon x.w (l.w.fmt.rowBytes n)
  let mb ← (match l.m with
    | some m => vaReadSoon x.m (m.fmt.rowBytes n)
    | none => pure [])
  let vb ← (match l.v with
    | some v => vaReadSoon x.v (v.fmt.rowBytes n)
    | none => pure [])
  let gb ← vaReadSoon x.g (l.g.fmt.rowBytes n)
  pure ⟨x, wb, mb, vb, gb⟩

/-- Bytes made up to whole 64-bit words. -/
def padWords (b : List Byte) : List Byte := b ++ List.replicate (pad8 b.length - b.length) 0

/-- Stages the delta of a row's part, once the meters of its staging page's stack are above zero (R360, R364). -/
def stageNew (a : Nat) (old new : List Byte) : EM Unit := do
  if new.isEmpty then pure ()
  else
    let w0 ← get
    let paid ← meterGate true ((w0.s.stageAddr a).getD a, pad8 new.length)
    let w ← get
    set (w.after paid (w.s.stageDelta a (subWords (padWords new) (padWords old))))

/-- Stages what a row comes to (R358, R360). -/
def stageResult (d : UpdData) (r : RowResult) : EM Unit :=
  match r with
  | .skipGrad => emod fun s => s.countSkip (s.stackOf d.row.w) true
  | .skipOther => emod fun s => s.countSkip (s.stackOf d.row.w) false
  | .new wb mb vb => do
    stageNew d.row.w d.w wb
    stageNew d.row.m d.m mb
    stageNew d.row.v d.v vb

/-- A staging request that its checks have passed: its update, the legends, the table it trains, and its rows. -/
structure Staging where
  u : Upd
  l : UpdLegs
  tab : Option Nat
  rows : List UpdRow
deriving DecidableEq, Repr

/-- The checks and reads that precede the rows of a staging request (R352-R354, R361, R382). -/
def smithyPrepare (e : EArgs) : EM Staging := do
  let f ← reqFields
  needDesc e.d1
  echeck (f.2 == 0 && e.d1.total == 128) cLsRange
  let w ← get
  echeck (decide (w.s.smithy.requests < 65536)) cSmithyInvalid
  let b ← descReadSoon e.d1
  let u := Upd.of b
  let first := field e.param.toNat 63 32
  let count := field e.param.toNat 31 0
  let l ← updLegs u
  echeck (u.fieldsOk l first count) cSmithyInvalid
  let tab := w.s.updTable u.wBase
  let base := u.baseRows first count
  let rows ← (match tab with
    | none => pure base
    | some (tn, t) => do
      echeck (u.agrees l t e.task.step) cSmithyInvalid
      let mine := base.filter fun x => w.s.homesVa x.w && (match w.s.rowAt t (rowKey t.addVersion x.row) with
        | .base => true
        | _ => false)
      pure (mine ++ if w.s.smithy.tables.contains tn then [] else u.hotRows t (e.task.step % 2)))
  echeck (rows.all fun x => w.s.coveredHere x.w && (!u.hasM || w.s.coveredHere x.m) && (!u.hasV || w.s.coveredHere x.v))
    cSmithyInvalid
  echeck (rows.all fun x => !(w.s.smithy.rows.any fun r => r.1 == x.w)) cSmithyOverlap
  pure ⟨u, l, tab.map Prod.fst, rows⟩

/-- The bookkeeping of a request whose rows have been read (R354, R360, R382). -/
def Smithy.stagedRows (c : Smithy) (x : Staging) : Smithy :=
  { c with
    rows := c.rows ++ x.rows.map fun r => (r.w, r.row), requests := c.requests + 1,
    phase := max c.phase 1,
    tables := match x.tab with
      | some tn => if c.tables.contains tn then c.tables else c.tables ++ [tn]
      | none => c.tables }

/-- A smithy staging request (R352-R360, R364, R382). Its start has answered for R361. -/
def smithyStageWork (e : EArgs) : EM Unit := do
  let w ← get
  let q ← smithyPrepare e
  let u := q.u
  let l := q.l
  let live ← q.rows.filterM fun x => do
    let z ← frozenRow u x
    pure (!z)
  let data ← live.mapM (readUpd u l)
  awaitReads
  emod fun s => { s with smithy := s.smithy.stagedRows q }
  let key := w.s.randKey e.task 0 0
  let _ ← data.mapM fun d => stageResult d (updateRow u l key d.row d.w d.m d.v d.g)
  pure ()

/-! ## Parity reduction and APPLY (R361, R362, R389) -/

/-- The delta page of a touched protected page: its stripe's holder and the stripe (R299, R301). -/
def State.deltaDest (s : State) (vpn : Nat) : Option (Nat × Nat) :=
  match s.fab.parity with
  | some c =>
    let b := c.base / pageBytes
    if b ≤ vpn ∧ vpn < b + c.pages then
      let st := stripeOf s.groupSize s.memberIdx (vpn - b)
      some (s.memberMod (st % s.groupSize), st)
    else none
  | none => none

/-- Sends the delta pages of the touched pages (R301). -/
def sendDeltas (_e : EArgs) : EM Unit := do
  let w ← get
  let _ ← w.s.smithy.touched.mapM fun v => do
    match w.s.deltaDest v, w.s.stagePage v with
    | some (m, st), some p => do
      emod fun s => s.chargeLocal p pageBytes
      let w1 ← get
      match w1.s.poisonIn p pageBytes with
      | [] => pure ()
      | bad => do emod fun s => s.countPoison bad; efault cMemUe
      sendBulk m fun tag => .parityDelta m st (w1.s.peekLocal p pageBytes) tag
    | _, _ => pure ()
  pure ()

/-- PARITY_REDUCTION: the step's first request, which ended Phase A when it started, waits until every inbound row copy is staged,
and sends the staged deltas to the stripe holders (R361, R301, R389). -/
def parityReduction (c : CoreId) (s : State) : State :=
  match tgtQueue s.unitsEff 7 with
  | none => s
  | some q =>
    match startedAs (s.core c) q .x 2 7 with
    | none => s
    | some r =>
      if !s.parityRuns then runWork c q r (pure ()) s
      else
        let s1 := s.sendTrained
        if 2 ≤ s1.smithy.phase then runWork c q r (pure ()) s1
        else if s1.inboundWaiting then s1
        else (runWork c q r (sendDeltas r.args) { s1 with smithy := { s1.smithy with phase := 2 } }).tryBDone

/-- Whether the module may write a commit record now: no stop is on, and the meter of stack 0, which holds the record, is above zero (R364,
R468). -/
def State.mayRecord (s : State) : Bool :=
  !s.rec0.stopping && s.run.inStep && decide (s.smithy.phase ≤ 2) && decide (0 < mapGet 0 s.bud.hbm 0)

/-- What an APPLY that has started does beyond waiting: without parity it writes the commit record (R362). -/
def State.applyNow (s : State) : State :=
  if s.parityRuns then s
  else
    let s2 := s.sendTrained
    if s2.inboundWaiting || !s2.mayRecord then s2 else s2.writeRecord.sweepVersions

/-- APPLY: waits for, or without parity writes, the commit record; its deltas are applied by Phase D, and it then retires.
A later one has nothing left to do at its start (R362). -/
def applyRow (c : CoreId) (s : State) : State :=
  match tgtQueue s.unitsEff 4 with
  | none => s
  | some q =>
    match startedAs (s.core c) q .x 2 4 with
    | none => s
    | some r =>
      let base : StReg := match r.cmd.task.detour with
        | some d => d.stBase
        | none => 0
      if r.cmd.d1 ≠ base ∨ r.cmd.d2 ≠ base then runWork c q r (efault cLsRange) s
      else if r.args.param ≠ 0 then runWork c q r (efault cSmithyInvalid) s
      else if s.run.anyCommit && decide (r.args.task.step ≤ s.run.committed) && s.smithy.phase == 0 then runWork c q r (pure ()) s
      else s.applyNow

/-- Whether every command of the COMMIT section has retired: its last frame has begun and no core has unfinished work (R362). -/
def State.commitQuiet (s : State) : Bool :=
  s.run.inStep && !s.run.interlude && s.run.active.kind s.curSect == 5 &&
  s.run.pos + 1 == s.run.active.stepLen && s.run.frameIdx + 1 == s.run.active.frames s.curSect && !s.anyWork

/-- AUTO_APPLY: when the COMMIT section's commands have retired and no APPLY has started, the module does what an APPLY would;
a group member whose almanac asked for no parity reduction ends Phase A here (R362; DESIGN CHOICE, log 41). -/
def autoApply (s0 : State) : State :=
  if !s0.commitQuiet || s0.smithy.applyStarted || s0.rec0.stopping then s0
  else
    let s := s0.tellReady
    if !s.commitOpen then s
    else if s.parityRuns && decide (s.smithy.phase ≤ 1) then
      let s1 := ({ s with smithy := { s.smithy with parityStarted := true } }).sendTrained
      if s1.inboundWaiting then s1
      else
        let s2 : State := { s1 with smithy := { s1.smithy with phase := 2, applyStarted := true } }
        (s2.smithy.touched.foldl (fun s v => match s.deltaDest v, s.stagePage v with
          | some (m, st), some p =>
            let tag := s.fab.tagNext
            let s3 := (s.meetPoison p pageBytes).chargeLocal p pageBytes
            { s3 with fab := { s3.fab with tagNext := tag + 1 },
                      tier := { s3.tier with writesOut := s3.tier.writesOut ++ [WriteOut.mk tag autoDelta 0 [] false none] },
                      outbox := s3.outbox ++ [Msg.parityDelta m st (s.peekLocal p pageBytes) tag] }
          | _, _ => s) s2).tryBDone
    else ({ s with smithy := { s.smithy with applyStarted := true } }).applyNow

/-! ## Phases B to D (R301, R302) -/

/-- BULK_ACK: an acknowledgement reaches its sender; the last one of this module's delta pages ends its Phase B (R274,
R301). -/
def bulkAck (tag : Nat) (s : State) : State := (s.acked tag).tryBDone

/-- A delta page that a member sent is added to a stripe and acknowledged once it stands; a lent page waits for its holders (R252,
R299). -/
def State.addStripe (s : State) (src tag old new : Nat) (bytes : List Byte) : State :=
  let r := s.writeSum (.remote src tag) [old] new (addWords (s.peekLocal old pageBytes) bytes)
  if r.1 = 0 then r.2.send (.bulkAck src tag) else r.2

/-- PARITY_DELTA: a holder adds a delta page into the alternate parity stripe and acknowledges it; a stopped module discards
it, except that a delta of a recovery goes into the current parity (R299, R301, R468, R479). -/
def parityDelta (src stripe : Nat) (bytes : List Byte) (tag : Nat) (s : State) : State :=
  match s.fab.parity with
  | some c =>
    if s.rec0.q.isSome && s.parityRuns && stripe % s.groupSize == s.memberIdx && bytes.length == pageBytes then
      s.addStripe src tag (c.stripeVa s.groupSize s.fab.buf stripe) (c.stripeVa s.groupSize s.fab.buf stripe) bytes
    else if s.rec0.stopped || !s.parityRuns || stripe % s.groupSize != s.memberIdx || bytes.length != pageBytes then s
    else
      let alt := c.stripeVa s.groupSize (1 - s.fab.buf) stripe
      let cur := c.stripeVa s.groupSize s.fab.buf stripe
      let first := (mapFind s.fab.deltas stripe).isNone
      let s1 := s.addStripe src tag (if first then cur else alt) alt bytes
      { s1 with fab := { s1.fab with deltas := mapPut s1.fab.deltas stripe (mapGet 0 s1.fab.deltas stripe + 1) } }
  | none => s

/-- COMMIT_CTRL: B_DONE of a member; or that its reduce section has completed, with its G, DMAX, base and D, which must agree with
this module's once it is as far (R10, R298, R301, R474). A stopped module discards both (R468). -/
def commitCtrl (src step : Nat) (cfg : Option (Nat × Nat × Nat × Nat)) (s : State) : State :=
  match cfg with
  | some x =>
    if s.rec0.stopped then s
    else
      let s1 : State := { s with fab := { s.fab with memberCfg := mapPut s.fab.memberCfg src x, ready := mapPut s.fab.ready src step } }
      (match s.fab.parity with
        | some c =>
          if !s.fab.degraded && mapFind s.fab.ready s.modNo == some step && !s1.memberAgrees c src then raise cParityMismatch 0 0 0 s1
          else s1
        | none => s1)
  | none => if step = s.run.step ∧ s.rec0.stopped = false then
      { s with fab := { s.fab with bDone := (s.fab.bDone ++ [src]).eraseDups } } else s

/-- Stripes that took no delta keep their sums: alternate := current (R301). -/
def State.copyStripes (s : State) : State :=
  match s.fab.parity with
  | some c =>
    (s.heldStripes.filter fun st => (mapFind s.fab.deltas st).isNone).foldl (fun s st =>
      let cur := c.stripeVa s.groupSize s.fab.buf st
      (s.writeSum (.own (2 ^ 52)) [cur] (c.stripeVa s.groupSize (1 - s.fab.buf) st) (s.peekLocal cur pageBytes)).2) s
  | none => s

/-- COMMIT_RECORD_WRITE: holding B_DONE from every member, the module writes its commit record, which is its step boundary
(R301, R302). A module in no running group writes it in APPLY. -/
def commitRecordWrite (s : State) : State :=
  if s.parityRuns && s.smithy.phase == 2 && s.fab.bSent && s.allDone && s.mayRecord then s.copyStripes.writeRecord.sweepVersions
  else s

/-- DELTA_APPLY: the record is durable and an APPLY, or what stands for it, has started: Phase D, as far as it can go now (R252, R301,
R362, R364). -/
def deltaApply (s : State) : State :=
  if 3 ≤ s.smithy.phase ∧ s.smithy.applyStarted = true then
    let s1 := s.phaseD false
    if s1.smithy.phase = 0 then s1.takeHolds else s1
  else s

/-- The module reads its protected pages and sends each to the holder of its stripe, for the group's parity (R299, R300). -/
def State.sendShard (s : State) (c : ParityCfg) : State :=
  let s1 := (List.range c.pages).foldl (fun s k =>
    let st := stripeOf s.groupSize s.memberIdx k
    let va := c.base + k * pageBytes
    ((s.meetPoison va pageBytes).chargeLocal va pageBytes).send (.shardPart (s.memberMod (st % s.groupSize)) st (s.peekLocal va pageBytes))) s
  { s1 with fab := { s1.fab with built := true } }

/-- PARITY_BUILD: the parity engines build the current buffer from the data within the MAINT budget of the die (DESIGN CHOICE, log
147): the module's own pages go to the holders of their stripes, and the sums of the other members' pages that have come fill the
stripes that it holds; VALID, and no longer degraded, once the build is `complete` on every member (R300, R478). -/
def parityBuild (sums : List (Nat × List Byte)) (complete : Bool) (s : State) : State :=
  match s.fab.parity with
  | some c =>
    if !s.fab.building || !s.maintOpen 8 then s
    else
      let s1 := if s.fab.built then s else (s.chargeMaint 8 (Config.copyCycles (c.pages * pageBytes))).sendShard c
      let s2 := sums.foldl (fun s x =>
        if x.1 % s.groupSize = s.memberIdx ∧ x.2.length = pageBytes then
          (s.chargeMaint 8 (Config.copyCycles pageBytes)).pokeLocal (c.stripeVa s.groupSize s.fab.buf x.1) x.2
        else s) s1
      { s2 with fab := { s2.fab with valid := complete, building := !complete, degraded := !complete && s2.fab.degraded } }
  | none => s

end Sys2Proof.Machine
end

