-- ==== Sys2Proof/Machine/Fabric.lean ====
section
/-! DEFINITION. The Ferry fabric: cells and links, training, membership and the bell root, ring takeover, and the data of
XSEND, PASS and collectives (spec/09 R268-R296). -/

namespace Sys2Proof.Machine

/-! ## Cells and blocks that arrive (R271, R272, R275) -/

/-- The port at the other end of a keeper in BYPASS (R282). -/
def opposite (port : Nat) : Nat := port + 1 - 2 * (port % 2)

/-- Codewords that the port's FEC has corrected, and has found uncorrectable, since the block before (Table 09-12). -/
def PortReg.countFec (p : PortReg) (fec : Nat × Nat) : PortReg :=
  { p with fecCorr := satAdd 32 p.fecCorr fec.1, fecUncorr := satAdd 16 p.fecUncorr fec.2 }

/-- Cells that a receive buffer holds (R275). -/
def recvSlots : Nat := 455

/-- CELL_RECEIVE: a good cell with the expected SEQ is accepted: its ACK and credits count; a cell for this module leaves its
slot at once, unless it is a BULK cell that waits for staging; any other is sent on; every other cell, and one that finds no slot, is discarded and a NAK names the expected SEQ (R272,
R273, R275, R279, R293; DESIGN CHOICE, log 148). A keeper in BYPASS passes it on undecoded (R282). -/
def cellReceive (port : Port) (b : List Byte) (fec : Nat × Nat) (s : State) : State :=
  let p := (s.port port.val).countFec fec
  if p.bypass then s.send (.cell (opposite port.val) b)
  else if p.state ≠ .up then s
  else if !cellGood b || blkNat b 8 2 % 4096 != p.nextRecv || decide (recvSlots ≤ p.recv.length) then
    (s.setPort port.val p).sendIdle port.val true p.nextRecv []
  else
    let p1 := ({ (p.ackTo (blkNat b 10 2 % 4096)) with nextRecv := (p.nextRecv + 1) % 4096 }).credit (creditsOf (blkNat b 272 8))
    if cellDest b = s.modNo ∧ s.bulkWaits p.recv b = false then
      ((s.setPort port.val p1).sendIdle port.val false p1.lastRecv [(cellVc b, 1)]).pushLinks
    else (s.setPort port.val { p1 with recv := p1.recv ++ [b] }).pushLinks

/-- What a module sends of its position in training: FAB_POSITION (R277). -/
def State.positionReg (s : State) : Nat := match s.fab.pos with
  | some p => p.shapeX * 2 ^ 40 + p.shapeY * 2 ^ 32 + p.shapeZ * 2 ^ 24 + p.x * 2 ^ 16 + p.y * 2 ^ 8 + p.z
  | none => 0

/-- A port sends the TRAIN blocks of a training (R270, R277). -/
def State.sendTrain (s : State) (port : Nat) : State := s.send (.train port s.positionReg)

/-- The live coordinates of this module's ring in a dimension. -/
def State.ringLive (s : State) (d : Nat) : List Nat := mapGet [] s.fab.live d

/-- The modules of a ring exchange MEMBERSHIP when a port of it comes UP or goes DOWN (R278). -/
def State.tellRing (s : State) (d : Nat) : State := s.send (.membership d (s.ringLive d))

/-- A port retrains: RETRAINS, LINK_RETRAIN, and the width that the good lanes allow; with none it is DOWN (R270, R278). -/
def State.retrain (s : State) (port : Nat) (failed : BitVec 4) : State :=
  let p := s.port port
  let lo := failed.getLsbD 0 || failed.getLsbD 1
  let hi := failed.getLsbD 2 || failed.getLsbD 3
  let p1 := { p with retrains := satAdd 8 p.retrains 1, resent := 0, state := if lo && hi then .down else .train,
                     width := if lo && hi then 0 else if lo || hi then 2 else 4 }
  let s1 := raise cLinkRetrain 3 port 0 (s.setPort port p1)
  if lo && hi then s1.tellRing (port / 2) else s1.sendTrain port

/-- The cells of a port's replay buffer go again, in order (R272, R273). -/
def State.resendCells (s : State) (port : Nat) : State := (s.port port).replay.foldl (fun s c => s.send (.cell port c.2)) s

/-- IDLE_BLOCK: ACK and credits; or a NAK, at which the sender sends again from the named cell, in order; 16 resends of one
cell retrain the port (R271, R272, R275). A keeper in BYPASS passes it on undecoded (R282). -/
def idleBlock (port : Port) (b : List Byte) (fec : Nat × Nat) (s : State) : State :=
  let p := (s.port port.val).countFec fec
  if p.bypass then s.send (.idle (opposite port.val) b)
  else if p.state ≠ .up then s
  else if b.length ≠ 32 ∨ blkNat b 0 1 ≠ 0 ∨ blkNat b 28 4 ≠ crc32c (b.take 28) then s.setPort port.val p
  else
    let seq := blkNat b 2 2 % 4096
    let p1 := p.credit (creditsOf (blkNat b 4 8))
    if bit (blkNat b 1 1) 0 then
      let p2 := p1.ackTo ((seq + 4095) % 4096)
      let n := p2.replay.length
      let p3 := { p2 with retry := satAdd 16 p2.retry n, resent := if n = 0 then 0 else p2.resent + 1 }
      let s1 := (s.setPort port.val p3).resendCells port.val
      if 16 ≤ p3.resent then s1.retrain port.val 0 else s1.pushLinks
    else (s.setPort port.val (p1.ackTo seq)).pushLinks

/-! ## Training (R270, R277, R285, R288) -/

/-- LINK_RETRAIN (R270). A MISWIRED port stays down (R277). -/
def linkRetrain (port : Port) (failed : BitVec 4) (s : State) : State :=
  let p := s.port port.val
  if p.state = .unused ∨ p.state = .miswired ∨ p.bypass = true then s else s.retrain port.val failed

/-- The link forgets what it held: replay and receive buffers, numbers and credits (R288; DESIGN CHOICE, log 29). -/
def PortReg.freshLink (p : PortReg) : PortReg :=
  { p with nextSend := 0, nextRecv := 0, replay := [], resent := 0, used := [], shared := 327, recv := [] }

/-- The position that a peer's FAB_POSITION gives. -/
def Position.ofReg (v : Nat) : Position := ⟨field v 47 40, field v 39 32, field v 31 24, field v 23 16, field v 15 8, field v 7 0⟩

/-- The tray has repaired a link: a port of the ring's dimension has come UP, here or on another module (R473; DEDUCED, log 162). -/
def State.ringMended (s : State) (d : Nat) : State :=
  if s.rec0.holdIdle = some d then { s with rec0 := { s.rec0 with holdIdle := none } } else s

/-- A port is DOWN or training no more: for 512 frames FRAME_OVERRUN retires no core (R467). -/
def State.portRest (s : State) : State := { s with rec0 := { s.rec0 with portBusy := s.bel.frame + 513 } }

/-- PORT_TRAIN_COMPLETE: training has failed (no peer), or the peer's FAB_POSITION decides between UP and MISWIRED. With the same peer
the cells that it has not acknowledged go again and those that wait follow; a change of peer discards the link's buffers (R270, R273,
R277, R288). -/
def portTrainComplete (port : Port) (peer : Option (BitVec 64)) (s : State) : State :=
  let n := port.val
  let p := s.port n
  if p.state ≠ .train ∨ p.bypass = true then s
  else match peer with
    | none => (s.setPort n { p with state := .down, width := 0 }).tellRing (n / 2)
    | some v =>
      let q := Position.ofReg v.toNat
      let me := s.position
      let d := n / 2
      let a := (me.x, me.y, me.z)
      let b := (q.x, q.y, q.z)
      let ok := q.shapeX == me.shapeX && q.shapeY == me.shapeY && q.shapeZ == me.shapeZ &&
        (List.range 3).all fun e => if e = d then coordOf a e != coordOf b e else coordOf a e == coordOf b e
      if !ok then (s.setPort n { p with state := .miswired, width := 0 }).portRest
      else
        let m := me.number q.x q.y q.z
        let p1 := if p.peer = m then p else p.freshLink
        let s1 := s.setPort n { p1 with state := .up, peer := m, width := if p.width = 0 then 4 else p.width }
        (((s1.resendCells n).pushLinks).portRest.tellRing d).ringMended d

/-- LINK_LOST: the peer's stream has gone; the port is DOWN and trains toward what now lies at the far end (R270, R285). -/
def linkLost (port : Port) (s : State) : State :=
  let p := s.port port.val
  if p.bypass = true ∨ p.state = .unused ∨ p.state = .train then s
  else (((s.setPort port.val { p with state := .train, width := 0 })).tellRing (port.val / 2)).sendTrain port.val

/-- LINK_FAILED: a port has been DOWN for 2 ms toward a live neighbour; of the two modules the higher-numbered leaves its
rings (R270, R473). -/
def linkFailed (port : Port) (s : State) : State :=
  let p := s.port port.val
  if p.bypass = true ∨ p.state = .up ∨ p.state = .unused ∨ p.state = .miswired ∨ s.isLive p.peer = false then s
  else
    let s0 := s.setPort port.val { p with state := .down, width := 0 }
    let s1 := raise cLinkFailed 3 port.val 0 (if p.state = .down then s0 else s0.tellRing (port.val / 2))
    if p.peer < s.modNo then (s1.flush s.outbox.length).leaveRings else s1

/-- LINK_HARD: a ring does not train through the keeper within 2 ms; every module holds IDLE until the link is repaired (R473). -/
def linkHard (ring : Fin 3) (s : State) : State :=
  let s1 := raise cLinkHard 3 (2 * ring.val) 0 s
  { s1 with rec0 := { s1.rec0 with holdIdle := some ring.val },
            run := if s1.rec0.modules.isEmpty then s1.run else { s1.run with state := .idle } }

/-! ## Membership and the bell root (R278, R281, R52, R54) -/

/-- Whether the live sets of the module's rings agree: of each, another module has told a set that holds this one (R52, R278; DEDUCED,
DEDUCED, log 149). -/
def State.setsAgree (s : State) : Bool :=
  (List.range 3).all fun d => decide (s.position.size d ≤ 1) || s.fab.heard.contains d

/-- The live module of lowest number is the bell root, once its live sets agree; every other module's upstream port is the first port of
its route to the root (R52, R281). A module that ceases to be root before any almanac has run acquires the new root's marks (R52). -/
def State.chooseRoot (s : State) : State :=
  match (List.range s.modCount).find? fun n => s.isLive n with
  | none => s
  | some r =>
    if r = s.modNo then
      if !s.setsAgree then s
      else { s with bel := { s.bel with root := true, upPort := 7,
                                        lastReq := if s.bel.lastReq.isNone && (s.bel.half || s.bel.annPace.any Prod.fst) then some s.bel.frame
                                          else s.bel.lastReq } }
    else
      let left := s.bel.root && !s.run.ranSinceReset
      { s with bel := { s.bel with root := false, upPort := (s.route r).getD 7,
                                   state := if left then .acquire else s.bel.state,
                                   lockCount := if left then 0 else s.bel.lockCount } }

/-- MEMBERSHIP: the live set of the ring of a dimension through a module; modules newly lost are logged as PEER_LOST; routes
and the bell root follow (R278, R281, R468). -/
def membership (at_ : ModId) (dim : Fin 3) (live : BitVec 32) (s : State) : State :=
  if s.modCount ≤ at_.toNat then s
  else
    let ring := s.ringOf at_.toNat dim.val
    let up := (ring.filter fun m => live.getLsbD m.1).map Prod.snd
    let lost := (ring.filter fun m => !live.getLsbD m.1 && !s.fab.dead.contains m.2 && m.2 != s.modNo).map Prod.snd
    let dead := ((s.fab.dead.filter fun m => !up.contains m) ++ lost).mergeSort fun a b => decide (a ≤ b)
    let mine := ring.any fun m => m.2 == s.modNo
    let coords := (ring.filter fun m => live.getLsbD m.1).map Prod.fst
    let heard := if coords.contains (coordOf (s.position.coord s.modNo) dim.val) then (s.fab.heard ++ [dim.val]).eraseDups
      else s.fab.heard.erase dim.val
    let s1 : State := { s with fab := { s.fab with dead := dead,
                                                   live := if mine then mapPut s.fab.live dim.val coords else s.fab.live,
                                                   heard := if mine then heard else s.fab.heard } }
    ((lost.foldl (fun s m => raise cPeerLost 0 m 0 s) s1).chooseRoot).ringMended dim.val

/-! ## Taking the rings (R284, R276, R277) -/

/-- The die takes its rings: keepers in PASS, ports of a dimension of size 1 UNUSED, the others training; nothing of the rest
of the machine is known to be live yet (R276, R277, R284). -/
def State.takeRings (s : State) : State :=
  let p := s.position
  let s1 := (List.range 6).foldl (fun s i =>
    if p.size (i / 2) = 1 then s.setPort i { s.port i with bypass := false, state := .unused, width := 0 }
    else (s.setPort i { (s.port i).freshLink with bypass := false, state := .train, width := 0 }).sendTrain i) s
  let others := (List.range s.modCount).filter fun m => m != s.modNo
  let s2 : State := { s1 with fab := { s1.fab with dead := others, live := [(0, [p.x]), (1, [p.y]), (2, [p.z])], heard := [] } }
  if others.isEmpty then s2.portRest.chooseRoot else s2.portRest

/-- RING_TAKEOVER: at the end of start-up, before PWR_STATUS.UP, when the marks carry RUN = 0 or none has come for 64 frames. Later the
keepers stay in BYPASS until a FAB_JOIN, and while the module is in recovery (R284, R448, Table 17-4; DEDUCED, log 150). -/
def ringTakeover (s : State) : State :=
  if !s.inBypass || s.pwr.up || s.pwr.dieReset || s.pwr.failed || s.pwr.domain != .running || s.reeve.mode == .recovery ||
      s.rec0.stopping then s
  else if (s.bel.state ≠ .free ∧ s.bel.peerRun = false) ∨ 64 ≤ s.bel.markless then s.takeRings
  else s

/-! ## Data that arrives (R289, R293, R296) -/

/-- XSEND_DATA: the bytes of an XSEND or a PASS are written at their home, from here if need be; once every one is visible PASS adds to
its counter and the sender gets its acknowledgement (R242, R252, R289, R296). Data whose page is not known yet waits in the link
buffers, and comes again. A stopped module discards them (R468). -/
def xsendData (src addr : Nat) (bytes : List Byte) (tag : Nat) (aux : Option (Nat × Nat × Nat)) (s : State) : State :=
  let who := Requester.bulk src tag
  let refuse (s : State) (va : Nat) : State := (s.modTier fun t => t.forget who).send (.notHome src va tag none)
  if s.rec0.stopped then s
  else match s.refuses who addr bytes.length, s.unknownPages who addr bytes.length with
    | some va, _ => refuse s va
    | none, [] => s.takeData refuse src addr bytes tag aux
    | none, (v, d) :: rest => match s.askDir who v d with
      | some s1 => rest.foldl (fun s q => (s.askDir who q.1 q.2).getD s) s1
      | none => refuse s (v * pageBytes)

/-- COLL_PARTIAL: a received partial or chunk waits in staging, 256 MiB, until its step takes it; with no room it waits in
the link buffers; a stopped module discards it (R293, R468). -/
def collPartial (src : Nat) (key : PartKey) (bytes : List Byte) (tag : Nat) (s : State) : State :=
  if s.rec0.stopped ∨ 2 ^ 28 < s.stagedBytes + bytes.length then s
  else (({ s with fab := { s.fab with staging := s.fab.staging ++ [(⟨key, some src, bytes, none⟩ : Staged)] } }).send (.bulkAck src tag)).wake

end Sys2Proof.Machine
end

