-- ==== Sys2Proof/Machine/MemCmds.lean ====
section
/-! DEFINITION. The Damtin commands of the memory tiers and the budgets (spec/08 R236, R244, R263-R266, R512; spec/03 R61,
R62). What directory modules and pool modules elsewhere answer is an operand (DESIGN CHOICE, log 6). -/

namespace Sys2Proof.Machine

/-! ## Ranges -/

/-- Whether some directory entry exists for a page: here, or by the answers of other modules (`known`). -/
def State.pageMapped (s : State) (known : List Nat) (vpn : Nat) : Bool :=
  (mapFind s.tier.owners vpn).isSome ||
  (if s.dirAt vpn = s.modNo then (mapFind s.tier.dir vpn).isSome else known.contains vpn)

/-- Whether a test holds for each of `n` pages from `v`. -/
def pagesAll : Nat → Nat → (Nat → Bool) → Bool
  | _, 0, _ => true
  | v, n + 1, f => f v && pagesAll (v + 1) n f

/-- The range checks that MEM_ALLOC, MEM_FREE and MEM_ATTR share (R264). -/
def rangeOk (va pages : Nat) : Bool :=
  va % pageBytes == 0 && pages != 0 && decide (va + pages * pageBytes ≤ 2 ^ 52)

/-- A change accepted now waits for its tick (R62). -/
def State.latch (s : State) (l : Latched) : State :=
  { s with bud := { s.bud with latched := s.bud.latched ++ [(s.tickFor, l)] } }

/-! ## MEM_ALLOC (R264, R512) -/

/-- The attributes of a new page: W, PIN, STAGE, LATE from the flags byte. -/
def attrEntry (tier : TierKind) (flags : Byte) (frame mod host : Nat) : XEntry :=
  ⟨tier, flags.getLsbD 0, flags.getLsbD 1, false, flags.getLsbD 2, flags.getLsbD 3, frame, mod, host, false⟩

/-- Creates one page: directory entry, owner, and the translation entry here (R264). -/
def State.createPage (s : State) (vpn : Nat) (x : XEntry) : State :=
  let d : DEntry := ⟨s.modNo, if x.tier = .pool then x.mod else s.modNo, x.tier == .host, false, x.pin, x.w, x.stage, x.late,
    s.bel.frame⟩
  let s1 := (s.storeDir vpn d).modTier fun t => { t with
    xlate := mapPut t.xlate vpn x, owners := mapPut t.owners vpn s.modNo, noEntry := t.noEntry.filter fun p => p.1 != vpn }
  if x.tier = .pool then s1.send (.pageNew x.mod vpn d) else s1

/-- Creates `n` LOCAL pages, each in a zeroed frame; `none` when frames run out. -/
def State.createLocal : State → Nat → Nat → Byte → Option State
  | s, _, 0, _ => some s
  | s, vpn, n + 1, flags =>
    match s.takeFrame vpn with
    | none => none
    | some (f, s1) => State.createLocal ((s1.zeroFrame f).createPage vpn (attrEntry .local flags f 0 0)) (vpn + 1) n flags

/-- Creates pages in host memory at successive host page numbers. -/
def State.createHost : State → Nat → List Nat → Byte → State
  | s, _, [], _ => s
  | s, vpn, h :: t, flags => State.createHost (s.createPage vpn (attrEntry .host flags 0 0 h)) (vpn + 1) t flags

/-- MEM_ALLOC: `known` are pages of the range for which other directory modules hold entries, and `poolRoom` says whether
the HBM and LEND quotas of the named pool module allow the range (R264, R512). -/
def memAlloc (h : PktHdr) (va pages : W64) (tier flags : Byte) (mod : BitVec 16) (host : W64) (poolRoom : Bool)
    (known : List Nat) (s : State) : State :=
  damtin 0x0401 h [(0, 8, va.toNat), (8, 8, pages.toNat), (16, 1, tier.toNat), (17, 1, flags.toNat),
      (18, 2, mod.toNat), (24, 8, host.toNat)]
    (fun s =>
    let v := va.toNat / pageBytes
    let n := pages.toNat
    let hp := host.toNat / pageBytes
    if !rangeOk va.toNat n || decide (2 < tier.toNat) || v == 0 || !pagesAll v n (fun p => !s.pageMapped known p) ||
        (tier == 1 && (decide (s.modCount ≤ mod.toNat) || mod.toNat == s.modNo)) ||
        (tier == 2 && host.toNat % pageBytes != 0) then s.reply h stInvalid
    else if tier = 0 then
      if !s.quotaRoom 0 n then s.reply h stQuotaExceeded
      else match s.createLocal v n flags with
        | some s1 => s1.reply h stOk
        | none => s.reply h stQuotaExceeded
    else if tier = 1 then
      if !s.quotaRoom 2 n || !poolRoom then s.reply h stQuotaExceeded
      else (overPages v n (fun p s => s.createPage p (attrEntry .pool flags 0 mod.toNat 0)) s).reply h stOk
    else
      let free := s.poolFree
      if !s.quotaRoom 3 n || (host == 0 && decide (free.length < n)) then s.reply h stQuotaExceeded
      else (s.createHost v (if host = 0 then free.take n else (List.range n).map fun k => hp + k) flags).reply h stOk) s

/-! ## MEM_FREE, MEM_ATTR, MEM_QUERY (R236, R264) -/

/-- MEM_FREE takes effect at the tick of R62 (R264). -/
def memFree (h : PktHdr) (va pages : W64) (known : List Nat) (s : State) : State :=
  damtin 0x0402 h [(0, 8, va.toNat), (8, 8, pages.toNat)] (fun s =>
    let v := va.toNat / pageBytes
    if !rangeOk va.toNat pages.toNat || !pagesAll v pages.toNat (s.pageMapped known) then s.reply h stInvalid
    else (s.latch (.memFree v pages.toNat)).reply h stOk s.tickFor) s

/-- MEM_ATTR takes effect at the tick of R62 (R264). -/
def memAttr (h : PktHdr) (va pages : W64) (flags : Byte) (known : List Nat) (s : State) : State :=
  damtin 0x0403 h [(0, 8, va.toNat), (8, 8, pages.toNat), (16, 1, flags.toNat)] (fun s =>
    let v := va.toNat / pageBytes
    if !rangeOk va.toNat pages.toNat || !pagesAll v pages.toNat (s.pageMapped known) then s.reply h stInvalid
    else (s.latch (.memAttr v pages.toNat (flags.getLsbD 0) (flags.getLsbD 1) (flags.getLsbD 2) (flags.getLsbD 3))).reply h
      stOk s.tickFor) s

/-- MEM_QUERY: the translation entry held here and the directory entry, `remote` where another module keeps it (R236). -/
def memQuery (h : PktHdr) (va : W64) (remote : Option DEntry) (s : State) : State :=
  damtin 0x0404 h [(0, 8, va.toNat)] (fun s =>
    let v := va.toNat / pageBytes
    if 2 ^ 52 ≤ va.toNat then s.reply h stInvalid
    else if v = 0 then s.reply h stOk
    else
      let x := match mapFind s.tier.xlate v with
        | some e => e.toNat
        | none => 0
      let d := match (if s.dirAt v = s.modNo then mapFind s.tier.dir v else remote) with
        | some e => e.toNat v
        | none => 0
      s.reply h stOk x (d % 2 ^ 64) (d / 2 ^ 64)) s

/-! ## Quotas, tiers, budgets (R61, R244, R263, R512) -/

/-- QUOTA_SET: a limit below current use is accepted with OVER_QUOTA (R263). -/
def quotaSet (h : PktHdr) (cls : Byte) (limit : W32) (s : State) : State :=
  damtin 0x0405 h [(0, 1, cls.toNat), (4, 4, limit.toNat)] (fun s =>
    let c := cls.toNat
    let l := limit.toNat
    if decide (4 < c) || decide (2 ^ 31 ≤ l) || ((c == 0 || c == 1 || c == 4) && decide (10354688 < l)) then s.reply h stInvalid
    else (s.latch (.quota c l)).reply h (if l < s.quotaUse c then stOverQuota else stOk) s.tickFor) s

/-- TIER_CONFIG: heat parameters, the pool target list and the host pool, from the tick of R62 (R244, R246, R512). -/
def tierConfig (h : PktHdr) (heat : W64) (count : Byte) (targets : BitVec 128) (poolBase poolPages : W64) (s : State) : State :=
  damtin 0x0406 h [(0, 8, heat.toNat), (8, 1, count.toNat), (10, 16, targets.toNat), (32, 8, poolBase.toNat),
      (40, 8, poolPages.toNat)]
    (fun s =>
    let w := heat.toNat
    let mods := (List.range count.toNat).map fun i => field targets.toNat (16 * i + 15) (16 * i)
    let lo := s.tier.poolBase / pageBytes
    let inPool := s.poolUsed.any fun p => decide (lo ≤ p) && decide (p < lo + s.tier.poolPages)
    let shrinks := poolBase.toNat != s.tier.poolBase || decide (poolPages.toNat < s.tier.poolPages)
    if decide (10 < w % 16) || decide (8 < count.toNat) || mods.any (fun m => decide (s.modCount ≤ m)) ||
        poolBase.toNat % pageBytes != 0 || (inPool && shrinks) then s.reply h stInvalid
    else
      let s1 := s.latch (.tierHeat (field w 63 48) (field w 47 32) (field w 31 16) (field w 11 8) (field w 3 0))
      (s1.latch (.targets mods poolBase.toNat poolPages.toNat)).reply h stOk s.tickFor) s

/-- BUDGET_SET: a ceiling from 1 to 256 for a class of Table 03-5, from the tick of R62 (R61). -/
def budgetSet (h : PktHdr) (cls : Byte) (ceil : BitVec 16) (s : State) : State :=
  damtin 0x0210 h [(0, 1, cls.toNat), (2, 2, ceil.toNat)] (fun s =>
    if decide (7 < cls.toNat) || ceil == 0 || decide (256 < ceil.toNat) then s.reply h stInvalid
    else (s.latch (.ceil cls.toNat ceil.toNat)).reply h stOk s.tickFor) s

end Sys2Proof.Machine
end

