-- ==== Sys2Proof/Machine/StepCmds.lean ====
section
/-! DEFINITION. The Damtin commands of sessions and queues, almanacs, steps, the granary, smithy and parity configuration,
core retirement and the timing audit (spec/14 R435-R441, R518; spec/03 R75-R78; spec/11 R346, R351; spec/09 R298, R304; spec/04
R111, R115; spec/05 R161; spec/16 R488-R490). -/

namespace Sys2Proof.Machine

/-! ## Sessions and queues (R424, R435, R436) -/

/-- SESSION_OPEN (R435). -/
def sessionOpen (h : PktHdr) (s : State) : State :=
  damtin 0x0001 h [] (fun s =>
    if s.hif.session then s.reply h stBusy
    else ({ s with hif := { s.hif with session := true } }).reply h stOk) s

/-- Fetching from a queue ends (R436). -/
def QPair.close (q : QPair) (hdr : Option PktHdr) : QPair := { q with closing := true, deleting := hdr }

/-- A queue that is closing goes when every accepted packet has replied and every reply is written (R436). -/
def QPair.drained (q : QPair) : Bool := q.closing && q.progress.isEmpty && q.replies.isEmpty

/-- Queues that have closed go, and their QUEUE_DELETE replies; the session closes after the last of its queues (R435,
R436). -/
def State.finishQueues (s : State) : State :=
  let gone := s.hif.queues.filter fun q => q.1 != 0 && q.2.drained
  let s1 : State := { s with hif := { s.hif with queues := s.hif.queues.filter fun q => !(q.1 != 0 && q.2.drained) } }
  let s2 := gone.foldl (fun s q => match q.2.deleting with
    | some h => s.reply h stOk
    | none => s) s1
  match s2.hif.closing with
  | some h =>
    if s2.hif.queues.any fun q => q.1 != 0 then s2
    else ({ s2 with hif := { s2.hif with session := false, closing := none } }).reply h stOk
  | none => s2

/-- SESSION_CLOSE deletes queues 1 to 63 and then closes the session (R435). -/
def sessionClose (h : PktHdr) (s : State) : State :=
  damtin 0x0002 h [] (fun s =>
    if !s.hif.session || s.hif.closing.isSome then s.reply h stInvalid
    else
      let qs := s.hif.queues.map fun q => if q.1 = 0 then q else (q.1, q.2.close q.2.deleting)
      let s1 : State := { s with hif := { s.hif with queues := qs, closing := some h } }
      (s1.begun h).finishQueues) s

/-- A ring address and size that R424 allows: 4,096-byte base, 2 to 4,096 entries. -/
def ringOk (base log : Nat) : Bool := base % 4096 == 0 && decide (1 ≤ log) && decide (log ≤ 12)

/-- A queue pair as it is made. -/
def QPair.fresh (sqBase sqLog rqBase rqLog vector : Nat) : QPair :=
  ⟨sqBase, sqLog, rqBase, rqLog, vector, 0, 0, 0, 0, true, false, none, false, [], [], [], []⟩

/-- QUEUE_CREATE (R424, R436). -/
def queueCreate (h : PktHdr) (queue sqLog rqLog vector : Byte) (sqBase rqBase : W64) (s : State) : State :=
  damtin 0x0003 h [(0, 1, queue.toNat), (1, 1, sqLog.toNat), (2, 1, rqLog.toNat), (3, 1, vector.toNat),
      (8, 8, sqBase.toNat), (16, 8, rqBase.toNat)]
    (fun s =>
    if queue == 0 || decide (63 < queue.toNat) || !ringOk sqBase.toNat sqLog.toNat || !ringOk rqBase.toNat rqLog.toNat ||
        vector == 0 || decide (64 < vector.toNat) then s.reply h stInvalid
    else if (mapFind s.hif.queues queue.toNat).isSome then s.reply h stBusy
    else
      let q := QPair.fresh sqBase.toNat sqLog.toNat rqBase.toNat rqLog.toNat vector.toNat
      ({ s with hif := { s.hif with queues := mapPut s.hif.queues queue.toNat q } }).reply h stOk) s

/-- QUEUE_DELETE: the queue takes no more packets and goes when its packets have replied (R436). -/
def queueDelete (h : PktHdr) (queue : Byte) (s : State) : State :=
  damtin 0x0004 h [(0, 1, queue.toNat)] (fun s =>
    if queue = 0 then s.reply h stInvalid
    else match mapFind s.hif.queues queue.toNat with
      | none => s.reply h stInvalid
      | some q =>
        if q.closing then s.reply h stInvalid
        else
          let s1 : State := { s with hif := { s.hif with queues := mapPut s.hif.queues queue.toNat (q.close (some h)) } }
          (s1.begun h).finishQueues) s

/-- NOP returns the packet's data (R437). -/
def nop (h : PktHdr) (d0 d1 d2 : W64) (s : State) : State :=
  damtin 0x0005 h [(0, 8, d0.toNat), (8, 8, d1.toNat), (16, 8, d2.toNat)] (fun s => s.reply h stOk d0.toNat d1.toNat d2.toNat) s

/-- MODULE_RESET replies; the warm reset begins within 1 ms (R438). One accepted while the die is in reset has no further
effect (R503). -/
def moduleReset (h : PktHdr) (kind : Byte) (s : State) : State :=
  damtin 0x0006 h [(0, 1, kind.toNat)] (fun s =>
    if kind ≠ 1 then s.reply h stInvalid
    else ({ s with pwr := { s.pwr with modReset := s.pwr.modReset || !s.pwr.dieReset } }).reply h stOk) s

/-! ## Almanacs (R75-R78) -/

/-- `n` bytes of a memory from `a`, as a memory of their own. -/
def Memory.slice (m : Memory) (a n : Nat) : Memory :=
  (m.filter fun c => decide (a ≤ c.1) && decide (c.1 < a + n)).map fun c => (c.1 - a, c.2)

/-- ALMANAC_LOAD: BUSY while a switch is armed; otherwise the file is fetched and checked, and a failure leaves the staged
slot empty (R75, R76, R439). -/
def almanacLoad (h : PktHdr) (addr len : W64) (s : State) : State :=
  damtinFirst (fun s => s.run.armed.isSome) 0x0101 h [(0, 8, addr.toNat), (8, 8, len.toNat)] (fun s =>
    if !s.hostInOpen then s.begun h
    else
      let a : AlmSlot := ⟨s.hostMem.slice addr.toNat len.toNat, len.toNat⟩
      let st := s.almanacCheck a
      let s1 : State := { s with run := { s.run with staged := if st = stOk then a else ⟨[], 0⟩ } }
      (s1.chargeIn len.toNat).reply h st) s

/-- ALMANAC_SWITCH arms a switch at step S (R77, R432). -/
def almanacSwitch (h : PktHdr) (step : W64) (s : State) : State :=
  damtin 0x0102 h [(0, 8, step.toNat)] (fun s =>
    if decide (step.toNat < s.run.step + 2) || !s.run.staged.loaded then s.reply h stInvalid
    else if s.run.armed.isSome then s.reply h stBusy
    else ({ s with run := { s.run with armed := some step.toNat } }).reply h stOk) s

/-- ALMANAC_CANCEL disarms while the current step is before S − 1 (R78). -/
def almanacCancel (h : PktHdr) (s : State) : State :=
  damtin 0x0103 h [] (fun s => match s.run.armed with
    | some n =>
      if s.run.step + 1 < n then ({ s with run := { s.run with armed := none } }).reply h stOk else s.reply h stBusy
    | none => s.reply h stOk) s

/-- ALMANAC_STATUS: both identifiers, the armed step, the current step (R437). -/
def almanacStatus (h : PktHdr) (s : State) : State :=
  damtin 0x0104 h [] (fun s =>
    let id (a : AlmSlot) : Nat := if a.loaded then a.ident else 0
    s.replyLong h stOk (bytesOfNat 8 (id s.run.active) ++ bytesOfNat 8 (id s.run.staged) ++
      bytesOfNat 8 (s.run.armed.getD 0) ++ bytesOfNat 8 s.run.step)) s

/-! ## Steps (R440, R441) -/

/-- The first step whose boundary has not passed. -/
def State.openStep (s : State) : Nat := if s.run.inStep then s.run.step else s.run.nextStep

/-- The staged almanac of an IDLE module becomes active, and its first step takes the number START_STEP (R440). The seed in
force begins with that step unless a step has used it (Table 13-2). -/
def State.startIdle (s : State) (first : Nat) : State :=
  let s1 := s.swapSlots
  { s1 with run := { s1.run with nextStep := first, anyCommit := false, interludeDue := false, resumePos := none,
                                 bounded := false, seedAt := [] },
            rng := if s1.run.seedAt.any fun e => e.2 == s1.rng.seed then s1.rng else { s1.rng with seedFrom := first } }

/-- STEP_RUN starts an IDLE module's staged almanac or resumes a HELD one; not while a stop is in progress or LINK_HARD holds the module
(R440, R471, R473; DEDUCED, log 163). -/
def stepRun (h : PktHdr) (start count at_ : W64) (s : State) : State :=
  damtin 0x0201 h [(0, 8, start.toNat), (8, 8, count.toNat), (16, 8, at_.toNat)] (fun s =>
    let f := at_.toNat % 2 ^ 48
    if (f != 0 && decide (f ≤ s.tickFor)) || (s.run.state == .idle && !s.run.staged.loaded) then s.reply h stInvalid
    else if s.almanacRuns || s.rec0.stopping || s.rec0.holdIdle.isSome then s.reply h stBusy
    else
      let tick := if f = 0 then s.tickFor else f
      let s1 := if s.run.state = .idle then s.startIdle start.toNat else s
      let s2 : State := { s1 with run := { s1.run with
        state := .running, startAt := some tick, halted := false,
        countHold := if count = 0 then none else some (s1.run.nextStep + count.toNat - 1) } }
      s2.reply h stOk tick) s

/-- STEP_HOLD waits for its boundary and replies there (R438, R441). -/
def stepHold (h : PktHdr) (boundary : W64) (s : State) : State :=
  damtin 0x0202 h [(0, 8, boundary.toNat)] (fun s =>
    let b := if boundary = 0 then s.openStep else boundary.toNat
    if b < s.openStep then s.reply h stInvalid
    else ({ s with run := { s.run with holds := s.run.holds ++ [(b, some h)] } }).begun h) s

/-- STEP_STATUS (R437). -/
def stepStatus (h : PktHdr) (s : State) : State :=
  damtin 0x0203 h [] (fun s =>
    let st := match s.run.state with
      | .idle => 0
      | .running => 1
      | .held => 2
      | .replaying => 3
    s.reply h stOk s.run.step s.run.committed st) s

/-! ## Granary and smithy (R346, R351) -/

/-- Whether STEP_RUN will resume a step at a section: what a command changes "from the next step" then applies to that step, which
begins nothing anew (R440, R518). -/
def State.heldInStep (s : State) : Bool := s.run.state == .held && s.run.resumePos.isSome

/-- GRANARY_CONFIG names the spill area from the next step (R346). -/
def granaryConfig (h : PktHdr) (base bytes : W64) (s : State) : State :=
  damtin 0x0411 h [(0, 8, base.toNat), (8, 8, bytes.toNat)] (fun s =>
    let b := base.toNat
    let n := bytes.toNat
    if b % 64 != 0 || (n != 0 && decide (b < pageBytes)) || decide (2 ^ 52 < b + n) then s.reply h stInvalid
    else
      let g := if s.heldInStep then { s.granary with spill := (b, n), next := none, cursor := 0 }
        else { s.granary with next := some (b, n) }
      ({ s with granary := g }).reply h stOk s.stepInEffect) s

/-- Whether `n` pages from an address are mapped LOCAL and PIN here. -/
def State.pagesPin (s : State) (va n : Nat) : Bool :=
  pagesAll (va / pageBytes) n fun v => match mapFind s.tier.xlate v with
    | some e => e.tier == .local && e.pin
    | none => false

/-- SMITHY_CONFIG names the covered and staging ranges from the next step; in a parity group the covered range is the
protected range (R351). -/
def smithyConfig (h : PktHdr) (cov covPages stage stagePages : W64) (s : State) : State :=
  damtin 0x0410 h [(0, 8, cov.toNat), (8, 8, covPages.toNat), (16, 8, stage.toNat), (24, 8, stagePages.toNat)] (fun s =>
    let c := match s.fab.parity with
      | some p => (p.base, p.pages)
      | none => (cov.toNat, covPages.toNat)
    let m : SmithyCfg := ⟨c.1, c.2, stage.toNat, stagePages.toNat⟩
    let clash := m.covPages != 0 && m.stagePages != 0 && decide (m.cov < m.stage + m.stagePages * pageBytes) &&
      decide (m.stage < m.cov + m.covPages * pageBytes)
    if m.cov % pageBytes != 0 || m.stage % pageBytes != 0 || decide (m.stagePages < m.covPages) || clash ||
        !s.pagesPin m.cov m.covPages || !s.pagesPin m.stage m.stagePages then s.reply h stInvalid
    else if s.commitBusy then s.reply h stBusy
    else
      let y := if s.heldInStep then { s.smithy with cfg := some m, next := none } else { s.smithy with next := some m }
      ({ s with smithy := y }).reply h stOk s.stepInEffect) s

/-! ## The fabric (R278, R298, R489, R490) -/

/-- Whether a ring of the module is shortened, or a port of it is at half width or DOWN (R278). -/
def State.fabricDegraded (s : State) : Bool :=
  ((List.range 3).any fun d => decide ((mapGet [] s.fab.live d).length < s.position.size d) && decide (1 < s.position.size d)) ||
  ((List.range 6).any fun p => decide (1 < s.position.size (p / 2)) &&
    ((s.port p).state == .down || (s.port p).width == 2))

/-- OK, or FABRIC_DEGRADED in its place (R278). -/
def State.fabricOk (s : State) : Nat := if s.fabricDegraded then stDegraded else stOk

/-- Members that a group of `g` has at this module's place in its X ring (R298). -/
def State.groupOf (s : State) (g : Nat) : Nat := min g (s.position.shapeX - s.position.x / g * g)

/-- PARITY_CONFIG, from the step boundary it names (R298). -/
def parityConfig (h : PktHdr) (g : Byte) (dmax : W32) (boundary base : W64) (d p : W32) (buf0 buf1 : W64) (s : State) : State :=
  damtin 0x0504 h [(0, 1, g.toNat), (4, 4, dmax.toNat), (8, 8, boundary.toNat), (16, 8, base.toNat),
      (24, 4, d.toNat), (28, 4, p.toNat), (32, 8, buf0.toNat), (40, 8, buf1.toNat)]
    (fun s =>
    let G := g.toNat
    let gg := s.groupOf G
    let c : ParityCfg := ⟨G, base.toNat, d.toNat, buf0.toNat, buf1.toNat, p.toNat, dmax.toNat⟩
    if decide (G < 2) || decide (8 < G) || s.position.shapeX % G == 1 || c.base % pageBytes != 0 ||
        c.buf0 % pageBytes != 0 || c.buf1 % pageBytes != 0 || decide (c.dmax < c.pages) ||
        decide (c.bufPages * (gg - 1) < c.dmax) || !s.pagesPin c.base c.pages || !s.pagesPin c.buf0 c.bufPages ||
        !s.pagesPin c.buf1 c.bufPages || decide (boundary.toNat < s.openStep) then s.reply h stInvalid
    else if s.commitBusy then s.reply h stBusy
    else ({ s with fab := { s.fab with parityPending := some (boundary.toNat, c) } }).reply h s.fabricOk) s

/-- FAB_LEAVE at a boundary at least two steps after the current step (R489). -/
def fabLeave (h : PktHdr) (boundary : W64) (s : State) : State :=
  damtin 0x0502 h [(0, 8, boundary.toNat)] (fun s =>
    if boundary.toNat < s.run.step + 2 then s.reply h stInvalid
    else ({ s with fab := { s.fab with leave := some boundary.toNat } }).reply h s.fabricOk) s

/-- FAB_JOIN, under the same bound; BUSY while a join or a leave is pending (R490). -/
def fabJoin (h : PktHdr) (boundary : W64) (s : State) : State :=
  damtin 0x0503 h [(0, 8, boundary.toNat)] (fun s =>
    if boundary.toNat < s.run.step + 2 then s.reply h stInvalid
    else if s.fab.join.isSome || s.fab.leave.isSome then s.reply h stBusy
    else ({ s with fab := { s.fab with join := some boundary.toNat } }).reply h s.fabricOk) s

/-! ## Cores (R111, R115, R488) and the timing audit (R161) -/

/-- Sections that the active almanac runs. -/
def AlmSlot.usedSections (a : AlmSlot) : List Nat :=
  if a.loaded then
    (((List.range a.stepLen).map (a.listAt false)) ++ ((List.range a.interludeLen).map (a.listAt true))).eraseDups
  else []

/-- Cores that are retired or about to be at the first tick of the next step, less those that return to service then (R115, R488). -/
def State.goingCores (s : State) : List Nat :=
  let back := s.maint.returns.filterMap fun r => match r.2 with
    | some n => if n ≤ s.stepInEffect then some r.1 else none
    | none => none
  (s.retiredCores.filter fun c => !back.contains c) ++ s.run.retireNext.map Prod.fst

/-- Whether every core of a list has a rule, and a SUB outside the list, in every section that an almanac runs. -/
def AlmSlot.detoursHold (a : AlmSlot) (out : List Nat) : Bool :=
  a.usedSections.all fun sect => out.all fun c => match a.detourFor c sect with
    | some o => !out.contains (a.detourRule o).sub.toNat
    | none => false

/-- The almanacs that run from the step at which a retirement takes effect: an IDLE module will run the staged one; an armed
switch brings the staged one (R77, R440). -/
def State.almanacsAhead (s : State) : List AlmSlot :=
  if s.run.state = .idle then [s.run.staged]
  else (if s.run.armed = some s.stepInEffect then [] else [s.run.active]) ++ (if s.run.armed.isSome then [s.run.staged] else [])

/-- Whether the retired cores would lead to DETOUR_EXHAUSTED in no section still to run (R115). -/
def State.detoursHold (s : State) (out : List Nat) : Bool := s.almanacsAhead.all fun a => a.detoursHold out

/-- CORE_RETIRE from the first tick of the next step (R111); one that would lead to DETOUR_EXHAUSTED is refused (R115). -/
def coreRetire (h : PktHdr) (core : CoreId) (s : State) : State :=
  damtin 0x0620 h [(0, 1, core.toNat)] (fun s =>
    if s.goingCores.contains core.toNat then s.reply h stOk s.stepInEffect
    else if !s.detoursHold (core.toNat :: s.goingCores) then s.reply h stInvalid
    else ({ s with run := { s.run with retireNext := s.run.retireNext ++ [(core.toNat, s.stepInEffect)] } }).reply h
      stOk s.stepInEffect) s

/-- TIMING_AUDIT on or off, from the first tick of the next step (R161). -/
def timingAudit (h : PktHdr) (enable : Byte) (s : State) : State :=
  damtin 0x0630 h [(0, 1, enable.toNat)] (fun s =>
    if 1 < enable.toNat then s.reply h stInvalid
    else ({ s with auditNext := some (enable == 1, s.stepInEffect) }).reply h stOk s.stepInEffect) s

end Sys2Proof.Machine
end

