-- ==== Sys2Proof/Machine/Registers.lean ====
section
/-! DEFINITION. The register map of BAR0: which bits each register has, what they read, which of them a write of one clears, and
the debug overrides (spec/14 R417-R419 and the register tables of every chapter). -/

namespace Sys2Proof.Machine

/-! ## Layout -/

/-- Bits [hi:lo] set. -/
def bitsOf (hi lo : Nat) : Nat := (2 ^ (hi + 1 - lo) - 1) * 2 ^ lo

/-- Whether `o` is one of `n` registers of 8 bytes from `base`. -/
def inBank (base n o : Nat) : Bool := decide (base ≤ o) && decide (o < base + 8 * n)

/-- Core and offset of a core window address (R83). -/
def coreWindow (o : Nat) : Option (Nat × Nat) :=
  if 0x1000000 ≤ o ∧ o < 0x2000000 then some ((o - 0x1000000) / 0x10000, o % 0x10000) else none

/-- Field bits of a core-window register (Tables 02-5, 04-3, 04-6, 05-14, 05-15, 06-4, 06-12, 07-5). -/
def coreMask (w : Nat) : Nat :=
  if w = 0 then bitsOf 31 16 + 7
  else if w = 0x40 then bitsOf 63 0
  else if w = 0x48 then bitsOf 63 16 + 3
  else if w = 0x50 then bitsOf 63 48 + bitsOf 34 0
  else if w = 0x58 then bitsOf 63 63 + bitsOf 57 56 + bitsOf 51 48 + bitsOf 38 0
  else if w = 0x60 then bitsOf 63 61 + bitsOf 57 43 + bitsOf 31 0
  else if w = 0x68 then bitsOf 51 0
  else if inBank 0x100 16 w then bitsOf 63 0
  else 0

/-- Field bits of the BEL, BUD, LED and PWR registers (spec/03, spec/08, spec/15, spec/16, spec/17). -/
def moduleMask (o : Nat) : Nat :=
  if o = 0x8 then bitsOf 23 8
  else if o = 0x10 then bitsOf 31 8 + bitsOf 4 0
  else if o = 0x10000 then 3
  else if o = 0x10008 then bitsOf 15 8 + 15
  else if o = 0x10010 ∨ o = 0x10018 then bitsOf 63 12 + 15
  else if o = 0x10020 then bitsOf 51 36 + 1
  else if o = 0x10028 then bitsOf 63 32 + 7
  else if o = 0x20000 then bitsOf 47 0
  else if o = 0x20008 then bitsOf 25 16 + bitsOf 13 0
  else if o = 0x20010 then bitsOf 63 63 + bitsOf 61 0
  else if inBank 0x30000 8 o then bitsOf 24 16 + bitsOf 8 0
  else if o = 0x30100 then bitsOf 63 32 + bitsOf 9 0
  else if o = 0x30108 ∨ inBank 0x30120 8 o then bitsOf 63 0
  else if o = 0x30180 then bitsOf 63 8 + 7
  else if inBank 0x30200 5 o then bitsOf 63 32 + bitsOf 30 0
  else if inBank 0x31000 2048 o then if o % 16 = 0 then bitsOf 63 0 else bitsOf 63 48 + bitsOf 31 8 + 15
  else if inBank 0x40000 256 o then bitsOf 63 0
  else if inBank 0x40800 256 o then bitsOf 20 0
  else if o = 0x41000 ∨ inBank 0x41800 256 o then bitsOf 63 0
  else if o = 0x50000 then bitsOf 23 20 + bitsOf 9 6 + 3
  else if o = 0x50008 then bitsOf 63 0
  else if o = 0x50010 then bitsOf 31 16 + bitsOf 11 8 + 7
  else 0

/-- Field bits of the FAB, TIER, TBL, RNG, SUR and SMP registers (spec/08 to spec/13). -/
def serviceMask (o : Nat) : Nat :=
  if inBank 0x100000 12 o then if o % 16 = 0 then bitsOf 63 52 + bitsOf 23 16 + bitsOf 7 4 + 7 else bitsOf 63 0
  else if inBank 0x100080 3 o then bitsOf 39 0
  else if o = 0x1000A0 then bitsOf 63 61 + bitsOf 55 48 + bitsOf 31 0
  else if o = 0x1000A8 then bitsOf 63 0
  else if o = 0x1000B0 then bitsOf 47 0
  else if o = 0x200000 then bitsOf 63 16 + bitsOf 11 8 + 15
  else if o = 0x200010 then bitsOf 63 32 + 1
  else if o = 0x200018 ∨ o = 0x200020 ∨ inBank 0x200100 8 o then bitsOf 63 0
  else if inBank 0x200200 8 o then bitsOf 63 16 + 1
  else if o = 0x200240 then bitsOf 63 32 + 7
  else if o = 0x200300 then bitsOf 63 24 + 3
  else if o = 0x300000 then bitsOf 63 0
  else if o = 0x300008 then bitsOf 63 52 + bitsOf 47 0
  else if o = 0x400000 then bitsOf 63 16 + 15
  else if o = 0x400008 ∨ o = 0x400010 then bitsOf 63 0
  else if inBank 0x404000 16 o ∨ inBank 0x408000 16 o then bitsOf 63 16 + 3
  else 0

/-- Field bits of the register at an offset, a multiple of 8; 0 where no register is (R417). -/
def regMask (o : Nat) : Nat := match coreWindow o with
  | some (_, w) => coreMask w
  | none => if o < 0x100000 then moduleMask o else serviceMask o

/-- Bits of a register that a written 1 clears (R418). -/
def w1cMask (o : Nat) : Nat := match coreWindow o with
  | some (_, w) => if w = 0x48 then 3 else 0
  | none =>
    if o = 0x10028 then 7
    else if o = 0x20010 then 2 ^ 63
    else if o = 0x50000 then 3
    else if o = 0x200010 then 1
    else if inBank 0x200200 8 o then 1
    else if o = 0x200300 then 3
    else if o = 0x400000 then 8
    else if inBank 0x404000 16 o ∨ inBank 0x408000 16 o then 3
    else 0

/-- Whether an offset lies in the LED block, which no BAR0 write reaches (R418, R419). -/
def inLed (o : Nat) : Bool := decide (0x40000 ≤ o) && decide (o < 0x50000)

/-! ## Values -/

/-- BEL_STATUS (Table 03-3). -/
def Bel.statusWord (b : Bel) : Nat :=
  let st := match b.state with
    | .free => 0
    | .acquire => 1
    | .locked => 2
    | .holdover => 3
  bnat b.econThermal * 2 ^ 25 + bnat b.econSupply * 2 ^ 24 + bnat b.econ * 2 ^ 23 + bnat b.half * 2 ^ 22 +
    b.upPort % 8 * 2 ^ 19 + bnat b.root * 2 ^ 18 + st * 2 ^ 16 + b.cycle % 2 ^ 14

/-- CORE_STATUS (Table 04-6). -/
def Core.statusWord (k : Core) : Nat :=
  let host := match k.detour with
    | some d => d.sub.toNat
    | none => 0
  k.regs.retireCause % 256 * 2 ^ 24 + host * 2 ^ 16 + bnat k.regs.hosting * 4 + bnat k.detour.isSome * 2 + bnat k.regs.retired

/-- A core-window register. -/
def Core.regWord (k : Core) (w : Nat) : Nat :=
  let r := k.regs
  if w = 0 then k.statusWord
  else if w = 0x40 then r.satCount * 2 ^ 32 + r.ovfArisen
  else if w = 0x48 then r.rangeCount * 2 ^ 40 + r.structCount * 2 ^ 16 + bnat r.structSticky * 2 + bnat r.rangeSticky
  else if w = 0x50 then
    r.residueCount * 2 ^ 48 + r.residueKind * 2 ^ 34 + r.residueBank * 2 ^ 33 + bnat r.residueValid * 2 ^ 32 + r.residueTask
  else if w = 0x58 then
    bnat r.vValid * 2 ^ 63 + r.vVctx * 2 ^ 56 + r.vFault * 2 ^ 48 + r.vOp * 2 ^ 32 + r.vTask
  else if w = 0x60 then r.hazard.toNat
  else if w = 0x68 then r.hazardAddr.toNat
  else if inBank 0x100 16 w then
    natOfBytes ((List.range 4).flatMap fun i => bytesOfNat 2 (k.counter (BitVec.ofNat 6 ((w - 0x100) / 2 + i))).toNat)
  else 0

/-- FAB_PORT[p] (Table 09-11). -/
def PortReg.word (p : PortReg) : Nat :=
  let st := match p.state with
    | .down => 0
    | .train => 1
    | .up => 2
    | .miswired => 3
    | .unused => 4
  p.peer % 2 ^ 12 * 2 ^ 52 + p.retrains % 256 * 2 ^ 16 + bnat p.bypass * 2 ^ 7 + p.width % 8 * 2 ^ 4 + st

/-- FAB_PORT_ERR[p] (Table 09-12). -/
def PortReg.errWord (p : PortReg) : Nat := p.fecCorr % 2 ^ 32 * 2 ^ 32 + p.fecUncorr % 2 ^ 16 * 2 ^ 16 + p.retry % 2 ^ 16

/-- FAB_RING[d] (Table 09-13). -/
def State.ringWord (s : State) (d : Nat) : Nat :=
  let l := mapGet [] s.fab.live d
  l.length % 256 * 2 ^ 32 + l.foldl (fun a c => a ||| 2 ^ (c % 32)) 0

/-- FAB_PARITY (Table 09-14). -/
def State.parityWord (s : State) : Nat :=
  match s.fab.parity with
  | some c => 2 ^ 63 + bnat s.fab.valid * 2 ^ 62 + s.fab.buf % 2 * 2 ^ 61 + s.groupSize % 16 * 2 ^ 52 +
      s.memberIdx % 16 * 2 ^ 48 + c.dmax % 2 ^ 32
  | none => 0

/-- BUD_QUOTA of a class (Table 08-11). -/
def State.quotaWord (s : State) (c : Nat) : Nat :=
  bnat (s.tier.excess.contains c) * 2 ^ 63 + s.quotaUse c % 2 ^ 31 * 2 ^ 32 + s.quotaLimit c % 2 ^ 31

/-- LED_LOG[k], four words: the newest record whose SEQ mod 64 is k (R463). -/
def State.logWords (s : State) (k : Nat) : List Nat :=
  match s.reeve.log.reverse.find? fun r => r.1 % 64 == k with
  | some (n, e) => let w := e.words; [n, w.1, w.2.1, w.2.2]
  | none => [0, 0, 0, 0]

/-- HIF_STATUS (Table 14-4). -/
def State.hifStatus (s : State) : Nat :=
  s.hif.errQueue % 256 * 2 ^ 8 + bnat s.reeve.debug * 8 + bnat s.hif.session * 4 +
    bnat (s.hif.queues.any fun q => q.2.stopped) * 2 + bnat s.hif.ready

/-- LED_WEAR[n] (Table 15-12). -/
def State.wearWord (s : State) (n : Nat) : Nat := bnat (s.exhausted n) * 2 ^ 20 + min (s.wearOf n) 1000000

/-- PWR_STATUS (Table 17-8). -/
def Pwr.statusWord (p : Pwr) : Nat :=
  p.cause % 16 * 2 ^ 20 + bnat p.up * 2 ^ 9 + bnat p.brake * 2 ^ 8 + bnat p.stage1 * 2 ^ 7 + bnat p.warn * 2 ^ 6 +
    bnat p.stage1Seen * 2 + bnat p.warnSeen

/-- PWR_INPUT (Table 17-9). -/
def Pwr.inputWord (p : Pwr) : Nat :=
  p.powerAvg % 2 ^ 16 * 2 ^ 48 + p.power % 2 ^ 16 * 2 ^ 32 + p.current % 2 ^ 16 * 2 ^ 16 + p.voltage % 2 ^ 16

/-- PWR_TEMP (Table 17-10). -/
def Pwr.tempWord (p : Pwr) : Nat :=
  p.hbmMax % 256 * 2 ^ 24 + p.junctionMax % 256 * 2 ^ 16 + p.hamlet % 16 * 2 ^ 8 + p.stack % 8

/-- The GEN, HIF, BEL, BUD, LED and PWR registers. -/
def State.moduleReg (s : State) (o : Nat) : Nat :=
  let b := s.bud
  if o = 0x8 then 0x00020100
  else if o = 0x10 then queueDepth s.unitsEff * 2 ^ 16 + queueCount s.unitsEff * 2 ^ 8 + s.unitsEff % 32
  else if o = 0x10000 then bnat s.hif.events * 2 + bnat s.hif.enable
  else if o = 0x10008 then s.hifStatus
  else if o = 0x10010 then s.hif.aqSq
  else if o = 0x10018 then s.hif.aqRq
  else if o = 0x10020 then s.hif.aperBase % 2 ^ 16 * 2 ^ 36 + bnat s.hif.aperOn
  else if o = 0x10028 then
    s.hif.deniedCount * 2 ^ 32 + bnat s.hif.errAperture * 4 + bnat s.hif.errDoorbell * 2 + bnat s.hif.errDenied
  else if o = 0x20000 then s.bel.frame % 2 ^ 48
  else if o = 0x20008 then s.bel.statusWord
  else if o = 0x20010 then bnat s.bel.capValid * 2 ^ 63 + s.bel.capFrame % 2 ^ 48 * 2 ^ 14 + s.bel.capCycle % 2 ^ 14
  else if inBank 0x30000 8 o then s.inForce ((o - 0x30000) / 8) * 2 ^ 16 + s.ceilOf ((o - 0x30000) / 8)
  else if o = 0x30100 then b.slipTotal * 2 ^ 32 + b.slipNext % 1024
  else if o = 0x30108 then b.stepLast * 2 ^ 32 + b.stepCur
  else if inBank 0x30120 8 o then let p := mapGet (0, 0) b.phases ((o - 0x30120) / 8); p.1 * 2 ^ 32 + p.2
  else if o = 0x30180 then b.lostFrames * 2 ^ 32 + b.stops * 2 ^ 16 + b.rebuilds * 2 ^ 8 + b.lastClass % 8
  else if inBank 0x30200 5 o then s.quotaWord ((o - 0x30200) / 8)
  else if inBank 0x31000 2048 o then mapGet 0 b.ring ((o - 0x31000) / 16) / 2 ^ (64 * ((o - 0x31000) / 8 % 2)) % 2 ^ 64
  else if inBank 0x40000 256 o then s.ledger ((o - 0x40000) / 8)
  else if inBank 0x40800 256 o then s.wearWord ((o - 0x40800) / 8)
  else if o = 0x41000 then s.reeve.nextSeq % 2 ^ 48 * 2 ^ 16 + s.reeve.lost
  else if inBank 0x41800 256 o then (s.logWords ((o - 0x41800) / 32)).getD ((o - 0x41800) / 8 % 4) 0
  else if o = 0x50000 then s.pwr.statusWord
  else if o = 0x50008 then s.pwr.inputWord
  else if o = 0x50010 then s.pwr.tempWord
  else 0

/-- The FAB, TIER, TBL, RNG, SUR and SMP registers. -/
def State.serviceReg (s : State) (o : Nat) : Nat :=
  let t := s.tier.regs
  if inBank 0x100000 12 o then
    let p := s.port ((o - 0x100000) / 16)
    if o % 16 = 0 then p.word else p.errWord
  else if inBank 0x100080 3 o then s.ringWord ((o - 0x100080) / 8)
  else if o = 0x1000A0 then s.parityWord
  else if o = 0x1000A8 then s.fab.lastStep
  else if o = 0x1000B0 then s.fab.lastFrame % 2 ^ 48
  else if o = 0x200000 then
    t.promote % 2 ^ 16 * 2 ^ 48 + t.demote % 2 ^ 16 * 2 ^ 32 + t.hold % 2 ^ 16 * 2 ^ 16 + t.decay % 16 * 2 ^ 8 + t.epoch % 16
  else if o = 0x200010 then t.subst * 2 ^ 32 + bnat t.nondet
  else if o = 0x200018 then t.lateStep
  else if o = 0x200020 then t.inval * 2 ^ 32 + t.moves
  else if inBank 0x200100 8 o then
    let e := mapGet ⟨0, 0, 0⟩ s.tier.ecc ((o - 0x200100) / 8)
    e.ue * 2 ^ 48 + e.ce * 2 ^ 16 + e.retired % 2 ^ 16
  else if inBank 0x200200 8 o then
    let r := mapGet ⟨0, 0, false⟩ s.smithy.regs ((o - 0x200200) / 8)
    r.skipGrad * 2 ^ 40 + r.skipOther * 2 ^ 16 + bnat r.skip
  else if o = 0x200240 then s.smithy.touched.length * 2 ^ 32 + s.smithy.phase
  else if o = 0x200300 then t.drops * 2 ^ 44 + t.spills * 2 ^ 24 + bnat t.drop * 2 + bnat t.spill
  else if o = 0x300000 then s.tables.redirects * 2 ^ 40 + s.tables.forwards * 2 ^ 16 + s.tables.moves
  else if o = 0x300008 then s.tables.skewTable * 2 ^ 52 + s.tables.skewLoad % 2 ^ 32 * 2 ^ 16 + s.tables.skewRatio
  else if o = 0x400000 then s.rng.failCount * 2 ^ 48 + s.rng.blocks * 2 ^ 16 + bnat s.rng.fail * 8 + s.rng.est
  else if o = 0x400008 then s.rng.seed
  else if o = 0x400010 then s.rng.seedFrom
  else if inBank 0x404000 16 o then
    let r := mapGet ⟨0, 0, false, false⟩ s.sur ((o - 0x404000) / 8)
    r.badId * 2 ^ 40 + r.dropped * 2 ^ 16 + bnat r.drop * 2 + bnat r.bad
  else if inBank 0x408000 16 o then
    let r := mapGet ⟨0, 0, false, false⟩ s.smp ((o - 0x408000) / 8)
    r.ovfLogits * 2 ^ 40 + r.emptyRows * 2 ^ 16 + bnat r.empty * 2 + bnat r.ovf
  else 0

/-- The register at an offset, overrides apart. -/
def State.regRaw (s : State) (o : Nat) : Nat := match coreWindow o with
  | some (n, w) => (s.core (BitVec.ofNat 8 n)).regWord w
  | none => if o < 0x100000 then s.moduleReg o else s.serviceReg o

/-- The register at an offset, a multiple of 8, as BAR0 and the module's own reports read it: an override of debug-unlock
state replaces the bits it names (R417, R419; DEDUCED, log 19). -/
def State.readReg (s : State) (o : Nat) : Nat :=
  let v := s.regRaw o % 2 ^ 64
  match mapFind s.reeve.overrides o with
  | some (m, x) => (v &&& (2 ^ 64 - 1 - m)) ||| (x &&& m)
  | none => v

/-- Whether the BARs answer: Memory Space Enable is set and the function is in D0 (R414, R416). -/
def State.barOpen (s : State) : Bool := s.hif.mse && !s.hif.d3

/-- Whether a BAR0 access has a size and alignment that R417 allows. -/
def barAccessOk (off size : Nat) : Bool := (size == 4 || size == 8) && off % size == 0

/-- A BAR0 read: the bytes, and whether it completes as Unsupported Request, which returns all ones (R414, R417). -/
def State.barRead (s : State) (off size : Nat) : Nat × Bool :=
  if s.barOpen && barAccessOk off size then (s.readReg (off / 8 * 8) / 2 ^ (8 * (off % 8)) % 2 ^ (8 * size), false)
  else (2 ^ (8 * size) - 1, true)

/-! ## FAB_STATUS (R304) and the snapshot (R442) -/

/-- FAB_STATUS: ports, their error counts, rings, parity (R304, Table 14-11). -/
def fabStatus (h : PktHdr) (s : State) : State :=
  damtin 0x0501 h [] (fun s =>
    let regs := ((List.range 6).map fun p => 0x100000 + 16 * p) ++ ((List.range 6).map fun p => 0x100008 + 16 * p) ++
      ((List.range 3).map fun d => 0x100080 + 8 * d) ++ [0x1000A0]
    s.replyLong h s.fabricOk (regs.flatMap fun o => bytesOfNat 8 (s.readReg o))) s

/-- Bytes of the snapshot image (R442). -/
def snapshotBytes : Nat := 18616

/-- The snapshot image (Table 14-12). -/
def State.snapshot (s : State) : List Byte :=
  let offs := [0x20000, 0x20008, 0x30100, 0x30108] ++ ((List.range 8).map fun k => 0x30120 + 8 * k) ++
    ((List.range 2048).map fun i => 0x31000 + 8 * i) ++ [0x200010, 0x200018, 0x200020] ++
    ((List.range 8).map fun i => 0x200100 + 8 * i) ++ ((List.range 256).map fun n => 0x1000000 + n * 0x10000)
  offs.flatMap fun o => bytesOfNat 8 (s.readReg o)

/-- TELEMETRY_SNAPSHOT: the image is written at the first tick after acceptance (R442). A RADDR of 0 is refused at once
(R431). -/
def telemetrySnapshot (h : PktHdr) (addr : W64) (len : W32) (s : State) : State :=
  damtin 0x0901 h [(0, 8, addr.toNat), (8, 4, len.toNat)] (fun s =>
    if decide (len.toNat < snapshotBytes) || h.raddr == 0 then s.reply h stInvalid
    else ({ s with hif := { s.hif with snapshots := s.hif.snapshots ++ [SnapReq.mk (some h) addr.toNat (s.bel.frame + 1) [] false] } }).begun h) s

/-- The tick takes the images of the snapshots that are due (R442). -/
def State.takeImages (s : State) : State :=
  { s with hif := { s.hif with snapshots := s.hif.snapshots.map fun x =>
      if x.image.isEmpty && decide (x.tick ≤ s.bel.frame) then { x with tick := s.bel.frame, image := s.snapshot } else x } }

/-- What has become of a snapshot whose image is taken: the image is written, and then its reply, each once the HOST meter lets the
transfer start (R431, R439, R442). -/
def State.writeImage (s : State) (x : SnapReq) : State :=
  let keep (s : State) (x : SnapReq) : State := { s with hif := { s.hif with snapshots := s.hif.snapshots ++ [x] } }
  if x.image.isEmpty || (!x.written && !s.hostOutOpen) then keep s x
  else
    let s1 := if x.written then s else (s.chargeOut snapshotBytes).hostWrite x.addr x.image
    match x.hdr with
    | some h =>
      if s1.hostOutOpen then s1.replyLong h stOk (bytesOfNat 8 x.tick ++ bytesOfNat 8 snapshotBytes)
      else keep s1 { x with written := true }
    | none => s1

/-- TELEMETRY_IMAGE_WRITE: the images that ticks have taken are written, with their replies (R442, R439). -/
def telemetryImageWrite (s : State) : State :=
  s.hif.snapshots.foldl State.writeImage { s with hif := { s.hif with snapshots := [] } }

end Sys2Proof.Machine
end

