-- ==== Sys2Proof/Machine/RowsBell.lean ====
section
/-! DEFINITION. The meanings of the table's rows, one definition for each: The bell, budgets and the start of steps and tasks (spec/03, spec/04). -/

namespace Sys2Proof.Machine

/-- BELL_TICK: At each frame tick BEL_FRAME_NO increments, latched changes take effect, budget meters refill and the
frame's tasks become eligible (R48) -/
def execBellTick (s : State) : Host.Outcome State Fault Refusal :=
  .next (s.settle (bellTickAll s).takeImages)

/-- ECON_REQUEST_TIMEOUT: When the root has received no economy request for 2 consecutive frames it announces full
pace (R65) -/
def execEconRequestTimeout (s : State) : Host.Outcome State Fault Refusal :=
  .next (s.settle (econTimeout s))

/-- PACE_CHANGE: At the tick the root announced, the machine switches between full and half pace (R58) -/
def execPaceChange (s : State) : Host.Outcome State Fault Refusal :=
  .next (s.settle (paceChange s))

/-- OVERRUN_CHECK_RESUME: 512 frames after half pace took effect with owed work still present, the ordinary
FRAME_OVERRUN check resumes (R67) -/
def execOverrunCheckResume (s : State) : Host.Outcome State Fault Refusal :=
  .next (s.settle (overrunResume s))

/-- FRAME_OVERRUN: A core still owing work of a frame one full frame after its end raises FRAME_OVERRUN, and the step
is stopped and replayed under a detour (R51) -/
def execFrameOverrun (core : CoreId) (s : State) : Host.Outcome State Fault Refusal :=
  .next (s.settle (frameOverrun core s))

/-- SLIP_RECORD_WRITE: One frame after the end of a frame in which a core slipped, a 16-byte slip record goes into the
slip ring and BUD_SLIP_HEAD advances (R80) -/
def execSlipRecordWrite (s : State) : Host.Outcome State Fault Refusal :=
  .next (s.settle (slipRecordWrite s))

/-- READ_DEADLINE: At the guard band of the almanac frame, row reads of SUBSTITUTE pages that have not arrived are
replaced by the substitute row and counted in TIER_LATE (R257) -/
def execReadDeadline (core : CoreId) (s : State) : Host.Outcome State Fault Refusal :=
  .next (s.settle (readDeadline core s))

/-- BELL_LOCK: After the tick has stayed within half a cycle of the corrected upstream tick for 64 frames, the bell
enters LOCKED (R52) -/
def execBellLock (s : State) : Host.Outcome State Fault Refusal :=
  .next (s.settle (bellLock s))

/-- BELL_HOLDOVER: A module that is not root and has received no mark for 4 frames enters HOLDOVER (R52) -/
def execBellHoldover (s : State) : Host.Outcome State Fault Refusal :=
  .next (s.settle (bellHoldover s))

/-- BELL_LOST: After 2,048 frames in HOLDOVER the module raises BELL_LOST (R54) -/
def execBellLost (s : State) : Host.Outcome State Fault Refusal :=
  .next (s.settle (bellLost s))

/-- MARK: A received MARK block gives FRAME_NO, pace, root, delay stamps and economy requests, driving bell
acquisition, lock checks and return from HOLDOVER (R281) -/
def execMark (port : Port) (block : List Byte) (count : W32) (off : Int) (s : State) : Host.Outcome State Fault
    Refusal :=
  .next (s.settle (mark port block count.toNat off s))

/-- MARK_SEND: Each UP port sends one MARK block per frame at a cell boundary within 256 cycles after the tick (R281)
-/
def execMarkSend (port : Port) (count : W32) (s : State) : Host.Outcome State Fault Refusal :=
  .next (s.settle (markSend port count.toNat s))

/-- TICK_IN_CAPTURE: A rising edge on TICK_IN writes FRAME_NO and CYCLE into BEL_TICK_CAPTURE and sets VALID (R57) -/
def execTickInCapture (s : State) : Host.Outcome State Fault Refusal :=
  .next (s.settle (tickInCapture s))

/-- STEP_BEGIN: At the first tick of a step, counters and descriptors clear, granary slots empty, gradient halves
reset, and pending seeds, retirements, returns and audit mode take effect (R440) -/
def execStepBegin (s : State) : Host.Outcome State Fault Refusal :=
  .next (s.settle (stepBegin s))

/-- ALMANAC_SWITCH_EFFECT: At the first tick after the commit of step S−1 at which no core owes old work, the staged
almanac becomes active as step S (R77) -/
def execAlmanacSwitchEffect (s : State) : Host.Outcome State Fault Refusal :=
  .next (s.settle (almanacSwitchEffect s))

/-- TASK_START: A task starts on the lowest free threads when it is next in order, threads and its vector context are
free and its gate holds, or is skipped by an IF_KEPT or IF_DROPPED gate (R87) -/
def execTaskStart (core : CoreId) (s : State) : Host.Outcome State Fault Refusal :=
  .next (s.settle (taskStart core s))

end Sys2Proof.Machine
end

