-- ==== Sys2Proof/Machine/Context.lean ====
section
/-! DEFINITION. Contexts: their layout, saving and restoring them (spec/04 R118-R123; spec/16 R519). -/

namespace Sys2Proof.Machine

/-! ## Layout (R119, R120) -/

/-- Bytes of a core record (R120). -/
def coreRecordBytes : Nat := 1909512
/-- Bytes of a STEP context: header and digest. -/
def stepContextBytes : Nat := 112
/-- Bytes of a SECTION context of `n` cores (R120). -/
def sectionContextBytes (n : Nat) : Nat := 64 + 32 + 8 * n + coreRecordBytes * n + 48

/-- Cores in service, rising. -/
def State.servingCores (s : State) : List Nat :=
  let out := s.retiredCores
  (List.range 256).filter fun c => !out.contains c

/-- The context header (Table 04-7). -/
def contextHeader (kind alm step sect count frame table size : Nat) : List Byte :=
  bytesOfNat 4 0x58544E43 ++ bytesOfNat 2 2 ++ bytesOfNat 1 2 ++ bytesOfNat 1 kind ++ bytesOfNat 8 alm ++ bytesOfNat 8 step ++
    bytesOfNat 2 sect ++ bytesOfNat 2 count ++ bytesOfNat 4 0 ++ bytesOfNat 8 (frame % 2 ^ 48) ++ bytesOfNat 8 table ++
    bytesOfNat 8 size ++ bytesOfNat 8 0

/-- A block with its header (R120). -/
def contextBlock (type : Nat) (payload : List Byte) : List Byte :=
  bytesOfNat 2 type ++ bytesOfNat 2 0 ++ bytesOfNat 4 payload.length ++ payload

/-- Results in flight of a context that issues nothing more have all become visible. -/
def VContext.settle (x : VContext) : VContext := { x.pend.foldl VContext.writeTile x with pend := [] }

/-- The tile registers of a context, in order. -/
def VContext.tileBytes (x : VContext) : List Byte :=
  (List.range 16).flatMap fun r => (List.range 4).flatMap fun q =>
    (x.settle.quarter (BitVec.ofNat 4 r) q).flatMap fun w => bytesOfNat 4 w.toNat

/-- A core record: the blocks of Table 04-8. -/
def coreRecord (n : Nat) (k : Core) : List Byte :=
  contextBlock 1 (bytesOfNat 2 n ++ bytesOfNat 6 0) ++
  contextBlock 2 ((List.range 64).flatMap fun i => bytesOfNat 2 (k.counter (BitVec.ofNat 6 i)).toNat) ++
  contextBlock 3 ((List.range 16).flatMap fun i => (k.desc (BitVec.ofNat 4 i)).toBytes) ++
  ((List.range 4).flatMap fun i => contextBlock 4 (bytesOfNat 1 i ++ bytesOfNat 7 0 ++ (k.vcontext (BitVec.ofNat 2 i)).tileBytes)) ++
  ((List.range 2).flatMap fun b => contextBlock 5 (bytesOfNat 1 b ++ bytesOfNat 7 0 ++
    (List.range 64).flatMap fun r => (k.bankRow (b == 1) r).flatMap A48.toBytes)) ++
  contextBlock 6 (k.ls.readBytes 0 lsLimit)

/-- The STEP context at the boundary that has passed (R118). -/
def State.stepContext (s : State) : List Byte :=
  let b := contextHeader 0 s.run.active.ident s.run.nextStep 0 0 s.bel.frame 0 stepContextBytes
  b ++ sha384 b

/-- The SECTION context at the section of a step-list position, whose first frame was `frame` (R118, R119). -/
def State.sectionContext (s : State) (pos frame : Nat) : List Byte :=
  let cs := s.servingCores
  let n := cs.length
  let map := s.retiredCores.foldl (fun a c => a ||| 2 ^ c) 0
  let recs := 96 + 8 * n
  let b := contextHeader 1 s.run.active.ident s.run.step pos n frame 96 (sectionContextBytes n) ++
    bytesOfNat 32 map ++ ((List.range n).flatMap fun i => bytesOfNat 8 (recs + coreRecordBytes * i)) ++
    cs.flatMap fun c => coreRecord c (s.core (BitVec.ofNat 8 c))
  b ++ sha384 b

/-! ## CONTEXT_SAVE (R121) -/

/-- Who reads and writes contexts in device memory, apart from every page. -/
def contextUser : Requester := .own (2 ^ 52 + 2)

/-- Whether no page of a device range is known to refuse writes. -/
def State.mayWrite (s : State) (va n : Nat) : Bool :=
  decide (va + n ≤ 2 ^ 52) && (piecesOf va n).all fun p => match s.look (p.1 / pageBytes) with
    | .entry e => e.w
    | .query _ => true
    | .none => false

/-- CONTEXT_SAVE: the save waits for its boundary or section tick (R121). -/
def contextSave (h : PktHdr) (kind halt space : Byte) (dest len : W64) (s : State) : State :=
  damtin 0x0910 h [(0, 1, kind.toNat), (1, 1, halt.toNat), (2, 1, space.toNat), (8, 8, dest.toNat), (16, 8, len.toNat)] (fun s =>
    let size := if kind = 0 then stepContextBytes else sectionContextBytes s.servingCores.length
    if decide (1 < kind.toNat) || decide (1 < halt.toNat) || decide (1 < space.toNat) || decide (len.toNat < size) ||
        (space == 0 && !s.mayWrite dest.toNat size) then s.reply h stInvalid
    else if s.run.save.isSome then s.reply h stBusy
    else
      let r : SaveReq := ⟨kind.toNat, halt == 1, space == 1, dest.toNat, len.toNat, some h, s.openStep, none, false⟩
      ({ s with run := { s.run with save := some r } }).begun h) s

/-! ## CONTEXT_SAVE_WRITE (R118, R121, R519) -/

/-- Nothing of a core is in flight; tasks of the frame that begins now have not started. -/
def Core.quiet (k : Core) (frame : Nat) : Bool :=
  k.threads.isEmpty && (k.queues.all fun q => q.2.waiting.isEmpty && q.2.run.isNone) &&
  (k.ctxs.all fun x => x.2.buf.isEmpty && x.2.unret.isEmpty) && k.drained.isEmpty && k.tileQ.isEmpty &&
  k.tasks.all fun t => t.stage == .ended || t.stage == .skipped || (t.stage == .eligible && t.ctx.frame == frame)

/-- Whether this is a section tick at which a SECTION save qualifies (R118). -/
def State.sectionTick (s : State) (r : SaveReq) : Bool :=
  r.kind == 1 && s.run.inStep && s.run.step == r.step && !s.run.interlude && s.run.frameLive && s.run.frameIdx == 0 &&
  s.bel.cycle == 0 && (match s.run.openFrames.getLast? with
    | some f => f.first == s.bel.frame
    | none => false) && s.cores.all fun c => c.2.quiet s.bel.frame

/-- Whether the boundary at which the save falls due has passed and its commit is applied (R121). -/
def State.saveBoundary (s : State) (r : SaveReq) : Bool :=
  s.run.anyCommit && decide (r.step ≤ s.run.committed) && !s.run.inStep && s.smithy.phase == 0

/-- Cores of a SECTION save whose local store or tile registers hold an uncorrectable word (R519). -/
def State.badCores (s : State) : List Nat :=
  s.servingCores.filter fun c => let e := (s.core (BitVec.ofNat 8 c)).errors; !(e.ls.isEmpty && e.tile.isEmpty)

/-- A HALT save of a SECTION context holds the module at the section that it names: the tasks placed from its first frame on, none of
which has started, are dropped and begin again on STEP_RUN (R121, R440). -/
def State.haltSection (s : State) (pos frame : Nat) : State :=
  { s with
    cores := s.cores.map fun c => (c.1, { c.2 with tasks := [] }),
    run := { s.run with state := .held, halted := true, inStep := false, frameLive := false, nextStep := s.run.step,
                        resumePos := some pos, openFrames := s.run.openFrames.filter fun f => decide (f.first < frame) } }

/-- The save is complete: it replies, and the module goes on or holds (R121). -/
def State.finishSave (s : State) (r : SaveReq) (kind size : Nat) : State :=
  let s1 := ({ s with run := { s.run with save := none, saving := false } }).replyTo r.hdr stOk kind size
  if !r.halt then s1
  else if kind = 1 then s1.haltSection (r.begun.map Prod.fst |>.getD s.run.pos) (r.begun.map Prod.snd |>.getD s.bel.frame)
  else { s1 with run := { s1.run with state := .held, halted := true } }

/-- Whether writes of a context to device memory are still out. -/
def State.contextOut (s : State) : Bool :=
  (s.tier.writesOut.any fun w => w.who == contextUser) || s.tier.writes.any fun w => w.who == contextUser

/-- The save has begun and goes on: no task starts meanwhile (R121). -/
def State.saveOn (s : State) (r : SaveReq) : State := { s with run := { s.run with saving := true, save := some r } }

/-- A save whose destination cannot be written ends (DESIGN CHOICE, log 141). -/
def State.refuseSave (s : State) (r : SaveReq) : State :=
  (({ s with run := { s.run with save := none, saving := false } }).modTier fun t => t.forget contextUser).replyTo r.hdr stInvalid

/-- Writes the bytes of a context to its destination; while the HOST meter is closed or a page's entry is still asked for, the save
is under way (R121, R439). -/
def State.putContext (s : State) (r : SaveReq) (kind : Nat) (bytes : List Byte) : State :=
  if r.host then
    if !s.hostOutOpen then s.saveOn r
    else ((s.chargeOut bytes.length).hostWrite r.dest bytes).finishSave r kind bytes.length
  else match s.refuses contextUser r.dest bytes.length, s.unknownPages contextUser r.dest bytes.length with
    | some _, _ => s.refuseSave r
    | none, [] => match s.writeData contextUser (piecesOf r.dest bytes.length) bytes with
      | (some _, s1) => s1.refuseSave r
      | (none, s1) => if s1.contextOut then s1.saveOn { r with kind := kind, written := true } else s1.finishSave r kind bytes.length
    | none, (v, d) :: rest => match s.askDir contextUser v d with
      | some s1 => (rest.foldl (fun s q => (s.askDir contextUser q.1 q.2).getD s) s1).saveOn r
      | none => s.refuseSave r

/-- CONTEXT_SAVE_WRITE: at the boundary, or at the first qualifying section tick, the pending context is written; a SECTION save
whose step ends first becomes a STEP context (R121). A save that meets an uncorrectable word raises CORE_UE with DETAIL 0
(R519). -/
def contextSaveWrite (s : State) : State :=
  match s.run.save with
  | none => s
  | some r =>
    if s.rec0.stopping then s
    else if r.written then
      if s.contextOut then s
      else s.finishSave r r.kind (if r.kind = 0 then stepContextBytes else sectionContextBytes s.servingCores.length)
    else if r.begun.isSome || s.sectionTick r then
      let at_ := r.begun.getD (s.run.pos, s.bel.frame)
      if s.badCores.isEmpty then s.putContext { r with begun := some at_ } 1 (s.sectionContext at_.1 at_.2)
      else s.badCores.foldl (fun s c => raise cCoreUe 1 c 0 s) s
    else if s.saveBoundary r then s.putContext r 0 s.stepContext
    else s

/-! ## CONTEXT_RESTORE (R122, R123) -/

/-- A block of a record: type, payload offset, payload length. -/
abbrev CtxBlock := Nat × Nat × Nat

/-- Length of a block type that the level knows (Table 04-8). -/
def blockLength (type : Nat) : Option Nat := match type with
  | 1 => some 8 | 2 => some 128 | 3 => some 512 | 4 => some 65544 | 5 => some 36872 | 6 => some 1572864
  | _ => none

/-- The blocks from `o` to `stop`; `none` where a type or length is not known. -/
def parseBlocks (m : Memory) : Nat → Nat → Nat → Option (List CtxBlock)
  | 0, _, _ => none
  | f + 1, o, stop =>
    if o = stop then some []
    else if stop < o + 8 then none
    else
      let type := m.readNat o 2
      let n := m.readNat (o + 4) 4
      if blockLength type ≠ some n ∨ stop < o + 8 + n ∨ m.readNat (o + 2) 2 ≠ 0 then none
      else (parseBlocks m f (o + 8 + n) stop).map fun t => (type, o + 8, n) :: t

/-- The records of a SECTION context, each with its blocks. -/
def contextRecords (m : Memory) (table count stop : Nat) : Option (List (List CtxBlock)) :=
  let offs := (List.range count).map fun i => m.readNat (table + 8 * i) 8
  (offs.zip (offs.drop 1 ++ [stop])).mapM fun p => if p.1 ≤ p.2 then parseBlocks m 64 p.1 p.2 else none

/-- A block's own number, context or bank, is one that exists. -/
def blockOk (m : Memory) (b : CtxBlock) : Bool :=
  if b.1 = 4 then decide (m.readNat b.2.1 1 < 4) && m.readNat (b.2.1 + 1) 7 == 0
  else if b.1 = 5 then decide (m.readNat b.2.1 1 < 2) && m.readNat (b.2.1 + 1) 7 == 0
  else if b.1 = 1 then m.readNat (b.2.1 + 2) 6 == 0
  else true

/-- A record begins with the number of its core, and names it once. -/
def recordOf (m : Memory) (core : Nat) (bs : List CtxBlock) : Bool :=
  (match bs with
    | (1, o, _) :: rest => m.readNat o 2 == core && rest.all fun b => b.1 != 1
    | _ => false) && bs.all (blockOk m)

/-- Checks 2 to 5 of Table 04-9 in order, on the bytes of a context. Check 2 takes with it FMT_VERSION 2, KIND 0 or 1, and no section or
core in a STEP context (DESIGN CHOICE, log 171). -/
def State.contextCheck (s : State) (m : Memory) (len : Nat) : Nat :=
  let size := m.readNat 48 8
  let kind := m.readNat 7 1
  let count := m.readNat 26 2
  let slot := if s.run.state = .idle then s.run.staged else s.run.active
  let headOk := m.readNat 0 4 == 0x58544E43 && m.readNat 4 2 == 2 && decide (kind ≤ 1) && decide (112 ≤ size) &&
    decide (size ≤ len) && m.readNat 28 4 == 0 && m.readNat 56 8 == 0 && m.readNat 38 2 == 0 &&
    (kind == 1 || (size == stepContextBytes && count == 0 && m.readNat 24 2 == 0))
  let sectOk : Bool :=
    m.readNat 64 32 == s.retiredCores.foldl (fun a c => a ||| 2 ^ c) 0 && count == s.servingCores.length &&
    decide (m.readNat 24 2 < slot.stepLen) && decide (96 ≤ m.readNat 40 8) && decide (m.readNat 40 8 + 8 * count + 48 ≤ size) &&
    (match contextRecords m (m.readNat 40 8) count (size - 48) with
      | some rs => (rs.zip s.servingCores).all fun p => recordOf m p.2 p.1
      | none => false)
  if !headOk then stInvalid
  else if sha384 (m.readBytes 0 (size - 48)) != m.readBytes (size - 48) 48 then stInvalid
  else if 2 < m.readNat 6 1 then stArchLevel
  else if !slot.loaded || slot.ident != m.readNat 8 8 then stInvalid
  else if kind == 1 && !sectOk then stInvalid
  else stOk

/-- A core at a restore: no command is in flight and the steal map is new (R110, R118); what the context does not write stays as it
stands (R515). -/
def Core.still (k : Core) : Core :=
  { k with threads := [], ended := [], queues := [], code := [], heads := [], drained := [], tileQ := [], lanes := [], tasks := [],
           errors := k.ctxs.foldl (fun e x =>
             e.tilesWritten x.1 ((x.2.pend.filter fun p => p.words.all Option.isSome).map PendTile.key)) k.errors,
           ctxs := k.ctxs.map fun x => (x.1, { x.2.settle with buf := [], unret := [], stopped := false }) }

/-- A core that a record restores: what no block of the record gives takes its cleared value (R123). -/
def Core.cleared (k : Core) : Core :=
  { k with sc := [], st := [], ls := [], ctxs := [], banks := [], hidden := [], errors := { k.errors with ls := [], tile := [] } }

/-- Restores one block into a core (Table 04-8). -/
def Core.putBlock (m : Memory) (k : Core) (b : CtxBlock) : Core :=
  let o := b.2.1
  match b.1 with
  | 2 => (List.range 64).foldl (fun k i => k.setCounter (BitVec.ofNat 6 i) (BitVec.ofNat 16 (m.readNat (o + 2 * i) 2))) k
  | 3 => (List.range 16).foldl (fun k i => k.setDesc (BitVec.ofNat 4 i) (Desc.ofBytes (m.readBytes (o + 32 * i) 32))) k
  | 4 =>
    let c := BitVec.ofNat 2 (m.readNat o 1)
    let words (key : Nat) : List (BitVec 32) :=
      (List.range 256).map fun i => BitVec.ofNat 32 (m.readNat (o + 8 + 1024 * key + 4 * i) 4)
    let x := (List.range 64).foldl (fun (x : VContext) key =>
      { x with tiles := mapSet (List.replicate 256 0) x.tiles key (words key) }) (k.vcontext c)
    k.setVContext c x
  | 5 =>
    let bank := m.readNat o 1 == 1
    (List.range 64).foldl (fun k r => k.setBankRow bank r
      ((List.range 64).map fun i => A48.ofBytes (m.readBytes (o + 8 + 576 * r + 9 * i) 9))) k
  | 6 => { k with ls := m.slice o 0x180000 }
  | _ => k

/-- The cores after a restore: each core in service takes the record of a SECTION context; a STEP context holds none, and leaves
local stores, tile registers and accumulators as they stand (R118, R122, R123, R515). -/
def State.restoreCores (s : State) (m : Memory) : State :=
  let s1 : State := { s with cores := s.cores.map fun c => (c.1, c.2.still) }
  if m.readNat 7 1 = 0 then s1
  else match contextRecords m (m.readNat 40 8) (m.readNat 26 2) (m.readNat 48 8 - 48) with
    | some rs => (rs.zip s.servingCores).foldl (fun s p =>
        s.setCore (BitVec.ofNat 8 p.2) (p.1.foldl (Core.putBlock m) (s.core (BitVec.ofNat 8 p.2)).cleared)) s1
    | none => s1

/-- What the granary and the smithies hold of a step that a restore leaves goes. A step resumed on the module that held it keeps
what it had staged, at whatever section it resumes, since no context holds it (DESIGN CHOICE, log 140); one resumed on an IDLE module
takes the ranges that wait for the next STEP_RUN (R122, R518). -/
def State.restoreServices (s : State) (n : Nat) (sect idle : Bool) : State :=
  if sect && !idle && s.run.resumePos.isSome && s.run.step == n then s
  else
    let g := s.granary
    let y := s.smithy
    let now := sect && idle
    { s with
      granary := { slots := [], spill := if now then g.next.getD g.spill else g.spill, next := if now then none else g.next, cursor := 0 },
      smithy := { y with cfg := if now && y.next.isSome then y.next else y.cfg, next := if now then none else y.next, rows := [],
                         touched := [], requests := 0, phase := 0, parityStarted := false, applyStarted := false, tables := [] },
      fab := { s.fab with phase := .none, bDone := [], bSent := false, deltas := [], staging := [], ready := [] } }

/-- A restore succeeds: the module holds until STEP_RUN (R122). The interlude that stands before the step of a STEP context is due
again (R72, R123). The versions that STEPBIND tables had in a step resumed elsewhere are not in a context: the resumed step binds the
current ones (DESIGN CHOICE, log 140). -/
def State.restore (s : State) (m : Memory) : State :=
  let n := m.readNat 16 8
  let sect := m.readNat 7 1 == 1
  let idle := s.run.state == .idle
  let s1 := if idle then s.swapSlots else s
  let s2 := (s1.restoreServices n sect idle).restoreCores m
  let same := sect && !idle && s.run.resumePos.isSome && s.run.step == n
  { s2 with run := { s2.run with
      state := .held, step := if sect then n else n - 1, nextStep := n, committed := n - 1, anyCommit := n != 0,
      inStep := false, bounded := false, interlude := false,
      interludeDue := !sect && n != 0 && s2.run.active.interludeAfter (n - 1), frameLive := false, openFrames := [],
      startAt := none, countHold := none, stepBind := if same then s2.run.stepBind else [],
      bindOf := if same then s2.run.bindOf else none, oldBind := none, seedAt := [],
      resumePos := if sect then some (m.readNat 24 2) else none } }

/-- Bytes of device memory for the module's own use: all of them, a wait, or none because an access faults. -/
def State.ownRead (s : State) : List (Nat × Nat) → List Byte → Option (List Byte) × State
  | [], acc => (some acc, s)
  | p :: t, acc => match s.readPiece contextUser p.1 p.2 false s.bel.frame false with
    | .ok b s1 => State.ownRead s1 t (acc ++ b)
    | .wait s1 => (some [], s1)
    | .late s1 => (some [], s1)
    | .fault _ s1 => (none, s1)

/-- CONTEXT_RESTORE: the checks of Table 04-9 in order; a device source that is not here yet is asked for (R122), one that cannot be
read replies INVALID_PARAM (DESIGN CHOICE, log 141). A module that holds what it has restored from IDLE replies BUSY to a second one (DESIGN
CHOICE, log 172). -/
def contextRestore (h : PktHdr) (space : Byte) (src len : W64) (s : State) : State :=
  damtinFirst (fun s => !(s.run.state == .idle || (s.run.state == .held && s.run.halted)))
    0x0911 h [(2, 1, space.toNat), (8, 8, src.toNat), (16, 8, len.toNat)] (fun s =>
      let finish (s : State) (m : Memory) : State :=
        let st := s.contextCheck m len.toNat
        if st = stOk then (s.restore m).reply h stOk else s.reply h st
      if space = 1 then finish (s.chargeIn len.toNat) (s.hostMem.slice src.toNat len.toNat)
      else if decide (1 < space.toNat) || decide (2 ^ 52 < src.toNat + len.toNat) then s.reply h stInvalid
      else match s.ownRead (piecesOf src.toNat len.toNat) [] with
        | (none, s1) => (s1.modTier fun t => t.forget contextUser).reply h stInvalid
        | (some b, s1) =>
          if b.length < len.toNat then s1.begun h
          else finish (s1.modTier fun t => t.forget contextUser) (Memory.writeBytes [] 0 b)) s

end Sys2Proof.Machine
end

