-- ==== Sys2Proof/Machine/Survey.lean ====
section
/-! DEFINITION. The surveyor and path reduction: SURVEY_REQUEST and PATHRED (spec/10 R305-R316, R324-R327, R331). -/

namespace Sys2Proof.Machine

/-! ## PATHRED (R324, R325) -/

/-- Whether a child list meets R325. -/
def Csr.childOk (c : Csr) : Bool :=
  let kids := c.idx.filterMap id
  c.idx.all Option.isSome && kids.all (fun k => decide (k < c.segs)) &&
  ((List.range c.segs).all fun s => (c.entries s).all fun p => decide (s < ((c.idx.getD p none).getD 0))) &&
  kids.eraseDups.length == kids.length

/-- Children of a node in list order. -/
def Csr.children (c : Csr) (s : Nat) : List Nat := (c.entries s).map fun p => (c.idx.getD p none).getD 0

/-- The parent of a node that some segment names. -/
def Csr.parent (c : Csr) (i : Nat) : Option Nat := (List.range c.segs).find? fun s => (c.children s).contains i

/-- Results of an UP kind for nodes `i` and above, from the last node down: `acc` holds those above; `use` is a result as a
parent takes it (R324). -/
def upResults {α : Type} (c : Csr) (leaf : Nat → α) (f : α → α → α) (use : α → α) : Nat → List α → List α
  | 0, acc => acc
  | i + 1, acc =>
    let kids := c.children i
    let r := (reduceTree f (kids.map fun k => use (acc.getD (k - i - 1) (leaf k)))).getD (leaf i)
    upResults c leaf f use i (r :: acc)

/-- Results of DOWN_SUM for nodes in rising order; `acc` holds those of the nodes before (R324). -/
def downResults {α : Type} (c : Csr) (leaf : Nat → α) (f : α → α → α) (use : α → α) : Nat → Nat → List α → List α
  | 0, _, acc => acc
  | k + 1, i, acc =>
    let r := match c.parent i with
      | some p => f (use (acc.getD p (leaf p))) (leaf i)
      | none => leaf i
    downResults c leaf f use k (i + 1) (acc ++ [r])

/-- Element `e` of every node's result as a value under the table legend, with the OVF that arose. -/
def pathElement (g : GEnv) (op : Nat) (rows : List (List SrcEl)) (e : Nat) : List (Option Q × Nat) :=
  let el (i : Nat) : SrcEl := (rows.getD i []).getD e (.int ⟨some 0, 0⟩)
  let n := g.csr.segs
  if op = 1 ∨ op = 2 then
    let leaf (i : Nat) : Option Q := SrcEl.value g.tab (el i)
    (upResults g.csr leaf (pickValue (op == 1)) id n []).map fun v => (v, 0)
  else
    let leaf (i : Nat) : A48 × Nat := let r := mergeLeaf (el i) none; (r.1, bnat r.2)
    let f (a b : A48 × Nat) : A48 × Nat := let r := a.1.combine b.1; (r.1, a.2 + b.2 + bnat r.2)
    let use (a : A48 × Nat) : A48 × Nat := (a.1, 0)
    let res := if op = 3 then downResults g.csr leaf f use n 0 [] else upResults g.csr leaf f use n []
    res.map fun r => (if r.1.isOvf then none else some (Q.scale ⟨r.1.w * g.tab.m, 1⟩ (r.1.e - 16 + g.tab.T - 15)), r.2)

/-- The checks and reads that precede PATHRED, and the nodes whose input rows some result uses (R324, R325). -/
def pathPrepare (e : EArgs) : EM (GEnv × List Nat) := do
  let op := e.mode.toNat % 4
  let w ← get
  let p := GParam.of e.param
  p.check false false
  needDesc e.d1
  needDesc e.d2
  let tab ← eget (w.s.legend p.legTab) cLegendInvalid
  let ls ← eget (w.s.legend p.legLs) cLegendInvalid
  echeck (ls.fmt != .a48) cLegendInvalid
  let n ← eget (tab.fmt.rowElems e.d2.size.toNat) cListInvalid
  let rows := e.d2.count
  echeck (!p.defRow || decide (0 < rows)) cListInvalid
  let b ← descReadAll e.d1
  let csr ← eget (Csr.parse b) cListInvalid
  echeck (!csr.hasW && csr.childOk) cListInvalid
  let g : GEnv := ⟨p, tab, ls, e.d2, csr, n, rows, rows - bnat p.defRow, w.s.randKey e.task ls.tensorId 0⟩
  let used := (List.range csr.segs).filter fun i => op == 3 || (csr.entries i).isEmpty
  missCheck p.strict (used.filter fun i => (g.hit (some i)).isNone).length
  pure (g, used)

/-- The rows of every node's result, with the OVF that arose on the way (R324). -/
def pathRows (g : GEnv) (op : Nat) (read : List (Nat × List Byte)) : List (OutRow × NumCount) × Nat :=
  let els := (List.range g.csr.segs).map fun i => match read.find? fun r => r.1 == i with
    | some r => decodeSrc g.tab.fmt g.n r.2
    | none => []
  let cols := (List.range g.n).map (pathElement g op els)
  ((List.range g.csr.segs).map fun i =>
    narrowOut g.ls g.key (g.csr.row0 + i) (cols.map fun c => ((c.getD i (none, 0)).1)),
   cols.foldl (fun a c => c.foldl (fun a r => a + r.2) a) 0)

/-- PATHRED (R324, R325). -/
def pathredWork (e : EArgs) : EM Unit := do
  let x ← pathPrepare e
  let g := x.1
  let got ← entryRows false g (x.2.map some)
  let r := pathRows g (e.mode.toNat % 4) (x.2.zip got)
  let out := r.1
  noteNum ⟨0, r.2⟩
  noteNum (out.foldl (fun a r => a.add r.2) NumCount.none)
  writeSide g false false (out.map Prod.fst)

/-! ## Requests and blocks (R305-R309, R314-R316) -/

/-- A survey request block (Table 10-2). -/
structure SurReq where
  kind : Nat
  hops : Nat
  weight : Nat
  flags : Nat
  fanout : Nat
  tensor : Nat
  wleg : Nat
  rsvd : Nat
  source : Nat
  seeds : Nat
  count : Nat
  capacity : Nat
  experts : Nat
  rowBase : Nat
deriving DecidableEq, Repr

/-- The fields of the 64 bytes. -/
def SurReq.of (b : List Byte) : SurReq :=
  let n (o k : Nat) : Nat := natOfBytes ((b.drop o).take k)
  { kind := n 0 1, hops := n 1 1, weight := n 2 1, flags := n 3 1, fanout := n 4 4, tensor := n 8 4, wleg := n 12 2,
    rsvd := n 14 2 + n 44 4 + n 56 8, source := n 16 8, seeds := n 24 8, count := n 32 4, capacity := n 36 4,
    experts := n 40 4, rowBase := n 48 8 }

/-- Fanout of hop `h`. -/
def SurReq.fan (r : SurReq) (h : Nat) : Nat := r.fanout / 256 ^ h % 256

/-- The field checks of R308. -/
def SurReq.ok (r : SurReq) : Bool :=
  r.rsvd == 0 &&
  if r.kind = 0 then
    decide (1 ≤ r.hops) && decide (r.hops ≤ 4) && decide (r.weight ≤ 2) && decide (r.flags ≤ 1) &&
    r.fanout / 256 ^ r.hops == 0 && (r.weight != 0 || r.wleg == 0) && r.source % 64 == 0 && decide (1 ≤ r.count) &&
    decide (r.count ≤ 65536) && r.capacity == 0 && r.experts == 0
  else
    r.kind == 1 && decide (1 ≤ r.hops) && decide (r.hops ≤ 8) && r.weight == 0 && r.flags == 0 && r.fanout == 0 &&
    decide (1 ≤ r.count) && decide (r.count ≤ 1048576) && decide (1 ≤ r.experts) && decide (r.experts ≤ 65535)

/-- A graph descriptor (Table 10-1). -/
structure Graph where
  nodes : Nat
  maxDeg : Nat
  edges : Nat
  offsets : Nat
  neighbours : Nat
  edgeW : Nat
deriving DecidableEq, Repr

/-- The fields of the 64 bytes. -/
def Graph.of (b : List Byte) : Graph :=
  let n (o k : Nat) : Nat := natOfBytes ((b.drop o).take k)
  ⟨n 0 4, n 4 4, n 8 8, n 16 8, n 24 8, n 32 8⟩

/-- Bytes rounded up to a multiple of 64. -/
def up64 (n : Nat) : Nat := (n + 63) / 64 * 64

/-- Bytes of a CSR block with IX32 entries (Table 06-1). -/
def csrBytes (unit hasW : Bool) (segs ents : Nat) : Nat :=
  32 + (if unit then 0 else 4 * (segs + 1)) + (4 * ents + 7) / 8 * 8 + if hasW then 2 * ents else 0

/-- A CSR block with IX32 entries (R167, R315); `offs` is used where it is not a UNIT list. -/
def csrBlock (unit : Bool) (row0 wleg segs : Nat) (offs : List Nat) (ents : List Nat) (wts : Option (List Nat)) : List Byte :=
  let body := ents.flatMap (bytesOfNat 4)
  bytesOfNat 4 segs ++ bytesOfNat 4 ents.length ++ [1, BitVec.ofNat 8 (bnat unit + 2 * bnat wts.isSome)] ++
    bytesOfNat 2 (if wts.isSome then wleg else 0) ++ bytesOfNat 4 0 ++ bytesOfNat 8 (row0 % 2 ^ 64) ++ bytesOfNat 8 0 ++
    (if unit then [] else offs.flatMap (bytesOfNat 4)) ++ body ++ List.replicate (body.length % 8) 0 ++
    (wts.getD []).flatMap (bytesOfNat 2)

/-- Lays out blocks from a first offset: each block's offset, and the end (R315). -/
def layout : Nat → List Nat → List Nat × Nat
  | o, [] => ([], o)
  | o, n :: t => let r := layout (o + up64 n) t; (o :: r.1, r.2)

/-- A gazetteer of entries of four optional blocks (Tables 10-3, 10-4, R315). -/
def gazetteer (r : SurReq) (step dropped : Nat) (entries : List (List (Option (List Byte)))) : List Byte :=
  let blocks := entries.flatMap fun e => e.filterMap id
  let first := 64 + up64 (32 * entries.length)
  let lay := layout first (blocks.map List.length)
  let table := (entries.flatten.foldl (fun (a : List Byte × List Nat) b => match b with
    | some _ => (a.1 ++ bytesOfNat 8 (a.2.headD 0), a.2.tail)
    | none => (a.1 ++ bytesOfNat 8 0, a.2)) ([], lay.1)).1
  let body := blocks.flatMap fun b => b ++ List.replicate (up64 b.length - b.length) 0
  bytesOfNat 4 0x545A4147 ++ bytesOfNat 2 1 ++ bytesOfNat 1 r.kind ++ bytesOfNat 1 (if r.kind = 0 then r.hops else 0) ++
    bytesOfNat 4 r.tensor ++ bytesOfNat 4 dropped ++ bytesOfNat 8 step ++ bytesOfNat 8 lay.2 ++
    bytesOfNat 4 entries.length ++ List.replicate 28 0 ++ table ++ List.replicate (up64 table.length - table.length) 0 ++ body

/-- Bytes of a gazetteer whose blocks have the given sizes (R314). -/
def gazBytes (entries : Nat) (sizes : List Nat) : Nat := (layout (64 + up64 (32 * entries)) sizes).2

/-- Block sizes of a full neighbourhood from hop `h` on, `F` nodes in its frontier (R314). -/
def boundSizes (r : SurReq) (g : Graph) : Nat → Nat → Nat → List Nat
  | 0, _, F => [csrBytes true false F F]
  | k + 1, h, F =>
    let f := if r.fan h = 0 then g.maxDeg else min (r.fan h) g.maxDeg
    let E := F * f
    let w := r.weight != 0
    let views := if r.flags = 1 then [csrBytes true false E E, csrBytes true w E E] else []
    [csrBytes true false F F, csrBytes false w F E] ++ views ++ boundSizes r g k (h + 1) (min E g.nodes)

/-- The bound of a request (R314). -/
def SurReq.bound (r : SurReq) (g : Graph) : Nat :=
  if r.kind = 0 then gazBytes (r.hops + 1) (boundSizes r g r.hops 0 r.count)
  else
    let S := r.count * r.hops
    gazBytes 1 [csrBytes true false S S, csrBytes false true r.count S, 4 * (r.experts + 1), 2 * S]

/-! ## Neighbourhoods (R310-R313) -/

/-- The positions sampled of `n` neighbours with fanout `k` (R310). -/
def sampleSet (key : RandKey) (v n k : Nat) : List Nat :=
  if k = 0 ∨ n ≤ k then List.range n
  else
    let S := (List.range k).foldl (fun (S : List Nat) d =>
      let j := n - k + d
      let u := draw64 key (v * 256 + d) purposeSurvey
      let t := u * (j + 1) / 2 ^ 64
      if S.contains t then j :: S else t :: S) []
    S.mergeSort fun a b => decide (a ≤ b)

/-- A segment of a hop: entries as global node numbers (`none`: a bad neighbour) with their edge numbers. -/
abbrev SurSeg := List (Option Nat × Nat)

/-- Counts at the hamlet of a core (R312, R327, Table 10-9). -/
def State.noteSurvey (s : State) (c : CoreId) (bad dropped : Nat) : State :=
  if bad = 0 ∧ dropped = 0 then s
  else
    let h := c.toNat / 16
    let x := mapGet ⟨0, 0, false, false⟩ s.sur h
    { s with sur := mapPut s.sur h ⟨satAdd 24 x.badId bad, satAdd 24 x.dropped dropped, x.drop || decide (0 < dropped),
                                    x.bad || decide (0 < bad)⟩ }

/-- The request counts what it meets as it meets it (R312, R327). -/
def noteMet (bad dropped : Nat) : EM Unit := do
  let w ← get
  emod fun s => s.noteSurvey w.core bad dropped

/-- The segment of a node of a frontier; a bad seed has none (R306, R310, R312). -/
def surSegment (r : SurReq) (g : Graph) (key : RandKey) (h v : Nat) : EM SurSeg := do
  if g.nodes ≤ v then pure []
  else
    let b ← vaRead (g.offsets + 8 * v) 16
    let lo := natOfBytes (b.take 8)
    let hi := natOfBytes (b.drop 8)
    echeck (decide (lo ≤ hi) && decide (hi - lo ≤ g.maxDeg)) cSurveyInvalid
    (sampleSet key v (hi - lo) (r.fan h)).mapM fun i => do
      let x ← vaRead (g.neighbours + 4 * (lo + i)) 4
      let u := natOfBytes x
      noteMet (bnat (decide (g.nodes ≤ u))) 0
      pure (if u < g.nodes then some u else none, lo + i)

/-- Offsets of segments of the given lengths. -/
def offsetsOf (lens : List Nat) : List Nat := (lens.foldl (fun (a : List Nat × Nat) n => (a.1 ++ [a.2 + n], a.2 + n)) ([0], 0)).1

/-- Distinct valid nodes of a hop in ascending number (R312). -/
def nextFrontier (segs : List SurSeg) : List Nat :=
  ((segs.flatMap fun s => s.filterMap Prod.fst).eraseDups).mergeSort fun a b => decide (a ≤ b)

/-- Weight codes of the entries of a hop (R313). -/
def surWeights (r : SurReq) (g : Graph) (segs : List SurSeg) : EM (Option (List Nat)) :=
  if r.weight = 0 then pure none
  else if r.weight = 1 then
    pure (some (segs.flatMap fun s => List.replicate s.length (roundNENat (2 ^ 14) s.length)))
  else do
    let ws ← (segs.flatMap fun s => s.map Prod.snd).mapM fun e => do
      let b ← vaRead (g.edgeW + 2 * e) 2
      pure (natOfBytes b)
    pure (some ws)

/-- The entries of the gazetteer from hop `h` on (R312, R315, R316). -/
def surHops (r : SurReq) (g : Graph) (key : Nat → RandKey) :
    Nat → Nat → List Nat → EM (List (List (Option (List Byte))))
  | 0, h, fr =>
    pure [[some (csrBlock true (r.rowBase + h * 2 ^ 32) 0 fr.length [] fr none), none, none, none]]
  | k + 1, h, fr => do
    let segs ← fr.mapM (surSegment r g (key h) h)
    let next := nextFrontier segs
    let wts ← surWeights r g segs
    let codes := segs.flatMap fun s => s.map fun e => match e.1 with
      | some u => next.idxOf u
      | none => 0xFFFFFFFF
    let row0 := r.rowBase + h * 2 ^ 32
    let offs := offsetsOf (segs.map List.length)
    let owner := (segs.zip (List.range segs.length)).flatMap fun p => List.replicate p.1.length p.2
    let views : List (Option (List Byte)) := if r.flags = 1 then
        [some (csrBlock true row0 0 codes.length [] owner none), some (csrBlock true row0 r.wleg codes.length [] codes wts)]
      else [none, none]
    let rest ← surHops r g key k (h + 1) next
    pure (([some (csrBlock true row0 0 fr.length [] fr none),
            some (csrBlock false row0 r.wleg fr.length offs codes wts)] ++ views) :: rest)

/-! ## Dispatch (R326, R327) -/

/-- A kept choice: expert, token, place among the token's choices, gate code. -/
structure Choice where
  expert : Nat
  token : Nat
  j : Nat
  gate : Nat
deriving DecidableEq, Repr

/-- The choices of one token: those that stand, how many repeat an expert, and how many name none (R326, R327). -/
def tokenChoices (experts t : Nat) : List (Nat × Nat × Nat) → List Nat → List Choice × Nat × Nat
  | [], _ => ([], 0, 0)
  | (j, e, gate) :: rest, seen =>
    if e = 0xFFFF then tokenChoices experts t rest seen
    else if experts ≤ e then let r := tokenChoices experts t rest seen; (r.1, r.2.1, r.2.2 + 1)
    else if seen.contains e then let r := tokenChoices experts t rest seen; (r.1, r.2.1 + 1, r.2.2)
    else let r := tokenChoices experts t rest (e :: seen); (⟨e, t, j, gate⟩ :: r.1, r.2.1, r.2.2)

/-- The dispatch of a request over its choices and gate codes: the gazetteer's entry, dropped choices, bad numbers (R326). -/
def dispatch (r : SurReq) (choices gates : List Nat) : List (Option (List Byte)) × Nat × Nat :=
  let K := r.hops
  let per := (List.range r.count).map fun t =>
    tokenChoices r.experts t ((List.range K).map fun j => (j, choices.getD (t * K + j) 0xFFFF, gates.getD (t * K + j) 0)) []
  let all := per.flatMap Prod.fst
  let lists := (List.range r.experts).map fun e => all.filter fun c => c.expert == e
  let kept := lists.map fun l => if r.capacity = 0 then l else l.take r.capacity
  let excess := (lists.zip kept).foldl (fun n p => n + (p.1.length - p.2.length)) 0
  let slots := kept.flatten
  let num := slots.zip (List.range slots.length)
  let segs := (List.range r.count).map fun t =>
    (num.filter fun s => s.1.token == t).mergeSort fun a b => decide (a.1.j ≤ b.1.j)
  let ents := segs.flatten
  let blockD := csrBlock true 0 0 slots.length [] (slots.map Choice.token) none
  let blockC := csrBlock false r.rowBase r.wleg r.count (offsetsOf (segs.map List.length)) (ents.map Prod.snd)
    (some (ents.map fun s => s.1.gate))
  ([some blockD, some blockC, some ((offsetsOf (kept.map List.length)).flatMap (bytesOfNat 4)),
    some (slots.flatMap fun s => bytesOfNat 2 s.gate)],
   excess + per.foldl (fun n p => n + p.2.1) 0, per.foldl (fun n p => n + p.2.2) 0)

/-! ## The request -/

/-- The checks and reads that precede a survey: the request, its graph, and where its result goes (R307-R309, R314). -/
def surveyPrepare (e : EArgs) : EM (SurReq × Graph × Nat) := do
  let w ← get
  let s0 := w.s
  needDesc e.d1
  needDesc e.d2
  echeck (e.d1.total == 64) cLsRange
  let area ← eget (e.d2.contiguous e.d2.total) cLsRange
  echeck (e.d2.count0 == 1 || (e.d2.count1 == 1 && e.d2.count2 == 1)) cLsRange
  let b ← descReadAll e.d1
  let r := SurReq.of b
  echeck r.ok cSurveyInvalid
  let g ← (if r.kind = 0 then do
      let x ← vaRead r.source 64
      pure (Graph.of x)
    else pure ⟨0, 0, 0, 0, 0, 0⟩)
  echeck (r.weight != 2 || g.edgeW != 0) cSurveyInvalid
  if r.weight != 0 || r.kind == 1 then do
    let l ← eget (s0.legend r.wleg) cLegendInvalid
    echeck (l.fmt == .i16 && (r.weight != 1 || (l.T == -14 && l.m == 32768))) cLegendInvalid
  echeck (decide (r.bound g ≤ e.d2.total)) cLsRange
  pure (r, g, area)

/-- SURVEY_REQUEST's work (R307-R316, R326, R327). -/
def surveyWork (e : EArgs) : EM Unit := do
  let w ← get
  let s0 := w.s
  let q ← surveyPrepare e
  let r := q.1
  let g := q.2.1
  let area := q.2.2
  let key (h : Nat) : RandKey := s0.randKey e.task r.tensor h
  let put (bytes : List Byte) : EM Unit := if e.d2.isLs then lsWrite area bytes else vaWrite area bytes
  if r.kind = 0 then do
    let x ← vaRead r.seeds (4 * r.count)
    let seeds := natsOf 4 r.count x
    noteMet (seeds.filter fun v => decide (g.nodes ≤ v)).length 0
    let h ← surHops r g key r.hops 0 seeds
    put (gazetteer r e.task.step 0 h)
  else do
    let n := r.count * r.hops
    let cb ← vaRead r.source (2 * n)
    let gb ← vaRead r.seeds (2 * n)
    let d := dispatch r (natsOf 2 n cb) (natsOf 2 n gb)
    noteMet d.2.2 d.2.1
    put (gazetteer r e.task.step d.2.1 [d.1])

end Sys2Proof.Machine
end

