-- ==== Sys2Proof/Machine/Sample.lean ====
section
/-! DEFINITION. The token sampler, the generator's seed and the entropy source (spec/13 R397-R398, R402-R413). -/

namespace Sys2Proof.Machine

/-! ## The token sampler (R406-R412) -/

/-- A sample request block (Table 13-7). -/
structure SmpReq where
  leg : Nat
  invT : Nat
  vocab : Nat
  topk : Nat
  topp : Nat
  tensor : Nat
  tree : Nat
  position : Nat
  branch : Nat
  rows : Nat
  logits : Nat
  lstride : Nat
  rsvd : Nat
  keys : Nat
deriving DecidableEq, Repr

/-- The fields of the 64 bytes. -/
def SmpReq.of (b : List Byte) : SmpReq :=
  let n (o k : Nat) : Nat := natOfBytes ((b.drop o).take k)
  { leg := n 0 2, invT := n 2 2, vocab := n 4 4, topk := n 8 4, topp := n 12 4, tensor := n 16 4, tree := n 20 4,
    position := n 24 4, branch := n 28 2, rows := n 30 2, logits := n 32 8, lstride := n 40 4, rsvd := n 44 4 + n 56 8,
    keys := n 48 8 }

/-- The field checks of R408. -/
def SmpReq.ok (r : SmpReq) : Bool :=
  decide (r.leg < 4096) && decide (1 ≤ r.vocab) && decide (r.vocab ≤ 1048576) && decide (r.topp ≤ 65536) &&
  decide (1 ≤ r.rows) && decide (r.rows ≤ 64) && decide (r.logits < 2 ^ 52) && r.rsvd == 0 && r.keys % 16 == 0 &&
  decide (r.keys < 2 ^ 52) &&
  (if r.keys = 0 then decide (r.branch + r.rows ≤ 65536) else r.tree == 0 && r.position == 0 && r.branch == 0)

/-- Tree, position and branch of a row (R407). -/
structure RowKeys where
  tree : Nat
  position : Nat
  branch : Nat
deriving DecidableEq, Repr

/-- A token with its code, or its weight once the soft-max has run. -/
structure Cand13 where
  token : Nat
  v : Int
deriving DecidableEq, Repr

/-- Orders candidates by value descending, the lower token first on a tie. -/
def orderCands (c : List Cand13) : List Cand13 :=
  c.mergeSort fun a b => if a.v = b.v then decide (a.token ≤ b.token) else decide (b.v ≤ a.v)

/-- The weight of a candidate whose code lies `d` below the first (R410). -/
def sampleWeight (l : Legend) (invT : Nat) (d : Int) : Int :=
  let x : Q := Q.scale ⟨d * l.m * invT, 1⟩ (l.T - 15 - 12)
  let p := expParts x
  shiftFloor p.1 (p.2 + 2)

/-- The shortest prefix whose sum reaches the bound: 65536 × sum ≥ TOPP × W (R410). -/
def topPrefix (bound : Int) : Int → List Cand13 → List Cand13
  | _, [] => []
  | sum, c :: t => if bound ≤ 65536 * (sum + c.v) then [c] else c :: topPrefix bound (sum + c.v) t

/-- The first candidate whose running sum exceeds `r` (R410). -/
def drawn (r : Int) : Int → List Cand13 → Option Cand13
  | _, [] => none
  | sum, c :: t => if r < sum + c.v then some c else drawn r (sum + c.v) t

/-- A token record (R412). -/
structure TokenRec where
  token : Nat
  kept : Nat
  weight : Nat
  total : Nat
deriving DecidableEq, Repr

/-- The 32 bytes of a record. -/
def TokenRec.bytes (t : TokenRec) : List Byte :=
  bytesOfNat 4 t.token ++ bytesOfNat 4 t.kept ++ bytesOfNat 8 t.weight ++ bytesOfNat 8 t.total ++ bytesOfNat 8 0

/-- The token of a row of logit codes under a 64-bit draw (R410). -/
def sampleRow (l : Legend) (r : SmpReq) (draw : Nat) (codes : List Code) : TokenRec :=
  let cs := (codes.zip (List.range codes.length)).filterMap fun p => p.1.map fun q => (⟨p.2, q⟩ : Cand13)
  match orderCands cs with
  | [] => ⟨0xFFFFFFFF, 0, 0, 0⟩
  | c0 :: rest =>
    if r.invT = 0 then ⟨c0.token, 1, 2 ^ 32, 2 ^ 32⟩
    else
      let all := c0 :: rest
      let top := if r.topk = 0 then all else all.take r.topk
      let ws := orderCands (top.map fun c => ⟨c.token, sampleWeight l r.invT (c.v - c0.v)⟩)
      let sum (x : List Cand13) : Int := x.foldl (fun a c => a + c.v) 0
      let kept := if r.topp = 0 then ws else topPrefix (r.topp * sum ws) 0 ws
      let wp := sum kept
      let u := (draw * wp.toNat / 2 ^ 64 : Nat)
      match drawn u 0 kept with
      | some c => ⟨c.token, kept.length, c.v.toNat, wp.toNat⟩
      | none => ⟨c0.token, kept.length, 2 ^ 32, wp.toNat⟩

/-- Counts at the hamlet of a core (R412, Table 13-8). -/
def State.noteSample (s : State) (c : CoreId) (ovf : Nat) (empty : Bool) : State :=
  let h := c.toNat / 16
  let x := mapGet ⟨0, 0, false, false⟩ s.smp h
  if ovf = 0 ∧ empty = false then s
  else { s with smp := mapPut s.smp h ⟨satAdd 24 x.ovfLogits ovf, satAdd 24 x.emptyRows (bnat empty), x.empty || empty,
                                       x.ovf || decide (0 < ovf)⟩ }

/-- The checks and reads that precede the rows of a sampling: the request, its legend, where its records go and the rows' keys
(R406-R409). -/
def samplePrepare (e : EArgs) : EM (SmpReq × Legend × Nat × List RowKeys) := do
  let w ← get
  let s0 := w.s
  needDesc e.d1
  needDesc e.d2
  echeck (e.d1.total == 64) cLsRange
  let area ← eget (e.d2.contiguous e.d2.total) cLsRange
  echeck (e.d2.count0 == 1 || (e.d2.count1 == 1 && e.d2.count2 == 1)) cLsRange
  let b ← descReadAll e.d1
  let r := SmpReq.of b
  echeck (e.d2.total == 32 * r.rows) cLsRange
  echeck r.ok cSampleInvalid
  let l ← eget (s0.legend r.leg) cLegendInvalid
  echeck (l.fmt == .i16 || l.fmt == .i32) cLegendInvalid
  let rowBytes := l.fmt.rowBytes r.vocab
  echeck (decide (rowBytes ≤ r.lstride)) cSampleInvalid
  let keys ← (if r.keys = 0 then pure ((List.range r.rows).map fun i => (⟨r.tree, r.position, r.branch + i⟩ : RowKeys))
    else (List.range r.rows).mapM fun i => do
      let k ← vaRead (r.keys + 16 * i) 16
      echeck (natOfBytes (k.drop 10) == 0) cSampleInvalid
      pure (⟨natOfBytes (k.take 4), natOfBytes ((k.drop 4).take 4), natOfBytes ((k.drop 8).take 2)⟩ : RowKeys))
  pure (r, l, area, keys)

/-- SAMPLE_REQUEST's work (R406-R412). -/
def sampleWork (e : EArgs) : EM Unit := do
  let w ← get
  let s0 := w.s
  let q ← samplePrepare e
  let r := q.1
  let l := q.2.1
  let area := q.2.2.1
  let keys := q.2.2.2
  let rowBytes := l.fmt.rowBytes r.vocab
  let _ ← (keys.zip (List.range r.rows)).mapM fun k => do
    let x ← vaRead (r.logits + k.2 * r.lstride) rowBytes
    let codes := (l.fmt.decodeRow r.vocab x).map Elem.q
    let draw := draw64 (s0.randKey e.task r.tensor k.1.branch) (k.1.tree * 2 ^ 32 + k.1.position) purposeSample
    let t := sampleRow l r draw codes
    let out := t.bytes
    (if e.d2.isLs then lsWrite (area + 32 * k.2) out else vaWrite (area + 32 * k.2) out)
    emod fun s => s.noteSample w.core (codes.filter Option.isNone).length (t.kept == 0)
  pure ()

/-! ## The seed (R397) -/

/-- RNG_SEED. While no step runs the seed takes effect for the next step to begin; a step that has begun, or is replayed, keeps the seed
it began with (R397, R398, R518). -/
def rngSeed (h : PktHdr) (seed : W64) (step : W64) (s : State) : State :=
  damtin 0x0220 h [(0, 8, seed.toNat), (8, 8, step.toNat)] (fun s =>
    if s.almanacRuns then
      if step.toNat < s.run.step + 2 then s.reply h stInvalid
      else ({ s with rng := { s.rng with pending := some (seed.toNat, step.toNat) } }).reply h stOk step.toNat
    else
      let begun (n : Nat) : Bool := decide (n < s.run.nextStep) || (s.run.resumePos.isSome && n == s.run.nextStep)
      let s1 : State := { s with
        rng := { s.rng with seed := seed.toNat, seedFrom := s.run.nextStep, pending := none },
        run := { s.run with seedAt := s.run.seedAt.filter fun e => begun e.1 } }
      s1.reply h stOk s1.stepInEffect) s

/-! ## The entropy source (R402-R405) -/

/-- One sample in the repetition count test and the adaptive proportion test, and whether both still pass (R402). -/
def Health.sample (x : Health × Bool) (b : Bool) : Health × Bool :=
  let h := x.1
  let run := if h.run != 0 && b == h.last then h.run + 1 else 1
  let first := if h.pos = 0 then b else h.first
  let same := (if h.pos = 0 then 0 else h.same) + bnat (b == first)
  (⟨b, run, (h.pos + 1) % 1024, first, same⟩, x.2 && decide (run < 41) && decide (same < 792))

/-- The samples that bytes hold, the lowest bit first (DESIGN CHOICE, log 155). -/
def samplesOf (bytes : List Byte) : List Bool := bytes.flatMap fun b => (List.range 8).map b.getLsbD

/-- The health tests over samples: where they stand then, and whether all samples passed (R402). -/
def Health.over (h : Health) (bytes : List Byte) : Health × Bool := (samplesOf bytes).foldl Health.sample (h, true)

/-- A health test has failed: the block being formed goes, the failure is counted and logged, and the start-up test runs again;
a fourth start-up test that fails in a row ends in DEAD (R404). -/
def State.entropyFail (s : State) : State :=
  let r := s.rng
  if r.dead then s
  else
    let row := if r.est = 1 then 0 else r.failsInRow + 1
    let dead := decide (4 ≤ row)
    let s1 : State := { s with rng := { r with failCount := satAdd 16 r.failCount 1, fail := true, failsInRow := row,
                                               est := if dead then 3 else 2, dead := dead, health := Health.fresh } }
    let s2 := raise cEntropyFail 0 0 0 s1
    if dead then raise cEntropyDead 0 0 0 s2 else s2

/-- ENTROPY_HEALTH_FAIL: a test fails on samples of a block that is being formed (R402, R404). -/
def entropyHealthFail (s : State) : State := s.entropyFail

/-- ENTROPY_STARTUP_TEST_END: a start-up test ends with its 1,024 samples: RUN where they pass both health tests, else a failure (R402,
R404). -/
def entropyTestEnd (samples : List Byte) (s : State) : State :=
  if s.rng.est = 1 ∨ s.rng.dead = true ∨ samples.length ≠ 128 then s
  else
    let h := Health.fresh.over samples
    if h.2 then { s with rng := { s.rng with est := 1, failsInRow := 0, health := h.1 } } else s.entropyFail

/-- ENTROPY_BLOCK_READY: the next 1,536 samples, packed in 192 bytes: the digest is released where they pass both health tests (R402,
R403); a sample that does not is a failure (R404). -/
def entropyBlockReady (samples : List Byte) (s : State) : State :=
  if s.rng.est ≠ 1 ∨ samples.length ≠ 192 then s
  else
    let h := s.rng.health.over samples
    if h.2 then { s with rng := { s.rng with blocks := satAdd 32 s.rng.blocks 1, fresh := s.rng.fresh ++ [sha384 samples], health := h.1 } }
    else s.entropyFail

/-- ENTROPY_READ: 16 bytes of a fresh block, which then serves no one else; in RUN the command waits for a block (R405). -/
def entropyRead (h : PktHdr) (s : State) : State :=
  damtin 0x0830 h [] (fun s =>
    if s.rng.est ≠ 1 then s.reply h stBusy
    else match s.rng.fresh with
      | b :: t => ({ s with rng := { s.rng with fresh := t } }).reply h stOk (natOfBytes (b.take 8)) (natOfBytes ((b.drop 8).take 8))
      | [] => s.begun h) s

end Sys2Proof.Machine
end

