-- ==== Sys2Proof/Machine/TableCmds.lean ====
section
/-! DEFINITION. The Damtin commands of the table directory (spec/12 R366-R370, R383, R391). -/

namespace Sys2Proof.Machine

/-! ## TABLE_CREATE (R366, R367) -/

/-- Whether every page of a range is mapped LOCAL and PIN here. -/
def State.localPin (s : State) (va n : Nat) : Bool :=
  n == 0 || (va / pageBytes != 0 && pagesAll (va / pageBytes) ((va + n - 1) / pageBytes - va / pageBytes + 1) fun v =>
    match mapFind s.tier.xlate v with
    | some e => e.tier == .local && e.pin
    | none => false)

/-- Whether every page of a range that this module homes is LOCAL and PIN. -/
def State.homedPin (s : State) (va n : Nat) : Bool :=
  pagesAll (va / pageBytes) (n / pageBytes) fun v => match mapFind s.tier.xlate v with
    | some e => if e.tier = .local then e.pin else e.tier != .host
    | none => true

/-- Whether `n` bytes from `a` and `m` bytes from `b` share a byte. -/
def overlaps (a n b m : Nat) : Bool := n != 0 && m != 0 && decide (a < b + m) && decide (b < a + n)

/-- A new entry with nothing counted. -/
def Table.fresh (image : List Byte) : Table := ⟨image, [], 0, 0, 0, 0, 0, [], [], [], [], [], [], [], 0, none, []⟩

/-- A state row's fields: with a base, FORMAT I16 or I32 and a stride that R353 allows; without one, all zero. -/
def Table.stateOk (t : Table) (base stride fmt : Nat) : Bool :=
  if base = 0 then stride == 0 && fmt == 0
  else t.trained && (fmt == 3 || fmt == 4) && layoutOk base stride (t.stateBytes fmt)

/-- The fields of an entry image hold what Table 12-1, R23 and R353 allow. -/
def Table.fieldsOk (t : Table) : Bool :=
  let comp := t.layout == 2
  decide (t.nat 0 2 < 4096) && decide (t.layout ≤ 2) && t.nat 3 1 / 64 == 0 && decide (1 ≤ t.elems) &&
  decide (t.elems ≤ if t.trained then 7281 else 8192) && t.nat 6 2 == 0 && t.nat 40 4 == 0 && t.nat 44 4 == 0 &&
  (t.hotMove || (t.hotSlots == 0 && t.hotBase == 0)) && t.hotBase % 65536 == 0 && (t.layout == 1 || t.nat 24 8 == 0) &&
  (comp || (t.nat 32 2 == 0 && t.nat 34 2 == 0)) &&
  (if t.trained then t.gradBase % 65536 == 0 && (match t.legG with
      | some l => l.fmt == .a48
      | none => false)
    else t.gradBase == 0 && t.nat 80 16 == 0) &&
  t.leg.isSome && t.stateOk (t.nat 96 8) (t.nat 112 4) (t.nat 120 1) && t.stateOk (t.nat 104 8) (t.nat 116 4) (t.nat 121 1) &&
  (if t.trained && t.hotMove then t.nat 122 6 / 2 ^ 36 == 0 else t.nat 122 6 == 0) &&
  layoutOk 0 t.stride t.valueBytes && decide (t.slotBytes ≤ 65536) &&
  !(t.trained && (comp || t.late || t.isLocal || t.stepBound))

/-- The components of a COMPOSITE entry (R367). -/
def State.componentsOk (s : State) (t : Table) : Bool :=
  let ok (n : Nat) : Option Nat := match s.table n with
    | some c => if c.layout ≠ 2 ∧ !c.trained ∧ c.elems = t.elems ∧ c.nat 64 16 = t.nat 64 16 then some c.rows else none
    | none => none
  t.layout != 2 || (match ok (t.nat 32 2), ok (t.nat 34 2) with
    | some a, some b => t.rows == a * b
    | _, _ => false)

/-- Bytes of the hot area. -/
def Table.hotBytes (t : Table) : Nat :=
  if t.hotSlots = 0 then 0 else 65536 * ((t.hotSlots + rowsPerPage t.slotBytes - 1) / rowsPerPage t.slotBytes)

/-- Bytes of the hot gradient region, both halves. -/
def Table.hotGradBytes (t : Table) : Nat :=
  if t.trained && t.hotMove then 2 * (65536 * ((t.hotSlots + rowsPerPage t.gstride - 1) / rowsPerPage t.gstride)) else 0

/-- The areas of an entry stand in memory as R367 asks. -/
def State.areasOk (s : State) (t : Table) : Bool :=
  let c := s.coverBase
  let gb := if t.trained then 2 * t.ghalf else 0
  let hg := t.nat 122 6 * 65536
  s.localPin t.hotBase t.hotBytes && s.localPin hg t.hotGradBytes && s.homedPin t.gradBase gb &&
  (!t.trained ||
    ((t.hotBytes == 0 || (decide (c.1 * pageBytes ≤ t.hotBase) &&
        decide (t.hotBase + t.hotBytes ≤ (c.1 + c.2) * pageBytes))) &&
     !overlaps t.gradBase gb (c.1 * pageBytes) (c.2 * pageBytes) &&
     !overlaps hg t.hotGradBytes (c.1 * pageBytes) (c.2 * pageBytes)))

/-- TABLE_CREATE copies an entry image from host memory (R366, R367). -/
def tableCreate (h : PktHdr) (addr : W64) (s : State) : State :=
  damtin 0x0301 h [(0, 8, addr.toNat)] (fun s =>
    if !s.hostInOpen then s.begun h
    else
      let s1 := s.chargeIn 128
      let t := Table.fresh (s.hostMem.readBytes addr.toNat 128)
      if !t.fieldsOk || !s1.componentsOk t || !s1.areasOk t then s1.reply h stInvalid
      else if (s1.table (t.nat 0 2)).isSome then s1.reply h stBusy
      else (s1.putTable (t.nat 0 2) t).reply h stOk) s

/-! ## TABLE_PUBLISH (R368-R370) -/

/-- What a page of a version must be (R368-R370): mapped, PIN, without W unless TRAINED, of the entry's LATE; a LOCAL table's
pages homed here. `known` holds directory entries that other modules keep. -/
def State.versionPageOk (s : State) (t : Table) (known : List (Nat × DEntry)) (vpn : Nat) : Bool :=
  let attrs (pin w late : Bool) : Bool := pin && (t.trained || !w) && late == t.late
  match mapFind s.tier.xlate vpn with
  | some e => attrs e.pin e.w e.late && (!t.isLocal || e.tier == .local)
  | none => !t.isLocal && (match (if s.dirAt vpn = s.modNo then mapFind s.tier.dir vpn else mapFind known vpn) with
    | some d => attrs d.pin d.w d.late
    | none => false)

/-- The free version record of lowest number. -/
def Table.freeRecord (t : Table) : Option Nat := (List.range 4).find? fun i => (mapFind t.versions i).isNone

/-- TABLE_PUBLISH (R370). -/
def tablePublish (h : PktHdr) (table : BitVec 16) (flags : Byte) (version : W32) (base pages at_ : W64)
    (known : List (Nat × DEntry)) (s : State) : State :=
  damtin 0x0302 h [(0, 2, table.toNat), (2, 1, flags.toNat), (4, 4, version.toNat), (8, 8, base.toNat),
      (16, 8, pages.toNat), (24, 8, at_.toNat)]
    (fun s =>
    match s.table table.toNat with
    | none => s.reply h stInvalid
    | some t =>
      let f := at_.toNat % 2 ^ 48
      let v := base.toNat / pageBytes
      if t.destroy.isSome || t.versions.any (fun x => decide (version.toNat ≤ x.2.version)) ||
          (t.trained && !t.versions.isEmpty) || base.toNat % pageBytes != 0 || decide (2 ^ 52 ≤ base.toNat) || v == 0 ||
          !pagesAll v pages.toNat (s.versionPageOk t known) || (f != 0 && decide (f ≤ s.tickFor)) then s.reply h stInvalid
      else match t.freeRecord with
        | none => s.reply h stBusy
        | some r =>
          let tick := if f = 0 then s.tickFor else f
          let x : TabVersion := ⟨version.toNat, .pending, flags.getLsbD 0, base.toNat, tick, pages.toNat⟩
          (s.putTable table.toNat { t with versions := mapPut t.versions r x }).reply h stOk tick) s

/-! ## TABLE_DESTROY, TABLE_QUERY (R383, R391) -/

/-- TABLE_DESTROY takes effect at the tick of R62 (R391). -/
def tableDestroy (h : PktHdr) (table : BitVec 16) (s : State) : State :=
  damtin 0x0303 h [(0, 2, table.toNat)] (fun s =>
    match s.table table.toNat with
    | none => s.reply h stInvalid
    | some t =>
      if t.destroy.isSome then s.reply h stInvalid
      else (s.putTable table.toNat { t with destroy := some s.tickFor }).reply h stOk s.tickFor) s

/-- A version record (Table 12-2); a FREE record is zero. -/
def State.versionBytes (s : State) (tn : Nat) (t : Table) (rec_ : Nat) : List Byte :=
  match mapFind t.versions rec_ with
  | none => bytesOfNat 32 0
  | some v =>
    let st := match v.state with
      | .pending => 1
      | .current => 2
      | .retiring => 3
    bytesOfNat 4 v.version ++ bytesOfNat 1 st ++ bytesOfNat 1 (bnat v.autofree) ++ bytesOfNat 2 0 ++ bytesOfNat 8 v.base ++
      bytesOfNat 6 (if v.state = .pending then 0 else v.from_) ++ bytesOfNat 2 0 ++ bytesOfNat 4 (s.refs tn t v) ++
      bytesOfNat 4 v.pages

/-- What TABLE_QUERY writes: the entry, four version records, LOAD and FRAME_MAX of the last epoch, and its candidates, 16
bytes each: row, count, top sender, in descending count (DESIGN CHOICE, log 33). -/
def State.tableImage (s : State) (tn : Nat) (t : Table) : List Byte :=
  let cs := t.lastCands.mergeSort fun a b => if a.count = b.count then decide (a.row ≤ b.row) else decide (b.count ≤ a.count)
  t.image ++ (List.range 4).flatMap (s.versionBytes tn t) ++ bytesOfNat 8 t.lastLoad ++ bytesOfNat 8 t.lastFrameMax ++
    cs.flatMap fun c => bytesOfNat 8 (keyRow c.row) ++ bytesOfNat 4 c.count ++ bytesOfNat 2 c.top ++ bytesOfNat 2 0

/-- TABLE_QUERY writes as much of the image as the length takes (R383, Table 14-11). -/
def tableQuery (h : PktHdr) (table : BitVec 16) (addr : W64) (len : W32) (s : State) : State :=
  damtin 0x0304 h [(0, 2, table.toNat), (8, 8, addr.toNat), (16, 4, len.toNat)] (fun s =>
    match s.table table.toNat with
    | none => s.reply h stInvalid
    | some t =>
      if !s.hostOutOpen then s.begun h
      else
        let b := (s.tableImage table.toNat t).take len.toNat
        ((s.chargeOut b.length).hostWrite addr.toNat b).reply h stOk b.length) s

end Sys2Proof.Machine
end

