-- ==== Sys2Proof/Machine/RowsDamtin.lean ====
section
/-! DEFINITION. The meanings of the table's rows, one definition for each: Damtin commands (spec/14). -/

namespace Sys2Proof.Machine

/-- SESSION_OPEN: Open the single session, or return BUSY (R435) -/
def execSessionOpen (h : PktHdr) (s : State) : Host.Outcome State Fault Refusal :=
  .next (s.settle (sessionOpen h s))

/-- SESSION_CLOSE: Delete queues 1 to 63 and close the session (R435) -/
def execSessionClose (h : PktHdr) (s : State) : Host.Outcome State Fault Refusal :=
  .next (s.settle (sessionClose h s))

/-- QUEUE_CREATE: Create a queue pair (R436) -/
def execQueueCreate (h : PktHdr) (queue sqLog rqLog vector : Byte) (sqBase rqBase : W64) (s : State) : Host.Outcome
    State Fault Refusal :=
  .next (s.settle (queueCreate h queue sqLog rqLog vector sqBase rqBase s))

/-- QUEUE_DELETE: Stop a queue, wait for its packets to reply and remove it (R436) -/
def execQueueDelete (h : PktHdr) (queue : Byte) (s : State) : Host.Outcome State Fault Refusal :=
  .next (s.settle (queueDelete h queue s))

/-- NOP: Return the packet's data (R437) -/
def execNop (h : PktHdr) (d0 d1 d2 : W64) (s : State) : Host.Outcome State Fault Refusal :=
  .next (s.settle (nop h d0 d1 d2 s))

/-- MODULE_RESET: Reply and begin a warm reset within 1 ms (R438) -/
def execModuleReset (h : PktHdr) (kind : Byte) (s : State) : Host.Outcome State Fault Refusal :=
  .next (s.settle (moduleReset h kind s))

/-- ALMANAC_LOAD: Fetch and check an almanac file into the staged slot (R75) -/
def execAlmanacLoad (h : PktHdr) (addr len : W64) (s : State) : Host.Outcome State Fault Refusal :=
  .next (s.settle (almanacLoad h addr len s))

/-- ALMANAC_SWITCH: Arm a switch to the staged almanac at step S (R77) -/
def execAlmanacSwitch (h : PktHdr) (step : W64) (s : State) : Host.Outcome State Fault Refusal :=
  .next (s.settle (almanacSwitch h step s))

/-- ALMANAC_CANCEL: Disarm an armed switch before step S−1 (R78) -/
def execAlmanacCancel (h : PktHdr) (s : State) : Host.Outcome State Fault Refusal :=
  .next (s.settle (almanacCancel h s))

/-- ALMANAC_STATUS: Return both almanac IDs, the armed step and the current step (R437) -/
def execAlmanacStatus (h : PktHdr) (s : State) : Host.Outcome State Fault Refusal :=
  .next (s.settle (almanacStatus h s))

/-- STEP_RUN: Start or resume steps at a tick, optionally for a count of steps (R440) -/
def execStepRun (h : PktHdr) (start count at_ : W64) (s : State) : Host.Outcome State Fault Refusal :=
  .next (s.settle (stepRun h start count at_ s))

/-- STEP_HOLD: Hold at a named step boundary (R441) -/
def execStepHold (h : PktHdr) (boundary : W64) (s : State) : Host.Outcome State Fault Refusal :=
  .next (s.settle (stepHold h boundary s))

/-- STEP_STATUS: Return current step, last committed step and state (R437) -/
def execStepStatus (h : PktHdr) (s : State) : Host.Outcome State Fault Refusal :=
  .next (s.settle (stepStatus h s))

/-- BUDGET_SET: Set a budget class ceiling from a later tick (R61) -/
def execBudgetSet (h : PktHdr) (cls : Byte) (ceil : BitVec 16) (s : State) : Host.Outcome State Fault Refusal :=
  .next (s.settle (budgetSet h cls ceil s))

/-- RNG_SEED: Set the generator seed for a step, or at once while no step runs (R397) -/
def execRngSeed (h : PktHdr) (seed step : W64) (s : State) : Host.Outcome State Fault Refusal :=
  .next (s.settle (rngSeed h seed step s))

/-- TABLE_CREATE: Create a table-directory entry from an entry image (R367) -/
def execTableCreate (h : PktHdr) (addr : W64) (s : State) : Host.Outcome State Fault Refusal :=
  .next (s.settle (tableCreate h addr s))

/-- TABLE_PUBLISH: Publish a new table version to become current at a tick (R370) -/
def execTablePublish (h : PktHdr) (table : BitVec 16) (flags : Byte) (version : W32) (base pages at_ : W64) (known :
    List (BitVec 36 × DEntry)) (s : State) : Host.Outcome State Fault Refusal :=
  .next (s.settle (tablePublish h table flags version base pages at_ (known.map fun e => (e.1.toNat, e.2)) s))

/-- TABLE_DESTROY: Retire a table's current version and remove the entry once all versions are free (R391) -/
def execTableDestroy (h : PktHdr) (table : BitVec 16) (s : State) : Host.Outcome State Fault Refusal :=
  .next (s.settle (tableDestroy h table s))

/-- TABLE_QUERY: Write a table entry, its versions, load counts and candidates to host memory (R383) -/
def execTableQuery (h : PktHdr) (table : BitVec 16) (addr : W64) (len : W32) (s : State) : Host.Outcome State Fault
    Refusal :=
  .next (s.settle (tableQuery h table addr len s))

/-- MEM_ALLOC: Create zeroed pages of a VA range in a chosen tier under the quotas (R264) -/
def execMemAlloc (h : PktHdr) (va pages : W64) (tier flags : Byte) (mod_ : BitVec 16) (host : W64) (poolRoom : Bool)
    (known : List (BitVec 36)) (s : State) : Host.Outcome State Fault Refusal :=
  .next (s.settle (memAlloc h va pages tier flags mod_ host poolRoom (known.map BitVec.toNat) s))

/-- MEM_FREE: Free a VA range at a tick (R264) -/
def execMemFree (h : PktHdr) (va pages : W64) (known : List (BitVec 36)) (s : State) : Host.Outcome State Fault
    Refusal :=
  .next (s.settle (memFree h va pages (known.map BitVec.toNat) s))

/-- MEM_ATTR: Change page attributes of a VA range at a tick (R264) -/
def execMemAttr (h : PktHdr) (va pages : W64) (flags : Byte) (known : List (BitVec 36)) (s : State) : Host.Outcome
    State Fault Refusal :=
  .next (s.settle (memAttr h va pages flags (known.map BitVec.toNat) s))

/-- MEM_QUERY: Return a page's translation entry and directory entry (R236) -/
def execMemQuery (h : PktHdr) (va : W64) (remote : Option DEntry) (s : State) : Host.Outcome State Fault Refusal :=
  .next (s.settle (memQuery h va remote s))

/-- QUOTA_SET: Set a memory quota limit, accepting a cut below use with OVER_QUOTA (R263) -/
def execQuotaSet (h : PktHdr) (cls : Byte) (limit : W32) (s : State) : Host.Outcome State Fault Refusal :=
  .next (s.settle (quotaSet h cls limit s))

/-- TIER_CONFIG: Set heat parameters, the pool target list and the host pool (R244) -/
def execTierConfig (h : PktHdr) (heat : W64) (count : Byte) (targets : BitVec 128) (poolBase poolPages : W64) (s :
    State) : Host.Outcome State Fault Refusal :=
  .next (s.settle (tierConfig h heat count targets poolBase poolPages s))

/-- SMITHY_CONFIG: Name the smithy's covered and staging ranges from the next step (R351) -/
def execSmithyConfig (h : PktHdr) (cov covPages stage stagePages : W64) (s : State) : Host.Outcome State Fault
    Refusal :=
  .next (s.settle (smithyConfig h cov covPages stage stagePages s))

/-- GRANARY_CONFIG: Name the granary spill area from the next step (R346) -/
def execGranaryConfig (h : PktHdr) (base bytes : W64) (s : State) : Host.Outcome State Fault Refusal :=
  .next (s.settle (granaryConfig h base bytes s))

/-- FAB_STATUS: Return the port, ring and parity registers (R304) -/
def execFabStatus (h : PktHdr) (s : State) : Host.Outcome State Fault Refusal :=
  .next (s.settle (fabStatus h s))

/-- FAB_LEAVE: Arrange for the module to leave its rings at a step boundary (R489) -/
def execFabLeave (h : PktHdr) (boundary : W64) (s : State) : Host.Outcome State Fault Refusal :=
  .next (s.settle (fabLeave h boundary s))

/-- FAB_JOIN: Ask to join the rings at a step boundary (R490) -/
def execFabJoin (h : PktHdr) (boundary : W64) (s : State) : Host.Outcome State Fault Refusal :=
  .next (s.settle (fabJoin h boundary s))

/-- PARITY_CONFIG: Configure the parity group, protected range and buffers from a step boundary (R298) -/
def execParityConfig (h : PktHdr) (g : Byte) (dmax : W32) (boundary base : W64) (d p : W32) (buf0 buf1 : W64) (s :
    State) : Host.Outcome State Fault Refusal :=
  .next (s.settle (parityConfig h g dmax boundary base d p buf0 buf1 s))

/-- CORE_RETIRE: Retire a core from the next step under its detour (R111) -/
def execCoreRetire (h : PktHdr) (core : CoreId) (s : State) : Host.Outcome State Fault Refusal :=
  .next (s.settle (coreRetire h core s))

/-- TIMING_AUDIT: Turn timing-audit mode on or off from the next step (R161) -/
def execTimingAudit (h : PktHdr) (enable : Byte) (s : State) : Host.Outcome State Fault Refusal :=
  .next (s.settle (timingAudit h enable s))

/-- TELEMETRY_SNAPSHOT: Request a register snapshot image at the next tick (R442) -/
def execTelemetrySnapshot (h : PktHdr) (addr : W64) (len : W32) (s : State) : Host.Outcome State Fault Refusal :=
  .next (s.settle (telemetrySnapshot h addr len s))

/-- CONTEXT_SAVE: Request a STEP or SECTION context save, optionally halting after it (R121) -/
def execContextSave (h : PktHdr) (kind halt space : Byte) (dest len : W64) (s : State) : Host.Outcome State Fault
    Refusal :=
  .next (s.settle (contextSave h kind halt space dest len s))

/-- CONTEXT_RESTORE: Check and restore a context, then hold for STEP_RUN (R122) -/
def execContextRestore (h : PktHdr) (space : Byte) (src len : W64) (s : State) : Host.Outcome State Fault Refusal :=
  .next (s.settle (contextRestore h space src len s))

end Sys2Proof.Machine
end

