-- ==== Sys2Proof/Machine/RowsEngine.lean ====
section
/-! DEFINITION. The meanings of the table's rows, one definition for each: Commands of the engines and the optional units (spec/06, spec/10 to spec/13). -/

namespace Sys2Proof.Machine

/-- GATHER: Gather one row per index entry into the local store, narrowing or widening into LEG_LS (R176) -/
def execGather (core : CoreId) (s : State) : Host.Outcome State Fault Refusal :=
  .next (s.settle (engineRow core 0 .g 1 0 gatherWork s))

/-- GMERGE: Gather and combine each segment's rows by SUM, MAX, MIN or WSUM in the fixed tree (R176) -/
def execGmerge (core : CoreId) (s : State) : Host.Outcome State Fault Refusal :=
  .next (s.settle (engineRow core 0 .g 2 0 (mergeWork false) s))

/-- GCOMPACT: Gather and merge into tiles whose DENSE, COMPACT or S24 form is chosen per tile (R186) -/
def execGcompact (core : CoreId) (s : State) : Host.Outcome State Fault Refusal :=
  .next (s.settle (engineRow core 0 .g 3 0 (mergeWork true) s))

/-- SCATTER: Write each segment's row to its target rows, the highest batch position standing (R177) -/
def execScatter (core : CoreId) (s : State) : Host.Outcome State Fault Refusal :=
  .next (s.settle (engineRow core 0 .g 4 0 scatterWork s))

/-- SCATTER_ADD: Add each segment's row to its target rows, merged in batch-position order and combined once (R178) -/
def execScatterAdd (core : CoreId) (s : State) : Host.Outcome State Fault Refusal :=
  .next (s.settle (engineRow core 0 .g 5 0 scatterAddAny s))

/-- LOOKUP: Gather rows from the bound version of a table-directory entry (R375) -/
def execLookup (core : CoreId) (s : State) : Host.Outcome State Fault Refusal :=
  .next (s.settle (engineRow core 0 .g 6 0 lookupWork s))

/-- FETCH: Copy the accesses of a descriptor into consecutive local-store bytes (R171) -/
def execFetch (core : CoreId) (s : State) : Host.Outcome State Fault Refusal :=
  .next (s.settle (engineRow core 0 .g 7 0 fetchWork s))

/-- LOOKUP_COMP: Read a composite table row as its COMP_A and COMP_B component rows (R376) -/
def execLookupComp (core : CoreId) (s : State) : Host.Outcome State Fault Refusal :=
  .next (s.settle (engineRow core 0 .g 8 0 lookupCompWork s))

/-- PATHRED: Carry values up or down a tree of nodes by UP_SUM, UP_MAX, UP_MIN or DOWN_SUM (R324) -/
def execPathred (core : CoreId) (s : State) : Host.Outcome State Fault Refusal :=
  .next (s.settle (engineRow core 0 .g 9 0 pathredWork s))

/-- LANE_STEAL: An idle gather lane takes the newest queued lane task of its busier neighbour (R108) -/
def execLaneSteal (core : CoreId) (lane : BitVec 4) (s : State) : Host.Outcome State Fault Refusal :=
  .next (s.settle (laneSteal core lane s))

/-- MPASS: Run a sequence of mill passes adding into a bank, with tile checks and residue checks (R192) -/
def execMpass (core : CoreId) (s : State) : Host.Outcome State Fault Refusal :=
  .next (s.settle (engineRow core 1 .m 1 0 mpassWork s))

/-- MCLEAR: Clear an accumulator bank (R193) -/
def execMclear (core : CoreId) (s : State) : Host.Outcome State Fault Refusal :=
  .next (s.settle (engineRow core 1 .m 2 0 mclearWork s))

/-- MDRAIN: Drain a bank as four 32×32 I32 tiles into the tile queue (R32) -/
def execMdrain (core : CoreId) (s : State) : Host.Outcome State Fault Refusal :=
  .next (s.settle (drainRow false core s))

/-- MDRAINS: Split drain giving a rounded tile and a residual tile per quadrant (R33) -/
def execMdrains (core : CoreId) (s : State) : Host.Outcome State Fault Refusal :=
  .next (s.settle (drainRow true core s))

/-- MSTORE: Raw store of a bank's 72-bit words (R194) -/
def execMstore (core : CoreId) (s : State) : Host.Outcome State Fault Refusal :=
  .next (s.settle (engineRow core 1 .m 5 0 mstoreWork s))

/-- MLOAD: Raw restore of a bank, recomputing its residues (R194) -/
def execMload (core : CoreId) (s : State) : Host.Outcome State Fault Refusal :=
  .next (s.settle (engineRow core 1 .m 6 0 mloadWork s))

/-- TILE_QUEUE_WRITE: A drained tile enters the tile queue once a slot is free (R200) -/
def execTileQueueWrite (core : CoreId) (s : State) : Host.Outcome State Fault Refusal :=
  .next (s.settle (tileQueueWrite core s))

/-- XCOPY: Copy the source accesses in order to the destination accesses (R141) -/
def execXcopy (core : CoreId) (s : State) : Host.Outcome State Fault Refusal :=
  .next (s.settle (engineRow core 3 .x 1 0 xcopyWork s))

/-- XSEND: Send descriptor bytes to device addresses on another module; retires when the home acknowledges (R289) -/
def execXsend (core : CoreId) (s : State) : Host.Outcome State Fault Refusal :=
  .next (s.settle (engineRow core 3 .x 3 0 xsendWork s))

/-- XCOLL: Run one step of a collective plan: send, combine, store, copy or pass (R293) -/
def execXcoll (core : CoreId) (s : State) : Host.Outcome State Fault Refusal :=
  .next (s.settle (engineRow core 3 .x 4 0 xcollWork s))

/-- SURVEY_REQUEST: The hamlet surveyor serves a neighbourhood or dispatch request and writes a gazetteer (R310) -/
def execSurveyRequest (core : CoreId) (s : State) : Host.Outcome State Fault Refusal :=
  .next (s.settle (unitRow core 1 surveyWork s))

/-- SAMPLE_REQUEST: The hamlet sampler turns rows of logits into token records (R410) -/
def execSampleRequest (core : CoreId) (s : State) : Host.Outcome State Fault Refusal :=
  .next (s.settle (unitRow core 2 sampleWork s))

/-- SMITHY_STAGE: A smithy staging request computes optimizer updates and stages their deltas (R355) -/
def execSmithyStage (core : CoreId) (s : State) : Host.Outcome State Fault Refusal :=
  .next (s.settle (unitRow core 3 smithyStageWork s))

/-- APPLY: APPLY waits for or writes the commit record and then adds the staged deltas in place (R362) -/
def execApply (core : CoreId) (s : State) : Host.Outcome State Fault Refusal :=
  .next (s.settle (applyRow core s))

/-- AUTO_APPLY: When the COMMIT section's commands have retired without an APPLY, the module performs the APPLY itself
(R362) -/
def execAutoApply (s : State) : Host.Outcome State Fault Refusal :=
  .next (s.settle (autoApply s))

/-- STASH: Fill a granary slot, which becomes KEPT, SPILLED, DROPPED or STORED, or raises STASH_EXHAUSTED (R345) -/
def execStash (core : CoreId) (s : State) : Host.Outcome State Fault Refusal :=
  .next (s.settle (stashRow core s))

/-- UNSTASH: Write a slot's contents to the destination, waiting while it is PENDING (R343) -/
def execUnstash (core : CoreId) (s : State) : Host.Outcome State Fault Refusal :=
  .next (s.settle (unitRow core 6 unstashWork s))

/-- PARITY_REDUCTION: A parity-reduction request ends Phase A and sends the staged deltas to the stripe holders (R361)
-/
def execParityReduction (core : CoreId) (s : State) : Host.Outcome State Fault Refusal :=
  .next (s.settle (parityReduction core s))

/-- PARITY_REBUILD_REQUEST: A request to the parity-rebuild queue of the parity engine (R132) -/
def execParityRebuildRequest (core : CoreId) (s : State) : Host.Outcome State Fault Refusal :=
  .next (s.settle (unitRow core 8 (fun _ => pure ()) s))

/-- ENGINE_COMMAND_START: The head command of an engine queue starts once its wait holds, its meter is above zero and
the engine accepts it (R106) -/
def execEngineCommandStart (core : CoreId) (queue : BitVec 4) (s : State) : Host.Outcome State Fault Refusal :=
  .next (s.settle (commandStart core queue.toNat s))

/-- COMMAND_RETIRE: A command retires once its writes are visible and adds its signal increment to its counter (R101)
-/
def execCommandRetire (core : CoreId) (queue : BitVec 4) (s : State) : Host.Outcome State Fault Refusal :=
  .next (s.settle (commandRetireAll core queue.toNat s))

end Sys2Proof.Machine
end

