-- ==== Sys2Proof/Machine/Recovery.lean ====
section
/-! DEFINITION. Stops, the recovery step, replays, rebuilds, the directory's handover, leaving and joining (spec/16 R464-R482,
R489-R491; spec/09 R303). -/

namespace Sys2Proof.Machine

/-! ## STOP and the recovery step (R303, R466-R471) -/

/-- STOP: a fault of another live module stops this one at its next tick; one that comes once the recovery step is known begins another stop
(R468; DEDUCED, log 124). -/
def stopMsg (s : State) : State := { s with rec0 := s.rec0.hear s.bel.frame }

/-- Whether two modules belong to one parity group of G members, in one X ring (R298); with G 0 a module is alone. -/
def State.sameGroup (s : State) (g a b : Nat) : Bool :=
  if g = 0 then a == b
  else
    let p := s.position
    let x := p.coord a
    let y := p.coord b
    x.1 / g == y.1 / g && x.2.1 == y.2.1 && x.2.2 == y.2.2

/-- What the group of a module has made, among the modules' reports of their first step not recorded: the group is that of the G which the
module reports (R298, R303, R469). -/
def State.groupMade (s : State) (made : List (Nat × Nat × Nat)) (m : Nat × Nat × Nat) : Nat :=
  (made.filter fun r => s.sameGroup m.2.2 r.1 m.1).foldl (fun a r => max a r.2.1) 0

/-- The step after the recovery step: the lowest of what the groups have made (R469). -/
def State.stepAfterQ (s : State) (made : List (Nat × Nat × Nat)) : Nat :=
  match made with
  | [] => s.run.nextStep
  | r :: t => t.foldl (fun a x => min a (s.groupMade made x)) (s.groupMade made r)

/-- Whether some group has gone further than one step beyond the recovery step (R469). -/
def State.beyond (s : State) (made : List (Nat × Nat × Nat)) (q : Nat) : Bool :=
  made.any fun r => decide (q + 1 < s.groupMade made r)

/-- A member that has not written the record that its group has made writes it, and every member finishes Phase D (R303,
R468). No frames lost are counted here: no step is replayed. -/
def State.finishCommit (s : State) (groupNext : Nat) : State :=
  let s1 := if s.run.nextStep < groupNext ∧ s.smithy.phase = 2 ∧ s.fab.bSent = true then
      let w := s.copyStripes.writeRecord
      { w with rec0 := s.rec0, bud := s.bud }
    else s
  if 3 ≤ s1.smithy.phase then s1.phaseD true else s1

/-- A TRAINED row that flipped at the first tick after the undone step is back at its old home (R470). -/
def Table.unflip (t : Table) (tick step : Nat) : Table :=
  let back := t.signposts.filter fun p => decide (tick ≤ p.2.2)
  let late := t.gone.filter fun h => decide (tick ≤ h.2.flip)
  let hot1 := t.hot.filter fun h => !(h.2.live && decide (tick ≤ h.2.flip) && h.2.step == step)
  let hot2 := hot1.map fun h => if back.any (fun p => p.1 == rowKey h.2.version h.2.row) then (h.1, { h.2 with live := true }) else h
  { t with
    hot := late.foldl (fun m h => mapPut m h.1 { h.2 with live := true }) hot2, gone := [],
    signposts := t.signposts.filter fun p => !decide (tick ≤ p.2.2),
    redirects := t.redirects.map fun r => if tick ≤ r.2.flip ∧ r.2.step = step
      then (r.1, { r.2 with home := r.2.was.1, slot := r.2.was.2, moving := none }) else r }

/-- The undo of step `n`, the last that this module has recorded: deltas subtracted, the former parity buffer, the record
erased, TRAINED rows back (R470). -/
def State.undoStep (s : State) (n : Nat) : State :=
  match s.recordIn (n % 2) with
  | some r =>
    if r.step ≠ n then s
    else
      let s1 := s.smithy.undo.foldl (fun s v => s.applyDelta false v) s
      let prev := (s1.recordIn ((n + 1) % 2)).filter fun p => p.step + 1 == n
      let buf := match prev with
        | some p => p.buf
        | none => if s1.parityRuns then 1 - s1.fab.buf else s1.fab.buf
      let s2 := s1.putRecord (n % 2) (List.replicate 64 0)
      let f := s2.fab
      { s2 with
        run := { s2.run with stepBind := ((s2.run.oldBind.filter fun b => b.1 == n).map Prod.snd).getD s2.run.stepBind,
                             bindOf := if (s2.run.oldBind.filter fun b => b.1 == n).isSome then some n else s2.run.bindOf },
        fab := { f with buf := buf, lastStep := (prev.map CommitRec.step).getD 0,
                        lastFrame := (prev.map CommitRec.frame).getD 0, phase := .none },
        smithy := { s2.smithy with undo := [] },
        tables := { s2.tables with entries := s2.tables.entries.map fun e =>
          if e.2.trained then (e.1, e.2.unflip r.frame n) else e } }
  | none => s

/-- Work of Phases A and B goes once the group's commit is known not to be made (R303, R363). -/
def State.dropCommit (s : State) : State :=
  if s.smithy.phase = 0 then s
  else
    { s with
      fab := { s.fab with deltas := [], phase := .none, bDone := [], bSent := false },
      smithy := { s.smithy with rows := [], touched := [], requests := 0, phase := 0, parityStarted := false,
                                applyStarted := false, tables := [] } }

/-- Whether a page is rebuilt after a MEM_UE: a covered page of a group whose parity is valid, or any page of a parity buffer (R472). -/
def State.rebuildable (s : State) (vpn : Nat) : Bool :=
  match s.fab.parity with
  | some c =>
    let inBuf (a : Nat) : Bool := decide (a / pageBytes ≤ vpn) && decide (vpn < a / pageBytes + c.bufPages)
    (s.fab.valid && decide (c.base / pageBytes ≤ vpn) && decide (vpn < c.base / pageBytes + c.pages)) || inBuf c.buf0 || inBuf c.buf1
  | none => false

/-- The page whose frame holds a 32-byte word. -/
def State.pageOfWord (s : State) (w : Nat) : Option Nat :=
  (s.tier.xlate.find? fun e => (e.2.tier == .local || e.2.tier == .staged) && e.2.frame == w / 2048).map Prod.fst

/-- Whether a poisoned word lies in a page that parity rebuilds. -/
def State.wordRebuildable (s : State) (w : Nat) : Bool := match s.pageOfWord w with
  | some v => s.rebuildable v
  | none => false

/-- The class that decides a stop: MODULE, then LINK, then STEP, then MEMORY, then CORE (R466, R481). -/
def decidingClass (cs : List Nat) : Nat :=
  if cs.contains 5 then 5 else if cs.contains 4 then 4 else if cs.contains 1 then 1
  else if cs.contains 3 then 3 else if cs.contains 2 then 2 else 0

/-- RETIRE_CAUSE of a core fault (Table 04-6). -/
def causeOf (code : Nat) : Nat := if code = cResidue then 2 else if code = cFrameOverrun then 3 else 4

/-- Cores that this module's faults of the stop retire; a FRAME_OVERRUN while a port was DOWN or training, or within 512
frames after, retires none (R111, R467). -/
def State.toRetire (s : State) : List (Nat × Nat) :=
  s.rec0.faults.filterMap fun e =>
    if e.cls = 2 ∧ e.unit = 1 ∧ !(e.code = cFrameOverrun ∧ s.rec0.spared.contains e.index = true) then some (e.index, causeOf e.code) else none

/-- The retirements take effect (R111, R116). -/
def State.retireFaulted (s : State) : State := s.toRetire.foldl (fun s r => s.retireCore r.1 r.2) s

/-- What a stop leaves on a core goes before work begins again: the command that a fault stopped and any that has still not
retired, its lane tasks, tiles of the mill not taken, and what a vector context holds that will not issue (R183, R231, R468;
DESIGN CHOICE, log 121). -/
def Core.afterStop (k : Core) : Core :=
  { k with queues := k.queues.map fun q => (q.1, { q.2 with run := none }), lanes := [], drained := [], tileQ := [],
           ctxs := k.ctxs.map fun x => (x.1, { x.2 with buf := [], unret := [], stopped := false }) }

/-- The stop is over; another begins with what has come since its recovery step was announced (R466). -/
def Rec.over (r : Rec) : Rec :=
  { r with faults := r.later, later := [], stopping := r.again, again := false, stopped := false, q := none,
           ueNow := if r.again then r.ueNow else [], modules := [], spared := [] }

/-- The stop is over. -/
def State.endStop (s : State) : State :=
  { s with cores := s.cores.map (fun c => (c.1, c.2.afterStop)), rec0 := s.rec0.over }

/-- A module that UNRECOVERABLE stops holds IDLE (R469, R478). -/
def State.unrecoverable (s : State) : State :=
  let s1 := (raise cUnrecoverable 0 0 0 s).endStop
  { s1 with run := { s1.run with state := .idle }, bud := { s1.bud with lastClass := 5 } }

/-- What a stopped module does once Q is known: `classes` are those of the faults that other modules raised. With lost modules to deal
with it is IDLE once that is done, or at once where LINK_HARD holds it (R466, R471, R473). -/
def State.respond (s : State) (q : Nat) (classes : List Nat) : State :=
  let other := s.rec0.ueNow.filter fun w => !s.wordRebuildable w
  let again := other.any fun w => s.rec0.poisonSeen.contains w
  let mine := s.rec0.faults.map EventRec.cls
  let cls := decidingClass (mine ++ classes ++ if again then [1] else [])
  let tries := mapGet 0 s.run.tries q + 1
  let pages := if 4 ≤ cls then [] else ((s.rec0.ueNow.filterMap s.pageOfWord).filter s.rebuildable).eraseDups
  let lost := (s.rec0.faults.filterMap fun e => if e.code = cPeerLost then some e.index else none).eraseDups
  let s1 : State := { s with
    run := { s.run with tries := mapPut s.run.tries q tries },
    bud := { s.bud with lastClass := cls },
    rec0 := { s.rec0 with q := some q, rebuild := (s.rec0.rebuild ++ pages).eraseDups, ueNow := [], poisonSeen := (s.rec0.poisonSeen ++ other).eraseDups,
                          modules := if 4 ≤ cls then lost else [] } }
  if cls = 2 ∨ cls = 3 then
    if tries < 3 then { s1 with run := { s1.run with state := .replaying } }
    else let s2 := s1.retireFaulted.endStop; { s2 with run := { s2.run with state := .held } }
  else if cls = 1 then let s2 := s1.retireFaulted.endStop; { s2 with run := { s2.run with state := .held } }
  else if s1.rec0.modules.isEmpty then let s2 := s1.endStop; { s2 with run := { s2.run with state := .idle } }
  else if s1.rec0.holdIdle.isSome then { s1 with run := { s1.run with state := .idle } }
  else s1

/-- RECOVERY_STEP_ANNOUNCE: with every module stopped, the root announces the recovery step from the modules' reports, each
the first step that the module has not recorded and the G of its group; the module finishes a commit that its group has made, undoes step Q + 1
where it has recorded it, and responds as the classes of the faults say (R303, R466, R469, R470, R471). -/
def recoveryStepAnnounce (made : List (Nat × Nat × Nat)) (classes : List Nat) (s : State) : State :=
  if s.rec0.stopped = false ∨ s.rec0.q.isSome = true then s
  else
    let all := (s.modNo, s.run.nextStep, s.groupG) :: made.filter fun r => r.1 != s.modNo && s.isLive r.1
    let q := s.stepAfterQ all
    let s0 := if s.bel.root then s.send (.recoveryStep q) else s
    let s1 := s0.finishCommit (s0.groupMade all (s0.modNo, 0, s0.groupG))
    let s2 := s1.dropCommit
    if s.beyond all q then s2.unrecoverable
    else
      let s3 := if q < s2.run.nextStep ∧ s2.run.anyCommit = true then s2.undoStep (s2.run.nextStep - 1) else s2
      let kept := (s3.recordIn ((q + 1) % 2)).any fun r => r.step + 1 == q
      let s4 : State := { s3 with run := { s3.run with nextStep := q, committed := if kept then q - 1 else 0, anyCommit := kept,
                                                       inStep := false, bounded := false, interlude := false,
                                                       interludeDue := false, frameLive := false, resumePos := none } }
      s4.respond q classes

/-- REPLAY_BEGIN: at the first tick after every rebuild is done the faulted cores retire and the replay of step Q + 1 begins
(R111, R471). -/
def replayBegin (s : State) : State :=
  if s.run.state ≠ .replaying ∨ s.rec0.q.isNone = true ∨ s.rec0.rebuild ≠ [] ∨ s.bel.cycle ≠ 0 then s
  else stepBegin s.retireFaulted.endStop

/-! ## Rebuilds (R472, R477) -/

/-- A page's bytes from the parity of its stripe and the sum of the other members' pages (R477). -/
def State.rebuiltPage (s : State) (vpn : Nat) (parity sum : List Byte) : List Byte :=
  match s.fab.parity with
  | some c =>
    if c.base / pageBytes ≤ vpn ∧ vpn < c.base / pageBytes + c.pages then subWords parity sum else sum
  | none => sum

/-- PAGE_REBUILD: after the undo a poisoned covered page is rebuilt in place from its stripe's parity word and the sum of the
other members' words; a parity page is the sum of the members' words (R472, R477). -/
def pageRebuild (vpn : Nat) (parity sum : List Byte) (s : State) : State :=
  if s.rec0.rebuild.contains vpn ∧ parity.length = pageBytes ∧ sum.length = pageBytes then
    let s1 := s.pokeLocal (vpn * pageBytes) (s.rebuiltPage vpn parity sum)
    { s1 with rec0 := { s1.rec0 with rebuild := s1.rec0.rebuild.erase vpn } }
  else s

/-- SCRUB_POISON_REBUILD: at a step boundary a covered or parity word that the scrub poisoned is rebuilt in the same way,
with no stop (R262, R472). -/
def scrubPoisonRebuild (word : Nat) (parity sum : List Byte) (s : State) : State :=
  match s.pageOfWord word with
  | some vpn =>
    if s.tier.poison.contains word ∧ s.rebuildable vpn = true ∧ s.run.inStep = false ∧ s.smithy.phase = 0 ∧
        s.rec0.stopping = false ∧ parity.length = pageBytes ∧ sum.length = pageBytes then
      s.pokeLocal (vpn * pageBytes) (s.rebuiltPage vpn parity sum)
    else s
  | none => s

/-! ## The directory part of a lost module (R476) -/

/-- The directory entry that this module can give for a page that it homes or owns. -/
def State.ownEntry (s : State) (vpn : Nat) (e : XEntry) : Option DEntry :=
  let owner := mapFind s.tier.owners vpn
  let mk (o h : Nat) (host : Bool) : DEntry := ⟨o, h, host, false, e.pin, e.w, e.stage, e.late, 0⟩
  match e.tier with
  | .local => some (mk (owner.getD s.modNo) s.modNo false)
  | .host => some (mk s.modNo s.modNo true)
  | _ => if owner = some s.modNo then some (mk s.modNo e.mod false) else none

/-- The deputy takes an entry: a new page, or HOME from the module that says it is the home (R476). -/
def State.deputeEntry (s : State) (src vpn : Nat) (e : DEntry) : State :=
  if (mapFind s.tier.dir vpn).isNone || e.home == src then
    s.modTier fun t => { t with dir := mapPut t.dir vpn e, deputised := if t.deputised.contains vpn then t.deputised else t.deputised ++ [vpn] }
  else s

/-- This module's directory part comes back to it (R491). -/
def State.takePart (s : State) (entries : List (Nat × DEntry)) : State :=
  (entries.filter fun e => s.dirAt e.1 == s.modNo).foldl (fun s e => s.putDir e.1 e.2) s

/-- DIRECTORY_HANDOVER: of a module that is not live, every live module sends the deputy the entries of its pages; the deputy,
this module or another, keeps them. To a module that is back the deputy hands its part (R476, R491). -/
def directoryHandover (lost src : Nat) (entries : List (Nat × DEntry)) (s : State) : State :=
  if lost = s.modNo then s.takePart entries
  else if s.isLive lost || decide (s.modCount ≤ lost) then s
  else
    let dep := s.deputy lost
    let mine := s.tier.xlate.filterMap fun e =>
      if dirModule s.modCount e.1 = lost then (s.ownEntry e.1 e.2).map fun d => (e.1, d) else none
    if dep = s.modNo then
      let s1 := mine.foldl (fun s e => s.deputeEntry s.modNo e.1 e.2) s
      (entries.filter fun e => dirModule s.modCount e.1 == lost).foldl (fun s e => s.deputeEntry src e.1 e.2) s1
    else mine.foldl (fun s e => s.send (.dirEntry dep e.1 (some e.2))) s

/-! ## The shard of a lost module (R477-R479) -/

/-- Where protected page `k` of a member goes when the member is lost: its holder and the page of that holder's parity buffer
(R299, R477). -/
def State.shardPlace (s : State) (lost k : Nat) : Nat × Nat :=
  let g := s.groupSize
  let m := match s.fab.parity with
    | some c => (s.position.coord lost).1 % c.g
    | none => 0
  let st := stripeOf g m k
  (s.memberMod (st % g), st)

/-- Protected pages of a member as exchanged at the first commit: page number and VPN (R474). -/
def State.shardPages (s : State) (lost : Nat) : List (Nat × Nat) :=
  match mapFind s.fab.memberCfg lost with
  | some c => (List.range c.2.2.2).map fun k => (k, c.2.2.1 / pageBytes + k)
  | none => []

/-- Address of this module's own page of a stripe. -/
def State.ownStripeVa (s : State) (st : Nat) : Option Nat := match s.fab.parity with
  | some c => match pageOfStripe s.groupSize s.memberIdx st with
    | some k => if k < c.pages then some (c.base + k * pageBytes) else none
    | none => none
  | none => none

/-- This module's own page of a stripe; zeros where it has none (R477). -/
def State.ownStripePage (s : State) (st : Nat) : List Byte := match s.ownStripeVa st with
  | some a => s.peekLocal a pageBytes
  | none => List.replicate pageBytes 0

/-- The next survivor of the group on the way from member `m` to the holder `h` by the shorter way round the X ring: the lost module's
number is no stop; a member between another and the holder lies on that one's way too (R279, R477). -/
def State.towards (s : State) (lost m h : Nat) : Nat :=
  let p := s.position
  let n := p.shapeX
  let a := p.coord m
  let b := p.coord h
  let up := (b.1 + n - a.1) % n
  let down := (a.1 + n - b.1) % n
  let steps := if up ≤ down then (List.range up).map fun i => (a.1 + i + 1) % n else (List.range down).map fun i => (a.1 + n - (i + 1)) % n
  let way := steps.map fun x => p.number x a.2.1 a.2.2
  (way.find? fun v => v != lost && s.group.contains v && s.isLive v).getD h

/-- The survivors of the group whose partial sums of a stripe come to this module next (R477). -/
def State.feeders (s : State) (lost h : Nat) : List Nat :=
  s.group.filter fun m => m != lost && m != h && s.isLive m && s.towards lost m h == s.modNo

/-- The sum of a stripe's words of this module and of the survivors whose sums come to it, holder or not (R477). -/
def State.partSum (s : State) (sums : List (Nat × List Byte)) (st : Nat) (own : List Byte) : List Byte :=
  (sums.filter fun x => x.1 == st).foldl (fun a x => addWords a x.2) own

/-- The page of a lost member as the holder knows it: its directory entry, or what its directory module tells (R477). -/
def State.lostEntry (s : State) (lost : Nat) (told : List (Nat × DEntry)) (vpn : Nat) : Option DEntry :=
  (mapFind s.tier.dir vpn).orElse fun _ => (mapFind told vpn).map fun d => { d with owner := mapGet lost s.tier.owners vpn }

/-- Whether this module can do its part of a page of the lost shard: the partial sums due to it have come, and at the holder the page's
W and PIN are known (R477). -/
def State.partReady (s : State) (lost : Nat) (sums : List (Nat × List Byte)) (told : List (Nat × DEntry)) (p : Nat × Nat) : Bool :=
  let (h, st) := s.shardPlace lost p.1
  (sums.filter fun x => x.1 == st).length == (s.feeders lost h).length && (h != s.modNo || (s.lostEntry lost told p.2).isSome)

/-- A page becomes one of this module's: written into a page of its own that serves as its frame, kept for the lost member, and told to
its directory module. OWNER, W and PIN are the entry's (R477, R478). -/
def State.adoptShard (s : State) (vpn frameVa : Nat) (d0 : DEntry) (bytes : List Byte) : State :=
  let d : DEntry := { d0 with home := s.modNo, homeHost := false, moving := false }
  let s1 := s.pokeLocal frameVa bytes
  match mapFind s1.tier.xlate (frameVa / pageBytes) with
  | some e =>
    let s2 := (s1.putX vpn ⟨.local, d.w, d.pin, false, d.stage, d.late, e.frame, 0, 0, false⟩).modTier fun t =>
      { t with owners := mapPut t.owners vpn d.owner }
    ({ s2 with fab := { s2.fab with adopted := (s2.fab.adopted ++ [vpn]).eraseDups.mergeSort fun a b => decide (a ≤ b) } }).storeDir vpn d
  | none => s1

/-- One page of the lost shard: the holder writes it into its parity buffer that is not current, whose frame becomes the page's
home; any other survivor adds its own page to the partial sums that have come to it, and sends the sum on toward the holder (R477). -/
def State.rebuildPage (s : State) (lost : Nat) (sums : List (Nat × List Byte)) (told : List (Nat × DEntry)) (p : Nat × Nat) : State :=
  let (holder, st) := s.shardPlace lost p.1
  match s.fab.parity, s.lostEntry lost told p.2 with
  | none, _ => s
  | some c, d =>
    if holder ≠ s.modNo then
      ((s.ownStripeVa st).toList.foldl (fun s a => (s.meetPoison a pageBytes).chargeLocal a pageBytes) s).send
        (.shardPart (s.towards lost s.modNo holder) st (s.partSum sums st (s.ownStripePage st)))
    else match d with
      | none => s
      | some e =>
        let cur := c.stripeVa s.groupSize s.fab.buf st
        let sum := s.partSum sums st (List.replicate pageBytes 0)
        ((s.meetPoison cur pageBytes).chargeLocal cur pageBytes).adoptShard p.2 (c.stripeVa s.groupSize (1 - s.fab.buf) st) e
          (subWords (s.peekLocal cur pageBytes) sum)

/-- What else this module holds of a lost module goes: entries of pages homed there, moves, staged copies, row records
(R479). `back` are the new homes of the pages that are rebuilt. The number counts directory entries that are lost. -/
def State.forget (s : State) (lost : Nat) (back : List (Nat × Nat)) : Nat × State :=
  let t := s.tier
  let gone (v : Nat) (d : DEntry) : Bool := (if d.homeHost then d.owner == lost else d.home == lost) && (mapFind back v).isNone
  let n := (t.dir.filter fun e => gone e.1 e.2).length
  let unstaged := (t.staged.filter fun f => f.2.home == lost).foldl (fun s f => s.dropStage f.1) s
  let noHolder := (t.holders.filter fun h => h.2.contains lost).foldl (fun s h => s.loseHolder lost h.1) unstaged
  let abandoned := (t.movesOut.filter fun m => m.2.dest == lost).foldl (fun s m => s.endMove m.1) noHolder
  let cancelled := (t.movesIn.filter fun m => m.2.source == lost).foldl (fun s m => s.endMove m.1) abandoned
  let moved (t : Tier) (e : Nat × DEntry) : Nat × DEntry := match mapFind back e.1 with
    | some h => if e.2.home = lost then (e.1, { e.2 with home := h, moving := false }) else e
    | none => if (mapFind t.grants e.1).any (fun g => g.1 % 2 ^ 12 == lost) then (e.1, { e.2 with moving := false }) else e
  (n, cancelled.modTier fun t => { t with
    dir := (t.dir.filter fun e => !gone e.1 e.2).map (moved t),
    grants := t.grants.filter fun g => g.2.1 % 2 ^ 12 != lost,
    xlate := t.xlate.filter fun e => !((e.2.tier == .pool) && e.2.mod == lost) })

/-- Rows of this module's base slots that had moved to the lost module are back in their base slots; for a TRAINED table the
rebuilt words go in as a delta that the group's current parity takes (R479). -/
def State.returnRows (s : State) (lost : Nat) (rows : List (Nat × Nat × List Byte)) : State :=
  let s1 := rows.foldl (fun (s : State) r =>
    match s.table r.1 with
    | some t =>
      if !t.trained || !((mapFind t.redirects r.2.1).any fun x => x.home == lost) then s
      else
        let p := t.baseParts r.2.1
        let put (s : State) (a : Nat) (new : List Byte) : State :=
          if new.isEmpty then s
          else
            let n := pad8 new.length
            let old := s.peekLocal a n
            let full := new ++ old.drop new.length
            let d := subWords full old
            let s2 := (s.writeSum (.own (2 ^ 52)) [a] a full).2
            let vpn := a / pageBytes
            match s2.deltaDest vpn with
            | some (m, st) => if s2.parityRuns then
                s2.send (.parityDelta m st (List.replicate (a % pageBytes) 0 ++ d ++ List.replicate (pageBytes - a % pageBytes - n) 0) 0)
              else s2
            | none => s2
        let b := r.2.2
        put (put (put s p.1 (b.take t.valueBytes)) p.2.1 ((b.drop t.valueBytes).take t.mBytes)) p.2.2
          ((b.drop (t.valueBytes + t.mBytes)).take t.vBytes)
    | none => s) s
  { s1 with tables := { s1.tables with entries := s1.tables.entries.map fun e => (e.1, { e.2 with
      redirects := (e.2.redirects.filter fun r => r.2.home != lost).map fun r =>
        if (r.2.moving.map Prod.fst) = some lost then (r.1, { r.2 with moving := none }) else r,
      moves := e.2.moves.filter fun m => m.2.dest != lost }) } }

/-- SHARD_REBUILD: the pages of a lost member of this module's group are rebuilt on their holders, from the partial sums that come to
this module along the X ring; pages that nothing restores are forgotten and DATA_LOST is posted;
once the last lost module is dealt with, the module is IDLE at Q. A member that left by a handover has its pages on other modules already.
`told` gives the new homes of restored pages with their W and PIN, and no list where the lost module's group could not rebuild it;
`rows` the rebuilt words of TRAINED rows. LINK_HARD holds the rebuild back (R471, R473, R477-R479, R489). -/
def shardRebuild (lost : Nat) (sums : List (Nat × List Byte)) (told : Option (List (Nat × DEntry))) (rows : List (Nat × Nat × List Byte))
    (s : State) : State :=
  if s.rec0.q.isNone = true ∨ s.rec0.modules.contains lost = false ∨ s.rec0.holdIdle.isSome = true then s
  else
    let mine := s.fab.parity.isSome && s.sameGroup s.groupG lost s.modNo
    let left := s.fab.left.contains lost
    if !left && ((mine && (s.fab.degraded || !s.fab.valid)) || (!mine && told.isNone)) then s.unrecoverable
    else
      let known := told.getD []
      let pages := if mine && !left then s.shardPages lost else []
      if !pages.all (s.partReady lost sums known) then s
      else
        let back := pages.map (fun p => (p.2, (s.shardPlace lost p.1).1)) ++ known.map fun t => (t.1, t.2.home)
        let s1 := pages.foldl (fun s p => s.rebuildPage lost sums known p) s
        let s2 : State := if mine then
            { s1 with fab := { s1.fab with degraded := true, valid := false, building := false },
                      bud := { s1.bud with rebuilds := if left then s1.bud.rebuilds else satAdd 8 s1.bud.rebuilds 1 } }
          else s1
        let r := (s2.returnRows lost rows).forget lost back
        let s3 := raise cDataLost 0 lost r.1 { r.2 with fab := { r.2.fab with left := r.2.fab.left.erase lost } }
        let rest := s3.rec0.modules.erase lost
        if rest.isEmpty then
          let s4 := s3.endStop
          { s4 with run := { s4.run with state := .idle } }
        else { s3 with rec0 := { s3.rec0 with modules := rest } }

/-! ## Leaving and joining (R489-R491) -/

/-- The machine stops at a boundary, with Q the boundary and nothing to undo: this module tells the others and stops (R468, R489, R491). -/
def State.stopAtBoundary (s : State) : State :=
  if s.rec0.stopped then s
  else State.stopNow { s with rec0 := s.rec0.hear s.bel.frame, outbox := s.outbox ++ [Msg.stop] }

/-- The machine is IDLE at the boundary. -/
def State.idleAtBoundary (s : State) : State :=
  let s1 := s.endStop
  { s1 with run := { s1.run with state := .idle, interludeDue := false }, rec0 := { s1.rec0 with since := [] } }

/-- Whether the module stands at the boundary of step `b` (R489, R490). -/
def State.atBoundary (s : State) (b : Nat) : Bool :=
  s.run.anyCommit && s.run.committed == b && !s.run.inStep && s.smithy.phase == 0

/-- Sends a page that this module holds to its new home, whole, and tells its directory module; OWNER stays (R475, R489, R491). -/
def State.handPage (s : State) (vpn dest : Nat) : State :=
  match mapFind s.tier.xlate vpn with
  | some e =>
    if e.tier ≠ .local then s
    else
      let d : DEntry := ⟨mapGet s.modNo s.tier.owners vpn, dest, false, false, e.pin, e.w, e.stage, e.late, s.bel.frame⟩
      let b := s.frameBytes e.frame
      let s1 := (s.chargePlace e false).send (.pageNew dest vpn d)
      let s2 := (List.range movePieces).foldl (fun s i => s.send
        (.movePiece dest vpn i ((b.drop (2048 * i)).take 2048) (s.badWords e.frame (2048 * i) 2048))) s1
      (s2.storeDir vpn d).putX vpn { e with tier := .pool, mod := dest, frame := 0, lent := false }
  | none => s

/-- Targets of the pages one by one: target `m` takes as many as its quotas allow (R489). -/
def dealPages (targets room : List Nat) : List Nat := (targets.zip room).flatMap fun p => List.replicate p.2 p.1

/-- A page handed over finds its place: as a protected page of a member of this module's group, on the holder of R477, in the page of its
parity buffer that is not current; else in a new frame, LOCAL and PIN, as far as the quotas allow (R477, R489, R491). -/
def State.takePage (s : State) (shard : Option Nat) (p : HandedPage) : State :=
  let v := p.vpn.toNat
  let place : Option Nat := match shard, s.fab.parity with
    | some n, some c =>
      ((s.shardPages n).find? fun q => q.2 == v).bind fun q =>
        let h := s.shardPlace n q.1
        if h.1 = s.modNo then some (c.stripeVa s.groupSize (1 - s.fab.buf) h.2) else none
    | _, _ => none
  let bad (s : State) : State := match mapFind s.tier.xlate v with
    | some e => s.modTier fun t => { t with poison := t.poison ++ p.bad.map fun w => e.frame * 2048 + w.toNat }
    | none => s
  match place with
  | some va => bad (s.adoptShard v va p.entry (p.bytes.take pageBytes))
  | none =>
    if p.entry.home ≠ s.modNo ∨ (mapFind s.tier.xlate v).any (fun e => e.tier == .local || e.tier == .host) then s
    else match s.takeFrame v with
      | none => s
      | some (f, s1) =>
        if s.acceptsPage p.entry.owner false then
          bad (((s1.putX v { xOfDir p.entry with tier := .local, frame := f, mod := 0 }).modTier fun t =>
            { t with owners := mapPut t.owners v p.entry.owner }).putFrame f (p.bytes.take pageBytes))
        else s

/-- A stopped module takes the pages that a leaving one hands over (R489). -/
def State.takeHandover (s : State) (src : Nat) (pages : List HandedPage) : State :=
  if !s.rec0.stopping then s
  else
    let shard := if s.fab.parity.isSome && s.sameGroup s.groupG src s.modNo && !s.fab.degraded then some src else none
    let s1 := pages.foldl (fun s p => s.takePage shard p) s
    { s1 with fab := { s1.fab with left := if s1.fab.left.contains src then s1.fab.left else s1.fab.left ++ [src] } }

/-- LEAVE_HANDOVER: at its boundary the leaving module hands its protected pages to the holders of R477, or to its pool target
list where its group is degraded, leaves whole at this boundary, or does not exist; where they do not fit it stays. `room`
gives the pages that each target's quotas allow. Any other module takes what comes to it (R489). -/
def leaveHandover (whole : Bool) (part : Handover) (s : State) : State :=
  match part, s.fab.leave with
  | .take src pages, _ => s.takeHandover src.toNat pages
  | .give _, none => s
  | .give room, some b =>
    if !s.atBoundary b || !s.rec0.faults.isEmpty then s
    else
      let s1 := s.stopAtBoundary
      let s2 : State := { s1 with fab := { s1.fab with leave := none } }
      match s2.fab.parity with
      | none => ((s2.flush s.outbox.length).leaveRings).idleAtBoundary
      | some c =>
        let pages := (List.range c.pages).map fun k => (k, c.base / pageBytes + k)
        let plan := if s2.fab.degraded || whole then (dealPages s2.tier.targets (room.map BitVec.toNat)).filter fun m => m != s2.modNo
          else pages.map fun p => (s2.shardPlace s2.modNo p.1).1
        if plan.length < c.pages then (raise cLeaveRefused 0 0 0 s2).idleAtBoundary
        else ((((pages.zip plan).foldl (fun s p => s.handPage p.1.2 p.2) s2).flush s.outbox.length).leaveRings).idleAtBoundary

/-- What a live module gives back to a joiner: as deputy its directory part, as holder its adopted pages, in ascending VPN
(R491). -/
def State.handBack (s : State) (n : Nat) : State :=
  let part := s.tier.dir.filter fun e => s.tier.deputised.contains e.1 && dirModule s.modCount e.1 == n
  let s1 := part.foldl (fun s e => (s.send (.dirEntry n e.1 (some e.2))).modTier fun t =>
    { t with dir := mapErase t.dir e.1, deputised := t.deputised.erase e.1 }) s
  (s1.fab.adopted.filter fun v => mapFind s1.tier.owners v == some n).foldl (fun s v =>
    let s2 := s.handPage v n
    { s2 with fab := { s2.fab with adopted := s2.fab.adopted.erase v },
              tier := { s2.tier with owners := mapErase s2.tier.owners v } }) s1

/-- JOIN_ADMISSION: at boundary J the root admits a joiner whose coordinate is not live, whose bell is LOCKED and whose
position names the machine's shape, with no stop in progress; the joiner takes its rings, the others give back what is its,
and every module ends IDLE. `part` is the root's answer where this module is not the root, or what comes back to the joiner, which takes it
in ascending VPN (R284, R490, R491). -/
def joinAdmission (n J : Nat) (locked shapeOk : Bool) (part : JoinPart) (s : State) : State :=
  if n = s.modNo then
    match part with
    | .decide => s
    | .answer admitted =>
      if s.fab.join ≠ some J then s
      else
        let s1 : State := { s with fab := { s.fab with join := none } }
        if admitted then let s2 := s1.takeRings; { s2 with run := { s2.run with state := .idle } } else s1
    | .back entries pages =>
      if s.inBypass || s.run.state != .idle then s
      else
        (pages.mergeSort fun a b => decide (a.vpn.toNat ≤ b.vpn.toNat)).foldl (fun s p => s.takePage none p)
          (s.takePart (entries.map fun e => (e.1.toNat, e.2)))
  else if !s.atBoundary J then s
  else
    let ok := if s.bel.root then !s.isLive n && decide (n < s.modCount) && locked && shapeOk && !s.rec0.stopping
      else part == .answer true
    let s1 : State := if s.fab.join = some J then { s with fab := { s.fab with join := none } } else s
    let s2 := if s.bel.root then s1.send (.joinReply ok) else s1
    if ok then ((s2.stopAtBoundary).handBack n).idleAtBoundary
    else if s.bel.root then raise cJoinRefused 0 0 0 s2 else s2

end Sys2Proof.Machine
end

