-- ==== Sys2Proof/Machine/RowsFabric.lean ====
section
/-! DEFINITION. The meanings of the table's rows, one definition for each: Links, rings, transfers and the commit (spec/09). -/

namespace Sys2Proof.Machine

/-- CELL_RECEIVE: A cell with good CRC and the next sequence number is accepted; others are discarded and a NAK sent
(R272) -/
def execCellReceive (port : Port) (block : LinkBlock) (s : State) : Host.Outcome State Fault Refusal :=
  .next (s.settle (cellReceive port block.bytes (block.fec.1.toNat, block.fec.2.toNat) s))

/-- IDLE_BLOCK: An IDLE block returns acks and credits or a NAK that makes the sender resend from the named cell
(R272) -/
def execIdleBlock (port : Port) (block : LinkBlock) (s : State) : Host.Outcome State Fault Refusal :=
  .next (s.settle (idleBlock port block.bytes (block.fec.1.toNat, block.fec.2.toNat) s))

/-- LINK_RETRAIN: A port retrains, at half rate on the good lane pair or DOWN, after lane failure or 16 resends (R270)
-/
def execLinkRetrain (port : Port) (failed : BitVec 4) (s : State) : Host.Outcome State Fault Refusal :=
  .next (s.settle (linkRetrain port failed s))

/-- PORT_TRAIN_COMPLETE: Training ends with the port UP, MISWIRED or DOWN after comparing positions in TRAIN blocks; a
change of peer discards buffers (R277) -/
def execPortTrainComplete (port : Port) (peer : Option W64) (s : State) : Host.Outcome State Fault Refusal :=
  .next (s.settle (portTrainComplete port peer s))

/-- LINK_FAILED: A port DOWN for 2 ms toward a live peer is a link failure; the higher-numbered module leaves its
rings (R473) -/
def execLinkFailed (port : Port) (s : State) : Host.Outcome State Fault Refusal :=
  .next (s.settle (linkFailed port s))

/-- LINK_HARD: A ring that does not train through the keeper within 2 ms makes every module hold IDLE (R473) -/
def execLinkHard (ring : Fin 3) (s : State) : Host.Outcome State Fault Refusal :=
  .next (s.settle (linkHard ring s))

/-- MEMBERSHIP: MEMBERSHIP messages bring each ring's modules to one live set, shortening rings and re-choosing the
bell root (R278) -/
def execMembership (at_ : ModId) (dim : Fin 3) (live : W32) (s : State) : Host.Outcome State Fault Refusal :=
  .next (s.settle (membership at_ dim live s))

/-- XSEND_DATA: XSEND or PASS data arriving at the destination is written there, PASS adding to a counter (R296) -/
def execXsendData (src : ModId) (addr : VA) (bytes : List Byte) (tag : W32) (pass : Option (CoreId × ScReg × BitVec
    16)) (s : State) : Host.Outcome State Fault Refusal :=
  .next (s.settle (xsendData src.toNat addr.toNat bytes tag.toNat (pass.map fun p => (p.1.toNat, p.2.1.toNat,
    p.2.2.toNat)) s))

/-- COLL_PARTIAL: A received collective partial or copy chunk waits in staging until its step takes it (R293) -/
def execCollPartial (src : ModId) (coll : BitVec 16) (chunk : BitVec 16) (lo n : BitVec 32) (bytes : List Byte) (tag
    : W32) (s : State) : Host.Outcome State Fault Refusal :=
  .next (s.settle (collPartial src.toNat ⟨coll.toNat, chunk.toNat, lo.toNat, n.toNat⟩ bytes tag.toNat s))

/-- BULK_ACK: Acknowledgement of BULK data reaches the sender (R274) -/
def execBulkAck (tag : W32) (s : State) : Host.Outcome State Fault Refusal :=
  .next (s.settle (bulkAck tag.toNat s))

/-- PARITY_DELTA: A holder adds received delta pages into the alternate parity stripe (R301) -/
def execParityDelta (src : ModId) (stripe : W32) (bytes : List Byte) (tag : W32) (s : State) : Host.Outcome State
    Fault Refusal :=
  .next (s.settle (parityDelta src.toNat stripe.toNat bytes tag.toNat s))

/-- COMMIT_CTRL: A B_DONE message reaches a group member (R301) -/
def execCommitCtrl (src : ModId) (step : W64) (cfg : Option (BitVec 4 × W32 × W64 × W32)) (s : State) : Host.Outcome
    State Fault Refusal :=
  .next (s.settle (commitCtrl src.toNat step.toNat (cfg.map fun c => (c.1.toNat, c.2.1.toNat, c.2.2.1.toNat,
    c.2.2.2.toNat)) s))

/-- COMMIT_RECORD_WRITE: Holding B_DONE from every member, the module writes its commit record, marking the step
boundary and any pending hold (R302) -/
def execCommitRecordWrite (s : State) : Host.Outcome State Fault Refusal :=
  .next (s.settle (commitRecordWrite s))

/-- DELTA_APPLY: Once the commit record is durable the staged deltas are applied in place and the next step may begin
(R301) -/
def execDeltaApply (s : State) : Host.Outcome State Fault Refusal :=
  .next (s.settle (deltaApply s))

/-- PARITY_BUILD: Parity engines build the current parity buffer from data and set VALID when complete on every member
(R300) -/
def execParityBuild (sums : List (W32 × List Byte)) (complete : Bool) (s : State) : Host.Outcome State Fault Refusal
    :=
  .next (s.settle (parityBuild (sums.map fun p => (p.1.toNat, p.2)) complete s))

/-- RING_TAKEOVER: The die takes its rings back from BYPASS, keepers enter PASS and ports train (R284) -/
def execRingTakeover (s : State) : Host.Outcome State Fault Refusal :=
  .next (s.settle (ringTakeover s))

/-- LINK_LOST: A port loses its peer's incoming stream, as when a neighbour enters BYPASS or is removed, goes DOWN and
begins to retrain toward whatever now lies at the far end (R285) -/
def execLinkLost (port : Port) (s : State) : Host.Outcome State Fault Refusal :=
  .next (s.settle (linkLost port s))

end Sys2Proof.Machine
end

