-- ==== Sys2Proof/Machine/Override.lean ====
section
/-! DEFINITION. Overrides of debug-unlock state: the fields of State that hold a register's fields take the value written (spec/14
R419). -/

namespace Sys2Proof.Machine

/-- A map with the value of one key changed. -/
def mapMod {β : Type} [DecidableEq β] (d : β) (m : List (Nat × β)) (k : Nat) (f : β → β) : List (Nat × β) :=
  mapSet d m k (f (mapGet d m k))

/-- A core-window register whose value is to be `v`. The counters PERFCTR are the counters of the core (Tables 02-5, 04-3, 04-6, 05-14,
05-15, 06-4, 06-12, 07-5). -/
def Core.poke (k : Core) (w v : Nat) : Core :=
  let r := k.regs
  if w = 0 then
    { k with regs := { r with retired := bit v 0, retireCause := field v 31 24, hosting := bit v 2 },
             detour := if bit v 1 then k.detour.map fun d => { d with sub := BitVec.ofNat 8 (field v 23 16) } else none }
  else if w = 0x40 then { k with regs := { r with satCount := field v 63 32, ovfArisen := field v 31 0 } }
  else if w = 0x48 then
    { k with regs := { r with rangeCount := field v 63 40, structCount := field v 39 16, structSticky := bit v 1, rangeSticky := bit v 0 } }
  else if w = 0x50 then
    { k with regs := { r with residueCount := field v 63 48, residueKind := field v 34 34, residueBank := field v 33 33,
                              residueValid := bit v 32, residueTask := field v 31 0 } }
  else if w = 0x58 then
    { k with regs := { r with vValid := bit v 63, vVctx := field v 57 56, vFault := field v 51 48, vOp := field v 38 32,
                              vTask := field v 31 0 } }
  else if w = 0x60 then { k with regs := { r with hazard := BitVec.ofNat 64 v } }
  else if w = 0x68 then { k with regs := { r with hazardAddr := BitVec.ofNat 64 v } }
  else if inBank 0x100 16 w then
    { k with sc := (List.range 4).foldl (fun m i =>
      mapSet 0 m ((w - 0x100) / 2 + i) (BitVec.ofNat 16 (field v (16 * i + 15) (16 * i)))) k.sc }
  else k

/-- BEL_STATUS is to be `v` (Table 03-3). -/
def Bel.poke (b : Bel) (v : Nat) : Bel :=
  { b with econThermal := bit v 25, econSupply := bit v 24, econ := bit v 23, half := bit v 22, upPort := field v 21 19,
           root := bit v 18, cycle := field v 13 0,
           state := match field v 17 16 with
             | 0 => .free
             | 1 => .acquire
             | 2 => .locked
             | _ => .holdover }

/-- The BUD registers (Tables 03-4, 03-6, 03-8, 16-4). -/
def Bud.poke (b : Bud) (o v : Nat) : Bud :=
  if inBank 0x30000 8 o then { b with ceil := mapPut b.ceil ((o - 0x30000) / 8) (field v 8 0) }
  else if o = 0x30100 then { b with slipTotal := field v 63 32, slipNext := field v 9 0 }
  else if o = 0x30108 then { b with stepLast := field v 63 32, stepCur := field v 31 0 }
  else if inBank 0x30120 8 o then { b with phases := mapPut b.phases ((o - 0x30120) / 8) (field v 63 32, field v 31 0) }
  else if o = 0x30180 then
    { b with lostFrames := field v 63 32, stops := field v 31 16, rebuilds := field v 15 8, lastClass := field v 2 0 }
  else if inBank 0x31000 2048 o then
    let i := (o - 0x31000) / 16
    let old := mapGet 0 b.ring i
    { b with ring := mapPut b.ring i (if o % 16 = 0 then old / 2 ^ 64 * 2 ^ 64 + v else old % 2 ^ 64 + v * 2 ^ 64) }
  else b

/-- The PWR registers (Tables 17-8 to 17-10). -/
def Pwr.poke (p : Pwr) (o v : Nat) : Pwr :=
  if o = 0x50000 then
    { p with cause := field v 23 20, up := bit v 9, brake := bit v 8, stage1 := bit v 7, warn := bit v 6, stage1Seen := bit v 1,
             warnSeen := bit v 0 }
  else if o = 0x50008 then
    { p with powerAvg := field v 63 48, power := field v 47 32, current := field v 31 16, voltage := field v 15 0 }
  else if o = 0x50010 then { p with hbmMax := field v 31 24, junctionMax := field v 23 16, hamlet := field v 11 8, stack := field v 2 0 }
  else p

/-- FAB_PORT and FAB_PORT_ERR (Tables 09-11, 09-12). -/
def PortReg.poke (p : PortReg) (err : Bool) (v : Nat) : PortReg :=
  if err then { p with fecCorr := field v 63 32, fecUncorr := field v 31 16, retry := field v 15 0 }
  else
    { p with peer := field v 63 52, retrains := field v 23 16, bypass := bit v 7, width := field v 6 4,
             state := match field v 2 0 with
               | 0 => .down
               | 1 => .train
               | 2 => .up
               | 3 => .miswired
               | _ => .unused }

/-- The TIER registers that stand in the tier record (Tables 08-5, 08-7, 08-8, 08-9, 11-13). -/
def Tier.poke (t : Tier) (o v : Nat) : Tier :=
  let r := t.regs
  if o = 0x200000 then
    { t with regs := { r with promote := field v 63 48, demote := field v 47 32, hold := field v 31 16, decay := field v 11 8,
                              epoch := field v 3 0 } }
  else if o = 0x200010 then { t with regs := { r with subst := field v 63 32, nondet := bit v 0 } }
  else if o = 0x200018 then { t with regs := { r with lateStep := v } }
  else if o = 0x200020 then { t with regs := { r with inval := field v 63 32, moves := field v 31 0 } }
  else if inBank 0x200100 8 o then
    { t with ecc := mapPut t.ecc ((o - 0x200100) / 8) ⟨field v 63 48, field v 47 16, field v 15 0⟩ }
  else if o = 0x200300 then
    { t with regs := { r with drops := field v 63 44, spills := field v 43 24, drop := bit v 1, spill := bit v 0 } }
  else t

/-- The RNG registers (Tables 13-5 to 13-7). -/
def Rng.poke (r : Rng) (o v : Nat) : Rng :=
  if o = 0x400000 then { r with failCount := field v 63 48, blocks := field v 47 16, fail := bit v 3, est := field v 2 0 }
  else if o = 0x400008 then { r with seed := v }
  else if o = 0x400010 then { r with seedFrom := v }
  else r

/-- The fabric's own registers (Tables 09-13 to 09-16). -/
def Fab.poke (f : Fab) (o v : Nat) : Fab :=
  if inBank 0x100080 3 o then
    { f with live := mapPut f.live ((o - 0x100080) / 8) ((List.range 32).filter fun c => bit v c) }
  else if o = 0x1000A0 then { f with valid := bit v 62, buf := field v 61 61 }
  else if o = 0x1000A8 then { f with lastStep := v }
  else if o = 0x1000B0 then { f with lastFrame := field v 47 0 }
  else f

/-- The state with the register at `o` at the value `v` (R419). A field that the model computes from other state, such as the page
counts of a quota, keeps what it is computed from, and only reads show its override (DEDUCED, log 19). -/
def State.poke (s : State) (o v : Nat) : State :=
  match coreWindow o with
  | some (n, w) => s.modCore (BitVec.ofNat 8 n) fun k => k.poke w v
  | none =>
    if o = 0x10 then { s with unitsEff := field v 4 0 }
    else if o = 0x10008 then
      { s with hif := { s.hif with errQueue := field v 15 8, session := bit v 2, ready := bit v 0 },
               reeve := { s.reeve with debug := bit v 3 } }
    else if o = 0x10028 then
      { s with hif := { s.hif with deniedCount := field v 63 32, errAperture := bit v 2, errDoorbell := bit v 1, errDenied := bit v 0 } }
    else if o = 0x20000 then { s with bel := { s.bel with frame := field v 47 0 } }
    else if o = 0x20008 then { s with bel := s.bel.poke v }
    else if o = 0x20010 then { s with bel := { s.bel with capFrame := field v 61 14, capCycle := field v 13 0 } }
    else if inBank 0x30200 5 o then
      s.modTier fun t => { t with quota := mapPut t.quota ((o - 0x30200) / 8) (field v 30 0) }
    else if 0x30000 ≤ o ∧ o < 0x40000 then { s with bud := s.bud.poke o v }
    else if 0x50000 ≤ o ∧ o < 0x60000 then { s with pwr := s.pwr.poke o v }
    else if inBank 0x100000 12 o then
      let p := (o - 0x100000) / 16
      s.setPort p ((s.port p).poke (o % 16 != 0) v)
    else if 0x100000 ≤ o ∧ o < 0x200000 then { s with fab := s.fab.poke o v }
    else if inBank 0x200200 8 o then
      { s with smithy := { s.smithy with regs := mapMod ⟨0, 0, false⟩ s.smithy.regs ((o - 0x200200) / 8) fun r =>
        { r with skipGrad := field v 63 40, skipOther := field v 39 16 } } }
    else if o = 0x200240 then { s with smithy := { s.smithy with phase := field v 2 0 } }
    else if 0x200000 ≤ o ∧ o < 0x300000 then s.modTier fun t => t.poke o v
    else if o = 0x300000 then
      { s with tables := { s.tables with redirects := field v 63 40, forwards := field v 39 16, moves := field v 15 0 } }
    else if o = 0x300008 then
      { s with tables := { s.tables with skewTable := field v 63 52, skewLoad := field v 47 16, skewRatio := field v 15 0 } }
    else if inBank 0x404000 16 o then
      { s with sur := mapMod ⟨0, 0, false, false⟩ s.sur ((o - 0x404000) / 8) fun r =>
        { r with badId := field v 63 40, dropped := field v 39 16 } }
    else if inBank 0x408000 16 o then
      { s with smp := mapMod ⟨0, 0, false, false⟩ s.smp ((o - 0x408000) / 8) fun r =>
        { r with ovfLogits := field v 63 40, emptyRows := field v 39 16 } }
    else if 0x400000 ≤ o ∧ o < 0x500000 then { s with rng := s.rng.poke o v }
    else s

end Sys2Proof.Machine
end

