-- ==== Sys2Proof/Machine/Host.lean ====
section
/-! DEFINITION. The PCIe function: packets and replies, doorbells, the HIF block, BAR0 writes, the aperture, the function's resets,
configuration writes and DOE discovery (spec/14 R414-R434). -/

namespace Sys2Proof.Machine

/-! ## The function -/

/-- Queues that a Function Level Reset deletes with packets in progress: these complete without a reply. A QUEUE_DELETE or
SESSION_CLOSE that waits for its queues has its effect at once (R415). -/
def Hif.goneNow (h : Hif) : List QPair :=
  let ended := h.closing.toList ++ h.queues.filterMap fun q => q.2.deleting
  (h.gone ++ h.queues.map fun q => ended.foldl QPair.finish { q.2 with replies := [] }).filter fun q => !q.progress.isEmpty

/-- Effects of a Function Level Reset: the HIF block at its warm values, no queue, no session, no aperture; commands that
were accepted complete without a reply (R415). -/
def State.flr (s : State) : State :=
  let h : Hif := { Hif.reset with mse := s.hif.mse, d3 := s.hif.d3, bar4 := s.hif.bar4, bar4Next := s.hif.bar4Next,
                                  snapshots := s.hif.snapshots, gone := s.hif.goneNow, pktNum := s.hif.pktNum }
  let mine (who : Requester) : Bool := match who with
    | .aperture _ => true
    | _ => false
  { s with hif := h,
           tier := { s.tier with reads := s.tier.reads.filter fun r => !mine r.who, arrived := s.tier.arrived.filter fun a => !mine a.who,
                                 queries := s.tier.queries.filter fun q => !mine q.2,
                                 noEntry := s.tier.noEntry.filter fun q => !mine q.2 } }

/-- FUNCTION_LEVEL_RESET (R415). -/
def functionLevelReset (s : State) : State := s.flr
/-- PCIE_HOT_RESET acts as a Function Level Reset (R415, Table 17-3). -/
def pcieHotReset (s : State) : State := s.flr
/-- PCIE_LINK_DOWN acts as a Function Level Reset (R415, Table 17-3). -/
def pcieLinkDown (s : State) : State := s.flr

/-- CONFIG_SPACE_WRITE: Memory Space Enable, applying a pending BAR4 size when it is set; D0 or D3hot; a BAR4 size that waits
(R414, R416). -/
def configSpaceWrite (w : ConfigWrite) (s : State) : State :=
  let h := s.hif
  match w with
  | .memorySpace on =>
    let size := if on then h.bar4Next.getD h.bar4 else h.bar4
    { s with hif := { h with mse := on, bar4 := size, bar4Next := if on then none else h.bar4Next } }
  | .d3hot on => { s with hif := { h with d3 := on } }
  | .bar4Size k => { s with hif := { h with bar4Next := some (64 * 2 ^ k.val) } }

/-- DOE_DISCOVERY: entry 0 is discovery itself, entry 1 SPDM; the answer names the vendor, the protocol and the next index
(R414; PRESUMED, log 34). -/
def doeDiscovery (index : Byte) (s : State) : State :=
  let w := if index = 0 then 0x01000001 else if index = 1 then 0x00010001 else 0x0000FFFF
  s.send (.doe (bytesOfNat 4 w))

/-! ## The queue engine (R425-R427, R433) -/

/-- Entries of the submission ring and of the reply ring. -/
def QPair.sqSize (q : QPair) : Nat := 2 ^ q.sqLog
/-- Entries of the reply ring. -/
def QPair.rqSize (q : QPair) : Nat := 2 ^ q.rqLog

/-- A reply ring is full when the next write would reach the entry at the RQ head (R426). -/
def QPair.rqFull (q : QPair) : Bool := (q.rqNext + 1) % q.rqSize == q.rqHead

/-- Whether the engine may fetch from a queue now (R426-R428, R436). -/
def QPair.fetchable (q : QPair) : Bool :=
  !q.stopped && !q.closing && q.head != q.tail && !q.rqFull && decide (q.progress.length < 16)

/-- Whether the engine fetches at all: start-up is complete, the function serves, and the reeve is up with no activation
accepted that waits for its restart (R443, R450, R501). -/
def State.engineFetches (s : State) : Bool :=
  s.pwr.up && s.hif.ready && s.reeveUp && !s.reeve.act.any fun a => a.stage == .asked

/-- Tags of the aperture writes that are not visible yet. -/
def State.aperWrites (s : State) : List Nat := (s.hif.aper.filter fun a => a.data.isSome).map AperAccess.tag

/-- The queue served next: round robin by number, after the queue served last, of those whose announced packets may see every
aperture write that preceded the doorbell write (R421, R427). -/
def State.nextQueue (s : State) : Option (Nat × QPair) :=
  (((List.range 64).map fun i => (s.hif.lastQueue + 1 + i) % 64).filterMap fun n =>
    (mapFind s.hif.queues n).map fun q => (n, q)).find? fun p =>
      p.2.fetchable && p.2.behind.all fun t => !s.aperWrites.contains t

/-- A fetched packet (Table 14-8); `num` is its number in the order of acceptance. -/
def packetOf (queue num : Nat) (b : List Byte) : PktHdr :=
  ⟨BitVec.ofNat 6 queue, num, BitVec.ofNat 16 (natOfBytes ((b.drop 2).take 2)), BitVec.ofNat 16 (natOfBytes ((b.drop 4).take 2)),
   BitVec.ofNat 64 (natOfBytes ((b.drop 8).take 8)), BitVec.ofNat 16 (natOfBytes (b.take 2)), b.drop 16⟩

/-- PACKET_ACCEPT: the engine fetches and accepts one packet; its command is a row of its own, and a packet whose OPCODE is
not of Table 14-11 is answered in its turn (R425, R427, R429, R433). -/
def packetAccept (s : State) : State :=
  if !s.engineFetches then s
  else match s.nextQueue with
    | none => s
    | some (n, q) =>
      let b := s.hostMem.readBytes (q.sqBase + 64 * q.head) 64
      let q1 := { q with head := (q.head + 1) % q.sqSize, progress := q.progress ++ [packetOf n s.hif.pktNum b] }
      ({ s with hif := { s.hif with queues := mapPut s.hif.queues n q1, lastQueue := n, pktNum := s.hif.pktNum + 1 } }).answerUnknown n

/-- A reply entry (Table 14-9). -/
def QPair.entry (q : QPair) (n : Nat) (r : ReplyMsg) : List Byte :=
  bytesOfNat 2 r.tag ++ bytesOfNat 2 r.status ++ bytesOfNat 2 q.head ++
    bytesOfNat 2 (bnat q.phase + 2 * bnat r.event + n % 64 * 2 ^ 10) ++ bytesOfNat 8 r.r0 ++ bytesOfNat 8 r.r1 ++ bytesOfNat 8 r.r2

/-- REPLY_WRITE: the oldest reply or event of a queue is written while its ring has room, and its vector is raised for an event
or a packet with IRQ (R426, R430). -/
def replyWrite (queue : QueueId) (s : State) : State :=
  let n := queue.toNat
  match mapFind s.hif.queues n with
  | none => s
  | some q => match q.replies with
    | [] => s
    | r :: rest =>
      if q.rqFull then s
      else
        let next := (q.rqNext + 1) % q.rqSize
        let q1 := { q with replies := rest, rqNext := next, phase := if next = 0 then !q.phase else q.phase }
        let s1 := s.hostWrite (q.rqBase + 32 * q.rqNext) (q.entry n r)
        let s2 : State := { s1 with hif := { s1.hif with queues := mapPut s1.hif.queues n q1 } }
        (if r.event || r.irq then s2.send (.interrupt q.vector) else s2).finishQueues

/-! ## Doorbells (R424, R428) -/

/-- A bad doorbell write stops the queue it names (R428). -/
def State.badDoorbell (s : State) (n : Nat) : State :=
  let qs := match mapFind s.hif.queues n with
    | some q => mapPut s.hif.queues n { q with stopped := true }
    | none => s.hif.queues
  { s with hif := { s.hif with queues := qs, errDoorbell := true, errQueue := n } }

/-- SQ_TAIL_DOORBELL (R424, R425, R428). -/
def sqTailDoorbell (queue : Byte) (value : W32) (s : State) : State :=
  let n := queue.toNat
  let v := value.toNat % 4096
  if !s.barOpen then s.send .unsupportedRequest
  else match mapFind s.hif.queues n with
    | none => s.badDoorbell n
    | some q =>
      if q.sqSize ≤ v ∨ 4095 < (v + q.sqSize - q.head) % q.sqSize then s.badDoorbell n
      else { s with hif := { s.hif with queues := mapPut s.hif.queues n { q with tail := v, behind := s.aperWrites } } }

/-- RQ_HEAD_DOORBELL (R424, R428). -/
def rqHeadDoorbell (queue : Byte) (value : W32) (s : State) : State :=
  let n := queue.toNat
  let v := value.toNat % 4096
  if !s.barOpen then s.send .unsupportedRequest
  else match mapFind s.hif.queues n with
    | none => s.badDoorbell n
    | some q =>
      if q.rqSize ≤ v then s.badDoorbell n
      else { s with hif := { s.hif with queues := mapPut s.hif.queues n { q with rqHead := v } } }

/-- A BAR2 write of 32 bits: the doorbells of queue q at 0x1000·q; any other offset ignores it (R424). -/
def State.bar2Write (s : State) (off : Nat) (v : W32) : State :=
  let q : Byte := BitVec.ofNat 8 (off / 0x1000)
  if off % 0x1000 = 0 then sqTailDoorbell q v s
  else if off % 0x1000 = 4 then rqHeadDoorbell q v s
  else if !s.barOpen then s.send .unsupportedRequest
  else s

/-- A BAR2 read at an offset that is no doorbell reads zero (R424); what a doorbell reads is not stated. -/
def State.bar2Read (s : State) (off : Nat) : Option Nat :=
  if s.barOpen = true ∧ off % 0x1000 ≠ 0 ∧ off % 0x1000 ≠ 4 then some 0 else none

/-! ## The HIF block (R422, R423, R434) -/

/-- Queue 0 by the queue-0 registers, when both sizes are valid (R423, Table 14-5). -/
def State.queueZero (s : State) : Option QPair :=
  let a := s.hif.aqSq
  let r := s.hif.aqRq
  if 1 ≤ a % 16 ∧ a % 16 ≤ 12 ∧ 1 ≤ r % 16 ∧ r % 16 ≤ 12 then
    some (QPair.fresh (a / 4096 * 4096) (a % 16) (r / 4096 * 4096) (r % 16) 0)
  else none

/-- HIF_ENABLE_SET: ENABLE goes from 0 to 1 (R423). -/
def hifEnableSet (s : State) : State :=
  if !s.barOpen then s.send .unsupportedRequest
  else if s.hif.enable then s
  else
    let qs := match s.queueZero with
      | some q => mapPut s.hif.queues 0 q
      | none => s.hif.queues
    { s with hif := { s.hif with enable := true, queues := qs } }

/-- HIF_ENABLE_CLEAR: ENABLE goes from 1 to 0, as a Function Level Reset (R423). -/
def hifEnableClear (s : State) : State :=
  if !s.barOpen then s.send .unsupportedRequest
  else if s.hif.enable then s.flr else s

/-- HIF_EVENTS_SET (R434, Table 14-3). -/
def hifEventsSet (on : Bool) (s : State) : State :=
  if !s.barOpen then s.send .unsupportedRequest
  else { s with hif := { s.hif with events := on } }

/-! ## BAR0 writes (R417-R419) -/

/-- A write that is discarded and counted (R418, Table 14-7). -/
def State.denyWrite (s : State) : State :=
  { s with hif := { s.hif with errDenied := true, deniedCount := satAdd 32 s.hif.deniedCount 1 } }

/-- Changes a core-window register record. -/
def State.modRegs (s : State) (n : Nat) (f : CoreRegs → CoreRegs) : State :=
  s.modCore (BitVec.ofNat 8 n) fun k => { k with regs := f k.regs }

/-- Clears the flags of a register whose bits `m` are written 1 (R418). -/
def State.clearFlags (s : State) (o m : Nat) : State :=
  let c (i : Nat) (b : Bool) : Bool := b && !bit m i
  match coreWindow o with
  | some (n, _) => s.modRegs n fun r => { r with rangeSticky := c 0 r.rangeSticky, structSticky := c 1 r.structSticky }
  | none =>
    if o = 0x10028 then
      { s with hif := { s.hif with errDenied := c 0 s.hif.errDenied, errDoorbell := c 1 s.hif.errDoorbell,
                                   errAperture := c 2 s.hif.errAperture } }
    else if o = 0x20010 then { s with bel := { s.bel with capValid := c 63 s.bel.capValid } }
    else if o = 0x50000 then
      { s with pwr := { s.pwr with warnSeen := c 0 s.pwr.warnSeen, stage1Seen := c 1 s.pwr.stage1Seen } }
    else if o = 0x200010 then
      s.modTier fun t => { t with regs := { t.regs with nondet := c 0 t.regs.nondet } }
    else if inBank 0x200200 8 o then
      let i := (o - 0x200200) / 8
      { s with smithy := { s.smithy with regs := s.smithy.regs.map fun r =>
        if r.1 = i then (i, { r.2 with skip := c 0 r.2.skip }) else r } }
    else if o = 0x200300 then
      s.modTier fun t => { t with regs := { t.regs with spill := c 0 t.regs.spill, drop := c 1 t.regs.drop } }
    else if o = 0x400000 then { s with rng := { s.rng with fail := c 3 s.rng.fail } }
    else if inBank 0x404000 16 o then
      let i := (o - 0x404000) / 8
      { s with sur := s.sur.map fun r => if r.1 = i then (i, { r.2 with bad := c 0 r.2.bad, drop := c 1 r.2.drop }) else r }
    else if inBank 0x408000 16 o then
      let i := (o - 0x408000) / 8
      { s with smp := s.smp.map fun r => if r.1 = i then (i, { r.2 with ovf := c 0 r.2.ovf, empty := c 1 r.2.empty }) else r }
    else s

/-- The bits of `old` under a mask replaced by those of `new`. -/
def mergeBits (old new m : Nat) : Nat := (old &&& (2 ^ 64 - 1 - m)) ||| (new &&& m)

/-- An override of RO bits in debug-unlock state: the fields take the value, and reads give it until the next warm reset (R419). -/
def State.override (s : State) (o m v : Nat) : State :=
  let old := mapGet (0, 0) s.reeve.overrides o
  let s1 := s.poke o (mergeBits (s.regRaw o) v m)
  { s1 with reeve := { s1.reeve with overrides := mapPut s1.reeve.overrides o (old.1 ||| m, mergeBits old.2 v m) } }

/-- A write of the bits `m` of a register of the HIF block: RW fields are stored, RO fields ignored (Tables 14-3 to 14-7). -/
def State.writeHif (s : State) (o m v : Nat) : State :=
  let h := s.hif
  if o = 0x10000 then
    let s1 := if bit m 1 then hifEventsSet (bit v 1) s else s
    if bit m 0 then (if bit v 0 then hifEnableSet s1 else hifEnableClear s1) else s1
  else if o = 0x10010 then { s with hif := { h with aqSq := mergeBits h.aqSq v (m &&& regMask o) } }
  else if o = 0x10018 then { s with hif := { h with aqRq := mergeBits h.aqRq v (m &&& regMask o) } }
  else if o = 0x10020 then
    let w := mergeBits (h.aperBase % 2 ^ 16 * 2 ^ 36 + bnat h.aperOn) v (m &&& regMask o)
    { s with hif := { h with aperBase := field w 51 36, aperOn := bit w 0 } }
  else s

/-- A write of the bits `m` of the 8-byte register at `o` (R417-R419). -/
def State.writeReg (s : State) (o m v : Nat) : State :=
  let w1c := w1cMask o &&& m
  let ro := (regMask o - (w1cMask o &&& regMask o)) &&& m
  let s1 := if w1c = 0 then s else s.clearFlags o (v &&& w1c)
  if regMask o = 0 then s
  else if 0x10000 ≤ o ∧ o < 0x20000 then
    let s2 := s1.writeHif o m v
    if s2.reeve.debug && (o == 0x10008 || o == 0x10028) && ro != 0 then s2.override o ro v else s2
  else if s.reeve.debug && !inLed o then if ro = 0 then s1 else s1.override o ro v
  else if w1c = 0 then s1.denyWrite
  else s1

/-- REGISTER_WRITE: a BAR0 write of `size` bytes: 4 or 8, naturally aligned; any other completes as Unsupported Request
(R417-R419). -/
def registerWrite (off : BitVec 26) (size : Nat) (value : W64) (s : State) : State :=
  let o := off.toNat
  if !s.barOpen || !barAccessOk o size then s.send .unsupportedRequest
  else
    let sh := 8 * (o % 8)
    s.writeReg (o / 8 * 8) ((2 ^ (8 * size) - 1) * 2 ^ sh) (value.toNat % 2 ^ (8 * size) * 2 ^ sh)

/-! ## The aperture (R420, R421) -/

/-- Whether the aperture answers at an offset: it is on, and the offset lies in BAR4 (R416, R420). -/
def State.apertureOpen (s : State) (o n : Nat) : Bool :=
  s.barOpen && s.hif.aperOn && decide (o + n ≤ s.hif.bar4 * 2 ^ 30)

/-- APERTURE_READ (R420). -/
def apertureReadRow (off : BitVec 40) (len : BitVec 13) (s : State) : State :=
  if !s.apertureOpen off.toNat len.toNat then s.send .unsupportedRequest
  else (s.chargeHostOut len.toNat).startAper (s.hif.aperBase * 2 ^ 36 + off.toNat) len.toNat none

/-- APERTURE_WRITE (R420). -/
def apertureWriteRow (off : BitVec 40) (bytes : List Byte) (s : State) : State :=
  if !s.apertureOpen off.toNat bytes.length then s.send .unsupportedRequest
  else (s.chargeHostIn bytes.length).startAper (s.hif.aperBase * 2 ^ 36 + off.toNat) bytes.length (some bytes)

end Sys2Proof.Machine
end

