-- ==== Sys2Proof/Machine/RowsHost.lean ====
section
/-! DEFINITION. The meanings of the table's rows, one definition for each: PCIe, registers, rings and the aperture (spec/14). -/

namespace Sys2Proof.Machine

/-- CONTEXT_SAVE_WRITE: At the step boundary or qualifying section tick the pending context is written and the module
continues or holds (R121) -/
def execContextSaveWrite (s : State) : Host.Outcome State Fault Refusal :=
  .next (s.settle (contextSaveWrite s))

/-- TELEMETRY_IMAGE_WRITE: At the first tick after acceptance the snapshot image of registers is written to the host
(R442) -/
def execTelemetryImageWrite (s : State) : Host.Outcome State Fault Refusal :=
  .next (s.settle (telemetryImageWrite s))

/-- PACKET_ACCEPT: The queue engine fetches and accepts one command packet per cycle in round robin by queue (R427) -/
def execPacketAccept (s : State) : Host.Outcome State Fault Refusal :=
  .next (s.settle (packetAccept s))

/-- REPLY_WRITE: A reply or event entry is written to its reply ring when there is room, with PHASE and an interrupt
(R426) -/
def execReplyWrite (queue : QueueId) (s : State) : Host.Outcome State Fault Refusal :=
  .next (s.settle (replyWrite queue s))

/-- SQ_TAIL_DOORBELL: A submission-tail doorbell write announces new packets or, if bad, stops the queue (R424) -/
def execSqTailDoorbell (queue : Byte) (value : W32) (s : State) : Host.Outcome State Fault Refusal :=
  .next (s.settle (s.bar2Write (0x1000 * queue.toNat) value))

/-- RQ_HEAD_DOORBELL: A reply-head doorbell write frees reply entries or, if bad, stops the queue (R424) -/
def execRqHeadDoorbell (queue : Byte) (value : W32) (s : State) : Host.Outcome State Fault Refusal :=
  .next (s.settle (s.bar2Write (0x1000 * queue.toNat + 4) value))

/-- HIF_ENABLE_SET: Setting HIF_CTRL.ENABLE reads the queue-0 registers and starts serving queue 0 when they are valid
(R423) -/
def execHifEnableSet (s : State) : Host.Outcome State Fault Refusal :=
  .next (s.settle (hifEnableSet s))

/-- HIF_ENABLE_CLEAR: Clearing HIF_CTRL.ENABLE acts as a Function Level Reset (R423) -/
def execHifEnableClear (s : State) : Host.Outcome State Fault Refusal :=
  .next (s.settle (hifEnableClear s))

/-- HIF_EVENTS_SET: HIF_CTRL.EVENTS turns posting of events to reply queue 0 on or off (R434) -/
def execHifEventsSet (on : Bool) (s : State) : Host.Outcome State Fault Refusal :=
  .next (s.settle (hifEventsSet on s))

/-- REGISTER_WRITE: A BAR0 write to a register with no row of its own is stored, cleared as W1C, or discarded and
counted in HIF_ERR (R418) -/
def execRegisterWrite (off : BitVec 26) (size : BitVec 13) (value : W64) (s : State) : Host.Outcome State Fault Refusal
    :=
  .next (s.settle (registerWrite off size.toNat value s))

/-- APERTURE_READ: A BAR4 read is translated and served by the page's home (R420) -/
def execApertureRead (off : BitVec 40) (len : BitVec 13) (s : State) : Host.Outcome State Fault Refusal :=
  .next (s.settle (apertureReadRow off len s))

/-- APERTURE_WRITE: A BAR4 write is translated and applied at the page's home (R420) -/
def execApertureWrite (off : BitVec 40) (bytes : List Byte) (s : State) : Host.Outcome State Fault Refusal :=
  .next (s.settle (apertureWriteRow off bytes s))

/-- FUNCTION_LEVEL_RESET: An FLR returns the HIF block to warm values, deletes queues, closes the session and disables
the aperture (R415) -/
def execFunctionLevelReset (s : State) : Host.Outcome State Fault Refusal :=
  .next (s.settle (functionLevelReset s))

/-- PCIE_HOT_RESET: A PCIe hot reset acts as a Function Level Reset (R415) -/
def execPcieHotReset (s : State) : Host.Outcome State Fault Refusal :=
  .next (s.settle (pcieHotReset s))

/-- PCIE_LINK_DOWN: A PCIe link-down acts as a Function Level Reset (R415) -/
def execPcieLinkDown (s : State) : Host.Outcome State Fault Refusal :=
  .next (s.settle (pcieLinkDown s))

/-- DOE_DISCOVERY: A DOE discovery request is answered (R414) -/
def execDoeDiscovery (index : Byte) (s : State) : Host.Outcome State Fault Refusal :=
  .next (s.settle (doeDiscovery index s))

/-- CONFIG_SPACE_WRITE: A PCIe configuration write sets Memory Space Enable, which applies a pending BAR4 size, or
moves the function between D0 and D3hot (R416) -/
def execConfigSpaceWrite (w : ConfigWrite) (s : State) : Host.Outcome State Fault Refusal :=
  .next (s.settle (configSpaceWrite w s))

end Sys2Proof.Machine
end

