-- ==== Sys2Proof/Machine/Maint.lean ====
section
/-! DEFINITION. Maintenance in service: admission, parts, cancelling, status, and the return of cores (spec/03 R69-R70,
spec/16 R483-R488). -/

namespace Sys2Proof.Machine

/-! ## Fallow frames (R69, R483, R488) -/

/-- Whether a frame of an almanac is fallow for an activity on a target (R69, R483). -/
def AlmSlot.fallowIn (a : AlmSlot) (f : Fallow) (target sect idx : Nat) : Bool := match f with
  | .none => true
  | .core b => bit (a.nat (a.coreRec sect target idx + 2) 1) b
  | .module b => bit (a.nat (a.modRec sect idx + 20) 2) b
  | .hbm => a.nat (a.modRec sect idx) 2 == 0
  | .port => bit (a.nat (a.modRec sect idx + 20) 2) (5 + target)

/-- The retired cores that a core hosts in a section of an almanac (R112, R114). -/
def State.guestsOf (s : State) (a : AlmSlot) (sect c : Nat) : List Nat := s.retiredCores.filter fun r =>
  match s.detourIn a r sect with
  | some d => d.sub.toNat == c
  | none => false

/-- Whether a frame is fallow: a retired core's units are fallow in every frame; a host's only when both records say so
(R114, R488). -/
def State.fallowFor (s : State) (a : AlmSlot) (k : MaintKind) (target sect idx : Nat) : Bool :=
  if k.cls = 0 then
    s.retiredCores.contains target ||
    (target :: s.guestsOf a sect target).all fun c => a.fallowIn k.fallow c sect idx
  else a.fallowIn k.fallow target sect idx

/-- Fallow frames of a section from frame `from_` on. -/
def State.fallowSect (s : State) (a : AlmSlot) (k : MaintKind) (target sect from_ : Nat) : Nat :=
  ((List.range (a.frames sect)).filter fun i => decide (from_ ≤ i) && s.fallowFor a k target sect i).length

/-- Fallow frames of a list of sections from position `pos` on. -/
def State.fallowList (s : State) (a : AlmSlot) (k : MaintKind) (target : Nat) (interlude : Bool) (pos : Nat) : Nat :=
  let len := if interlude then a.interludeLen else a.stepLen
  ((List.range len).filter fun i => decide (pos ≤ i)).foldl
    (fun n i => n + s.fallowSect a k target (a.listAt interlude i) 0) 0

/-- Fallow frames of the whole steps `lo` to `hi` of one almanac, with the interludes between them and, where `more` says
so, the one after `hi`. -/
def State.fallowSteps (s : State) (a : AlmSlot) (k : MaintKind) (target lo hi : Nat) (more : Bool) : Nat :=
  if !a.loaded || decide (hi < lo) then 0
  else
    let last := if more then hi + 1 else hi
    let gaps := if a.interludeEvery = 0 then 0 else last / a.interludeEvery - lo / a.interludeEvery
    (hi + 1 - lo) * s.fallowList a k target false 0 + gaps * s.fallowList a k target true 0

/-- Fallow frames still to come in the list that runs, after the frame that runs. -/
def State.fallowNow (s : State) (k : MaintKind) (target : Nat) : Nat :=
  let a := s.run.active
  if s.run.frameLive then
    s.fallowSect a k target s.curSect (s.run.frameIdx + 1) + s.fallowList a k target s.run.interlude (s.run.pos + 1)
  else 0

/-- Fallow frames marked in the almanac from the next tick to the end of step `deadline`; an armed switch brings the staged
almanac from its step on (R77, R485). -/
def State.fallowAhead (s : State) (k : MaintKind) (target deadline : Nat) : Nat :=
  let a := s.run.active
  let due := (s.run.inStep && a.interludeAfter s.run.step) || (s.run.interludeDue && !s.run.interlude)
  let lo := if s.run.inStep then s.run.step + 1 else s.run.nextStep
  if deadline + 1 < lo then 0
  else
    let first := if due && decide (lo ≤ deadline) then s.fallowList a k target true 0 else 0
    let rest := match s.run.armed with
      | some n => if n ≤ deadline
          then s.fallowSteps a k target lo (n - 1) true + s.fallowSteps s.run.staged k target n deadline false
          else s.fallowSteps a k target lo deadline false
      | none => s.fallowSteps a k target lo deadline false
    s.fallowNow k target + first + rest

/-- Check 5 of Table 16-8: an exclusive activity has too few fallow frames. The tests of a retired core have all they need. -/
def State.tooFew (s : State) (k : MaintKind) (target frames : Nat) : Bool :=
  k.exclusive && !(k.cls == 0 && s.retiredCores.contains target) && decide (frames < k.frames)

/-! ## The commands (R485, R486) -/

/-- MAINT_START: the checks of Table 16-8 in order (R485). -/
def maintStart (h : PktHdr) (act target : BitVec 16) (deadline : W64) (s : State) : State :=
  damtin 0x0601 h [(0, 2, act.toNat), (2, 2, target.toNat), (8, 8, deadline.toNat)] (fun s =>
    match maintKind act.toNat with
    | none => s.reply h stInvalid
    | some k =>
      let t := target.toNat
      let d := deadline.toNat
      let reg (st : MaintState) (status : Nat) : State := (s.register act.toNat t d st).reply h status s.maint.next
      if k.targets ≤ t ∨ d < s.openStep then s.reply h stInvalid
      else if k.unit.any (fun u => !s.unitOn u) then s.reply h stNotEnabled
      else if s.openActs.any (fun a => a.act == act.toNat && a.target == t) ∨ 64 ≤ s.openActs.length then s.reply h stBusy
      else if conflicts s.maint.acts k.cls t then reg .queued stQueued
      else if s.tooFew k t (s.fallowAhead k t d) then reg .deferred stDeferred
      else reg .waiting stOk) s

/-- An activity by its handle. -/
def State.actOf (s : State) (handle : Nat) : Option MaintAct := s.maint.acts.find? fun a => a.handle == handle

/-- Replaces an activity. -/
def State.putAct (s : State) (a : MaintAct) : State :=
  { s with maint := { s.maint with acts := s.maint.acts.map fun x => if x.handle == a.handle then a else x } }

/-- A pending return of a core is given up: a test of it failed or was cancelled (R488). -/
def State.dropReturn (s : State) (a : MaintAct) : State :=
  if 1 ≤ a.act ∧ a.act ≤ 3 then
    { s with maint := { s.maint with returns := s.maint.returns.filter fun r => !(r.1 == a.target && r.2.isNone) } }
  else s

/-- MAINT_CANCEL: at once, or after the part that runs (R486). -/
def maintCancel (h : PktHdr) (handle : W32) (s : State) : State :=
  damtin 0x0602 h [(0, 4, handle.toNat)] (fun s =>
    match s.actOf handle.toNat with
    | none => s.reply h stInvalid
    | some a =>
      if a.final then s.reply h stInvalid
      else if a.state == .running then (s.putAct { a with cancel := true }).reply h stOk
      else ((s.putAct { a with state := .cancelled }).dropReturn a).reply h stOk) s

/-- The state code of MAINT_STATUS (R486). -/
def MaintState.code : MaintState → Nat
  | .queued => 0
  | .deferred => 1
  | .waiting => 2
  | .running => 3
  | .done => 4
  | .failed => 5
  | .cancelled => 6

/-- MAINT_STATUS (R486). -/
def maintStatus (h : PktHdr) (handle : W32) (s : State) : State :=
  damtin 0x0603 h [(0, 4, handle.toNat)] (fun s =>
    match s.actOf handle.toNat with
    | none => s.reply h stInvalid
    | some a => s.reply h stOk a.state.code a.last) s

/-! ## Admission (R485) -/

/-- One activity takes the check again. Conflicts are those with the activities before it in order of acceptance and with
those already admitted. -/
def State.readmit (s : State) (a : MaintAct) : State :=
  match maintKind a.act with
  | none => s
  | some k =>
    let others := s.maint.acts.filter fun x => x.handle != a.handle && (x.state != .queued || decide (x.handle < a.handle))
    if a.state == .queued then
      if conflicts others k.cls a.target then s
      else if s.tooFew k a.target (s.fallowAhead k a.target a.deadline) then s.putAct { a with state := .deferred }
      else s.putAct { a with state := .waiting }
    else if a.state == .deferred && !s.run.inStep then
      if s.tooFew k a.target (s.fallowSteps s.run.active k a.target s.run.nextStep s.run.nextStep false) then s
      else s.putAct { a with state := .waiting }
    else s

/-- MAINT_ADMISSION_RECHECK: a QUEUED activity whose conflict is clear, and at a step boundary a DEFERRED one, take check 5
again, in order of acceptance (R485). -/
def maintAdmissionRecheck (s : State) : State :=
  if s.rec0.stopping || s.maint.suspended then s else s.maint.acts.foldl (fun s a => s.readmit a) s

/-! ## Parts (R70, R483, R487) -/

/-- Whether a queue of some core holds a command. -/
def State.queueBusy (s : State) (q : Nat) : Bool :=
  s.cores.any fun c => !(c.2.queue q).waiting.isEmpty || (c.2.queue q).run.isSome

/-- Whether a target unit of an optional unit has commands. -/
def State.tgtBusy (s : State) (tgt : Nat) : Bool := match tgtQueue s.unitsEff tgt with
  | some q => s.queueBusy q
  | none => false

/-- Whether a core's base engine has unfinished commands. -/
def Core.engineBusy (k : Core) (q : Nat) : Bool :=
  !(k.queue q).waiting.isEmpty || (k.queue q).run.isSome ||
  (q == 2 && k.ctxs.any fun x => !x.2.buf.isEmpty || !x.2.unret.isEmpty)

/-- Whether a core owes work of an almanac frame that has ended (R50). -/
def State.coreOwed (s : State) (c : Nat) : Bool :=
  s.run.openFrames.any fun f => decide (f.first + f.bells ≤ s.bel.frame) && s.coreOwes c f.first

/-- Whether the unit that an activity needs still owes work: commands that it has, or a task of a frame that has ended, which may still
issue one; the HBM and the ports owe what any core owes (R50, R70; DEDUCED, log 160). -/
def State.unitOwes (s : State) (k : MaintKind) (target : Nat) : Bool := match k.fallow with
  | .none => false
  | .core b => (s.core (BitVec.ofNat 8 target)).engineBusy b || s.coreOwed target
  | .module 0 => s.tgtBusy 1 || s.anyOwed
  | .module 1 => s.tgtBusy 2 || s.anyOwed
  | .module 2 => s.tgtBusy 3 || s.tgtBusy 4 || s.anyOwed
  | .module 3 => s.tgtBusy 7 || s.tgtBusy 8 || s.anyOwed
  | .module _ => s.tgtBusy 5 || s.tgtBusy 6 || s.anyOwed
  | .hbm => s.anyOwed
  | .port => s.anyOwed

/-- Whether this cycle is the tick of a frame in which the target's unit is fallow and owes nothing (R70). -/
def State.usableTick (s : State) (k : MaintKind) (target : Nat) : Bool :=
  s.bel.cycle == 0 && !s.unitOwes k target &&
  ((k.cls == 0 && s.retiredCores.contains target) ||
   (s.run.frameLive && (match s.run.openFrames.getLast? with
      | some f => f.first == s.bel.frame
      | none => false) && s.fallowFor s.run.active k target s.curSect s.run.frameIdx))

/-- The unit whose MAINT meter a part charges that tests no core: the tier agent of its stack, or the die (R59; DEDUCED, log 152). -/
def MaintAct.unit (a : MaintAct) : Nat := if a.cls = 2 then a.target else 8

/-- Whether a part of the activity may start now (R70, R483, R485). -/
def State.partMayStart (s : State) (k : MaintKind) (a : MaintAct) : Bool :=
  a.state == .waiting && !s.bel.econ && !s.rec0.stopping && !s.maint.suspended &&
  (if k.exclusive then s.usableTick k a.target else s.maintOpen a.unit) &&
  (a.act != 0x50 || !(s.run.frameLive && s.run.active.kind s.curSect == 5) && s.smithy.phase == 0)

/-- MAINT_PART_START: a part starts at the tick of a usable fallow frame, or within the MAINT budget (R70, R483). -/
def maintPartStart (handle : W32) (s : State) : State :=
  match s.actOf handle.toNat with
  | none => s
  | some a => match maintKind a.act with
    | none => s
    | some k => if s.partMayStart k a then s.putAct { a with state := .running, last := s.run.step, began := s.bel.frame, half := s.bel.half } else s

/-- UNIT of an activity's events (Table 16-2). -/
def MaintAct.evUnit (a : MaintAct) : Nat := match a.cls with
  | 0 => 1
  | 1 => 4
  | 2 => 2
  | 3 => 3
  | _ => 0

/-- A failed test retires its core: the step in progress stops and replays; with no step in progress it retires at once. A
core that is retired stays so (R487, R488). -/
def State.failCore (s : State) (a : MaintAct) : State :=
  if s.retiredCores.contains a.target then s
  else if !s.run.inStep then s.retireCore a.target 4
  else
    let ev : EventRec := ⟨s.bel.frame, cMaintFailed, 2, 1, a.target, a.handle, s.run.step⟩
    s.stopFor ev

/-- The outcome of a failed activity (Table 16-9); `bad` names the parity pages that do not match. -/
def State.maintOutcome (s : State) (a : MaintAct) (bad : List Nat) : State :=
  if a.act ≤ 3 then s.failCore a
  else if a.act = 0x10 ∨ a.act = 0x11 ∨ a.act = 0x21 ∨ a.act = 0x22 ∨ a.act = 0x40 then
    { s with maint := { s.maint with unitFailed := s.maint.unitFailed ++ [(a.evUnit, a.target)] } }
  else if a.act = 0x30 then s.retrain a.target 0
  else if a.act = 0x50 then
    { s with maint := { s.maint with recompute := (s.maint.recompute ++ bad.filter s.rebuildable).eraseDups } }
  else if a.act = 0x41 then entropyHealthFail s
  else s

/-- The third test of a core is DONE: its return is due at the next step (R488). -/
def State.noteReturn (s : State) (a : MaintAct) : State :=
  if a.act ≤ 3 ∧ !(s.openActs.any fun x => decide (x.act ≤ 3) && x.target == a.target) then
    let n := if s.run.inStep then s.run.step + 1 else s.run.nextStep
    { s with maint := { s.maint with returns := s.maint.returns.map fun r =>
        if r.1 == a.target && r.2.isNone then (r.1, some n) else r } }
  else s

/-- Whether it is past the end of the working portion of the frame in which an exclusive part began: cycle 15,360, or 31,744 at half
pace (R58, R70). -/
def State.partLate (s : State) (a : MaintAct) : Bool :=
  decide ((if a.half then 31744 else 15360) < (s.bel.frame - a.began) * 16384 + s.bel.cycle)

/-- A part charges the MAINT meter of its unit: a core's engine, or as for the others (R59). -/
def State.chargeAct (s : State) (a : MaintAct) (k : MaintKind) (cycles : Nat) : State := match k.fallow with
  | .core b => s.modCore (BitVec.ofNat 8 a.target) fun c => { c with meters := { c.meters with
      maint := mapSet 0 c.meters.maint b (mapGet 0 c.meters.maint b - cycles) } }
  | _ => s.chargeMaint a.unit cycles

/-- MAINT_PART_END: the part took `cycles` of its unit's MAINT budget; the activity fails, is done, goes on
with its next part, or is cancelled; an exclusive part that has not ended in its frame's working portion counts for nothing and waits
for another frame (DESIGN CHOICE, log 151); `last` ends an activity that has no number of frames, `bad` names the parity pages that do
not match (R70, R483, R486, R487). -/
def maintPartEnd (handle : W32) (passed last : Bool) (cycles : BitVec 16) (bad : List Nat) (s : State) : State :=
  match s.actOf handle.toNat with
  | none => s
  | some a => match maintKind a.act with
    | none => s
    | some k =>
      if a.state ≠ .running ∨ s.maint.suspended = true then s
      else
        let s1 := s.chargeAct a k cycles.toNat
        let a1 := { a with parts := a.parts + 1 }
        if k.exclusive && s.partLate a then
          if a.cancel then (s1.putAct { a with state := .cancelled }).dropReturn a else s1.putAct { a with state := .waiting }
        else if !passed then
          let s2 := (s1.putAct { a1 with state := .failed }).dropReturn a
          (raise cMaintFailed a.evUnit a.target a.handle s2).maintOutcome a bad
        else if (if k.exclusive then decide (k.frames ≤ a1.parts) else last) then
          raise cMaintDone a.evUnit a.target a.handle ((s1.putAct { a1 with state := .done }).noteReturn a)
        else if a.cancel then (s1.putAct { a1 with state := .cancelled }).dropReturn a
        else s1.putAct { a1 with state := .waiting }

/-! ## Returning a core (R488) -/

/-- Whether a return of the core is pending. -/
def State.returnPending (s : State) (c : Nat) : Bool := s.maint.returns.any (fun r => r.1 == c) || s.maint.deferred.contains c

/-- CORE_RETURN (R488). -/
def coreReturn (h : PktHdr) (core : CoreId) (s : State) : State :=
  damtin 0x0621 h [(0, 1, core.toNat)] (fun s =>
    let c := core.toNat
    if !s.retiredCores.contains c || s.returnPending c then s.reply h stInvalid
    else if s.bel.econ || s.rec0.stopping then
      ({ s with maint := { s.maint with deferred := s.maint.deferred ++ [c] } }).reply h stDeferred
    else (s.registerReturn c).reply h stOk (if s.run.inStep then s.run.step + 1 else s.run.nextStep)) s

end Sys2Proof.Machine
end

