-- ==== Sys2Proof/Machine/RowsMaint.lean ====
section
/-! DEFINITION. The meanings of the table's rows, one definition for each: Maintenance (spec/16). -/

namespace Sys2Proof.Machine

/-- MAINT_PART_START: A maintenance part starts at the tick of a usable fallow frame or within the MAINT budget (R70)
-/
def execMaintPartStart (handle : W32) (s : State) : Host.Outcome State Fault Refusal :=
  .next (s.settle (maintPartStart handle s))

/-- MAINT_PART_END: A maintenance part completes, ending the activity DONE or FAILED with its outcome (R487) -/
def execMaintPartEnd (handle : W32) (passed last : Bool) (cycles : BitVec 16) (bad : List (BitVec 36)) (s : State) :
    Host.Outcome State Fault Refusal :=
  .next (s.settle (maintPartEnd handle passed last cycles (bad.map BitVec.toNat) s))

/-- MAINT_ADMISSION_RECHECK: A DEFERRED or QUEUED activity takes the fallow-frame check again at a step boundary or
when its conflict clears (R485) -/
def execMaintAdmissionRecheck (s : State) : Host.Outcome State Fault Refusal :=
  .next (s.settle (maintAdmissionRecheck s))

/-- MAINT_START: Register a maintenance activity, returning OK, QUEUED, DEFERRED or a refusal (R485) -/
def execMaintStart (h : PktHdr) (act target : BitVec 16) (deadline : W64) (s : State) : Host.Outcome State Fault
    Refusal :=
  .next (s.settle (maintStart h act target deadline s))

/-- MAINT_CANCEL: Cancel a maintenance activity (R486) -/
def execMaintCancel (h : PktHdr) (handle : W32) (s : State) : Host.Outcome State Fault Refusal :=
  .next (s.settle (maintCancel h handle s))

/-- MAINT_STATUS: Return an activity's state and last attempted step (R486) -/
def execMaintStatus (h : PktHdr) (handle : W32) (s : State) : Host.Outcome State Fault Refusal :=
  .next (s.settle (maintStatus h handle s))

/-- CORE_RETURN: Register tests on a retired core and return it after they pass (R488) -/
def execCoreReturn (h : PktHdr) (core : CoreId) (s : State) : Host.Outcome State Fault Refusal :=
  .next (s.settle (coreReturn h core s))

end Sys2Proof.Machine
end

