-- ==== Sys2Proof/Machine/Reeve.lean ====
section
/-! DEFINITION. The reeve: firmware, the ledger, debug unlock, attestation and the event log (spec/15 R443-R463). -/

namespace Sys2Proof.Machine

/-! ## Firmware images (R447-R449) -/

/-- A firmware slot. -/
def Reeve.slot (r : Reeve) (b : Bool) : FwSlot := if b then r.b else r.a

/-- Replaces a firmware slot. -/
def State.setFw (s : State) (b : Bool) (x : FwSlot) : State :=
  { s with reeve := if b then { s.reeve with b := x } else { s.reeve with a := x } }

/-- FW_STATE.SLOT: whether slot B is committed (Table 15-10). -/
def State.fwSlot (s : State) : Bool := bit (s.ledger 0x02) 0
/-- FW_STATE.SVN_MIN (Table 15-10). -/
def State.svnMin (s : State) : Nat := s.ledger 0x02 / 2 ^ 32

/-- Number of an image's bytes at an offset. -/
def FwSlot.nat (x : FwSlot) (off n : Nat) : Nat := x.bytes.readNat off n
/-- SVN. -/
def FwSlot.svn (x : FwSlot) : Nat := x.nat 8 4
/-- SVN_FLOOR. -/
def FwSlot.svnFloor (x : FwSlot) : Nat := x.nat 12 4
/-- RESULT_SAME. -/
def FwSlot.resultSame (x : FwSlot) : Bool := bit (x.nat 7 1) 0

/-- Component entries: kind, offset, length (R447). -/
def FwSlot.comps (x : FwSlot) : List (Nat × Nat × Nat) :=
  (List.range (x.nat 24 4)).map fun i =>
    let o := x.nat 32 8 + 32 * i
    (x.nat o 1, x.nat (o + 8) 8, x.nat (o + 16) 8)

/-- The bytes of the component of a kind, none where the image holds none (R447). -/
def FwSlot.comp (x : FwSlot) (kind : Nat) : List Byte := match x.comps.find? fun c => c.1 == kind with
  | some c => x.bytes.readBytes c.2.1 c.2.2
  | none => []

/-- Header, component table and reserved fields of an image (R447, check 3 of Table 15-4). -/
def FwSlot.formOk (x : FwSlot) : Bool :=
  let n := x.nat 24 4
  let t := x.nat 32 8
  let top := x.size - 256
  x.nat 0 4 == 0x57464C47 && x.nat 4 2 == 1 && decide (x.nat 7 1 < 2) && x.nat 28 4 == 0 && x.nat 56 72 == 0 &&
  decide (384 ≤ x.size) && x.nat 48 8 == x.size && decide (x.size ≤ 2 ^ 25) && x.nat 40 8 == top &&
  decide (1 ≤ n) && decide (n ≤ 2) && decide (t + 32 * n ≤ top) &&
  (List.range n).all (fun i =>
    let o := t + 32 * i
    decide (x.nat o 1 ≤ 1) && x.nat (o + 1) 7 == 0 && x.nat (o + 24) 8 == 0 && decide (x.nat (o + 8) 8 + x.nat (o + 16) 8 ≤ top)) &&
  (x.comps.filter fun c => c.1 == 0).length == 1

/-- The checks of Table 15-4 in order: the status of the first that fails, or OK. -/
def State.fwCheck (s : State) (x : FwSlot) : Nat :=
  if !s.blockValid x.bytes x.size (x.nat 40 8) 0 false then stBadSignature
  else if 2 < x.nat 6 1 then stArchLevel
  else if !x.formOk then stInvalid
  else if x.svn < s.svnMin ∨ x.svn < x.svnFloor then stInvalid
  else stOk

/-- Whether the boot ROM passes a slot (R448). -/
def State.bootable (s : State) (b : Bool) : Bool := decide (0 < (s.reeve.slot b).size) && s.fwCheck (s.reeve.slot b) == stOk

/-- An image goes into the slot that does not run; on a failure the slot is left empty (R449, R452). -/
def State.stage (s : State) (x : FwSlot) : Nat × State :=
  let st := s.fwCheck x
  (st, s.setFw (!s.reeve.slotB) (if st = stOk then x else ⟨[], 0⟩))

/-- Packets that have started and not replied. -/
def State.inService (s : State) : List PktHdr :=
  ((s.hif.queues.map fun q => q.2) ++ s.hif.gone).flatMap QPair.started

/-- FW_STAGEs in progress (R449). -/
def State.staging (s : State) : List PktHdr := s.inService.filter fun p => p.op.toNat == 0x0801

/-! ## Restarting the reeve (R443, R448) -/

/-- Records in a log: the newest 1,048,576 are kept (R462). -/
def keepNewest (l : List (Nat × EventRec)) : List (Nat × EventRec) := l.drop (l.length - 1048576)

/-- One event is stored: SEQ, the record, the count of its code (R462). -/
def State.storeEvent (s : State) (e : EventRec) : State :=
  let r := s.reeve
  { s with reeve := { r with log := keepNewest (r.log ++ [(r.nextSeq, e)]), nextSeq := r.nextSeq + 1,
                             counts := mapSet 0 r.counts e.code ((mapGet 0 r.counts e.code + 1) % 2 ^ 64) } }

/-- Every event that waits is stored. -/
def State.storeAll (s : State) : State := { s.evLog.foldl State.storeEvent s with evLog := [] }

/-- The reeve restarts into its boot ROM; events from now on are buffered (R443). -/
def State.restartReeve (s : State) : State :=
  let s1 := if s.reeveUp then s.storeAll else s
  { s1 with reeve := { s1.reeve with mode := .boot, path := .none } }

/-- The reeve is up: it runs a slot, and the buffered events are posted (R443, Table 15-5). -/
def State.runSlot (s : State) (b : Bool) (mode : ReeveMode) : State :=
  let s1 : State := { s with reeve := { s.reeve with mode := mode, slotB := b } }
  s1.evLog.foldl State.postEvent s1

/-- Firmware that is no trial runs: it loads its DIE component into a die that has none, before HBM training (R448). -/
def State.startSlot (s : State) (b : Bool) : State :=
  let s1 : State := if s.reeve.dieLoaded then s
    else { s with reeve := { s.reeve with die := (s.reeve.slot b).comp 1, dieLoaded := true } }
  s1.runSlot b .running

/-- The boot ROM's chain: the committed slot, then the other with FW_SLOT_BAD, then recovery (R448). -/
def State.bootChain (s : State) : State :=
  let c := s.fwSlot
  if s.bootable c then s.startSlot c
  else
    let s1 := raise cFwSlotBad 5 0 0 s
    if s1.bootable (!c) then s1.startSlot (!c)
    else
      let s2 := s1.leaveRings
      { s2 with reeve := { s2.reeve with mode := .recovery } }

/-- A trial or an activation fails: the ROM is to start the former slot again, FW_ACTIVATE replies INVALID_PARAM, FW_FALLBACK is
logged (Table 15-5). -/
def State.fallback (s : State) : State :=
  match s.reeve.act with
  | some a =>
    let s1 := s.restartReeve
    let s2 : State := { s1 with reeve := { s1.reeve with act := some { a with hdr := none, stage := .back }, slotB := a.former } }
    raise cFwFallback 5 0 0 (s2.replyTo a.hdr stInvalid)
  | none => s

/-- The ROM starts the former slot of an activation that failed, or runs its chain where that slot does not pass (Table 15-5). -/
def State.startFormer (s : State) (former : Bool) : State :=
  let s1 : State := { s with reeve := { s.reeve with act := none } }
  if s1.bootable former then s1.startSlot former else s1.bootChain

/-- Whether a command that the reeve interprets, of families 0x07xx and 0x08xx, is still to reply, FW_ACTIVATE itself apart (DEDUCED,
log 113). -/
def State.reeveServes (s : State) : Bool :=
  s.inService.any fun p => (p.op.toNat / 256 == 7 || p.op.toNat / 256 == 8) && p.op.toNat != 0x0802

/-- An activation that has been accepted restarts the reeve once the commands that the reeve interprets have replied (t1 of Table
15-5). -/
def State.tryRestart (s : State) : State :=
  match s.reeve.act with
  | some a =>
    if a.stage = .asked ∧ s.reeveServes = false then
      let s1 := s.restartReeve
      { s1 with reeve := { s1.reeve with act := some { a with stage := .trying } } }
    else s
  | none => s

/-- What the boot ROM starts: the slot that an activation names, in trial; the former slot of one that failed; else its chain (R448,
R450). -/
def State.romStart (s : State) : State :=
  match s.reeve.act with
  | some a => match a.stage with
    | .asked | .trying =>
      if s.bootable a.named then
        ({ s with reeve := { s.reeve with act := some { a with stage := .trying } } }).runSlot a.named .trial
      else s.fallback.startFormer a.former
    | .committing => s.bootChain
    | .back => s.startFormer a.former
  | none => s.bootChain

/-- REEVE_START: the restart that an activation waited for, or the boot ROM's work (R448, R450). -/
def reeveStart (s : State) : State := if s.reeve.mode = .boot then s.romStart else s.tryRestart

/-- REEVE_WATCHDOG: a restart; in a trial, the fallback (R443, Table 15-5). -/
def reeveWatchdog (s : State) : State := match s.reeve.mode with
  | .trial => s.fallback
  | .running | .recovery => s.restartReeve
  | .off | .boot => s

/-- FW_STAGE: BUSY before anything else while a stage, an activation or a PLDM update is in progress; the fetch, when HOST lets it
begin, erases the slot (R432, R449). -/
def fwStage (h : PktHdr) (addr len : W64) (s : State) : State :=
  damtinFirst (fun s => s.reeve.path == .pldm || s.reeve.act.isSome || s.staging.any fun p => p != h) 0x0801 h
    [(0, 8, addr.toNat), (8, 8, len.toNat)] (fun s =>
    if !s.hostInOpen then s.begun h
    else
      let r := s.stage ⟨s.hostMem.slice addr.toNat len.toNat, len.toNat⟩
      ((r.2.chargeIn len.toNat).reply h r.1).tryRestart) s

/-! ## Activation (R450, R451) -/

/-- The activation of a slot is accepted, and the reeve restarts as soon as it may (Table 15-5). -/
def State.activate (s : State) (h : Option PktHdr) (named : Bool) : State :=
  ({ s with reeve := { s.reeve with act := some ⟨h, named, s.reeve.slotB, .asked⟩ } }).tryRestart

/-- FW_ACTIVATE (R450, R452). -/
def fwActivate (h : PktHdr) (slot : Byte) (s : State) : State :=
  damtin 0x0802 h [(0, 1, slot.toNat)] (fun s =>
    let b := slot == 1
    let same := b == s.reeve.slotB
    if 1 < slot.toNat || (!same && (s.reeve.slot b).size == 0) then s.reply h stInvalid
    else if s.reeve.path == .pldm || s.reeve.act.isSome then s.reply h stBusy
    else if same then s.reply h stOk
    else (s.begun h).activate (some h) b) s

/-- The pending DIE component is installed (R451). -/
def State.installDie (s : State) : State := match s.reeve.diePending with
  | some (c, _, _) => { s with reeve := { s.reeve with die := c, dieLoaded := true, diePending := none } }
  | none => s

/-- Whether a pending DIE component is to be installed now: no almanac runs, or the boundary it waits for has passed, with its
commit applied (R451). -/
def State.mayInstall (s : State) : Bool := match s.reeve.diePending with
  | some (_, same, _) => (same && (!s.almanacRuns || (s.dieDue && !s.run.inStep && s.smithy.phase == 0))) || s.pwr.dieReset
  | none => false

/-- DIE_COMPONENT_INSTALL (R451). -/
def dieComponentInstall (s : State) : State := if s.mayInstall then s.installDie else s

/-- The FW_STATE write of an activation is durable: FW_ACTIVATE replies OK, and the image's DIE component pends, or is installed at
once where no almanac runs or the die has none (R448, R450, R451). -/
def State.committed (s : State) : State :=
  match s.reeve.act with
  | none => s
  | some a =>
    let x := s.reeve.slot a.named
    let due := if s.run.inStep then s.run.step else s.run.nextStep
    let pend := if (x.comp 1).isEmpty then s.reeve.diePending else some (x.comp 1, x.resultSame, due)
    let s1 := ({ s with reeve := { s.reeve with act := none, diePending := pend } }).replyTo a.hdr stOk
    if (s1.mayInstall && !s1.almanacRuns) || !s1.reeve.dieLoaded then s1.installDie else s1

/-- FW_COMMIT: one second into a good trial FW_STATE is written, and FW_ACTIVATE replies once it is durable; on an exhausted
FW_STATE the activation stands and nothing is stored (R450, R451, R461). -/
def fwCommit (s : State) : State :=
  match s.reeve.act with
  | none => s
  | some a =>
    if s.reeve.mode ≠ .trial then s
    else
      let v := max s.svnMin (s.reeve.slot a.named).svnFloor * 2 ^ 32 + bnat a.named
      let s1 : State := { s with reeve := { s.reeve with mode := .running, act := some { a with stage := .committing } } }
      if s1.ledger 0x02 = v then s1.committed
      else if s1.full 0x02 then (raise cLedgerExhausted 5 2 0 (s1.ledgerEffect 0x02 v)).committed
      else s1.ledgerAccept 0x02 v none 0

/-- FW_FALLBACK: a watchdog or self-check failure in the trial (Table 15-5). -/
def fwFallback (s : State) : State := if s.reeve.mode = .trial then s.fallback else s

/-! ## Firmware by PLDM (R452); completion codes: PRESUMED, log 35 -/

/-- PLDM_REQUEST_UPDATE (R452). -/
def pldmRequestUpdate (s : State) : State :=
  if !s.reeveUp && s.reeve.mode != .recovery then s
  else if s.reeve.act.isSome || s.reeve.path == .pldm || !s.staging.isEmpty then s.send (.pldm 0x81)
  else ({ s with reeve := { s.reeve with path := .pldm } }).send (.pldm 0)

/-- PLDM_UPDATE_COMPONENT: component 0x0001 is the whole image (R452). -/
def pldmUpdateComponent (ident : BitVec 16) (image : List Byte) (s : State) : State :=
  if s.reeve.path ≠ .pldm then s.send (.pldm 0x80)
  else if s.reeve.act.isSome then s.send (.pldm 0x86)
  else if ident ≠ 1 then s.send (.pldm 2)
  else
    let r := s.stage ⟨Memory.writeBytes [] 0 image, image.length⟩
    r.2.send (.pldm (if r.1 = stOk then 0 else 1))

/-- PLDM_ACTIVATE_FIRMWARE: acts as FW_ACTIVATE of the updated slot (R452). -/
def pldmActivateFirmware (s : State) : State :=
  if s.reeve.path ≠ .pldm then s.send (.pldm 0x80)
  else if (s.reeve.slot (!s.reeve.slotB)).size = 0 then s.send (.pldm 1)
  else if s.reeve.act.isSome then s.send (.pldm 0x86)
  else (s.activate none (!s.reeve.slotB)).send (.pldm 0)

/-! ## The ledger (R458-R461) -/

/-- LEDGER_READ: the value and the LED_WEAR word (R459). -/
def ledgerRead (h : PktHdr) (reg : Byte) (s : State) : State :=
  damtin 0x0701 h [(0, 1, reg.toNat)] (fun s => s.reply h stOk (s.ledger reg.toNat) (s.wearWord reg.toNat)) s

/-- Bits that LEDGER_WRITE writes of a register; 0 where it writes none (Table 15-9). -/
def ledgerMask (n : Nat) : Nat :=
  if n = 0x04 then 0x1F
  else if 0x08 ≤ n ∧ n ≤ 0x0D then 2 ^ 64 - 1
  else if n = 0x10 then 0x1F
  else if n = 0x11 then 2 ^ 48 - 1
  else if 0x40 ≤ n ∧ n ≤ 0x7F then 2 ^ 64 - 1
  else 0

/-- FAB_POSITION values that R276 allows. -/
def positionOk (v : Nat) : Bool :=
  let p := Position.ofReg v
  v == 0 || (decide (1 ≤ p.shapeX) && decide (p.shapeX ≤ 32) && decide (1 ≤ p.shapeY) && decide (p.shapeY ≤ 32) &&
    decide (1 ≤ p.shapeZ) && decide (p.shapeZ ≤ 32) && decide (p.shapeX * p.shapeY * p.shapeZ ≤ 4096) &&
    decide (p.x < p.shapeX) && decide (p.y < p.shapeY) && decide (p.z < p.shapeZ))

/-- Whether a SEC_POLICY value is refused: it clears a set bit, revokes the key that signed the running image, or all four
(R459). -/
def State.policyBad (s : State) (v : Nat) : Bool :=
  let old := s.ledger 0x04
  let x := s.reeve.slot s.reeve.slotB
  let h := signerHash x.bytes x.size
  old &&& (31 - v % 32) != 0 || v % 16 == 15 ||
  (List.range 4).any fun i => bit v i && !bit old i && decide (0 < x.size) && Config.firmwareKey i == h

/-- Whether LEDGER_WRITE refuses a value (R459, R13, R276). -/
def State.ledgerBad (s : State) (n v : Nat) : Bool :=
  ledgerMask n == 0 ||
  (if n = 0x04 then s.policyBad v
   else if n = 0x10 then bit v 4 && !bit v 2
   else if n = 0x11 then !positionOk v
   else decide (0x08 ≤ n) && decide (n ≤ 0x0D) && s.ownerLock)

/-- LEDGER_WRITE (R459, R460). -/
def ledgerWrite (h : PktHdr) (reg : Byte) (value : W64) (s : State) : State :=
  damtin 0x0702 h [(0, 1, reg.toNat), (8, 8, value.toNat)] (fun s =>
    let n := reg.toNat
    let v := value.toNat &&& ledgerMask n
    if s.ledgerBad n v then s.reply h stInvalid
    else if v = s.reeve.ledger.kept n then s.reply h stOk
    else if s.full n then s.reply h stExhausted
    else (s.begun h).ledgerAccept n v (some h) 0) s

/-- SCOPE of a debug token takes effect (R454). -/
def State.applyScope (s : State) (scope : Nat) : State :=
  let r := s.reeve
  let s1 : State := { s with reeve := { r with debug := r.debug || bit scope 0, unlocked := r.unlocked || bit scope 0,
                                               jtag := r.jtag || bit scope 1 } }
  if bit scope 2 then
    let s2 := (List.range 6).foldl (fun s k => s.ledgerOwn (0x08 + k) 0) s1
    s2.ledgerOwn 0x04 (s2.ledger 0x04 % 16)
  else s1

/-- A ledger write becomes durable: the stored value and WRITES advance together (R460). -/
def Ledger.store (l : Ledger) (w : LedgerWrite) : Ledger :=
  { l with stored := mapPut l.stored w.reg w.value, wear := mapPut l.wear w.reg (mapGet 0 l.wear w.reg + 1),
           waiting := l.waiting.drop 1 }

/-- Whether the ledger store may write now: not while the economy cap holds writes, while the reeve restarts, or with no
standby power (R443, R460, Table 03-7). -/
def State.ledgerOpen (s : State) : Bool := !s.bel.econ && s.reeve.mode != .boot && s.reeve.mode != .off && s.pwr.domain != .off

/-- LEDGER_WRITE_DURABLE: the oldest accepted write (R460). -/
def ledgerWriteDurable (s : State) : State :=
  match s.reeve.ledger.waiting with
  | [] => s
  | w :: _ =>
    if !s.ledgerOpen then s
    else
      let s1 : State := { s with reeve := { s.reeve with ledger := s.reeve.ledger.store w } }
      let s2 := (s1.replyTo w.hdr stOk).applyScope w.scope
      (if w.reg = 0x02 then s2.committed else s2).tryRestart

/-! ## Debug (R453, R454) -/

/-- The body of a debug token holds what Table 15-6 asks, for this module and epoch. -/
def State.tokenBodyOk (s : State) (m : Memory) : Bool :=
  m.readNat 0 4 == 0x4E4B5444 && m.readNat 4 2 == 1 && decide (m.readNat 6 2 < 8) && m.readNat 24 40 == 0 &&
  m.readNat 8 8 == s.ledger 0x00 && m.readNat 16 8 == s.ledger 0x03

/-- DEBUG_UNLOCK (R454). -/
def debugUnlock (h : PktHdr) (addr : W64) (len : W32) (s : State) : State :=
  damtin 0x0820 h [(0, 8, addr.toNat), (8, 4, len.toNat)] (fun s =>
    if !s.hostInOpen then s.begun h
    else
      let n := len.toNat
      let m := s.hostMem.slice addr.toNat n
      let s1 := s.chargeIn n
      if !s.blockValid m n (n - 256) 2 (bit (m.readNat 6 2) 2) then s1.reply h stBadSignature
      else if n ≠ 320 ∨ s.tokenBodyOk m = false ∨ s.full 0x03 = true then s1.reply h stInvalid
      else (s1.begun h).ledgerAccept 0x03 (s.ledger 0x03 + 1) (some h) (m.readNat 6 2)) s

/-- DEBUG_LOCK (R419, R454). -/
def debugLock (h : PktHdr) (s : State) : State :=
  damtin 0x0821 h [] (fun s => ({ s with reeve := { s.reeve with debug := false, jtag := false } }).reply h stOk) s

/-! ## Attestation (R455-R457); message layouts and error codes: PRESUMED, log 36 -/

/-- SPDM_GET_CERTIFICATE: slot 0 only (R455). -/
def spdmGetCertificate (slot : Byte) (off len : BitVec 16) (s : State) : State :=
  if !s.reeveUp then s
  else if slot ≠ 0 then s.send (.spdmError 0x01)
  else s.send (.spdm 0 ((Config.certificateChain.drop off.toNat).take len.toNat) [])

/-- A measurement block: index, DMTF specification, size; then the type, with bit 7 for a raw bit stream, size and content (R456, Table
15-8; layout: PRESUMED, log 36). -/
def State.measurement (s : State) (i : Nat) : List Byte :=
  let r := s.reeve
  let x := r.slot r.slotB
  let a := s.run.active
  let c : List Byte :=
    if i = 1 then Config.bootRomHash
    else if i = 2 then sha384 (x.comp 0)
    else if i = 3 then sha384 r.die
    else if i = 4 then bytesOfNat 4 x.svn ++ bytesOfNat 8 (s.ledger 0x02)
    else if i = 5 then sha384 ((List.range 64).flatMap fun n => bytesOfNat 8 (s.ledger n))
    else if i = 6 then if a.loaded then messageDigest a.bytes (a.nat 96 8) else List.replicate 48 0
    else bytesOfNat 1 (bnat r.debug + 2 * bnat r.unlocked + 4 * bnat (!r.overrides.isEmpty))
  let t := ([0, 1, 1, 0x87, 2, 3, 0x85] : List Nat).getD (i - 1) 0
  bytesOfNat 1 i ++ bytesOfNat 1 1 ++ bytesOfNat 2 (c.length + 3) ++ bytesOfNat 1 t ++ bytesOfNat 2 c.length ++ c

/-- Measurement blocks of a request: all of them, one, or none where the index is not of Table 15-8 (R456). -/
def State.measurements (s : State) (index : Nat) : List Byte :=
  if index = 0xFF then (List.range 7).flatMap fun i => s.measurement (i + 1)
  else if 1 ≤ index ∧ index ≤ 7 then s.measurement index
  else []

/-- A response that carries a nonce and a signature; Busy before the entropy source runs, Unspecified when it is dead; in RUN it
waits for a block, which then serves no one else (R405, R457). -/
def State.signedResponse (s : State) (body : List Byte) (asked : List Byte) : State :=
  if s.rng.dead then s.send (.spdmError 0x05)
  else if s.rng.est ≠ 1 then s.send (.spdmError 0x03)
  else match s.rng.fresh with
    | [] => s
    | b :: t =>
      let payload := body ++ b.take 32
      ({ s with rng := { s.rng with fresh := t } }).send (.spdm 0 payload (Config.deviceSignature (asked ++ payload)))

/-- SPDM_CHALLENGE with the requester's nonce (R455, R457). -/
def spdmChallenge (slot : Byte) (nonce : List Byte) (s : State) : State :=
  if !s.reeveUp then s
  else if slot ≠ 0 then s.send (.spdmError 0x01)
  else s.signedResponse (sha384 Config.certificateChain) nonce

/-- SPDM_GET_MEASUREMENTS: blocks as they stand at one instant, signed where asked (R456, R457). -/
def spdmGetMeasurements (index : Byte) (signed : Bool) (nonce : List Byte) (s : State) : State :=
  if !s.reeveUp then s
  else if index ≠ 0 ∧ index ≠ 0xFF ∧ 7 < index.toNat then s.send (.spdmError 0x01)
  else
    let body := if index = 0 then bytesOfNat 1 7 else s.measurements index.toNat
    if signed then s.signedResponse body nonce else s.send (.spdm 0 body [])

/-! ## The event log (R462) -/

/-- A 32-byte log record. -/
def logRecord (r : Nat × EventRec) : List Byte :=
  let w := r.2.words
  bytesOfNat 8 r.1 ++ bytesOfNat 8 w.1 ++ bytesOfNat 8 w.2.1 ++ bytesOfNat 8 w.2.2

/-- LOG_READ: up to 16 records from a SEQ, or the counts (R462; layout of the counts: PRESUMED, log 36); the request that asks for the
power registers is this row too (R510; DESIGN CHOICE, log 156). -/
def logRead (what : LogAsk) (seq : W64) (s : State) : State :=
  if !s.reeveUp then s
  else match what with
    | .counts => s.send (.mctp (s.reeve.counts.flatMap fun c => bytesOfNat 8 c.1 ++ bytesOfNat 8 c.2))
    | .records => s.send (.mctp (((s.reeve.log.filter fun r => decide (seq.toNat ≤ r.1)).take 16).flatMap logRecord))
    | .power => s.send (.mctp (bytesOfNat 8 s.pwr.statusWord ++ bytesOfNat 8 s.pwr.inputWord ++ bytesOfNat 8 s.pwr.tempWord))

/-- EVENT_LOG_STORE: the oldest event not stored (R462). -/
def eventLogStore (s : State) : State :=
  if !s.reeveUp then s
  else match s.evLog with
    | [] => s
    | e :: t => ({ s with evLog := t }).storeEvent e

/-- The counts are saved (R462). -/
def State.saveCounts (s : State) : State := { s with reeve := { s.reeve with saved := s.reeve.counts } }

/-- EVENT_COUNT_SAVE (R462). -/
def eventCountSave (s : State) : State := if s.reeveUp then s.saveCounts else s

end Sys2Proof.Machine
end

