-- ==== Sys2Proof/Machine/Power.lean ====
section
/-! DEFINITION. Supply and temperature, resets, start-up, and the sideband (spec/17 R492-R510, spec/15 R454). -/

namespace Sys2Proof.Machine

/-! ## Sideband outputs (R286, R506, R508, R509) -/

/-- ALERT_N is low (R509). -/
def Pwr.alertLow (p : Pwr) : Bool := p.warnSeen || p.stage1Seen

/-- THERM_TRIP_N is low: after a trip, while 48 V stays applied (R497, R508). -/
def Pwr.thermTripLow (p : Pwr) : Bool := p.tripped && p.domain != .off

/-- RING_HOLD of a dimension is high: both its keepers are in PASS (R286). -/
def State.ringHold (s : State) (d : Fin 3) : Bool :=
  s.pwr.domain == .running && !(s.port (2 * d.val)).bypass && !(s.port (2 * d.val + 1)).bypass

/-- The I3C in-band interrupt that the condition of ALERT_N raises, as it comes to hold (R509; DEDUCED, log 157). -/
def State.inBandFrom (s : State) (before : Pwr) : State :=
  match s.pwr.i3c with
  | some a => if s.pwr.alertLow && !before.alertLow then s.send (.inBand a) else s
  | none => s

/-! ## What a loss of power or a reset leaves (R499, Table 17-3) -/

/-- The die at its reset values, beside what lies outside the die or outlives every reset: the reeve, the power block, the
calibration of retired frames, host memory, and the model's own fields (R499). The effective enable set, which the spec gives no value
before the die takes it from UNIT_ENABLE, is 0x1F until then (DESIGN CHOICE, log 153). -/
def State.dieCleared (s : State) : State :=
  { State.reset with
    tier := { Tier.reset with retired := s.tier.retired }, reeve := s.reeve, pwr := { s.pwr with up := false },
    evLog := s.evLog, hostMem := s.hostMem, outbox := s.outbox, freeCtr := s.freeCtr, pending := s.pending,
    bel := { Bel.reset with supplyCause := s.pwr.warn, thermalCause := s.pwr.stage1 } }

/-- Debug state and overrides end; packets to answer are gone (R415, R419, R454). -/
def Reeve.dieReset (r : Reeve) : Reeve :=
  let l := r.ledger
  { r with debug := false, jtag := false, unlocked := false, overrides := [], act := r.act.map fun a => { a with hdr := none },
           ledger := { l with waiting := l.waiting.map fun w => { w with hdr := none } } }

/-- What a loss of the main rails leaves of the ledger: the write in progress completes in the hold-up energy, the others are
lost, and reads return what is stored (R460, R495). -/
def State.ledgerCut (s : State) : State :=
  let l := s.reeve.ledger
  let l1 := match l.waiting with
    | w :: _ => if s.ledgerOpen then l.store w else l
    | [] => l
  { s with reeve := { s.reeve with ledger := { l1 with vals := l1.stored, waiting := [] } } }

/-- The reeve loses its firmware, an update under way and the die with it (R494). -/
def Reeve.cut (r : Reeve) : Reeve :=
  { r with mode := .off, path := .none, act := none, die := [], dieLoaded := false, diePending := none }

/-- The reeve after a brown-out: in its boot ROM, which waits; the counts are saved (R443, R494, R495). -/
def State.reeveCut (s : State) : State :=
  let s1 := (if s.reeveUp then s.storeAll else s).saveCounts.ledgerCut
  { s1 with reeve := s1.reeve.dieReset.cut }

/-- A change that an exhausted register did not store ends at a reset (R461). -/
def State.ledgerReset (s : State) : State :=
  let l := s.reeve.ledger
  let vals := l.waiting.foldl (fun m w => mapPut m w.reg w.value) l.stored
  { s with reeve := { s.reeve with ledger := { l with vals := vals } } }

/-- The ledger registers are taken: the enable set, the position, the retired cores; a pending DIE component is installed (R14,
R116, R276, R451, Table 17-3). -/
def State.takeLedger (s0 : State) : State :=
  let s := s0.ledgerReset
  let p := s.ledger 0x11
  let s1 : State := { s with unitsEff := s.ledger 0x10 % 32, fab := { s.fab with pos := if p = 0 then none else some (Position.ofReg p) } }
  let gone := (List.range 256).filter fun c => bit (s.ledger (0x20 + c / 64)) (c % 64)
  (gone.foldl (fun s c => s.modCore (BitVec.ofNat 8 c) fun k =>
    if k.regs.retired then k else { k with regs := { k.regs with retired := true, retireCause := 5 } }) s1).installDie

/-! ## Supply (R493-R495) -/

/-- SUPPLY_WARN_ASSERT: the four last samples in mV, and PWR_BRAKE_N, which PWR_STATUS.BRAKE shows (R493, Table 17-8). The reeve
saves its counts. -/
def supplyWarnAssert (v0 v1 v2 v3 : BitVec 16) (brakeLow : Bool) (s : State) : State :=
  let low := decide (v0.toNat + v1.toNat + v2.toNat + v3.toNat < 4 * 41500)
  if s.pwr.domain = .off then s
  else if (low || brakeLow) = false then { s with pwr := { s.pwr with brake := false } }
  else
    let s1 : State := { s with pwr := { s.pwr with warn := true, warnSeen := true, brake := brakeLow },
                               bel := { s.bel with supplyCause := true } }
    (if s1.reeveUp then s1.saveCounts else s1).inBandFrom s.pwr

/-- SUPPLY_WARN_CLEAR: the lowest sample of the last 20 ms in mV, and PWR_BRAKE_N over them (R493). -/
def supplyWarnClear (lowest : BitVec 16) (brakeLow : Bool) (s : State) : State :=
  if s.pwr.domain = .off ∨ brakeLow = true then s
  else if lowest.toNat ≤ 43000 then { s with pwr := { s.pwr with brake := false } }
  else { s with pwr := { s.pwr with warn := false, brake := false }, bel := { s.bel with supplyCause := false } }

/-- The main rails go: the die and the HBM lose power, the keepers are in BYPASS, the reeve restarts (R283, R494). -/
def State.mainsLost (s : State) : State :=
  let s1 := (raise cBrownOut 0 0 0 s).reeveCut.dieCleared
  { s1 with pwr := { s1.pwr with domain := .standby, stage1 := false, dieReset := s1.pwr.perst, modReset := false, hold := false } }

/-- BROWN_OUT: a sample below 38.0 V, in mV; a module whose boot ROM waits after a brown-out waits on (R494). -/
def brownOut (sample : BitVec 16) (s : State) : State :=
  if s.pwr.domain = .off ∨ s.reeve.mode = .off ∨ 38000 ≤ sample.toNat then s else s.mainsLost

/-- No power at all: the reeve keeps what its stores hold; events not stored and counts not saved are gone (R462, R494). -/
def State.powerOff (s : State) : State :=
  let s1 := if s.pwr.domain = .running then s.mainsLost
    else if s.reeve.mode = .off then s else s.ledgerCut
  { s1 with reeve := { s1.reeve.dieReset.cut with counts := s1.reeve.saved, lost := 0 },
            evLog := [], pwr := { Pwr.reset with cause := s1.pwr.cause, domain := .off, tripped := s1.pwr.tripped, perst := s1.pwr.perst } }

/-- STANDBY_LOSS: input below 30.0 V, in mV (R494). -/
def standbyLoss (sample : BitVec 16) (s : State) : State :=
  if s.pwr.domain = .off ∨ 30000 ≤ sample.toNat then s else s.powerOff

/-! ## Temperature and power (R496, R497) -/

/-- Readings of the sensors: input in mV, units of 10 mA and W, temperatures in °C (Tables 17-9, 17-10). -/
def State.sensed (s : State) (r : Sense) : State :=
  { s with pwr := { s.pwr with voltage := r.voltage.toNat, current := r.current.toNat, power := r.power.toNat,
                               powerAvg := r.powerAvg.toNat, junctionMax := r.junction.toNat, hbmMax := r.hbm.toNat,
                               hamlet := r.hamlet.toNat, stack := r.stack.toNat } }

/-- THERMAL_STAGE1_ASSERT: `long` says that the 1 ms power has been above 1,200 W for more than 10 ms (Table 17-2). -/
def thermalStage1Assert (r : Sense) (long : Bool) (s : State) : State :=
  if s.pwr.domain = .off then s
  else
    let s1 := s.sensed r
    if 97 ≤ r.junction.toNat ∨ 90 ≤ r.hbm.toNat ∨ 1500 < r.power.toNat ∨ (1200 < r.power.toNat ∧ long = true) then
      ({ s1 with pwr := { s1.pwr with stage1 := true, stage1Seen := true }, bel := { s1.bel with thermalCause := true } }).inBandFrom s.pwr
    else s1

/-- THERMAL_STAGE1_CLEAR: the readings are the highest of the last 20 ms (Table 17-2). -/
def thermalStage1Clear (r : Sense) (s : State) : State :=
  if s.pwr.domain = .off then s
  else
    let s1 := s.sensed r
    if r.junction.toNat < 92 ∧ r.hbm.toNat < 85 ∧ r.power.toNat ≤ 1100 then
      { s1 with pwr := { s1.pwr with stage1 := false }, bel := { s1.bel with thermalCause := false } }
    else s1

/-- THERM_TRIP: stage 2. The main converters stop, the keepers are in BYPASS; the reeve logs it and goes on (R497). -/
def thermTrip (r : Sense) (s : State) : State :=
  if s.pwr.domain ≠ .running then s
  else
    let s1 := s.sensed r
    if 105 ≤ r.junction.toNat ∨ 95 ≤ r.hbm.toNat then
      let s2 := raise cThermTrip 0 0 0 s1
      let s3 := ({ s2 with reeve := { s2.reeve.dieReset with die := [], dieLoaded := false } }).dieCleared
      { s3 with pwr := { s3.pwr with domain := .standby, tripped := true, stage1 := false, dieReset := s3.pwr.perst, modReset := false, hold := false } }
    else s1

/-! ## Resets (R499-R503) -/

/-- A core that failed its power-on self-test (R500). -/
def State.failedCores (s : State) (cores : List CoreId) : State := cores.foldl (fun s c => s.retireCore c.toNat 4) s

/-- Stacks that failed training: UNIT_FAILED, and start-up goes no further (R500). -/
def State.failedStacks (s : State) (stackList : List (Fin 8)) : State :=
  if stackList.isEmpty then s
  else
    let s1 := stackList.foldl (fun s k => raise cUnitFailed 2 k.val 0 s) s
    { s1 with pwr := { s1.pwr with failed := true } }

/-- 48 V is back too soon after a trip: THERM_TRIP_N is low again and the main converters stay off; the standby domain runs and
the reeve restarts (R494, R497, R508; DEDUCED, log 125). -/
def State.standbyBack (s : State) : State :=
  let p := s.pwr
  { s with pwr := { Pwr.reset with cause := p.cause, domain := .standby, tripped := true, perst := p.perst, dieReset := p.perst },
           reeve := { s.reeve with mode := .boot, lost := 0 } }

/-- COLD_START: 48 V is applied, or the input has recovered from a brown-out. RESET_CAUSE 0, 1, or 2 for the first application
after a trip; `away` says that 48 V had been absent for 1 s, without which a trip holds, and the reeve alone starts (R494, R497, R499, R500). -/
def coldStart (away : Bool) (cores : List CoreId) (stackList : List (Fin 8)) (s : State) : State :=
  if s.pwr.tripped = true ∧ s.pwr.domain ≠ .off then
    if s.reeve.mode = .off then { s with reeve := { s.reeve with mode := .boot, lost := 0 } } else s
  else if s.pwr.tripped = true ∧ away = false then s.standbyBack
  else
    let cause := if s.pwr.tripped then 2 else if s.pwr.domain = .standby then 1 else 0
    let s1 := if s.pwr.domain = .running then s.powerOff else s
    let p := s1.pwr
    let s2 : State := { s1 with
      pwr := { Pwr.reset with cause := cause, warn := p.warn, brake := p.brake, stage1 := p.stage1, warnSeen := p.warn,
                              stage1Seen := p.stage1, perst := p.perst, dieReset := p.perst, i3c := p.i3c },
      reeve := { s1.reeve with mode := .boot, lost := 0 } }
    ((s2.dieCleared.takeLedger).failedCores cores).failedStacks stackList

/-- The die goes into a warm reset: keepers in BYPASS, work stops, HBM in self-refresh with no page mapped; the reeve, the
ledger and HBM contents stay (R267, R499, R502, R503). A dead entropy source yields nothing until a cold start, although its register
reads as after any reset (R404, Table 13-6). -/
def State.warm (s : State) (cause : Nat) : State :=
  let s1 := s.dieCleared
  { s1 with tier := { s1.tier with hbm := s.tier.hbm, poison := s.tier.poison, corr := s.tier.corr },
            rng := { Rng.reset with dead := s.rng.dead },
            reeve := s1.reeve.dieReset,
            pwr := { s1.pwr with cause := cause, dieReset := true, modReset := false } }

/-- Whether a cold start is not complete (R503). -/
def Pwr.coldStarting (p : Pwr) : Bool := !p.up && decide (p.cause ≤ 2)

/-- WARM_RESET: PERST_N asserts, or a MODULE_RESET begins. During a reset, during a cold start, or with the main rails off, PERST_N only
holds the die, and a MODULE_RESET has no further effect; with no power PERST_N keeps its level for the next start (R501-R503). -/
def warmReset (perst : Bool) (s : State) : State :=
  let p := s.pwr
  if p.domain = .off then (if perst then { s with pwr := { p with perst := true } } else s)
  else if perst then
    if p.dieReset ∨ p.domain = .standby ∨ p.coldStarting = true then
      { s with pwr := { p with perst := true, dieReset := true, modReset := false } }
    else let s1 := s.warm 3; { s1 with pwr := { s1.pwr with perst := true } }
  else if !p.modReset || p.dieReset || p.domain != .running then s
  else let s1 := s.warm 4; { s1 with pwr := { s1.pwr with hold := true } }

/-- WARM_RESET_RELEASE: PERST_N deasserts, or the 10 ms of a MODULE_RESET end. When nothing holds the die any more it takes
the ledger registers and installs a pending DIE component (R502, R503). -/
def warmResetRelease (perst : Bool) (s : State) : State :=
  let p := s.pwr
  let p1 := if perst then { p with perst := false } else { p with hold := false }
  let held := p1.perst || p1.hold
  let s1 : State := { s with pwr := { p1 with dieReset := held && p.dieReset } }
  if p.dieReset && !held && p.domain == .running then s1.takeLedger else s1

/-- START_UP_COMPLETE: PWR_STATUS.UP, and the Device Readiness Status message; no start-up is complete before the DIE component is loaded
(R448, R500, R501). -/
def startUpComplete (s : State) : State :=
  let p := s.pwr
  if p.up || p.dieReset || p.failed || p.domain != .running || !s.reeveUp || !s.reeve.dieLoaded then s
  else ({ s with pwr := { p with up := true } }).send .deviceReady

/-! ## Sideband (R454, R507) -/

/-- I3C_SETDASA: a dynamic address for static address 0x3A (R507). -/
def i3cSetdasa (static dynamic : BitVec 7) (s : State) : State :=
  if s.pwr.domain = .off ∨ static ≠ 0x3A then s
  else
    let s1 := ({ s with pwr := { s.pwr with i3c := some dynamic } }).send (.i3c [])
    if s.pwr.i3c.isNone && s.pwr.alertLow then s1.send (.inBand dynamic) else s1

/-- I3C_GETSTATUS: the reeve answers at its dynamic address; the spec does not state the two bytes, which are a free value
(R507; DESIGN CHOICE, log 13). -/
def i3cGetstatus (address : BitVec 7) (s : State) : State :=
  if s.pwr.domain = .off ∨ s.pwr.i3c ≠ some address then s
  else ({ s with freeCtr := s.freeCtr + 1 }).send (.i3c (bytesOfNat 2 ((Config.freeValue s.freeCtr).toNat % 2 ^ 16)))

/-- JTAG_INSTRUCTION: a private one acts as BYPASS without the JTAG scope; with the die in reset or unpowered there is no access
port (R454, Table 17-7). -/
def jtagInstruction (code : BitVec 8) (priv : Bool) (s : State) : State :=
  if s.pwr.domain ≠ .running ∨ s.pwr.dieReset = true then s
  else { s with pwr := { s.pwr with jtag := some (code.toNat, priv && !s.reeve.jtag) } }

end Sys2Proof.Machine
end

