-- ==== Sys2Proof/Machine/RowsPower.lean ====
section
/-! DEFINITION. The meanings of the table's rows, one definition for each: Power, resets and sideband (spec/17). -/

namespace Sys2Proof.Machine

/-- SUPPLY_WARN_ASSERT: SUPPLY_WARN asserts on a low four-sample average or PWR_BRAKE_N low (R493) -/
def execSupplyWarnAssert (v0 v1 v2 v3 : BitVec 16) (brakeLow : Bool) (s : State) : Host.Outcome State Fault Refusal
    :=
  .next (s.settle (supplyWarnAssert v0 v1 v2 v3 brakeLow s))

/-- SUPPLY_WARN_CLEAR: SUPPLY_WARN clears after 20 ms above 43.0 V with PWR_BRAKE_N high (R493) -/
def execSupplyWarnClear (lowest : BitVec 16) (brakeLow : Bool) (s : State) : Host.Outcome State Fault Refusal :=
  .next (s.settle (supplyWarnClear lowest brakeLow s))

/-- BROWN_OUT: A sample below 38.0 V stops the main converters, bypasses the keepers and restarts the reeve (R494) -/
def execBrownOut (sample : BitVec 16) (s : State) : Host.Outcome State Fault Refusal :=
  .next (s.settle (brownOut sample s))

/-- STANDBY_LOSS: Input below 30.0 V stops the standby domain and every signal behaves as with no 48 V (R494) -/
def execStandbyLoss (sample : BitVec 16) (s : State) : Host.Outcome State Fault Refusal :=
  .next (s.settle (standbyLoss sample s))

/-- THERMAL_STAGE1_ASSERT: Junction, HBM or input power above stage-1 limits asserts the thermal cause of economy mode
(R496) -/
def execThermalStage1Assert (reading : Sense) (long : Bool) (s : State) : Host.Outcome State Fault Refusal :=
  .next (s.settle (thermalStage1Assert reading long s))

/-- THERMAL_STAGE1_CLEAR: Stage 1 clears after its conditions hold below the clear limits for 20 ms (R496) -/
def execThermalStage1Clear (reading : Sense) (s : State) : Host.Outcome State Fault Refusal :=
  .next (s.settle (thermalStage1Clear reading s))

/-- THERM_TRIP: Stage 2 temperatures drive THERM_TRIP_N low, stop the main converters and bypass the keepers (R497) -/
def execThermTrip (reading : Sense) (s : State) : Host.Outcome State Fault Refusal :=
  .next (s.settle (thermTrip reading s))

/-- COLD_START: 48 V applied, or input recovered after brown-out, runs the cold start sequence to PWR_STATUS.UP (R500)
-/
def execColdStart (away : Bool) (cores : List CoreId) (stackList : List (Fin 8)) (s : State) :
    Host.Outcome State Fault Refusal :=
  .next (s.settle (coldStart away cores stackList s))

/-- WARM_RESET: PERST_N assertion or MODULE_RESET stops die work, bypasses keepers and puts HBM in self-refresh (R502)
-/
def execWarmReset (perst : Bool) (s : State) : Host.Outcome State Fault Refusal :=
  .next (s.settle (warmReset perst s))

/-- WARM_RESET_RELEASE: PERST_N deassertion or the 10 ms MODULE_RESET hold ends restarts the die with stored
calibration (R502) -/
def execWarmResetRelease (perst : Bool) (s : State) : Host.Outcome State Fault Refusal :=
  .next (s.settle (warmResetRelease perst s))

/-- START_UP_COMPLETE: Start-up completes, PWR_STATUS.UP is set and Device Readiness Status is sent (R501) -/
def execStartUpComplete (s : State) : Host.Outcome State Fault Refusal :=
  .next (s.settle (startUpComplete s))

/-- I3C_SETDASA: The reeve takes a dynamic address from its static address 0x3A (R507) -/
def execI3cSetdasa (static dynamic : BitVec 7) (s : State) : Host.Outcome State Fault Refusal :=
  .next (s.settle (i3cSetdasa static dynamic s))

/-- I3C_GETSTATUS: The reeve answers GETSTATUS on I3C (R507) -/
def execI3cGetstatus (address : BitVec 7) (s : State) : Host.Outcome State Fault Refusal :=
  .next (s.settle (i3cGetstatus address s))

/-- JTAG_INSTRUCTION: A JTAG instruction runs, private ones only under JTAG debug scope (R454) -/
def execJtagInstruction (code : BitVec 8) (priv : Bool) (s : State) : Host.Outcome State Fault Refusal :=
  .next (s.settle (jtagInstruction code priv s))

end Sys2Proof.Machine
end

