-- ==== Sys2Proof/Machine/RowsRecovery.lean ====
section
/-! DEFINITION. The meanings of the table's rows, one definition for each: Stops, rebuilds, leaving and joining (spec/16). -/

namespace Sys2Proof.Machine

/-- SCRUB_POISON_REBUILD: A covered or parity word that the scrub poisoned is rebuilt from parity at the next step
boundary (R472) -/
def execScrubPoisonRebuild (word : BitVec 35) (parity sum : List Byte) (s : State) : Host.Outcome State Fault
    Refusal :=
  .next (s.settle (scrubPoisonRebuild word.toNat parity sum s))

/-- STOP: A STOP message spreads a fault to every live module (R468) -/
def execStop (s : State) : Host.Outcome State Fault Refusal :=
  .next (s.settle (stopMsg s))

/-- MODULE_STOP: At the first tick after sending or receiving STOP, the module stops issuing and discards the step's
queued work (R468) -/
def execModuleStop (s : State) : Host.Outcome State Fault Refusal :=
  .next (s.settle (moduleStop s))

/-- RECOVERY_STEP_ANNOUNCE: Once all modules stopped, the root announces recovery step Q and each module undoes step
Q+1 where recorded (R469) -/
def execRecoveryStepAnnounce (made : List StopReport) (classes : List (BitVec 3)) (s : State) : Host.Outcome
    State Fault Refusal :=
  .next (s.settle (recoveryStepAnnounce (made.map fun r => (r.num.toNat, r.next.toNat, r.g.toNat)) (classes.map BitVec.toNat) s))

/-- REPLAY_BEGIN: After retirements and rebuilds finish, the replay of step Q+1 begins under detours (R471) -/
def execReplayBegin (s : State) : Host.Outcome State Fault Refusal :=
  .next (s.settle (replayBegin s))

/-- PAGE_REBUILD: A poisoned covered page is rebuilt in place from parity before the replay (R472) -/
def execPageRebuild (vpn : BitVec 36) (parity sum : List Byte) (s : State) : Host.Outcome State Fault Refusal :=
  .next (s.settle (pageRebuild vpn.toNat parity sum s))

/-- DIRECTORY_HANDOVER: The deputy takes over a lost module's directory part from entries sent by live modules (R476)
-/
def execDirectoryHandover (lost src : ModId) (entries : List (BitVec 36 × DEntry)) (s : State) : Host.Outcome State
    Fault Refusal :=
  .next (s.settle (directoryHandover lost.toNat src.toNat (entries.map fun e => (e.1.toNat, e.2)) s))

/-- SHARD_REBUILD: A lost module's protected pages are rebuilt on stripe holders, then DATA_LOST is posted and modules
hold IDLE (R477) -/
def execShardRebuild (lost : ModId) (sums : List (BitVec 36 × List Byte)) (told : Option (List ToldPage)) (rows :
    List (BitVec 12 × BitVec 64 × List Byte)) (s : State) : Host.Outcome State Fault Refusal :=
  .next (s.settle (shardRebuild lost.toNat (sums.map fun p => (p.1.toNat, p.2)) (told.map fun l => l.map fun p =>
    (p.vpn.toNat, ⟨0, p.home.toNat, false, false, p.pin, p.w, false, false, 0⟩)) (rows.map fun r => (r.1.toNat, r.2.1.toNat, r.2.2)) s))

/-- LEAVE_HANDOVER: At boundary B a leaving module stops the machine and hands its protected pages to holders or pool
targets (R489) -/
def execLeaveHandover (whole : Bool) (part : Handover) (s : State) : Host.Outcome State Fault Refusal :=
  .next (s.settle (leaveHandover whole part s))

/-- JOIN_ADMISSION: At boundary J the root admits or refuses a join; an admitted joiner takes its rings and gets its
directory and pages back (R491) -/
def execJoinAdmission (joiner : Joiner) (locked shapeOk : Bool) (part : JoinPart) (s : State) : Host.Outcome
    State Fault Refusal :=
  .next (s.settle (joinAdmission joiner.num.toNat joiner.boundary.toNat locked shapeOk part s))

end Sys2Proof.Machine
end

