-- ==== Sys2Proof/Machine/RowsReeve.lean ====
section
/-! DEFINITION. The meanings of the table's rows, one definition for each: The reeve, its ledger, firmware and identity (spec/15), and the entropy source (spec/13). -/

namespace Sys2Proof.Machine

/-- DIE_COMPONENT_INSTALL: A committed DIE component is installed at a step boundary, at once, or at the next reset
(R451) -/
def execDieComponentInstall (s : State) : Host.Outcome State Fault Refusal :=
  .next (s.settle (dieComponentInstall s))

/-- LEDGER_READ: Return a ledger register and its wear word (R459) -/
def execLedgerRead (h : PktHdr) (reg : Byte) (s : State) : Host.Outcome State Fault Refusal :=
  .next (s.settle (ledgerRead h reg s))

/-- LEDGER_WRITE: Write a ledger register under the ledger rules (R459) -/
def execLedgerWrite (h : PktHdr) (reg : Byte) (value : W64) (s : State) : Host.Outcome State Fault Refusal :=
  .next (s.settle (ledgerWrite h reg value s))

/-- LEDGER_WRITE_DURABLE: A ledger write becomes durable, advancing WRITES or setting EXHAUSTED, and its command
replies (R460) -/
def execLedgerWriteDurable (s : State) : Host.Outcome State Fault Refusal :=
  .next (s.settle (ledgerWriteDurable s))

/-- FW_STAGE: Fetch and check a firmware image into the slot not running (R449) -/
def execFwStage (h : PktHdr) (addr len : W64) (s : State) : Host.Outcome State Fault Refusal :=
  .next (s.settle (fwStage h addr len s))

/-- FW_ACTIVATE: Activate a staged firmware slot through a reeve restart and trial (R450) -/
def execFwActivate (h : PktHdr) (slot : Byte) (s : State) : Host.Outcome State Fault Refusal :=
  .next (s.settle (fwActivate h slot s))

/-- FW_COMMIT: One second into a good trial, FW_STATE is written and FW_ACTIVATE replies OK (R450) -/
def execFwCommit (s : State) : Host.Outcome State Fault Refusal :=
  .next (s.settle (fwCommit s))

/-- FW_FALLBACK: A watchdog or self-check failure during trial restarts the former slot and FW_ACTIVATE replies
INVALID_PARAM (R450) -/
def execFwFallback (s : State) : Host.Outcome State Fault Refusal :=
  .next (s.settle (fwFallback s))

/-- DEBUG_UNLOCK: Check a debug token and enter its scope, incrementing DEBUG_EPOCH (R454) -/
def execDebugUnlock (h : PktHdr) (addr : W64) (len : W32) (s : State) : Host.Outcome State Fault Refusal :=
  .next (s.settle (debugUnlock h addr len s))

/-- DEBUG_LOCK: Leave debug-unlock state and disable JTAG scope (R454) -/
def execDebugLock (h : PktHdr) (s : State) : Host.Outcome State Fault Refusal :=
  .next (s.settle (debugLock h s))

/-- ENTROPY_READ: Return 16 bytes from a fresh conditioned entropy block (R405) -/
def execEntropyRead (h : PktHdr) (s : State) : Host.Outcome State Fault Refusal :=
  .next (s.settle (entropyRead h s))

/-- PLDM_REQUEST_UPDATE: A PLDM RequestUpdate enters update mode or is refused while a Damtin update runs (R452) -/
def execPldmRequestUpdate (s : State) : Host.Outcome State Fault Refusal :=
  .next (s.settle (pldmRequestUpdate s))

/-- PLDM_UPDATE_COMPONENT: PLDM UpdateComponent writes the slot not running under the FW_STAGE checks (R452) -/
def execPldmUpdateComponent (ident : BitVec 16) (image : List Byte) (s : State) : Host.Outcome State Fault Refusal
    :=
  .next (s.settle (pldmUpdateComponent ident image s))

/-- PLDM_ACTIVATE_FIRMWARE: PLDM ActivateFirmware acts as FW_ACTIVATE of the updated slot (R452) -/
def execPldmActivateFirmware (s : State) : Host.Outcome State Fault Refusal :=
  .next (s.settle (pldmActivateFirmware s))

/-- SPDM_GET_CERTIFICATE: Return the certificate chain of slot 0 (R455) -/
def execSpdmGetCertificate (slot : Byte) (off len : BitVec 16) (s : State) : Host.Outcome State Fault Refusal :=
  .next (s.settle (spdmGetCertificate slot off len s))

/-- SPDM_CHALLENGE: Answer a challenge with a DeviceID signature and an entropy nonce, or Busy (R457) -/
def execSpdmChallenge (slot : Byte) (nonce : List Byte) (s : State) : Host.Outcome State Fault Refusal :=
  .next (s.settle (spdmChallenge slot nonce s))

/-- SPDM_GET_MEASUREMENTS: Return the measurement blocks as they stood at one instant, signed (R456) -/
def execSpdmGetMeasurements (index : Byte) (signed : Bool) (nonce : List Byte) (s : State) : Host.Outcome State
    Fault Refusal :=
  .next (s.settle (spdmGetMeasurements index signed nonce s))

/-- LOG_READ: A vendor MCTP request returns up to 16 event-log records or the count table (R462) -/
def execLogRead (what : LogAsk) (seq : W64) (s : State) : Host.Outcome State Fault Refusal :=
  .next (s.settle (logRead what seq s))

/-- EVENT_LOG_STORE: An event record is stored in the log within 10 ms and LED_LOG updated (R462) -/
def execEventLogStore (s : State) : Host.Outcome State Fault Refusal :=
  .next (s.settle (eventLogStore s))

/-- EVENT_COUNT_SAVE: Every 60 s the reeve saves its per-code event counts into the log (R462) -/
def execEventCountSave (s : State) : Host.Outcome State Fault Refusal :=
  .next (s.settle (eventCountSave s))

/-- REEVE_START: The reeve boot ROM verifies the committed or other firmware slot and starts it, or enters recovery
(R448) -/
def execReeveStart (s : State) : Host.Outcome State Fault Refusal :=
  .next (s.settle (reeveStart s))

/-- REEVE_WATCHDOG: A reeve watchdog not serviced for 2 s restarts the reeve (R443) -/
def execReeveWatchdog (s : State) : Host.Outcome State Fault Refusal :=
  .next (s.settle (reeveWatchdog s))

/-- ENTROPY_HEALTH_FAIL: A failed health test discards the block, counts in RNG_ENT and reruns the start-up test
(R404) -/
def execEntropyHealthFail (s : State) : Host.Outcome State Fault Refusal :=
  .next (s.settle (entropyHealthFail s))

/-- ENTROPY_STARTUP_TEST_END: A start-up test ends, entering RUN, or DEAD after four failures in a row (R404) -/
def execEntropyStartupTestEnd (samples : List Byte) (s : State) : Host.Outcome State Fault Refusal :=
  .next (s.settle (entropyTestEnd samples s))

/-- ENTROPY_BLOCK_READY: A conditioned SHA-384 block of 1,536 passing samples is released (R403) -/
def execEntropyBlockReady (samples : List Byte) (s : State) : Host.Outcome State Fault Refusal :=
  .next (s.settle (entropyBlockReady samples s))

end Sys2Proof.Machine
end

