-- ==== Sys2Proof/Machine/RowsScalar.lean ====
section
/-! DEFINITION. The meanings of the table's rows, one definition for each: The S and A slots and bundles (spec/05). -/

namespace Sys2Proof.Machine

/-- BUNDLE_FETCH: A bundle is fetched from memory or the code buffer, raising CODE_FAULT or MEM_UE on a bad fetch
(R127) -/
def execBundleFetch (core : CoreId) (thread : ThreadId) (addr : W64) (s : State) : Host.Outcome State Fault Refusal
    :=
  .next (s.settle (bundleFetch core thread addr s))

/-- BUNDLE_ISSUE: The control core issues one whole bundle of the next ready thread, or raises ILLEGAL_OP, UNIT_ABSENT
or TIMING_HAZARD, with loop-end checks made as it completes (R93) -/
def execBundleIssue (core : CoreId) (s : State) : Host.Outcome State Fault Refusal :=
  .next (s.settle (bundleIssue core s).sweepVersions)

/-- ADD: S-slot add of two scalar registers (R138) -/
def execAdd (core : CoreId) (thread : ThreadId) (rd ra rb : SReg) (s : State) : Host.Outcome State Fault Refusal :=
  .next (s.settle (issueBundle core thread (oneS (.alu .add rd ra rb)) s))

/-- SUB: S-slot subtract (R138) -/
def execSub (core : CoreId) (thread : ThreadId) (rd ra rb : SReg) (s : State) : Host.Outcome State Fault Refusal :=
  .next (s.settle (issueBundle core thread (oneS (.alu .sub rd ra rb)) s))

/-- AND: S-slot bitwise and (R138) -/
def execAnd (core : CoreId) (thread : ThreadId) (rd ra rb : SReg) (s : State) : Host.Outcome State Fault Refusal :=
  .next (s.settle (issueBundle core thread (oneS (.alu .and rd ra rb)) s))

/-- OR: S-slot bitwise or (R138) -/
def execOr (core : CoreId) (thread : ThreadId) (rd ra rb : SReg) (s : State) : Host.Outcome State Fault Refusal :=
  .next (s.settle (issueBundle core thread (oneS (.alu .or rd ra rb)) s))

/-- XOR: S-slot bitwise exclusive or (R138) -/
def execXor (core : CoreId) (thread : ThreadId) (rd ra rb : SReg) (s : State) : Host.Outcome State Fault Refusal :=
  .next (s.settle (issueBundle core thread (oneS (.alu .xor rd ra rb)) s))

/-- SHL: S-slot left shift by rb mod 64 (R138) -/
def execShl (core : CoreId) (thread : ThreadId) (rd ra rb : SReg) (s : State) : Host.Outcome State Fault Refusal :=
  .next (s.settle (issueBundle core thread (oneS (.alu .shl rd ra rb)) s))

/-- SHR: S-slot logical right shift (R138) -/
def execShr (core : CoreId) (thread : ThreadId) (rd ra rb : SReg) (s : State) : Host.Outcome State Fault Refusal :=
  .next (s.settle (issueBundle core thread (oneS (.alu .shr rd ra rb)) s))

/-- SRA: S-slot arithmetic right shift (R138) -/
def execSra (core : CoreId) (thread : ThreadId) (rd ra rb : SReg) (s : State) : Host.Outcome State Fault Refusal :=
  .next (s.settle (issueBundle core thread (oneS (.alu .sra rd ra rb)) s))

/-- MIN: S-slot signed minimum (R138) -/
def execMin (core : CoreId) (thread : ThreadId) (rd ra rb : SReg) (s : State) : Host.Outcome State Fault Refusal :=
  .next (s.settle (issueBundle core thread (oneS (.alu .min rd ra rb)) s))

/-- MAX: S-slot signed maximum (R138) -/
def execMax (core : CoreId) (thread : ThreadId) (rd ra rb : SReg) (s : State) : Host.Outcome State Fault Refusal :=
  .next (s.settle (issueBundle core thread (oneS (.alu .max rd ra rb)) s))

/-- SLT: S-slot signed less-than compare giving 1 or 0 (R138) -/
def execSlt (core : CoreId) (thread : ThreadId) (rd ra rb : SReg) (s : State) : Host.Outcome State Fault Refusal :=
  .next (s.settle (issueBundle core thread (oneS (.alu .slt rd ra rb)) s))

/-- SLTU: S-slot unsigned less-than compare (R138) -/
def execSltu (core : CoreId) (thread : ThreadId) (rd ra rb : SReg) (s : State) : Host.Outcome State Fault Refusal :=
  .next (s.settle (issueBundle core thread (oneS (.alu .sltu rd ra rb)) s))

/-- SEQ: S-slot equality compare (R138) -/
def execSeq (core : CoreId) (thread : ThreadId) (rd ra rb : SReg) (s : State) : Host.Outcome State Fault Refusal :=
  .next (s.settle (issueBundle core thread (oneS (.alu .seq rd ra rb)) s))

/-- MUL: S-slot low 64 bits of the product (R138) -/
def execMul (core : CoreId) (thread : ThreadId) (rd ra rb : SReg) (s : State) : Host.Outcome State Fault Refusal :=
  .next (s.settle (issueBundle core thread (oneS (.alu .mul rd ra rb)) s))

/-- MULH: S-slot high 64 bits of the signed 128-bit product (R138) -/
def execMulh (core : CoreId) (thread : ThreadId) (rd ra rb : SReg) (s : State) : Host.Outcome State Fault Refusal :=
  .next (s.settle (issueBundle core thread (oneS (.alu .mulh rd ra rb)) s))

/-- DIV: S-slot floor division, giving 0 for a zero divisor (R139) -/
def execDiv (core : CoreId) (thread : ThreadId) (rd ra rb : SReg) (s : State) : Host.Outcome State Fault Refusal :=
  .next (s.settle (issueBundle core thread (oneS (.alu .div rd ra rb)) s))

/-- MOD: S-slot modulo with the sign of the divisor, giving ra for a zero divisor (R139) -/
def execMod (core : CoreId) (thread : ThreadId) (rd ra rb : SReg) (s : State) : Host.Outcome State Fault Refusal :=
  .next (s.settle (issueBundle core thread (oneS (.alu .mod rd ra rb)) s))

/-- LI: S-slot load of a sign-extended immediate (R138) -/
def execLi (core : CoreId) (thread : ThreadId) (rd : SReg) (imm : BitVec 16) (s : State) : Host.Outcome State Fault
    Refusal :=
  .next (s.settle (issueBundle core thread (oneS (.li rd imm)) s))

/-- ADDI: S-slot add of a sign-extended immediate (R138) -/
def execAddi (core : CoreId) (thread : ThreadId) (rd ra : SReg) (imm : BitVec 16) (s : State) : Host.Outcome State
    Fault Refusal :=
  .next (s.settle (issueBundle core thread (oneS (.alui .addi rd ra imm)) s))

/-- ANDI: S-slot and with a zero-extended immediate (R138) -/
def execAndi (core : CoreId) (thread : ThreadId) (rd ra : SReg) (imm : BitVec 16) (s : State) : Host.Outcome State
    Fault Refusal :=
  .next (s.settle (issueBundle core thread (oneS (.alui .andi rd ra imm)) s))

/-- ORI: S-slot or with a zero-extended immediate (R138) -/
def execOri (core : CoreId) (thread : ThreadId) (rd ra : SReg) (imm : BitVec 16) (s : State) : Host.Outcome State
    Fault Refusal :=
  .next (s.settle (issueBundle core thread (oneS (.alui .ori rd ra imm)) s))

/-- XORI: S-slot exclusive or with a zero-extended immediate (R138) -/
def execXori (core : CoreId) (thread : ThreadId) (rd ra : SReg) (imm : BitVec 16) (s : State) : Host.Outcome State
    Fault Refusal :=
  .next (s.settle (issueBundle core thread (oneS (.alui .xori rd ra imm)) s))

/-- SHLI: S-slot left shift by an immediate (R138) -/
def execShli (core : CoreId) (thread : ThreadId) (rd ra : SReg) (imm : BitVec 16) (s : State) : Host.Outcome State
    Fault Refusal :=
  .next (s.settle (issueBundle core thread (oneS (.alui .shli rd ra imm)) s))

/-- SHRI: S-slot logical right shift by an immediate (R138) -/
def execShri (core : CoreId) (thread : ThreadId) (rd ra : SReg) (imm : BitVec 16) (s : State) : Host.Outcome State
    Fault Refusal :=
  .next (s.settle (issueBundle core thread (oneS (.alui .shri rd ra imm)) s))

/-- SRAI: S-slot arithmetic right shift by an immediate (R138) -/
def execSrai (core : CoreId) (thread : ThreadId) (rd ra : SReg) (imm : BitVec 16) (s : State) : Host.Outcome State
    Fault Refusal :=
  .next (s.settle (issueBundle core thread (oneS (.alui .srai rd ra imm)) s))

/-- LIS: S-slot shift rd left 16 and insert an unsigned immediate (R138) -/
def execLis (core : CoreId) (thread : ThreadId) (rd : SReg) (imm : BitVec 16) (s : State) : Host.Outcome State Fault
    Refusal :=
  .next (s.settle (issueBundle core thread (oneS (.lis rd imm)) s))

/-- BEQ: Branch when ra equals rb (R139) -/
def execBeq (core : CoreId) (thread : ThreadId) (ra rb : SReg) (off : BitVec 16) (s : State) : Host.Outcome State
    Fault Refusal :=
  .next (s.settle (issueBundle core thread (oneS (.br .beq ra rb off)) s))

/-- BNE: Branch when ra differs from rb (R139) -/
def execBne (core : CoreId) (thread : ThreadId) (ra rb : SReg) (off : BitVec 16) (s : State) : Host.Outcome State
    Fault Refusal :=
  .next (s.settle (issueBundle core thread (oneS (.br .bne ra rb off)) s))

/-- BLT: Branch when ra is signed less than rb (R139) -/
def execBlt (core : CoreId) (thread : ThreadId) (ra rb : SReg) (off : BitVec 16) (s : State) : Host.Outcome State
    Fault Refusal :=
  .next (s.settle (issueBundle core thread (oneS (.br .blt ra rb off)) s))

/-- BGE: Branch when ra is signed at least rb (R139) -/
def execBge (core : CoreId) (thread : ThreadId) (ra rb : SReg) (off : BitVec 16) (s : State) : Host.Outcome State
    Fault Refusal :=
  .next (s.settle (issueBundle core thread (oneS (.br .bge ra rb off)) s))

/-- BLTU: Branch when ra is unsigned less than rb (R139) -/
def execBltu (core : CoreId) (thread : ThreadId) (ra rb : SReg) (off : BitVec 16) (s : State) : Host.Outcome State
    Fault Refusal :=
  .next (s.settle (issueBundle core thread (oneS (.br .bltu ra rb off)) s))

/-- BGEU: Branch when ra is unsigned at least rb (R139) -/
def execBgeu (core : CoreId) (thread : ThreadId) (ra rb : SReg) (off : BitVec 16) (s : State) : Host.Outcome State
    Fault Refusal :=
  .next (s.settle (issueBundle core thread (oneS (.br .bgeu ra rb off)) s))

/-- JMP: Unconditional branch closing loop levels that do not contain the target (R154) -/
def execJmp (core : CoreId) (thread : ThreadId) (off : BitVec 26) (s : State) : Host.Outcome State Fault Refusal :=
  .next (s.settle (issueBundle core thread (oneS (.jmp off)) s))

/-- JR: Jump to the address in s[RA] with bit 0 ignored (R154) -/
def execJr (core : CoreId) (thread : ThreadId) (ra : SReg) (s : State) : Host.Outcome State Fault Refusal :=
  .next (s.settle (issueBundle core thread (oneS (.jr ra)) s))

/-- WAITC: Hold the bundle until the condition on a sync counter holds (R145) -/
def execWaitc (core : CoreId) (thread : ThreadId) (ctr : ScReg) (cond : BitVec 2) (reg : Bool) (value : BitVec 16)
    (s : State) : Host.Outcome State Fault Refusal :=
  .next (s.settle (issueBundle core thread (oneS (.waitc ctr cond reg value)) s))

/-- SETC: Set a sync counter from a scalar register in the issue cycle (R145) -/
def execSetc (core : CoreId) (thread : ThreadId) (ctr : ScReg) (r : SReg) (s : State) : Host.Outcome State Fault
    Refusal :=
  .next (s.settle (issueBundle core thread (oneS (.setc ctr r)) s))

/-- ADDC: Add an immediate to a sync counter modulo 2^16 (R145) -/
def execAddc (core : CoreId) (thread : ThreadId) (ctr : ScReg) (value : BitVec 16) (s : State) : Host.Outcome State
    Fault Refusal :=
  .next (s.settle (issueBundle core thread (oneS (.addc ctr value)) s))

/-- RDC: Read a sync counter's timing-dependent value into a scalar register (R103) -/
def execRdc (core : CoreId) (thread : ThreadId) (ctr : ScReg) (r : SReg) (s : State) : Host.Outcome State Fault
    Refusal :=
  .next (s.settle (issueBundle core thread (oneS (.rdc ctr r)) s))

/-- LOOP: Open a hardware loop with the count in s[RC], or raise LOOP_FAULT (R150) -/
def execLoop (core : CoreId) (thread : ThreadId) (rc : SReg) (stop : BitVec 12) (s : State) : Host.Outcome State
    Fault Refusal :=
  .next (s.settle (issueBundle core thread (oneS (.loop rc stop)) s))

/-- LOOPI: Open a hardware loop with an immediate count, or raise LOOP_FAULT (R150) -/
def execLoopi (core : CoreId) (thread : ThreadId) (count : BitVec 14) (stop : BitVec 12) (s : State) : Host.Outcome
    State Fault Refusal :=
  .next (s.settle (issueBundle core thread (oneS (.loopi count stop)) s))

/-- LIDX: Read the iterations completed in an open loop level (R138) -/
def execLidx (core : CoreId) (thread : ThreadId) (rd : SReg) (level : BitVec 2) (s : State) : Host.Outcome State
    Fault Refusal :=
  .next (s.settle (issueBundle core thread (oneS (.lidx rd level)) s))

/-- END: The thread ends, discarding open loop levels, while its issued commands continue (R90) -/
def execEnd (core : CoreId) (thread : ThreadId) (s : State) : Host.Outcome State Fault Refusal :=
  .next (s.settle (issueBundle core thread (oneS .stop) s).sweepVersions)

/-- AADD: Address add of a register and a scalar (R140) -/
def execAadd (core : CoreId) (thread : ThreadId) (ad aa : AReg) (sb : SReg) (s : State) : Host.Outcome State Fault
    Refusal :=
  .next (s.settle (issueBundle core thread (oneA (.aadd ad aa sb)) s))

/-- AADDI: Address add of an immediate (R140) -/
def execAaddi (core : CoreId) (thread : ThreadId) (ad aa : AReg) (imm : BitVec 13) (s : State) : Host.Outcome State
    Fault Refusal :=
  .next (s.settle (issueBundle core thread (oneA (.aaddi ad aa imm)) s))

/-- AIDX: Address add of a shifted scalar index (R140) -/
def execAidx (core : CoreId) (thread : ThreadId) (ad aa : AReg) (sb : SReg) (sh : BitVec 3) (s : State) :
    Host.Outcome State Fault Refusal :=
  .next (s.settle (issueBundle core thread (oneA (.aidx ad aa sb sh)) s))

/-- AMOV: Move a scalar into an address register (R140) -/
def execAmov (core : CoreId) (thread : ThreadId) (ad : AReg) (sb : SReg) (s : State) : Host.Outcome State Fault
    Refusal :=
  .next (s.settle (issueBundle core thread (oneA (.amov ad sb)) s))

/-- AMOVS: Move an address register into a scalar (R140) -/
def execAmovs (core : CoreId) (thread : ThreadId) (aa : AReg) (sb : SReg) (s : State) : Host.Outcome State Fault
    Refusal :=
  .next (s.settle (issueBundle core thread (oneA (.amovs aa sb)) s))

/-- LD64: Load 8 local-store bytes into a scalar (R140) -/
def execLd64 (core : CoreId) (thread : ThreadId) (aa : AReg) (sb : SReg) (imm : BitVec 13) (s : State) :
    Host.Outcome State Fault Refusal :=
  .next (s.settle (issueBundle core thread (oneA (.ld .ld64 aa sb imm)) s))

/-- LD32S: Load 4 bytes sign-extended (R140) -/
def execLd32s (core : CoreId) (thread : ThreadId) (aa : AReg) (sb : SReg) (imm : BitVec 13) (s : State) :
    Host.Outcome State Fault Refusal :=
  .next (s.settle (issueBundle core thread (oneA (.ld .ld32s aa sb imm)) s))

/-- LD32U: Load 4 bytes zero-extended (R140) -/
def execLd32u (core : CoreId) (thread : ThreadId) (aa : AReg) (sb : SReg) (imm : BitVec 13) (s : State) :
    Host.Outcome State Fault Refusal :=
  .next (s.settle (issueBundle core thread (oneA (.ld .ld32u aa sb imm)) s))

/-- LD16S: Load 2 bytes sign-extended (R140) -/
def execLd16s (core : CoreId) (thread : ThreadId) (aa : AReg) (sb : SReg) (imm : BitVec 13) (s : State) :
    Host.Outcome State Fault Refusal :=
  .next (s.settle (issueBundle core thread (oneA (.ld .ld16s aa sb imm)) s))

/-- LD16U: Load 2 bytes zero-extended (R140) -/
def execLd16u (core : CoreId) (thread : ThreadId) (aa : AReg) (sb : SReg) (imm : BitVec 13) (s : State) :
    Host.Outcome State Fault Refusal :=
  .next (s.settle (issueBundle core thread (oneA (.ld .ld16u aa sb imm)) s))

/-- LD8S: Load 1 byte sign-extended (R140) -/
def execLd8s (core : CoreId) (thread : ThreadId) (aa : AReg) (sb : SReg) (imm : BitVec 13) (s : State) :
    Host.Outcome State Fault Refusal :=
  .next (s.settle (issueBundle core thread (oneA (.ld .ld8s aa sb imm)) s))

/-- LD8U: Load 1 byte zero-extended (R140) -/
def execLd8u (core : CoreId) (thread : ThreadId) (aa : AReg) (sb : SReg) (imm : BitVec 13) (s : State) :
    Host.Outcome State Fault Refusal :=
  .next (s.settle (issueBundle core thread (oneA (.ld .ld8u aa sb imm)) s))

/-- ALD: Load 8 local-store bytes into an address register (R140) -/
def execAld (core : CoreId) (thread : ThreadId) (ad aa : AReg) (imm : BitVec 13) (s : State) : Host.Outcome State
    Fault Refusal :=
  .next (s.settle (issueBundle core thread (oneA (.ald ad aa imm)) s))

/-- ST64: Store 8 bytes of a scalar (R140) -/
def execSt64 (core : CoreId) (thread : ThreadId) (aa : AReg) (sb : SReg) (imm : BitVec 13) (s : State) :
    Host.Outcome State Fault Refusal :=
  .next (s.settle (issueBundle core thread (oneA (.st .st64 aa sb imm)) s))

/-- ST32: Store 4 bytes of a scalar (R140) -/
def execSt32 (core : CoreId) (thread : ThreadId) (aa : AReg) (sb : SReg) (imm : BitVec 13) (s : State) :
    Host.Outcome State Fault Refusal :=
  .next (s.settle (issueBundle core thread (oneA (.st .st32 aa sb imm)) s))

/-- ST16: Store 2 bytes of a scalar (R140) -/
def execSt16 (core : CoreId) (thread : ThreadId) (aa : AReg) (sb : SReg) (imm : BitVec 13) (s : State) :
    Host.Outcome State Fault Refusal :=
  .next (s.settle (issueBundle core thread (oneA (.st .st16 aa sb imm)) s))

/-- ST8: Store 1 byte of a scalar (R140) -/
def execSt8 (core : CoreId) (thread : ThreadId) (aa : AReg) (sb : SReg) (imm : BitVec 13) (s : State) : Host.Outcome
    State Fault Refusal :=
  .next (s.settle (issueBundle core thread (oneA (.st .st8 aa sb imm)) s))

/-- AST: Store an address register (R140) -/
def execAst (core : CoreId) (thread : ThreadId) (ad aa : AReg) (imm : BitVec 13) (s : State) : Host.Outcome State
    Fault Refusal :=
  .next (s.settle (issueBundle core thread (oneA (.ast ad aa imm)) s))

/-- STW: Write one field of a stream descriptor, held until earlier commands naming it have started (R98) -/
def execStw (core : CoreId) (thread : ThreadId) (ad : StReg) (fld : BitVec 4) (sb : SReg) (s : State) : Host.Outcome
    State Fault Refusal :=
  .next (s.settle (issueBundle core thread (oneA (.stw ad fld sb)) s))

/-- STLD: Load consecutive stream descriptors from the local store, held as STW (R98) -/
def execStld (core : CoreId) (thread : ThreadId) (ad : StReg) (aa : AReg) (n : BitVec 4) (imm : BitVec 13) (s :
    State) : Host.Outcome State Fault Refusal :=
  .next (s.settle (issueBundle core thread (oneA (.stld ad aa n imm)) s))

/-- DESCRIPTOR_WRITE_EFFECT: A held descriptor write takes effect the cycle after the last earlier command naming it
starts, and the thread becomes ready (R98) -/
def execDescriptorWriteEffect (core : CoreId) (thread : ThreadId) (s : State) : Host.Outcome State Fault Refusal :=
  .next (s.settle (descriptorEffect core thread s))

end Sys2Proof.Machine
end

