-- ==== Sys2Proof/Machine/RowsTable.lean ====
section
/-! DEFINITION. The meanings of the table's rows, one definition for each: Embedding tables (spec/12). -/

namespace Sys2Proof.Machine

/-- TABLE_ADD_APPLY: A table-add contribution reaches a row's home and is added exactly to its gradient words (R379)
-/
def execTableAddApply (src : ModId) (table : BitVec 12) (row : W32) (sums : List (Option Int)) (seq : W32) (tag :
    W32) (s : State) : Host.Outcome State Fault Refusal :=
  .next (s.settle (tableAddApply src.toNat table.toNat row.toNat sums seq.toNat tag.toNat s))

/-- VERSION_CURRENT: At its tick a pending version becomes CURRENT and the former current version RETIRING (R370) -/
def execVersionCurrent (table : BitVec 12) (s : State) : Host.Outcome State Fault Refusal :=
  .next (s.settle (versionCurrent table.toNat s))

/-- ROW_MOVE_FLIP: A granted move of a table row flips at a tick and the old home holds a signpost (R388) -/
def execRowMoveFlip (table : BitVec 12) (version row : W32) (s : State) : Host.Outcome State Fault Refusal :=
  .next (s.settle (rowMoveFlip table.toNat version.toNat row.toNat s))

/-- ROW_SIGNPOST_EXPIRE: One frame after a row flip the signpost expires and the old hot slot is freed (R388) -/
def execRowSignpostExpire (table : BitVec 12) (version row : W32) (s : State) : Host.Outcome State Fault Refusal :=
  .next (s.settle (rowSignpostExpire table.toNat version.toNat row.toNat s))

/-- ROW_MOVE_ABANDON: A row move not flipped within 64 frames, or whose version is freed, is abandoned (R388) -/
def execRowMoveAbandon (table : BitVec 12) (version row : W32) (s : State) : Host.Outcome State Fault Refusal :=
  .next (s.settle (rowMoveAbandon table.toNat version.toNat row.toNat s))

/-- TRAINED_ROW_FLIP: A trained row's move flips at the first tick after both homes have written their commit records
(R389) -/
def execTrainedRowFlip (table : BitVec 12) (version row : W32) (s : State) : Host.Outcome State Fault Refusal :=
  .next (s.settle (trainedRowFlip table.toNat version.toNat row.toNat s))

/-- ROW_MOVE_REQUEST: A request to move a table row reaches the module that holds the row's redirect record and the
destination; the move is granted and the row is marked moving, or it is refused (R386) -/
def execRowMoveRequest (table : BitVec 12) (version row : W32) (by_ dest : ModId) (count : W32) (ret : Bool)
    (answer : SlotAnswer) (s : State) : Host.Outcome State Fault Refusal :=
  .next (s.settle (rowMoveRequest table.toNat version.toNat row.toNat by_.toNat dest.toNat count.toNat ret
    (answer.slot.map BitVec.toNat) answer.refused s))

/-- ROW_COPY: The copy of a moving table row, or the post-commit value and state words of a TRAINED row, reaches the
new home, which acknowledges it or stages it as a slot delta (R388) -/
def execRowCopy (src : ModId) (table : BitVec 12) (version row : W32) (bytes : List Byte) (tag : W32) (s : State) :
    Host.Outcome State Fault Refusal :=
  .next (s.settle (rowCopy src.toNat table.toNat version.toNat row.toNat bytes tag.toNat s))

end Sys2Proof.Machine
end

