-- ==== Sys2Proof/Machine/RowsTier.lean ====
section
/-! DEFINITION. The meanings of the table's rows, one definition for each: Memory and the tiers (spec/08). -/

namespace Sys2Proof.Machine

/-- HBM_READ_COMPLETE: A local HBM read returns its ECC words, corrected or poisoned, raising MEM_UE on a poisoned
requested word (R260) -/
def execHbmReadComplete (word : BitVec 35) (outcome : BitVec 2) (req : HbmReader) (s : State) :
    Host.Outcome State Fault Refusal :=
  s.settleOut (hbmReadComplete word.toNat outcome (req.who.map fun r => (r.1, r.2.toNat)) req.scrub s)

/-- READ_REQ: A read request reaches a module, which serves it as home, from a signpost or answers NOT_HOME (R241) -/
def execReadReq (src : ModId) (va : VA) (len : BitVec 17) (tag : W32) (stage : Bool) (row : Option (BitVec 12 × W32
    × W32)) (s : State) : Host.Outcome State Fault Refusal :=
  .next (s.settle (readReqRow src.toNat va.toNat len.toNat tag.toNat stage (row.map fun r => (r.1.toNat,
    r.2.1.toNat, r.2.2.toNat)) s))

/-- READ_DATA: Read data arrives at the requester, possibly staging a copy or being discarded after a SUBSTITUTE
deadline (R251) -/
def execReadData (home : ModId) (va : VA) (bytes : List Byte) (kind : DataKind) (s : State) :
    Host.Outcome State Fault Refusal :=
  .next (s.settle (readData home.toNat va.toNat bytes kind.staged (kind.poison.map BitVec.toNat) s))

/-- WRITE: A write reaches the home, which invalidates staged copies before applying it (R252) -/
def execWrite (src : ModId) (va : VA) (bytes : List Byte) (tag : W32) (s : State) : Host.Outcome State Fault Refusal
    :=
  .next (s.settle (writeMsg src.toNat va.toNat bytes tag.toNat s))

/-- WRITE_ACK: The home's acknowledgement of written bytes reaches the writer (R289) -/
def execWriteAck (tag : W32) (home : ModId) (s : State) : Host.Outcome State Fault Refusal :=
  .next (s.settle (writeAck tag.toNat home.toNat s))

/-- NOT_HOME: A NOT_HOME answer makes the requester query the directory or row home, replace its entry and reissue
(R242) -/
def execNotHome (va : VA) (tag : W32) (home : Option ModId) (row : Option (BitVec 12 × W32 × W32)) (s : State) :
    Host.Outcome State Fault Refusal :=
  .next (s.settle (notHomeRow va.toNat tag.toNat (home.map BitVec.toNat) (row.map fun r => (r.1.toNat,
    r.2.1.toNat, r.2.2.toNat)) s))

/-- DIR_QUERY: A directory module answers a query for a page's home (R237) -/
def execDirQuery (src : ModId) (vpn : BitVec 36) (s : State) : Host.Outcome State Fault Refusal :=
  .next (s.settle (dirQuery src.toNat vpn.toNat s))

/-- DIR_REPLY: A directory reply installs a translation entry and the waiting access proceeds, or XLATE_INVALID is
raised (R237) -/
def execDirReply (vpn : BitVec 36) (entry : Option DEntry) (s : State) : Host.Outcome State Fault Refusal :=
  .next (s.settle (dirReply vpn.toNat entry s))

/-- MOVE_REQUEST: The directory grants or refuses a request to move a page's home (R247) -/
def execMoveRequest (by_ : ModId) (vpn : BitVec 36) (source dest : ModId) (toHost : Bool) (owner : ModId) (accepts : Bool)
    (granted : Option (BitVec 48 × BitVec 4)) (s : State) : Host.Outcome State Fault Refusal :=
  .next (s.settle (moveRequest by_.toNat vpn.toNat source.toNat dest.toNat toHost owner.toNat accepts
    (granted.map fun g => (g.1.toNat, g.2.toNat)) s))

/-- MOVE_PIECE: A 2 KiB piece of a moving page reaches the new home, which acknowledges it (R247) -/
def execMovePiece (src : ModId) (vpn : BitVec 36) (idx : BitVec 5) (piece : PieceData) (tag : W32)
    (s : State) : Host.Outcome State Fault Refusal :=
  .next (s.settle (movePiece src.toNat vpn.toNat idx.toNat piece.bytes (piece.bad.map BitVec.toNat) tag.toNat s))

/-- PAGE_FLIP: At a tick after all pieces are acknowledged, the home flips to the new module and the old home holds a
signpost (R247) -/
def execPageFlip (vpn : BitVec 36) (s : State) : Host.Outcome State Fault Refusal :=
  .next (s.settle (pageFlip vpn.toNat s))

/-- SIGNPOST_EXPIRE: One frame after a flip the signpost expires and the old home frees its frame (R247) -/
def execSignpostExpire (vpn : BitVec 36) (s : State) : Host.Outcome State Fault Refusal :=
  .next (s.settle (signpostExpire vpn.toNat s))

/-- MOVE_ABANDON: A move not flipped within 64 frames of its grant is abandoned and MOVING cleared (R248) -/
def execMoveAbandon (vpn : BitVec 36) (s : State) : Host.Outcome State Fault Refusal :=
  .next (s.settle (moveAbandon vpn.toNat s))

/-- INVAL: A holder drops its stage frame on invalidation and acknowledges (R252) -/
def execInval (home : ModId) (vpn : BitVec 36) (s : State) : Host.Outcome State Fault Refusal :=
  .next (s.settle (invalMsg home.toNat vpn.toNat s))

/-- INVAL_ACK: An invalidation acknowledgement reaches the home, which applies the write once all have arrived (R252)
-/
def execInvalAck (src : ModId) (vpn : BitVec 36) (s : State) : Host.Outcome State Fault Refusal :=
  .next (s.settle (invalAck src.toNat vpn.toNat s))

/-- STAGE_DROP: A holder drops a stage frame on its own and tells the home (R253) -/
def execStageDrop (vpn : BitVec 36) (s : State) : Host.Outcome State Fault Refusal :=
  .next (s.settle (stageDrop vpn.toNat s))

/-- EPOCH_END: At each heat epoch end, heat decays and pulls, pushes and hot-row moves are requested (R243) -/
def execEpochEnd (room : List (ModId × Bool)) (s : State) : Host.Outcome State Fault Refusal :=
  .next (s.settle (epochEnd (room.map fun d => (d.1.toNat, d.2)) s))

/-- QUOTA_EXCESS_PUSH: Tier agents move pages out of a quota that stands above its limit (R266) -/
def execQuotaExcessPush (room : List (ModId × Bool)) (s : State) : Host.Outcome State Fault Refusal :=
  .next (s.settle (quotaExcess (room.map fun d => (d.1.toNat, d.2)) s))

/-- FRAME_RETIREMENT: An HBM frame with 16 or more corrections in 24 hours is retired at a tick and its page moves to
a free frame (R262) -/
def execFrameRetirement (frame : BitVec 24) (s : State) : Host.Outcome State Fault Refusal :=
  s.settleOut (frameRetirement frame.toNat s)

/-- HOST_MEMORY_READ_COMPLETE: Data that the module read over PCIe from host memory, for a page homed in host memory
or a host transfer, arrives and is delivered, or is discarded after a SUBSTITUTE deadline (R257) -/
def execHostMemoryReadComplete (addr : W64) (bytes : List Byte) (s : State) : Host.Outcome State Fault Refusal :=
  .next (s.settle (hostReadComplete addr.toNat bytes s))

/-- STAGE_DROP_NOTICE: A holder's notice that it has dropped a stage frame reaches the page's home, which removes it
as a holder (R253) -/
def execStageDropNotice (src : ModId) (vpn : BitVec 36) (s : State) : Host.Outcome State Fault Refusal :=
  .next (s.settle (stageDropNotice src.toNat vpn.toNat s))

end Sys2Proof.Machine
end

