-- ==== Sys2Proof/Machine/RowsVector.lean ====
section
/-! DEFINITION. The meanings of the table's rows, one definition for each: The vector contexts (spec/07). -/

namespace Sys2Proof.Machine

/-- V_COMMAND_BUFFER_ENTRY: The head V command of queue 2 moves into its context's 16-entry buffer when there is room
(R149) -/
def execVCommandBufferEntry (core : CoreId) (s : State) : Host.Outcome State Fault Refusal :=
  .next (s.settle (vBufferEntry core s))

/-- V_RETIRE: A V instruction retires at the end of the k-th turn after its last issue (R520) -/
def execVRetire (core : CoreId) (ctx : VCtx) (idx : BitVec 8) (s : State) : Host.Outcome State Fault Refusal :=
  .next (s.settle (vRetireAll core ctx idx.toNat s))

/-- VADD: Element add with OVF outside the I32 range (R213) -/
def execVadd (core : CoreId) (ctx : VCtx) (s : State) : Host.Outcome State Fault Refusal :=
  .next (s.settle (vIssue 0x01 core ctx s))

/-- VSUB: Element subtract (R213) -/
def execVsub (core : CoreId) (ctx : VCtx) (s : State) : Host.Outcome State Fault Refusal :=
  .next (s.settle (vIssue 0x02 core ctx s))

/-- VMUL: Element multiply (R213) -/
def execVmul (core : CoreId) (ctx : VCtx) (s : State) : Host.Outcome State Fault Refusal :=
  .next (s.settle (vIssue 0x03 core ctx s))

/-- VMIN: Element signed minimum (R213) -/
def execVmin (core : CoreId) (ctx : VCtx) (s : State) : Host.Outcome State Fault Refusal :=
  .next (s.settle (vIssue 0x04 core ctx s))

/-- VMAX: Element signed maximum (R213) -/
def execVmax (core : CoreId) (ctx : VCtx) (s : State) : Host.Outcome State Fault Refusal :=
  .next (s.settle (vIssue 0x05 core ctx s))

/-- VAND: Element bitwise and on bit patterns (R213) -/
def execVand (core : CoreId) (ctx : VCtx) (s : State) : Host.Outcome State Fault Refusal :=
  .next (s.settle (vIssue 0x06 core ctx s))

/-- VOR: Element bitwise or (R213) -/
def execVor (core : CoreId) (ctx : VCtx) (s : State) : Host.Outcome State Fault Refusal :=
  .next (s.settle (vIssue 0x07 core ctx s))

/-- VXOR: Element bitwise exclusive or (R213) -/
def execVxor (core : CoreId) (ctx : VCtx) (s : State) : Host.Outcome State Fault Refusal :=
  .next (s.settle (vIssue 0x08 core ctx s))

/-- VSHL: Element exact left shift with OVF out of range (R213) -/
def execVshl (core : CoreId) (ctx : VCtx) (s : State) : Host.Outcome State Fault Refusal :=
  .next (s.settle (vIssue 0x09 core ctx s))

/-- VSRA: Element arithmetic right shift (R213) -/
def execVsra (core : CoreId) (ctx : VCtx) (s : State) : Host.Outcome State Fault Refusal :=
  .next (s.settle (vIssue 0x0a core ctx s))

/-- VSEL: Select tb where ta is non-zero, else keep td (R213) -/
def execVsel (core : CoreId) (ctx : VCtx) (s : State) : Host.Outcome State Fault Refusal :=
  .next (s.settle (vIssue 0x0b core ctx s))

/-- VCMPLT: Element less-than compare giving 1 or 0 (R213) -/
def execVcmplt (core : CoreId) (ctx : VCtx) (s : State) : Host.Outcome State Fault Refusal :=
  .next (s.settle (vIssue 0x0c core ctx s))

/-- VCMPEQ: Element equality compare (R213) -/
def execVcmpeq (core : CoreId) (ctx : VCtx) (s : State) : Host.Outcome State Fault Refusal :=
  .next (s.settle (vIssue 0x0d core ctx s))

/-- VADDI: Element add of a signed immediate (R213) -/
def execVaddi (core : CoreId) (ctx : VCtx) (s : State) : Host.Outcome State Fault Refusal :=
  .next (s.settle (vIssue 0x10 core ctx s))

/-- VMAXI: Element maximum with an immediate (R213) -/
def execVmaxi (core : CoreId) (ctx : VCtx) (s : State) : Host.Outcome State Fault Refusal :=
  .next (s.settle (vIssue 0x11 core ctx s))

/-- VMINI: Element minimum with an immediate (R213) -/
def execVmini (core : CoreId) (ctx : VCtx) (s : State) : Host.Outcome State Fault Refusal :=
  .next (s.settle (vIssue 0x12 core ctx s))

/-- VNARROW: Convert ta into a result legend by narrowing, choosing block exponents for blocked targets (R216) -/
def execVnarrow (core : CoreId) (ctx : VCtx) (s : State) : Host.Outcome State Fault Refusal :=
  .next (s.settle (vIssue 0x18 core ctx s))

/-- VWIDEN: Widen codes exactly into a wider format (R218) -/
def execVwiden (core : CoreId) (ctx : VCtx) (s : State) : Host.Outcome State Fault Refusal :=
  .next (s.settle (vIssue 0x19 core ctx s))

/-- VEXP: Table exponential with interpolation, then narrowing (R222) -/
def execVexp (core : CoreId) (ctx : VCtx) (s : State) : Host.Outcome State Fault Refusal :=
  .next (s.settle (vIssue 0x20 core ctx s))

/-- VLOG: Table logarithm, OVF for non-positive inputs (R222) -/
def execVlog (core : CoreId) (ctx : VCtx) (s : State) : Host.Outcome State Fault Refusal :=
  .next (s.settle (vIssue 0x21 core ctx s))

/-- VRSQRT: Table reciprocal square root, OVF for non-positive inputs (R222) -/
def execVrsqrt (core : CoreId) (ctx : VCtx) (s : State) : Host.Outcome State Fault Refusal :=
  .next (s.settle (vIssue 0x22 core ctx s))

/-- VRSUM: Row sum written into every word of the row (R214) -/
def execVrsum (core : CoreId) (ctx : VCtx) (s : State) : Host.Outcome State Fault Refusal :=
  .next (s.settle (vIssue 0x28 core ctx s))

/-- VRMAX: Row maximum written into every word of the row (R214) -/
def execVrmax (core : CoreId) (ctx : VCtx) (s : State) : Host.Outcome State Fault Refusal :=
  .next (s.settle (vIssue 0x29 core ctx s))

/-- VCSUM: Column sum written into every word of the column (R214) -/
def execVcsum (core : CoreId) (ctx : VCtx) (s : State) : Host.Outcome State Fault Refusal :=
  .next (s.settle (vIssue 0x2a core ctx s))

/-- VCOMPRESS: Pack the words selected by a mask in row-major order (R219) -/
def execVcompress (core : CoreId) (ctx : VCtx) (s : State) : Host.Outcome State Fault Refusal :=
  .next (s.settle (vIssue 0x30 core ctx s))

/-- VEXPAND: Spread words back to the positions of a mask (R220) -/
def execVexpand (core : CoreId) (ctx : VCtx) (s : State) : Host.Outcome State Fault Refusal :=
  .next (s.settle (vIssue 0x31 core ctx s))

/-- VNORM: Fused forward normalisation with gain and bias (R225) -/
def execVnorm (core : CoreId) (ctx : VCtx) (s : State) : Host.Outcome State Fault Refusal :=
  .next (s.settle (vIssue 0x38 core ctx s))

/-- VNORMB: Fused backward normalisation (R226) -/
def execVnormb (core : CoreId) (ctx : VCtx) (s : State) : Host.Outcome State Fault Refusal :=
  .next (s.settle (vIssue 0x39 core ctx s))

/-- VSMAX: Fused soft-max forward, phase 0 exponentials or phase 1 probabilities (R227) -/
def execVsmax (core : CoreId) (ctx : VCtx) (s : State) : Host.Outcome State Fault Refusal :=
  .next (s.settle (vIssue 0x3a core ctx s))

/-- VSMAXB: Fused soft-max backward (R228) -/
def execVsmaxb (core : CoreId) (ctx : VCtx) (s : State) : Host.Outcome State Fault Refusal :=
  .next (s.settle (vIssue 0x3b core ctx s))

/-- VLD: Load a tile register from the local store (R143) -/
def execVld (core : CoreId) (ctx : VCtx) (s : State) : Host.Outcome State Fault Refusal :=
  .next (s.settle (vIssue 0x40 core ctx s))

/-- VST: Store a tile register to the local store (R143) -/
def execVst (core : CoreId) (ctx : VCtx) (s : State) : Host.Outcome State Fault Refusal :=
  .next (s.settle (vIssue 0x41 core ctx s))

/-- VTQPOP: Claim the head tile of the tile queue and move it into a tile register (R230) -/
def execVtqpop (core : CoreId) (ctx : VCtx) (s : State) : Host.Outcome State Fault Refusal :=
  .next (s.settle (vIssue 0x48 core ctx s))

/-- VWAIT: Hold the vector context until a counter condition holds (R149) -/
def execVwait (core : CoreId) (ctx : VCtx) (s : State) : Host.Outcome State Fault Refusal :=
  .next (s.settle (vIssue 0x50 core ctx s))

/-- VSIGNAL: Add a value to a counter once every earlier instruction of the context has retired (R149) -/
def execVsignal (core : CoreId) (ctx : VCtx) (s : State) : Host.Outcome State Fault Refusal :=
  .next (s.settle (vIssue 0x51 core ctx s))

/-- VRAND: Write random words from the keyed generator under a chosen distribution (R399) -/
def execVrand (core : CoreId) (ctx : VCtx) (s : State) : Host.Outcome State Fault Refusal :=
  .next (s.settle (vIssue 0x58 core ctx s))

/-- VMOV: Copy ta into td (R213) -/
def execVmov (core : CoreId) (ctx : VCtx) (s : State) : Host.Outcome State Fault Refusal :=
  .next (s.settle (vIssue 0x60 core ctx s))

end Sys2Proof.Machine
end

