-- ==== Sys2Proof/Machine/Dispatch.lean ====
section
/-! DEFINITION. The effect of each command on everything but the queue: one arm per constructor of Instr. -/

namespace Sys2Proof.Machine
open Sys2Proof

def exec (i : Instr) (s : State) : Host.Outcome State Fault Refusal :=
  match i with
  | .bellTick => Sys2Proof.Machine.execBellTick s
  | .econRequestTimeout => Sys2Proof.Machine.execEconRequestTimeout s
  | .paceChange => Sys2Proof.Machine.execPaceChange s
  | .overrunCheckResume => Sys2Proof.Machine.execOverrunCheckResume s
  | .frameOverrun core => Sys2Proof.Machine.execFrameOverrun core s
  | .slipRecordWrite => Sys2Proof.Machine.execSlipRecordWrite s
  | .readDeadline core => Sys2Proof.Machine.execReadDeadline core s
  | .bellLock => Sys2Proof.Machine.execBellLock s
  | .bellHoldover => Sys2Proof.Machine.execBellHoldover s
  | .bellLost => Sys2Proof.Machine.execBellLost s
  | .mark port block count off => Sys2Proof.Machine.execMark port block count off s
  | .markSend port count => Sys2Proof.Machine.execMarkSend port count s
  | .tickInCapture => Sys2Proof.Machine.execTickInCapture s
  | .stepBegin => Sys2Proof.Machine.execStepBegin s
  | .almanacSwitchEffect => Sys2Proof.Machine.execAlmanacSwitchEffect s
  | .taskStart core => Sys2Proof.Machine.execTaskStart core s
  | .bundleFetch core thread addr => Sys2Proof.Machine.execBundleFetch core thread addr s
  | .bundleIssue core => Sys2Proof.Machine.execBundleIssue core s
  | .add core thread rd ra rb => Sys2Proof.Machine.execAdd core thread rd ra rb s
  | .sub core thread rd ra rb => Sys2Proof.Machine.execSub core thread rd ra rb s
  | .and core thread rd ra rb => Sys2Proof.Machine.execAnd core thread rd ra rb s
  | .or core thread rd ra rb => Sys2Proof.Machine.execOr core thread rd ra rb s
  | .xor core thread rd ra rb => Sys2Proof.Machine.execXor core thread rd ra rb s
  | .shl core thread rd ra rb => Sys2Proof.Machine.execShl core thread rd ra rb s
  | .shr core thread rd ra rb => Sys2Proof.Machine.execShr core thread rd ra rb s
  | .sra core thread rd ra rb => Sys2Proof.Machine.execSra core thread rd ra rb s
  | .min core thread rd ra rb => Sys2Proof.Machine.execMin core thread rd ra rb s
  | .max core thread rd ra rb => Sys2Proof.Machine.execMax core thread rd ra rb s
  | .slt core thread rd ra rb => Sys2Proof.Machine.execSlt core thread rd ra rb s
  | .sltu core thread rd ra rb => Sys2Proof.Machine.execSltu core thread rd ra rb s
  | .seq core thread rd ra rb => Sys2Proof.Machine.execSeq core thread rd ra rb s
  | .mul core thread rd ra rb => Sys2Proof.Machine.execMul core thread rd ra rb s
  | .mulh core thread rd ra rb => Sys2Proof.Machine.execMulh core thread rd ra rb s
  | .div core thread rd ra rb => Sys2Proof.Machine.execDiv core thread rd ra rb s
  | .mod core thread rd ra rb => Sys2Proof.Machine.execMod core thread rd ra rb s
  | .li core thread rd imm => Sys2Proof.Machine.execLi core thread rd imm s
  | .addi core thread rd ra imm => Sys2Proof.Machine.execAddi core thread rd ra imm s
  | .andi core thread rd ra imm => Sys2Proof.Machine.execAndi core thread rd ra imm s
  | .ori core thread rd ra imm => Sys2Proof.Machine.execOri core thread rd ra imm s
  | .xori core thread rd ra imm => Sys2Proof.Machine.execXori core thread rd ra imm s
  | .shli core thread rd ra imm => Sys2Proof.Machine.execShli core thread rd ra imm s
  | .shri core thread rd ra imm => Sys2Proof.Machine.execShri core thread rd ra imm s
  | .srai core thread rd ra imm => Sys2Proof.Machine.execSrai core thread rd ra imm s
  | .lis core thread rd imm => Sys2Proof.Machine.execLis core thread rd imm s
  | .beq core thread ra rb off => Sys2Proof.Machine.execBeq core thread ra rb off s
  | .bne core thread ra rb off => Sys2Proof.Machine.execBne core thread ra rb off s
  | .blt core thread ra rb off => Sys2Proof.Machine.execBlt core thread ra rb off s
  | .bge core thread ra rb off => Sys2Proof.Machine.execBge core thread ra rb off s
  | .bltu core thread ra rb off => Sys2Proof.Machine.execBltu core thread ra rb off s
  | .bgeu core thread ra rb off => Sys2Proof.Machine.execBgeu core thread ra rb off s
  | .jmp core thread off => Sys2Proof.Machine.execJmp core thread off s
  | .jr core thread ra => Sys2Proof.Machine.execJr core thread ra s
  | .waitc core thread ctr cond reg value => Sys2Proof.Machine.execWaitc core thread ctr cond reg value s
  | .setc core thread ctr r => Sys2Proof.Machine.execSetc core thread ctr r s
  | .addc core thread ctr value => Sys2Proof.Machine.execAddc core thread ctr value s
  | .rdc core thread ctr r => Sys2Proof.Machine.execRdc core thread ctr r s
  | .loop core thread rc stop => Sys2Proof.Machine.execLoop core thread rc stop s
  | .loopi core thread count stop => Sys2Proof.Machine.execLoopi core thread count stop s
  | .lidx core thread rd level => Sys2Proof.Machine.execLidx core thread rd level s
  | .end_ core thread => Sys2Proof.Machine.execEnd core thread s
  | .aadd core thread ad aa sb => Sys2Proof.Machine.execAadd core thread ad aa sb s
  | .aaddi core thread ad aa imm => Sys2Proof.Machine.execAaddi core thread ad aa imm s
  | .aidx core thread ad aa sb sh => Sys2Proof.Machine.execAidx core thread ad aa sb sh s
  | .amov core thread ad sb => Sys2Proof.Machine.execAmov core thread ad sb s
  | .amovs core thread aa sb => Sys2Proof.Machine.execAmovs core thread aa sb s
  | .ld64 core thread aa sb imm => Sys2Proof.Machine.execLd64 core thread aa sb imm s
  | .ld32s core thread aa sb imm => Sys2Proof.Machine.execLd32s core thread aa sb imm s
  | .ld32u core thread aa sb imm => Sys2Proof.Machine.execLd32u core thread aa sb imm s
  | .ld16s core thread aa sb imm => Sys2Proof.Machine.execLd16s core thread aa sb imm s
  | .ld16u core thread aa sb imm => Sys2Proof.Machine.execLd16u core thread aa sb imm s
  | .ld8s core thread aa sb imm => Sys2Proof.Machine.execLd8s core thread aa sb imm s
  | .ld8u core thread aa sb imm => Sys2Proof.Machine.execLd8u core thread aa sb imm s
  | .ald core thread ad aa imm => Sys2Proof.Machine.execAld core thread ad aa imm s
  | .st64 core thread aa sb imm => Sys2Proof.Machine.execSt64 core thread aa sb imm s
  | .st32 core thread aa sb imm => Sys2Proof.Machine.execSt32 core thread aa sb imm s
  | .st16 core thread aa sb imm => Sys2Proof.Machine.execSt16 core thread aa sb imm s
  | .st8 core thread aa sb imm => Sys2Proof.Machine.execSt8 core thread aa sb imm s
  | .ast core thread ad aa imm => Sys2Proof.Machine.execAst core thread ad aa imm s
  | .stw core thread ad fld sb => Sys2Proof.Machine.execStw core thread ad fld sb s
  | .stld core thread ad aa n imm => Sys2Proof.Machine.execStld core thread ad aa n imm s
  | .descriptorWriteEffect core thread => Sys2Proof.Machine.execDescriptorWriteEffect core thread s
  | .gather core => Sys2Proof.Machine.execGather core s
  | .gmerge core => Sys2Proof.Machine.execGmerge core s
  | .gcompact core => Sys2Proof.Machine.execGcompact core s
  | .scatter core => Sys2Proof.Machine.execScatter core s
  | .scatterAdd core => Sys2Proof.Machine.execScatterAdd core s
  | .lookup core => Sys2Proof.Machine.execLookup core s
  | .fetch core => Sys2Proof.Machine.execFetch core s
  | .lookupComp core => Sys2Proof.Machine.execLookupComp core s
  | .pathred core => Sys2Proof.Machine.execPathred core s
  | .laneSteal core lane => Sys2Proof.Machine.execLaneSteal core lane s
  | .mpass core => Sys2Proof.Machine.execMpass core s
  | .mclear core => Sys2Proof.Machine.execMclear core s
  | .mdrain core => Sys2Proof.Machine.execMdrain core s
  | .mdrains core => Sys2Proof.Machine.execMdrains core s
  | .mstore core => Sys2Proof.Machine.execMstore core s
  | .mload core => Sys2Proof.Machine.execMload core s
  | .tileQueueWrite core => Sys2Proof.Machine.execTileQueueWrite core s
  | .xcopy core => Sys2Proof.Machine.execXcopy core s
  | .xsend core => Sys2Proof.Machine.execXsend core s
  | .xcoll core => Sys2Proof.Machine.execXcoll core s
  | .surveyRequest core => Sys2Proof.Machine.execSurveyRequest core s
  | .sampleRequest core => Sys2Proof.Machine.execSampleRequest core s
  | .smithyStage core => Sys2Proof.Machine.execSmithyStage core s
  | .apply core => Sys2Proof.Machine.execApply core s
  | .autoApply => Sys2Proof.Machine.execAutoApply s
  | .stash core => Sys2Proof.Machine.execStash core s
  | .unstash core => Sys2Proof.Machine.execUnstash core s
  | .parityReduction core => Sys2Proof.Machine.execParityReduction core s
  | .parityRebuildRequest core => Sys2Proof.Machine.execParityRebuildRequest core s
  | .engineCommandStart core queue => Sys2Proof.Machine.execEngineCommandStart core queue s
  | .commandRetire core queue => Sys2Proof.Machine.execCommandRetire core queue s
  | .vCommandBufferEntry core => Sys2Proof.Machine.execVCommandBufferEntry core s
  | .vRetire core ctx idx => Sys2Proof.Machine.execVRetire core ctx idx s
  | .vadd core ctx => Sys2Proof.Machine.execVadd core ctx s
  | .vsub core ctx => Sys2Proof.Machine.execVsub core ctx s
  | .vmul core ctx => Sys2Proof.Machine.execVmul core ctx s
  | .vmin core ctx => Sys2Proof.Machine.execVmin core ctx s
  | .vmax core ctx => Sys2Proof.Machine.execVmax core ctx s
  | .vand core ctx => Sys2Proof.Machine.execVand core ctx s
  | .vor core ctx => Sys2Proof.Machine.execVor core ctx s
  | .vxor core ctx => Sys2Proof.Machine.execVxor core ctx s
  | .vshl core ctx => Sys2Proof.Machine.execVshl core ctx s
  | .vsra core ctx => Sys2Proof.Machine.execVsra core ctx s
  | .vsel core ctx => Sys2Proof.Machine.execVsel core ctx s
  | .vcmplt core ctx => Sys2Proof.Machine.execVcmplt core ctx s
  | .vcmpeq core ctx => Sys2Proof.Machine.execVcmpeq core ctx s
  | .vaddi core ctx => Sys2Proof.Machine.execVaddi core ctx s
  | .vmaxi core ctx => Sys2Proof.Machine.execVmaxi core ctx s
  | .vmini core ctx => Sys2Proof.Machine.execVmini core ctx s
  | .vnarrow core ctx => Sys2Proof.Machine.execVnarrow core ctx s
  | .vwiden core ctx => Sys2Proof.Machine.execVwiden core ctx s
  | .vexp core ctx => Sys2Proof.Machine.execVexp core ctx s
  | .vlog core ctx => Sys2Proof.Machine.execVlog core ctx s
  | .vrsqrt core ctx => Sys2Proof.Machine.execVrsqrt core ctx s
  | .vrsum core ctx => Sys2Proof.Machine.execVrsum core ctx s
  | .vrmax core ctx => Sys2Proof.Machine.execVrmax core ctx s
  | .vcsum core ctx => Sys2Proof.Machine.execVcsum core ctx s
  | .vcompress core ctx => Sys2Proof.Machine.execVcompress core ctx s
  | .vexpand core ctx => Sys2Proof.Machine.execVexpand core ctx s
  | .vnorm core ctx => Sys2Proof.Machine.execVnorm core ctx s
  | .vnormb core ctx => Sys2Proof.Machine.execVnormb core ctx s
  | .vsmax core ctx => Sys2Proof.Machine.execVsmax core ctx s
  | .vsmaxb core ctx => Sys2Proof.Machine.execVsmaxb core ctx s
  | .vld core ctx => Sys2Proof.Machine.execVld core ctx s
  | .vst core ctx => Sys2Proof.Machine.execVst core ctx s
  | .vtqpop core ctx => Sys2Proof.Machine.execVtqpop core ctx s
  | .vwait core ctx => Sys2Proof.Machine.execVwait core ctx s
  | .vsignal core ctx => Sys2Proof.Machine.execVsignal core ctx s
  | .vrand core ctx => Sys2Proof.Machine.execVrand core ctx s
  | .vmov core ctx => Sys2Proof.Machine.execVmov core ctx s
  | .hbmReadComplete word outcome req => Sys2Proof.Machine.execHbmReadComplete word outcome req s
  | .readReq src va len tag stage row => Sys2Proof.Machine.execReadReq src va len tag stage row s
  | .readData home va bytes kind => Sys2Proof.Machine.execReadData home va bytes kind s
  | .write src va bytes tag => Sys2Proof.Machine.execWrite src va bytes tag s
  | .writeAck tag home => Sys2Proof.Machine.execWriteAck tag home s
  | .notHome va tag home row => Sys2Proof.Machine.execNotHome va tag home row s
  | .dirQuery src vpn => Sys2Proof.Machine.execDirQuery src vpn s
  | .dirReply vpn entry => Sys2Proof.Machine.execDirReply vpn entry s
  | .moveRequest by_ vpn source dest toHost owner accepts granted => Sys2Proof.Machine.execMoveRequest by_ vpn source dest toHost owner accepts granted s
  | .movePiece src vpn idx piece tag => Sys2Proof.Machine.execMovePiece src vpn idx piece tag s
  | .pageFlip vpn => Sys2Proof.Machine.execPageFlip vpn s
  | .signpostExpire vpn => Sys2Proof.Machine.execSignpostExpire vpn s
  | .moveAbandon vpn => Sys2Proof.Machine.execMoveAbandon vpn s
  | .inval home vpn => Sys2Proof.Machine.execInval home vpn s
  | .invalAck src vpn => Sys2Proof.Machine.execInvalAck src vpn s
  | .stageDrop vpn => Sys2Proof.Machine.execStageDrop vpn s
  | .epochEnd room => Sys2Proof.Machine.execEpochEnd room s
  | .quotaExcessPush room => Sys2Proof.Machine.execQuotaExcessPush room s
  | .frameRetirement frame => Sys2Proof.Machine.execFrameRetirement frame s
  | .scrubPoisonRebuild word parity sum => Sys2Proof.Machine.execScrubPoisonRebuild word parity sum s
  | .cellReceive port block => Sys2Proof.Machine.execCellReceive port block s
  | .idleBlock port block => Sys2Proof.Machine.execIdleBlock port block s
  | .linkRetrain port failed => Sys2Proof.Machine.execLinkRetrain port failed s
  | .portTrainComplete port peer => Sys2Proof.Machine.execPortTrainComplete port peer s
  | .linkFailed port => Sys2Proof.Machine.execLinkFailed port s
  | .linkHard ring => Sys2Proof.Machine.execLinkHard ring s
  | .membership at_ dim live => Sys2Proof.Machine.execMembership at_ dim live s
  | .stop => Sys2Proof.Machine.execStop s
  | .moduleStop => Sys2Proof.Machine.execModuleStop s
  | .recoveryStepAnnounce made classes => Sys2Proof.Machine.execRecoveryStepAnnounce made classes s
  | .replayBegin => Sys2Proof.Machine.execReplayBegin s
  | .pageRebuild vpn parity sum => Sys2Proof.Machine.execPageRebuild vpn parity sum s
  | .directoryHandover lost src entries => Sys2Proof.Machine.execDirectoryHandover lost src entries s
  | .shardRebuild lost sums told rows => Sys2Proof.Machine.execShardRebuild lost sums told rows s
  | .xsendData src addr bytes tag pass => Sys2Proof.Machine.execXsendData src addr bytes tag pass s
  | .collPartial src coll chunk lo n bytes tag => Sys2Proof.Machine.execCollPartial src coll chunk lo n bytes tag s
  | .bulkAck tag => Sys2Proof.Machine.execBulkAck tag s
  | .parityDelta src stripe bytes tag => Sys2Proof.Machine.execParityDelta src stripe bytes tag s
  | .commitCtrl src step cfg => Sys2Proof.Machine.execCommitCtrl src step cfg s
  | .commitRecordWrite => Sys2Proof.Machine.execCommitRecordWrite s
  | .deltaApply => Sys2Proof.Machine.execDeltaApply s
  | .parityBuild sums complete => Sys2Proof.Machine.execParityBuild sums complete s
  | .ringTakeover => Sys2Proof.Machine.execRingTakeover s
  | .tableAddApply src table row sums seq tag => Sys2Proof.Machine.execTableAddApply src table row sums seq tag s
  | .versionCurrent table => Sys2Proof.Machine.execVersionCurrent table s
  | .rowMoveFlip table version row => Sys2Proof.Machine.execRowMoveFlip table version row s
  | .rowSignpostExpire table version row => Sys2Proof.Machine.execRowSignpostExpire table version row s
  | .rowMoveAbandon table version row => Sys2Proof.Machine.execRowMoveAbandon table version row s
  | .trainedRowFlip table version row => Sys2Proof.Machine.execTrainedRowFlip table version row s
  | .contextSaveWrite => Sys2Proof.Machine.execContextSaveWrite s
  | .maintPartStart handle => Sys2Proof.Machine.execMaintPartStart handle s
  | .maintPartEnd handle passed last cycles bad => Sys2Proof.Machine.execMaintPartEnd handle passed last cycles bad s
  | .maintAdmissionRecheck => Sys2Proof.Machine.execMaintAdmissionRecheck s
  | .leaveHandover whole room => Sys2Proof.Machine.execLeaveHandover whole room s
  | .joinAdmission joiner locked shapeOk admitted => Sys2Proof.Machine.execJoinAdmission joiner locked shapeOk admitted s
  | .dieComponentInstall => Sys2Proof.Machine.execDieComponentInstall s
  | .telemetryImageWrite => Sys2Proof.Machine.execTelemetryImageWrite s
  | .packetAccept => Sys2Proof.Machine.execPacketAccept s
  | .replyWrite queue => Sys2Proof.Machine.execReplyWrite queue s
  | .sqTailDoorbell queue value => Sys2Proof.Machine.execSqTailDoorbell queue value s
  | .rqHeadDoorbell queue value => Sys2Proof.Machine.execRqHeadDoorbell queue value s
  | .hifEnableSet => Sys2Proof.Machine.execHifEnableSet s
  | .hifEnableClear => Sys2Proof.Machine.execHifEnableClear s
  | .hifEventsSet on => Sys2Proof.Machine.execHifEventsSet on s
  | .registerWrite off wide value => Sys2Proof.Machine.execRegisterWrite off wide value s
  | .apertureRead off len => Sys2Proof.Machine.execApertureRead off len s
  | .apertureWrite off bytes => Sys2Proof.Machine.execApertureWrite off bytes s
  | .functionLevelReset => Sys2Proof.Machine.execFunctionLevelReset s
  | .pcieHotReset => Sys2Proof.Machine.execPcieHotReset s
  | .pcieLinkDown => Sys2Proof.Machine.execPcieLinkDown s
  | .doeDiscovery index => Sys2Proof.Machine.execDoeDiscovery index s
  | .sessionOpen h => Sys2Proof.Machine.execSessionOpen h s
  | .sessionClose h => Sys2Proof.Machine.execSessionClose h s
  | .queueCreate h queue sqLog rqLog vector sqBase rqBase => Sys2Proof.Machine.execQueueCreate h queue sqLog rqLog vector sqBase rqBase s
  | .queueDelete h queue => Sys2Proof.Machine.execQueueDelete h queue s
  | .nop h d0 d1 d2 => Sys2Proof.Machine.execNop h d0 d1 d2 s
  | .moduleReset h kind => Sys2Proof.Machine.execModuleReset h kind s
  | .almanacLoad h addr len => Sys2Proof.Machine.execAlmanacLoad h addr len s
  | .almanacSwitch h step => Sys2Proof.Machine.execAlmanacSwitch h step s
  | .almanacCancel h => Sys2Proof.Machine.execAlmanacCancel h s
  | .almanacStatus h => Sys2Proof.Machine.execAlmanacStatus h s
  | .stepRun h start count at_ => Sys2Proof.Machine.execStepRun h start count at_ s
  | .stepHold h boundary => Sys2Proof.Machine.execStepHold h boundary s
  | .stepStatus h => Sys2Proof.Machine.execStepStatus h s
  | .budgetSet h cls ceil => Sys2Proof.Machine.execBudgetSet h cls ceil s
  | .rngSeed h seed step => Sys2Proof.Machine.execRngSeed h seed step s
  | .tableCreate h addr => Sys2Proof.Machine.execTableCreate h addr s
  | .tablePublish h table flags version base pages at_ known => Sys2Proof.Machine.execTablePublish h table flags version base pages at_ known s
  | .tableDestroy h table => Sys2Proof.Machine.execTableDestroy h table s
  | .tableQuery h table addr len => Sys2Proof.Machine.execTableQuery h table addr len s
  | .memAlloc h va pages tier flags mod_ host poolRoom known => Sys2Proof.Machine.execMemAlloc h va pages tier flags mod_ host poolRoom known s
  | .memFree h va pages known => Sys2Proof.Machine.execMemFree h va pages known s
  | .memAttr h va pages flags known => Sys2Proof.Machine.execMemAttr h va pages flags known s
  | .memQuery h va remote => Sys2Proof.Machine.execMemQuery h va remote s
  | .quotaSet h cls limit => Sys2Proof.Machine.execQuotaSet h cls limit s
  | .tierConfig h heat count targets poolBase poolPages => Sys2Proof.Machine.execTierConfig h heat count targets poolBase poolPages s
  | .smithyConfig h cov covPages stage stagePages => Sys2Proof.Machine.execSmithyConfig h cov covPages stage stagePages s
  | .granaryConfig h base bytes => Sys2Proof.Machine.execGranaryConfig h base bytes s
  | .fabStatus h => Sys2Proof.Machine.execFabStatus h s
  | .fabLeave h boundary => Sys2Proof.Machine.execFabLeave h boundary s
  | .fabJoin h boundary => Sys2Proof.Machine.execFabJoin h boundary s
  | .parityConfig h g dmax boundary base d p buf0 buf1 => Sys2Proof.Machine.execParityConfig h g dmax boundary base d p buf0 buf1 s
  | .maintStart h act target deadline => Sys2Proof.Machine.execMaintStart h act target deadline s
  | .maintCancel h handle => Sys2Proof.Machine.execMaintCancel h handle s
  | .maintStatus h handle => Sys2Proof.Machine.execMaintStatus h handle s
  | .coreRetire h core => Sys2Proof.Machine.execCoreRetire h core s
  | .coreReturn h core => Sys2Proof.Machine.execCoreReturn h core s
  | .timingAudit h enable => Sys2Proof.Machine.execTimingAudit h enable s
  | .ledgerRead h reg => Sys2Proof.Machine.execLedgerRead h reg s
  | .ledgerWrite h reg value => Sys2Proof.Machine.execLedgerWrite h reg value s
  | .ledgerWriteDurable => Sys2Proof.Machine.execLedgerWriteDurable s
  | .fwStage h addr len => Sys2Proof.Machine.execFwStage h addr len s
  | .fwActivate h slot => Sys2Proof.Machine.execFwActivate h slot s
  | .fwCommit => Sys2Proof.Machine.execFwCommit s
  | .fwFallback => Sys2Proof.Machine.execFwFallback s
  | .debugUnlock h addr len => Sys2Proof.Machine.execDebugUnlock h addr len s
  | .debugLock h => Sys2Proof.Machine.execDebugLock h s
  | .entropyRead h => Sys2Proof.Machine.execEntropyRead h s
  | .telemetrySnapshot h addr len => Sys2Proof.Machine.execTelemetrySnapshot h addr len s
  | .contextSave h kind halt space dest len => Sys2Proof.Machine.execContextSave h kind halt space dest len s
  | .contextRestore h space src len => Sys2Proof.Machine.execContextRestore h space src len s
  | .pldmRequestUpdate => Sys2Proof.Machine.execPldmRequestUpdate s
  | .pldmUpdateComponent ident image => Sys2Proof.Machine.execPldmUpdateComponent ident image s
  | .pldmActivateFirmware => Sys2Proof.Machine.execPldmActivateFirmware s
  | .spdmGetCertificate slot off len => Sys2Proof.Machine.execSpdmGetCertificate slot off len s
  | .spdmChallenge slot nonce => Sys2Proof.Machine.execSpdmChallenge slot nonce s
  | .spdmGetMeasurements index signed nonce => Sys2Proof.Machine.execSpdmGetMeasurements index signed nonce s
  | .logRead what seq => Sys2Proof.Machine.execLogRead what seq s
  | .eventLogStore => Sys2Proof.Machine.execEventLogStore s
  | .eventCountSave => Sys2Proof.Machine.execEventCountSave s
  | .reeveStart => Sys2Proof.Machine.execReeveStart s
  | .reeveWatchdog => Sys2Proof.Machine.execReeveWatchdog s
  | .entropyHealthFail => Sys2Proof.Machine.execEntropyHealthFail s
  | .entropyStartupTestEnd samples => Sys2Proof.Machine.execEntropyStartupTestEnd samples s
  | .entropyBlockReady samples => Sys2Proof.Machine.execEntropyBlockReady samples s
  | .supplyWarnAssert v0 v1 v2 v3 brakeLow => Sys2Proof.Machine.execSupplyWarnAssert v0 v1 v2 v3 brakeLow s
  | .supplyWarnClear lowest brakeLow => Sys2Proof.Machine.execSupplyWarnClear lowest brakeLow s
  | .brownOut sample => Sys2Proof.Machine.execBrownOut sample s
  | .standbyLoss sample => Sys2Proof.Machine.execStandbyLoss sample s
  | .thermalStage1Assert reading long => Sys2Proof.Machine.execThermalStage1Assert reading long s
  | .thermalStage1Clear reading => Sys2Proof.Machine.execThermalStage1Clear reading s
  | .thermTrip reading => Sys2Proof.Machine.execThermTrip reading s
  | .coldStart away cores stackList => Sys2Proof.Machine.execColdStart away cores stackList s
  | .warmReset perst => Sys2Proof.Machine.execWarmReset perst s
  | .warmResetRelease perst => Sys2Proof.Machine.execWarmResetRelease perst s
  | .startUpComplete => Sys2Proof.Machine.execStartUpComplete s
  | .i3cSetdasa static dynamic => Sys2Proof.Machine.execI3cSetdasa static dynamic s
  | .i3cGetstatus address => Sys2Proof.Machine.execI3cGetstatus address s
  | .jtagInstruction code priv => Sys2Proof.Machine.execJtagInstruction code priv s
  | .linkLost port => Sys2Proof.Machine.execLinkLost port s
  | .hostMemoryReadComplete addr bytes => Sys2Proof.Machine.execHostMemoryReadComplete addr bytes s
  | .configSpaceWrite w => Sys2Proof.Machine.execConfigSpaceWrite w s
  | .rowMoveRequest table version row by_ dest count ret answer => Sys2Proof.Machine.execRowMoveRequest table version row by_ dest count ret answer s
  | .rowCopy src table version row bytes tag => Sys2Proof.Machine.execRowCopy src table version row bytes tag s
  | .stageDropNotice src vpn => Sys2Proof.Machine.execStageDropNotice src vpn s

end Sys2Proof.Machine
end

