-- ==== Sys2Proof/Machine/Step.lean ====
section
/-! DEFINITION. One step of the block: the command at the front of the queue. -/

namespace Sys2Proof.Machine

/-- On an empty queue one ACLK cycle passes: CYCLE counts within the frame and stops at its last value, since the tick is a
command of its own (DESIGN CHOICE, log 1). -/
def idle (s : State) : State := { s with bel := { s.bel with cycle := min (s.bel.cycle + 1) 16383 } }

/-- The command at the front of the queue runs on the state with the queue's rest. -/
def step (s : State) : Host.Outcome State Fault Refusal :=
  match s.pending with
  | [] => .next (idle s)
  | c :: rest => exec c { s with pending := rest }

/-- No row of the opcode table gives bits, so no word spells a command and the state is unchanged (DEDUCED, log 37). -/
def State.withFetchWord (s : State) (_nbits _w : Nat) : State := s

end Sys2Proof.Machine
end

