-- ==== Sys2Proof/Safety.lean ====
section
/-! DEFINITION. What counts as a safe run of the block. -/

namespace Sys2Proof.Machine

/-- READY is 1 only with start-up complete, ENABLE set, queue 0 there and firmware not in recovery (R423, R448, R501). -/
def State.ReadySound (s : State) : Prop :=
  s.hif.ready = true → s.pwr.up = true ∧ s.hif.enable = true ∧ (mapFind s.hif.queues 0).isSome = true ∧ s.reeve.mode ≠ .recovery

/-- A step is safe when it answers a next state: no command names HBM that does not exist. -/
def State.StepSafe (s : State) : Prop := ∃ t, step s = .next t

end Sys2Proof.Machine
end

