-- ==== Sys2Proof/WellFormed.lean ====
section
/-! DEFINITION. The commands that a sender can form: what the operand types leave open is checked here. -/

namespace Sys2Proof
open Sys2Proof.Machine

/-- Bytes that do not cross a page, of which there is at least one (R239, R289). -/
def inPage (va : VA) (n : Nat) : Bool := decide (1 ≤ n) && decide (va.toNat % 65536 + n ≤ 65536)

/-- A whole page of bytes. -/
def wholePage (b : List Byte) : Bool := b.length == 65536

/-- Sizes of blocks, cells, pieces, pages, nonces and samples (R247, R271, R281, R403, R457), ranges within a page (R239),
frames and words within the HBM (R234), and fields that the spec limits more than their width does. -/
def Instr.wf : Instr → Bool
  | .mark _ block _ _ => block.length == 32
  | .cellReceive _ block => block.bytes.length == 288
  | .idleBlock _ block => block.bytes.length == 32
  | .hbmReadComplete word outcome _ => decide (word.toNat < 10485760 * 2048) && outcome != 3
  | .frameRetirement frame => decide (frame.toNat < 10485760)
  | .readReq _ va len _ _ _ => inPage va len.toNat
  | .readData _ va bytes _ => inPage va bytes.length
  | .write _ va bytes _ => inPage va bytes.length
  | .xsendData _ _ bytes _ _ => decide (1 ≤ bytes.length)
  | .movePiece _ _ _ piece _ => piece.bytes.length == 2048
  | .parityDelta _ _ bytes _ => wholePage bytes
  | .pageRebuild _ parity sum => wholePage parity && wholePage sum
  | .scrubPoisonRebuild _ parity sum => wholePage parity && wholePage sum
  | .shardRebuild _ sums _ _ => sums.all fun p => wholePage p.2
  | .parityBuild sums _ => sums.all fun p => wholePage p.2
  | .recoveryStepAnnounce _ classes => classes.all fun c => decide (c.toNat ≤ 5)
  | .apertureRead off len => decide (1 ≤ len.toNat) && decide (off.toNat + len.toNat ≤ 2 ^ 40)
  | .apertureWrite off bytes => decide (1 ≤ bytes.length) && decide (off.toNat + bytes.length ≤ 2 ^ 40)
  | .entropyBlockReady samples => samples.length == 192
  | .spdmChallenge _ nonce => nonce.length == 32
  | .spdmGetMeasurements _ _ nonce => nonce.length == 32
  | .tableAddApply _ _ _ sums _ _ => sums.all fun x => match x with
    | some v => decide (-(2 ^ 63) ≤ v) && decide (v < 2 ^ 63)
    | none => true
  | .bellTick | .markSend _ _ | .econRequestTimeout | .paceChange | .overrunCheckResume | .frameOverrun _ | .slipRecordWrite
  | .readDeadline _ | .bellLock | .bellHoldover | .bellLost | .tickInCapture | .stepBegin | .almanacSwitchEffect
  | .taskStart _ | .bundleFetch _ _ _ | .bundleIssue _ | .add _ _ _ _ _ | .sub _ _ _ _ _ | .and _ _ _ _ _
  | .or _ _ _ _ _ | .xor _ _ _ _ _ | .shl _ _ _ _ _ | .shr _ _ _ _ _ | .sra _ _ _ _ _ | .min _ _ _ _ _
  | .max _ _ _ _ _ | .slt _ _ _ _ _ | .sltu _ _ _ _ _ | .seq _ _ _ _ _ | .mul _ _ _ _ _ | .mulh _ _ _ _ _
  | .div _ _ _ _ _ | .mod _ _ _ _ _ | .li _ _ _ _ | .addi _ _ _ _ _ | .andi _ _ _ _ _ | .ori _ _ _ _ _
  | .xori _ _ _ _ _ | .shli _ _ _ _ _ | .shri _ _ _ _ _ | .srai _ _ _ _ _ | .lis _ _ _ _ | .beq _ _ _ _ _
  | .bne _ _ _ _ _ | .blt _ _ _ _ _ | .bge _ _ _ _ _ | .bltu _ _ _ _ _ | .bgeu _ _ _ _ _ | .jmp _ _ _
  | .jr _ _ _ | .waitc _ _ _ _ _ _ | .setc _ _ _ _ | .addc _ _ _ _ | .rdc _ _ _ _ | .loop _ _ _ _
  | .loopi _ _ _ _ | .lidx _ _ _ _ | .end_ _ _ | .aadd _ _ _ _ _ | .aaddi _ _ _ _ _ | .aidx _ _ _ _ _ _
  | .amov _ _ _ _ | .amovs _ _ _ _ | .ld64 _ _ _ _ _ | .ld32s _ _ _ _ _ | .ld32u _ _ _ _ _ | .ld16s _ _ _ _ _
  | .ld16u _ _ _ _ _ | .ld8s _ _ _ _ _ | .ld8u _ _ _ _ _ | .ald _ _ _ _ _ | .st64 _ _ _ _ _ | .st32 _ _ _ _ _
  | .st16 _ _ _ _ _ | .st8 _ _ _ _ _ | .ast _ _ _ _ _ | .stw _ _ _ _ _ | .stld _ _ _ _ _ _
  | .descriptorWriteEffect _ _ | .gather _ | .gmerge _ | .gcompact _ | .scatter _ | .scatterAdd _ | .lookup _
  | .fetch _ | .lookupComp _ | .pathred _ | .laneSteal _ _ | .mpass _ | .mclear _ | .mdrain _ | .mdrains _
  | .mstore _ | .mload _ | .tileQueueWrite _ | .xcopy _ | .xsend _ | .xcoll _ | .surveyRequest _
  | .sampleRequest _ | .smithyStage _ | .apply _ | .autoApply | .stash _ | .unstash _ | .parityReduction _
  | .parityRebuildRequest _ | .engineCommandStart _ _ | .commandRetire _ _ | .vCommandBufferEntry _
  | .vRetire _ _ _ | .vadd _ _ | .vsub _ _ | .vmul _ _ | .vmin _ _ | .vmax _ _ | .vand _ _ | .vor _ _
  | .vxor _ _ | .vshl _ _ | .vsra _ _ | .vsel _ _ | .vcmplt _ _ | .vcmpeq _ _ | .vaddi _ _ | .vmaxi _ _
  | .vmini _ _ | .vnarrow _ _ | .vwiden _ _ | .vexp _ _ | .vlog _ _ | .vrsqrt _ _ | .vrsum _ _ | .vrmax _ _
  | .vcsum _ _ | .vcompress _ _ | .vexpand _ _ | .vnorm _ _ | .vnormb _ _ | .vsmax _ _ | .vsmaxb _ _ | .vld _ _
  | .vst _ _ | .vtqpop _ _ | .vwait _ _ | .vsignal _ _ | .vrand _ _ | .vmov _ _ | .writeAck _ _
  | .notHome _ _ _ _ | .dirQuery _ _ | .dirReply _ _ | .moveRequest _ _ _ _ _ _ _ _ | .pageFlip _
  | .signpostExpire _ | .moveAbandon _ | .inval _ _ | .invalAck _ _ | .stageDrop _ | .epochEnd _
  | .quotaExcessPush _ | .linkRetrain _ _ | .portTrainComplete _ _ | .linkFailed _ | .linkHard _
  | .membership _ _ _ | .stop | .moduleStop | .replayBegin | .directoryHandover _ _ _
  | .collPartial _ _ _ _ _ _ _ | .bulkAck _ | .commitCtrl _ _ _ | .commitRecordWrite | .deltaApply
  | .ringTakeover | .versionCurrent _ | .rowMoveFlip _ _ _ | .rowSignpostExpire _ _ _ | .rowMoveAbandon _ _ _
  | .trainedRowFlip _ _ _ | .contextSaveWrite | .maintPartStart _ | .maintPartEnd _ _ _ _ _
  | .maintAdmissionRecheck | .leaveHandover _ _ | .joinAdmission _ _ _ _ | .dieComponentInstall
  | .telemetryImageWrite | .packetAccept | .replyWrite _ | .sqTailDoorbell _ _ | .rqHeadDoorbell _ _
  | .hifEnableSet | .hifEnableClear | .hifEventsSet _ | .registerWrite _ _ _ | .functionLevelReset
  | .pcieHotReset | .pcieLinkDown | .doeDiscovery _ | .sessionOpen _ | .sessionClose _
  | .queueCreate _ _ _ _ _ _ _ | .queueDelete _ _ | .nop _ _ _ _ | .moduleReset _ _ | .almanacLoad _ _ _
  | .almanacSwitch _ _ | .almanacCancel _ | .almanacStatus _ | .stepRun _ _ _ _ | .stepHold _ _ | .stepStatus _
  | .budgetSet _ _ _ | .rngSeed _ _ _ | .tableCreate _ _ | .tablePublish _ _ _ _ _ _ _ _ | .tableDestroy _ _
  | .tableQuery _ _ _ _ | .memAlloc _ _ _ _ _ _ _ _ _ | .memFree _ _ _ _ | .memAttr _ _ _ _ _ | .memQuery _ _ _
  | .quotaSet _ _ _ | .tierConfig _ _ _ _ _ _ | .smithyConfig _ _ _ _ _ | .granaryConfig _ _ _ | .fabStatus _
  | .fabLeave _ _ | .fabJoin _ _ | .parityConfig _ _ _ _ _ _ _ _ _ | .maintStart _ _ _ _ | .maintCancel _ _
  | .maintStatus _ _ | .coreRetire _ _ | .coreReturn _ _ | .timingAudit _ _ | .ledgerRead _ _
  | .ledgerWrite _ _ _ | .ledgerWriteDurable | .fwStage _ _ _ | .fwActivate _ _ | .fwCommit | .fwFallback
  | .debugUnlock _ _ _ | .debugLock _ | .entropyRead _ | .telemetrySnapshot _ _ _ | .contextSave _ _ _ _ _ _
  | .contextRestore _ _ _ _ | .pldmRequestUpdate | .pldmUpdateComponent _ _ | .pldmActivateFirmware
  | .spdmGetCertificate _ _ _ | .logRead _ _ | .eventLogStore | .eventCountSave | .reeveStart | .reeveWatchdog
  | .entropyHealthFail | .entropyStartupTestEnd _ | .supplyWarnAssert _ _ _ _ _ | .supplyWarnClear _ _
  | .brownOut _ | .standbyLoss _ | .thermalStage1Assert _ _ | .thermalStage1Clear _ | .thermTrip _
  | .coldStart _ _ _ | .warmReset _ | .warmResetRelease _ | .startUpComplete | .i3cSetdasa _ _ | .i3cGetstatus _
  | .jtagInstruction _ _ | .linkLost _ | .hostMemoryReadComplete _ _ | .configSpaceWrite _
  | .rowMoveRequest _ _ _ _ _ _ _ _ | .rowCopy _ _ _ _ _ _ | .stageDropNotice _ _ => true

end Sys2Proof
end

