-- ==== Sys2Proof/Certificates/Slice0/Obligations.lean ====
section
/-! DEFINITION. What the model claims of the module, stated for the provers. A statement that names a command says which
next state `exec` answers; `State.settle` in it is what every command leaves: the queue's rest as it stood, and READY. -/

open Sys2Proof Sys2Proof.Machine

/-! # The queue of commands -/

/-- The command at the front of the queue runs on the state with the queue's rest, and on an empty queue the block idles: only
CYCLE of the bell may move (the model's choice: DESIGN CHOICE, log 1). -/
def Obligations.StepRunsFrontCommand : Prop :=
  (∀ (c : Instr) (rest : List Instr) (s : State), s.pending = c :: rest →
    Sys2Proof.Machine.step s = Sys2Proof.Machine.exec c { s with pending := rest }) ∧
  (∀ s : State, s.pending = [] → Sys2Proof.Machine.step s =
    .next { s with bel := { s.bel with cycle := if s.bel.cycle < 16383 then s.bel.cycle + 1 else 16383 } })

/-- Commands run first in, first out, and no command adds, removes or reorders a waiting one: after `n` steps that all answer,
the queue is the former one without its first `n` commands. -/
def Obligations.QueueIsFirstInFirstOut : Prop :=
  ∀ (n : Nat) (s t : State), Host.Core.run Sys2Proof.core n s = .next t → t.pending = s.pending.drop n

/-- The machine after reset is idle, waits for no command, is not READY, holds no almanac, is in no step, has no session, and has no
queue that could answer a packet. -/
def Obligations.ResetState : Prop :=
  State.reset.ReadySound ∧ State.reset.pending = [] ∧ State.reset.hif.ready = false ∧ State.reset.run.state = .idle ∧
  State.reset.run.active.loaded = false ∧ State.reset.run.inStep = false ∧ State.reset.hif.session = false ∧
  State.reset.hif.queues = [] ∧ State.reset.bel.state = .free ∧ State.reset.bel.frame = 0 ∧
  State.reset.unitsEff = 0x1F ∧ State.reset.tier.xlate = [] ∧ (∀ p, (State.reset.port p).state = .down) ∧
  (∀ c, State.reset.core c = Core.reset)

/-- READY soundness is kept by every step, whatever command stands in front. -/
def Obligations.StepKeepsReadySound : Prop :=
  ∀ s t : State, s.ReadySound → Sys2Proof.Machine.step s = .next t → t.ReadySound

/-- After every step that ran a command READY reads 1 exactly with ENABLE set, start-up complete, queue 0 there and firmware
not in recovery. -/
def Obligations.ReadyIsExactAfterCommand : Prop :=
  ∀ (c : Instr) (s t : State), Sys2Proof.Machine.exec c s = .next t →
    (t.hif.ready = true ↔ t.hif.enable = true ∧ t.pwr.up = true ∧ t.reeve.mode ≠ .recovery ∧
      (mapFind t.hif.queues 0).isSome = true)

/-- Only HBM_READ_COMPLETE and FRAME_RETIREMENT can stop, and only for an HBM word (of 32 bytes) or frame (of 64 KiB) that lies at or above
the HBM's end, of which the fault names the first byte: every other command answers a next state in every state, and nothing is refused. -/
def Obligations.CommandsAnswerNextState : Prop :=
  ∀ (c : Instr) (s : State), (∃ t, Sys2Proof.Machine.exec c s = .next t) ∨
    (∃ a, Sys2Proof.Machine.exec c s = .fault (.noSuchHbm a) ∧
      ((∃ w o b, c = .hbmReadComplete w o b ∧ a = 32 * w.toNat ∧ hbmBytes ≤ a) ∨
        (∃ f, c = .frameRetirement f ∧ a = f.toNat * pageBytes ∧ hbmBytes ≤ a)))

/-! # Memories, registers and sparse files -/

/-- A byte memory keeps its canonical form under every write, a byte written is the byte read, and every other address reads
as before; so does a run of bytes. -/
def Obligations.MemoryReadsWhatWasWritten : Prop :=
  ∀ (m : Memory) (a : Nat) (bs : List Byte),
    (m.wf → (m.writeBytes a bs).wf) ∧
    (∀ i (h : i < bs.length), (m.writeBytes a bs).read (a + i) = bs[i]) ∧
    (∀ q, q < a ∨ a + bs.length ≤ q → (m.writeBytes a bs).read q = m.read q) ∧
    (∀ n q, (m.zero a n).read q = if a ≤ q ∧ q < a + n then unlisted else m.read q)

/-! # The S and A slots (spec/05) -/

namespace Sys2Proof.Claims

/-- Thread `t` of core `c` holds a task as `th` says and may issue: the module is not stopped, no fault has stopped the thread,
no descriptor write of its own is held, and in audit mode none of its results is in flight, so that no hazard can arise. -/
def Issuing (s : State) (c : CoreId) (t : ThreadId) (th : Thread) : Prop :=
  (s.core c).thread t = some th ∧ s.rec0.stopped = false ∧ th.stopped = false ∧ th.held = none ∧
    (s.audit = true → th.pend = [])

/-- The state after a bundle that issued: `k` is its core but for the thread, `results` are the new results in flight, `pc` the
next bundle, `loops` the open levels and `held` a descriptor write. Every other thread, core and block is as before. -/
def issued (s : State) (c : CoreId) (t : ThreadId) (th : Thread) (k : Core) (results : List PendReg) (pc : W64)
    (loops : List LoopLevel) (held : Option HeldWrite) : State :=
  s.setCore c { k with seq := k.seq + 1, lastIssued := t.toNat,
                       threads := mapPut k.threads t.toNat
                         { (th.age results) with pc := pc, loops := loops, held := held } }

/-- Command `i` issues as a bundle of six bytes with one result for register `d`, visible to the thread's `lat`-th following
bundle, and goes on to the sequential bundle or to the start of a loop that ends here. -/
def Writes (i : Instr) (s : State) (c : CoreId) (t : ThreadId) (th : Thread) (d : RegRef) (v : W64) (lat : Nat) : Prop :=
  exec i s = .next (s.settle (issued s c t th (s.core c) [⟨d, v, lat⟩]
    (endCheck th.pc th.loops (th.pc + 6)).2 (endCheck th.pc th.loops (th.pc + 6)).1 none))

/-- A register of a thread as its next bundle sees it. -/
def seen (th : Thread) : RegRef → W64
  | .s r => th.getS r
  | .a r => th.getA r

/-- `th` after `n` further bundles that write nothing. -/
def later : Nat → Thread → Thread
  | 0, th => th
  | n + 1, th => later n (th.age [])

/-- The start of a 1 or 0 result of a compare. -/
def flag (p : Bool) : W64 := if p then 1 else 0

/-- The bundle goes to `pc` as a taken branch: the levels whose range does not hold the target close. -/
def Jumps (i : Instr) (s : State) (c : CoreId) (t : ThreadId) (th : Thread) (pc : W64) : Prop :=
  exec i s = .next (s.settle (issued s c t th (s.core c) [] pc
    (th.loops.filter fun l => decide (l.start.toNat ≤ pc.toNat ∧ pc.toNat ≤ l.stop.toNat)) none))

/-- The bundle goes on in sequence and leaves the core `k`. -/
def GoesOn (i : Instr) (s : State) (c : CoreId) (t : ThreadId) (th : Thread) (k : Core) : Prop :=
  exec i s = .next (s.settle (issued s c t th k [] (endCheck th.pc th.loops (th.pc + 6)).2
    (endCheck th.pc th.loops (th.pc + 6)).1 none))

/-- The bundle meets a fault: no slot executes, the thread stops, and the core fault is raised (R128). -/
def Faults (code : Nat) (i : Instr) (s : State) (c : CoreId) (t : ThreadId) (th : Thread) : Prop :=
  exec i s = .next (s.settle (raise code 1 c.toNat th.task.taskId.toNat
    (s.setCore c ((s.core c).setThread t { th with stopped := true }))))

/-- A field of the bundle holds a value without meaning: ILLEGAL_OP (R128). -/
def Illegal (i : Instr) (s : State) (c : CoreId) (t : ThreadId) (th : Thread) : Prop := Faults 0x0105 i s c t th

end Sys2Proof.Claims

open Sys2Proof.Claims

/-- Table 05-8, R format: each command completes with the result the table gives and its latency of Table 05-12; DIV and MOD by
zero give 0 and ra. -/
def Obligations.ScalarRegisterResults : Prop :=
  ∀ (s : State) (c : CoreId) (t : ThreadId) (th : Thread) (rd ra rb : SReg), Issuing s c t th →
    let a := th.getS ra
    let b := th.getS rb
    Writes (.add c t rd ra rb) s c t th (.s rd) (a + b) 1 ∧
    Writes (.sub c t rd ra rb) s c t th (.s rd) (a - b) 1 ∧
    Writes (.and c t rd ra rb) s c t th (.s rd) (a &&& b) 1 ∧
    Writes (.or c t rd ra rb) s c t th (.s rd) (a ||| b) 1 ∧
    Writes (.xor c t rd ra rb) s c t th (.s rd) (a ^^^ b) 1 ∧
    Writes (.shl c t rd ra rb) s c t th (.s rd) (BitVec.ofNat 64 (a.toNat * 2 ^ (b.toNat % 64))) 1 ∧
    Writes (.shr c t rd ra rb) s c t th (.s rd) (BitVec.ofNat 64 (a.toNat / 2 ^ (b.toNat % 64))) 1 ∧
    Writes (.sra c t rd ra rb) s c t th (.s rd) (BitVec.ofInt 64 (a.toInt / 2 ^ (b.toNat % 64))) 1 ∧
    Writes (.min c t rd ra rb) s c t th (.s rd) (BitVec.ofInt 64 (min a.toInt b.toInt)) 1 ∧
    Writes (.max c t rd ra rb) s c t th (.s rd) (BitVec.ofInt 64 (max a.toInt b.toInt)) 1 ∧
    Writes (.slt c t rd ra rb) s c t th (.s rd) (flag (a.toInt < b.toInt)) 1 ∧
    Writes (.sltu c t rd ra rb) s c t th (.s rd) (flag (a.toNat < b.toNat)) 1 ∧
    Writes (.seq c t rd ra rb) s c t th (.s rd) (flag (a = b)) 1 ∧
    Writes (.mul c t rd ra rb) s c t th (.s rd) (a * b) 3 ∧
    Writes (.mulh c t rd ra rb) s c t th (.s rd) (BitVec.ofInt 64 (a.toInt * b.toInt / 2 ^ 64)) 4 ∧
    Writes (.div c t rd ra rb) s c t th (.s rd)
      (if b = 0 then 0 else BitVec.ofInt 64 ⌊(a.toInt : ℚ) / (b.toInt : ℚ)⌋) 18 ∧
    Writes (.mod c t rd ra rb) s c t th (.s rd)
      (if b = 0 then a else BitVec.ofInt 64 (a.toInt - b.toInt * ⌊(a.toInt : ℚ) / (b.toInt : ℚ)⌋)) 18

/-- Table 05-8, I format: each command completes with the result the table gives; shift amounts are IMM[5:0]. -/
def Obligations.ScalarImmediateResults : Prop :=
  ∀ (s : State) (c : CoreId) (t : ThreadId) (th : Thread) (rd ra : SReg) (imm : BitVec 16) (level : BitVec 2) (ctr : ScReg),
    Issuing s c t th →
    let a := th.getS ra
    Writes (.li c t rd imm) s c t th (.s rd) (imm.signExtend 64) 1 ∧
    Writes (.addi c t rd ra imm) s c t th (.s rd) (a + imm.signExtend 64) 1 ∧
    Writes (.andi c t rd ra imm) s c t th (.s rd) (a &&& imm.zeroExtend 64) 1 ∧
    Writes (.ori c t rd ra imm) s c t th (.s rd) (a ||| imm.zeroExtend 64) 1 ∧
    Writes (.xori c t rd ra imm) s c t th (.s rd) (a ^^^ imm.zeroExtend 64) 1 ∧
    Writes (.shli c t rd ra imm) s c t th (.s rd) (BitVec.ofNat 64 (a.toNat * 2 ^ (imm.toNat % 64))) 1 ∧
    Writes (.shri c t rd ra imm) s c t th (.s rd) (BitVec.ofNat 64 (a.toNat / 2 ^ (imm.toNat % 64))) 1 ∧
    Writes (.srai c t rd ra imm) s c t th (.s rd) (BitVec.ofInt 64 (a.toInt / 2 ^ (imm.toNat % 64))) 1 ∧
    Writes (.lis c t rd imm) s c t th (.s rd) (BitVec.ofNat 64 ((th.getS rd).toNat * 65536 + imm.toNat)) 1 ∧
    Writes (.rdc c t ctr rd) s c t th (.s rd) (((s.core c).counter (th.task.ctr ctr)).zeroExtend 64) 2 ∧
    Writes (.lidx c t rd level) s c t th (.s rd)
      (match th.loops[level.toNat]? with
       | some l => BitVec.ofNat 64 (l.count - l.left)
       | none => 0) 1

/-- A result becomes visible to the thread's k-th following bundle, and earlier bundles read the old value: of a thread's results in
flight and those just issued, with their latencies left, the (n + 1)-th following bundle reads in a register the one that became visible
last by then, and the old value where none has. A bundle of another thread changes nothing of this thread's registers and results in flight, and a bundle
that waits changes nothing at all, so that neither changes what a bundle reads (R92). -/
def Obligations.ResultsVisibleAfterLatency : Prop :=
  (∀ (th : Thread) (new : List PendReg) (d : RegRef) (n : Nat),
    (∀ v k, ⟨d, v, k⟩ ∈ th.pend ++ new → 1 ≤ k → k ≤ n + 1 →
      (∀ p ∈ th.pend ++ new, p.dest = d → p.left ≤ n + 1 → p = ⟨d, v, k⟩ ∨ max 1 p.left < k) → seen (later n (th.age new)) d = v) ∧
    ((∀ p ∈ th.pend ++ new, p.dest = d → n + 1 < p.left) → seen (later n (th.age new)) d = seen th d)) ∧
  (∀ (s : State) (c o : CoreId) (t u : ThreadId) (b : Bundle), (o, u) ≠ (c, t) →
    ((issueBundle o u b s).core c).thread t = (s.core c).thread t) ∧
  (∀ (s : State) (c : CoreId) (t : ThreadId) (th : Thread) (b : Bundle), (s.core c).thread t = some th → b.illegal th = false →
    (waitcHolds (s.core c) th b = false ∨ queuesReady s (s.core c) b = false) → issueBundle c t b s = s)

/-- For a divisor other than zero MOD has the sign of the divisor and is smaller in magnitude, and DIV is the floor quotient:
dividend = quotient · divisor + remainder modulo 2^64. By zero DIV gives 0 and MOD the dividend. −2^63 by −1 gives −2^63
and 0 (R139). -/
def Obligations.DivisionIsFloor : Prop :=
  ∀ a b : W64,
    (b ≠ 0 → a = aluResult .div a b * b + aluResult .mod a b ∧
      ((aluResult .mod a b).toInt = 0 ∨ ((aluResult .mod a b).toInt < 0 ↔ b.toInt < 0)) ∧
      (aluResult .mod a b).toInt.natAbs < b.toInt.natAbs) ∧
    aluResult .div a 0 = 0 ∧ aluResult .mod a 0 = a ∧
    aluResult .div (BitVec.ofInt 64 (-(2 ^ 63))) (BitVec.ofInt 64 (-1)) = BitVec.ofInt 64 (-(2 ^ 63)) ∧
    aluResult .mod (BitVec.ofInt 64 (-(2 ^ 63))) (BitVec.ofInt 64 (-1)) = 0

/-- A branch whose comparison holds, JMP and JR go to the bundle's own start plus 2 × OFFSET (JR: the register with bit 0 cleared)
and write no register; a branch whose comparison fails leaves the next bundle sequential (R139, R154). SETC and ADDC change their
counter in the issue cycle and nothing else but the thread's progress; WAITC holds its whole bundle, with no effect at all, until
the condition holds, and then issues (R145, R100); COND 0b11 has no meaning and raises ILLEGAL_OP, and no slot executes (R128,
R133). -/
def Obligations.BranchesAndCounters : Prop :=
  (∀ (s : State) (c : CoreId) (t : ThreadId) (th : Thread) (ra rb : SReg) (off : BitVec 16) (far : BitVec 26),
    Issuing s c t th →
    let a := th.getS ra
    let b := th.getS rb
    let to_ := th.pc + 2 * off.signExtend 64
    let way (i : Instr) (p : Prop) : Prop := (p → Jumps i s c t th to_) ∧ (¬ p → GoesOn i s c t th (s.core c))
    way (.beq c t ra rb off) (a = b) ∧ way (.bne c t ra rb off) (a ≠ b) ∧
    way (.blt c t ra rb off) (a.toInt < b.toInt) ∧ way (.bge c t ra rb off) (b.toInt ≤ a.toInt) ∧
    way (.bltu c t ra rb off) (a.toNat < b.toNat) ∧ way (.bgeu c t ra rb off) (b.toNat ≤ a.toNat) ∧
    Jumps (.jmp c t far) s c t th (th.pc + 2 * far.signExtend 64) ∧
    Jumps (.jr c t ra) s c t th (BitVec.ofNat 64 (a.toNat / 2 * 2))) ∧
  (∀ (s : State) (c : CoreId) (t : ThreadId) (th : Thread) (ctr : ScReg) (r : SReg) (v : BitVec 16) (cond : BitVec 2) (reg : Bool),
    Issuing s c t th →
    let k := s.core c
    let n := k.counter (th.task.ctr ctr)
    let value := if reg then (th.getS (v.truncate 5)).truncate 16 else v
    let holds := cond = 0 ∨ (cond = 1 ∧ n = value) ∨ (cond = 2 ∧ (n - value).toNat < 2 ^ 15)
    GoesOn (.setc c t ctr r) s c t th (k.setCounter (th.task.ctr ctr) ((th.getS r).truncate 16)) ∧
    GoesOn (.addc c t ctr v) s c t th (k.setCounter (th.task.ctr ctr) (n + v)) ∧
    (holds → GoesOn (.waitc c t ctr cond reg v) s c t th k) ∧
    (cond ≠ 3 → ¬ holds → exec (.waitc c t ctr cond reg v) s = .next (s.settle s)) ∧
    (cond = 3 → Illegal (.waitc c t ctr cond reg v) s c t th))

/-- LOOP and LOOPI with a count of at least 1, an end address not below the end of their bundle nor beyond the innermost open
level, and fewer than four levels open, open a level that starts at the next bundle (R150, R152). With a count of 0, be four levels open
or not, no level opens and the bundle at the end address is skipped once its header has told its length; until then nothing changes (R151). When a bundle that starts at the end of the innermost
open level completes without a taken branch, its remaining count falls by 1: above 0 the next bundle is at the level's start, at 0
the level closes and the next level is checked at once, and after the last closure the next bundle is the sequential one; a level
that ends elsewhere is left alone (R153). LOOP and LOOPI raise LOOP_FAULT, and no slot executes, when the end lies below the end
of their bundle, when it lies beyond the end of the innermost open level, or when four levels are open and the count is at least 1
(R150, R152). -/
def Obligations.LoopsOpenRepeatAndClose : Prop :=
  (∀ (s : State) (c : CoreId) (t : ThreadId) (th : Thread) (rc : SReg) (cnt : BitVec 14) (stop : BitVec 12),
    let e := th.pc + 2 * stop.zeroExtend 64
    let opens (i : Instr) (n : Nat) : Prop :=
      (1 ≤ n → th.loops.length < 4 → exec i s = .next (s.settle (issued s c t th (s.core c) [] (th.pc + 6)
        (⟨th.pc + 6, e, n, n⟩ :: th.loops) none))) ∧
      (n = 0 → mapFind (s.core c).code e.toNat = none → mapFind (s.core c).heads e.toNat = none →
        exec i s = .next (s.settle s)) ∧
      (n = 0 → ∀ len, ((∃ bytes, mapFind (s.core c).code e.toNat = some bytes ∧ len = bundleLen (natOfBytes (bytes.take 2))) ∨
          (mapFind (s.core c).code e.toNat = none ∧ mapFind (s.core c).heads e.toNat = some len)) →
        let next := e + BitVec.ofNat 64 len
        exec i s = .next (s.settle (issued s c t th (s.core c) [] (endCheck e th.loops next).2
          (endCheck e th.loops next).1 none)))
    Issuing s c t th → th.pc.toNat + 6 ≤ e.toNat → (∀ l, th.loops.head? = some l → e.toNat ≤ l.stop.toNat) →
      opens (.loop c t rc stop) ((th.getS rc).toNat % 2 ^ 32) ∧ opens (.loopi c t cnt stop) cnt.toNat) ∧
  (∀ (addr next : W64) (l : LoopLevel) (rest : List LoopLevel),
    (l.stop = addr → 1 < l.left → endCheck addr (l :: rest) next = ({ l with left := l.left - 1 } :: rest, l.start)) ∧
    (l.stop = addr → l.left ≤ 1 → endCheck addr (l :: rest) next = endCheck addr rest next) ∧
    (l.stop ≠ addr → endCheck addr (l :: rest) next = (l :: rest, next)) ∧ endCheck addr [] next = ([], next)) ∧
  (∀ (s : State) (c : CoreId) (t : ThreadId) (th : Thread) (rc : SReg) (cnt : BitVec 14) (stop : BitVec 12),
    let e := th.pc + 2 * stop.zeroExtend 64
    let bad (n : Nat) : Prop := e.toNat < th.pc.toNat + 6 ∨ (∃ l, th.loops.head? = some l ∧ l.stop.toNat < e.toNat) ∨
      (4 ≤ th.loops.length ∧ 1 ≤ n)
    Issuing s c t th → (bad ((th.getS rc).toNat % 2 ^ 32) → Faults 0x0107 (.loop c t rc stop) s c t th) ∧
      (bad cnt.toNat → Faults 0x0107 (.loopi c t cnt stop) s c t th))

/-- END frees its thread and discards its loop levels; the task ends with its last thread (R90), and with it may end the last use of
a table version (R373). -/
def Obligations.EndFreesThread : Prop :=
  ∀ (s : State) (c : CoreId) (t : ThreadId) (th : Thread), Issuing s c t th →
    let k := s.core c
    exec (.end_ c t) s = .next (s.settle (s.setCore c { k with
      seq := k.seq + 1, lastIssued := t.toNat, threads := mapErase k.threads t.toNat,
      tasks := k.tasks.map fun i => if i.ctx.uid = th.task.uid then
        { i with live := i.live - 1, stage := if i.live ≤ 1 then .ended else i.stage } else i }).sweepVersions)

/-- Table 05-9: address arithmetic completes with the results and latencies of Table 05-12. -/
def Obligations.AddressResults : Prop :=
  ∀ (s : State) (c : CoreId) (t : ThreadId) (th : Thread) (ad aa : AReg) (sb : SReg) (imm : BitVec 13) (sh : BitVec 3),
    Issuing s c t th →
    let a := th.getA aa
    let b := th.getS sb
    Writes (.aadd c t ad aa sb) s c t th (.a ad) (a + b) 1 ∧
    Writes (.aaddi c t ad aa imm) s c t th (.a ad) (a + imm.signExtend 64) 1 ∧
    Writes (.aidx c t ad aa sb sh) s c t th (.a ad) (BitVec.ofNat 64 (a.toNat + b.toNat * 2 ^ sh.toNat)) 2 ∧
    Writes (.amov c t ad sb) s c t th (.a ad) b 1 ∧
    Writes (.amovs c t aa sb) s c t th (.s sb) a 1

/-- Loads: little-endian bytes of the local store from LS_BASE + a[AA] + IMM13, extended as Table 05-9 says, with the latency
of Table 05-12; no byte of any memory changes. The whole access lies below the local store's limit (R94, R140). That a word which holds
an uncorrectable error is loaded as any other is the model's choice (DESIGN CHOICE, log 39). -/
def Obligations.LoadResults : Prop :=
  ∀ (s : State) (c : CoreId) (t : ThreadId) (th : Thread) (ad aa : AReg) (sb : SReg) (imm : BitVec 13) (p : Nat),
    Issuing s c t th →
    let m := (s.core c).ls
    let at_ (n : Nat) : Prop := th.task.lsAddr (th.getA aa + imm.signExtend 64).toNat n = some p
    (at_ 8 → Writes (.ld64 c t aa sb imm) s c t th (.s sb) (BitVec.ofNat 64 (m.readNat p 8)) 4) ∧
    (at_ 4 → Writes (.ld32s c t aa sb imm) s c t th (.s sb) ((BitVec.ofNat 32 (m.readNat p 4)).signExtend 64) 4) ∧
    (at_ 4 → Writes (.ld32u c t aa sb imm) s c t th (.s sb) (BitVec.ofNat 64 (m.readNat p 4)) 4) ∧
    (at_ 2 → Writes (.ld16s c t aa sb imm) s c t th (.s sb) ((BitVec.ofNat 16 (m.readNat p 2)).signExtend 64) 4) ∧
    (at_ 2 → Writes (.ld16u c t aa sb imm) s c t th (.s sb) (BitVec.ofNat 64 (m.readNat p 2)) 4) ∧
    (at_ 1 → Writes (.ld8s c t aa sb imm) s c t th (.s sb) ((BitVec.ofNat 8 (m.readNat p 1)).signExtend 64) 4) ∧
    (at_ 1 → Writes (.ld8u c t aa sb imm) s c t th (.s sb) (BitVec.ofNat 64 (m.readNat p 1)) 4) ∧
    (at_ 8 → Writes (.ald c t ad aa imm) s c t th (.a ad) (BitVec.ofNat 64 (m.readNat p 8)) 4)

/-- Stores: the low bytes of s[SB] (AST: a[AD]) go to the local store from LS_BASE + a[AA] + IMM13, the least significant byte
first; every other byte of the local store reads as before, and no register changes (R140, R94). That a store clears the error marks of the
words it writes whole, and treats a marked word as any other, is the model's choice (DESIGN CHOICE, log 122 and log 39). A load or store that reaches the
local store's limit raises LS_RANGE and performs no part of the access: nothing changes but the thread, which stops, and what the
fault leaves (R94). -/
def Obligations.StoresAndTheirRange : Prop :=
  (∀ (s : State) (c : CoreId) (t : ThreadId) (th : Thread) (ad aa : AReg) (sb : SReg) (imm : BitVec 13) (p : Nat),
    Issuing s c t th →
    let k := s.core c
    let stores (i : Instr) (n : Nat) (v : W64) : Prop :=
      th.task.lsAddr (th.getA aa + imm.signExtend 64).toNat n = some p →
        ∃ m : Memory, (∀ q, m.read q = if p ≤ q ∧ q < p + n then BitVec.ofNat 8 (v.toNat / 256 ^ (q - p)) else k.ls.read q) ∧
          GoesOn i s c t th { k with ls := m, errors := { k.errors with
            ls := k.errors.ls.filter fun w => !(decide (p ≤ w) && decide (w + 8 ≤ p + n)) } }
    stores (.st64 c t aa sb imm) 8 (th.getS sb) ∧ stores (.st32 c t aa sb imm) 4 (th.getS sb) ∧
    stores (.st16 c t aa sb imm) 2 (th.getS sb) ∧ stores (.st8 c t aa sb imm) 1 (th.getS sb) ∧
    stores (.ast c t ad aa imm) 8 (th.getA ad)) ∧
  (∀ (s : State) (c : CoreId) (t : ThreadId) (th : Thread) (ad aa : AReg) (sb : SReg) (imm : BitVec 13) (n : BitVec 4),
    Issuing s c t th →
    let out (i : Instr) (bytes : Nat) : Prop := th.task.lsAddr (th.getA aa + imm.signExtend 64).toNat bytes = none →
      Faults 0x0104 i s c t th
    out (.ld64 c t aa sb imm) 8 ∧ out (.ld32s c t aa sb imm) 4 ∧ out (.ld32u c t aa sb imm) 4 ∧ out (.ld16s c t aa sb imm) 2 ∧
    out (.ld16u c t aa sb imm) 2 ∧ out (.ld8s c t aa sb imm) 1 ∧ out (.ld8u c t aa sb imm) 1 ∧ out (.ald c t ad aa imm) 8 ∧
    out (.st64 c t aa sb imm) 8 ∧ out (.st32 c t aa sb imm) 4 ∧ out (.st16 c t aa sb imm) 2 ∧ out (.st8 c t aa sb imm) 1 ∧
    out (.ast c t ad aa imm) 8 ∧ (ad.toNat + n.toNat ≤ 15 → out (.stld c t ad aa n imm) (32 * (n.toNat + 1))))

/-- STW and STLD issue with their bundle and hold their write; the descriptor write takes effect once no earlier command that
names the descriptor waits to start, and the thread is ready again (R98). A write of the bundle of an END takes effect in the same
way although its thread has ended (R90). A field number of STW above 8, and images of STLD beyond st15, have no meaning and raise
ILLEGAL_OP (R140, R128). -/
def Obligations.DescriptorWrites : Prop :=
  ∀ (s : State) (c : CoreId) (t : ThreadId) (th : Thread),
    let k := s.core c
    let next := endCheck th.pc th.loops (th.pc + 6)
    (∀ (ad : StReg) (fld : BitVec 4) (sb : SReg), Issuing s c t th → fld.toNat ≤ 8 → exec (.stw c t ad fld sb) s =
      .next (s.settle (issued s c t th k [] next.2 next.1 (some ⟨.field (th.task.stReg ad) fld (th.getS sb), k.seq + 1⟩)))) ∧
    (∀ (ad : StReg) (aa : AReg) (n : BitVec 4) (imm : BitVec 13) (p : Nat), Issuing s c t th → ad.toNat + n.toNat ≤ 15 →
      th.task.lsAddr (th.getA aa + imm.signExtend 64).toNat (32 * (n.toNat + 1)) = some p → exec (.stld c t ad aa n imm) s =
      .next (s.settle (issued s c t th k [] next.2 next.1 (some ⟨.images ad ((List.range (n.toNat + 1)).map fun i =>
        Desc.ofBytes ((k.ls.readBytes p (32 * (n.toNat + 1))).drop (32 * i))), k.seq + 1⟩)))) ∧
    (∀ (ad : StReg) (fld : BitVec 4) (sb : SReg), Issuing s c t th → 8 < fld.toNat → Illegal (.stw c t ad fld sb) s c t th) ∧
    (∀ (ad : StReg) (aa : AReg) (n : BitVec 4) (imm : BitVec 13), Issuing s c t th → 15 < ad.toNat + n.toNat →
      Illegal (.stld c t ad aa n imm) s c t th) ∧
    (∀ e, k.endedWrite t = some e → exec (.descriptorWriteEffect c t) s =
      .next (s.settle (s.setCore c { k.applyDesc e.2.1 e.2.2 with ended := k.ended.erase e }))) ∧
    (∀ (b : Bundle) (loops : List LoopLevel) (i : AInstr) (w : DescWrite), b.s = some .stop → b.a = some i →
      aDescWrite th (aBytes k th i) i = some w → (executeBundle s.unitsEff t th b loops next.2 k).ended =
        k.ended ++ [(t.toNat, (th.task, ⟨w, k.seq + 1⟩))]) ∧
    (∀ h : HeldWrite, k.endedWrite t = none → k.thread t = some th → th.held = some h → k.heldBlocked th.task h = false →
      exec (.descriptorWriteEffect c t) s =
        .next (s.settle (s.setCore c ((k.applyDesc th.task h).setThread t { th with held := none })))) ∧
    (∀ h : HeldWrite, k.endedWrite t = none → k.thread t = some th → th.held = some h → k.heldBlocked th.task h = true →
      exec (.descriptorWriteEffect c t) s = .next (s.settle s))

/-- BUNDLE_FETCH of the bundle at the thread's pc puts its bytes into the code buffer once they can be read, and of a bundle that the
thread skips the length that its header tells; BUNDLE_ISSUE issues the whole bundle of the first ready thread in thread order after the
last one, each slot once (R91, R93, R127, R151). Where no thread is ready, nothing issues. In audit mode a bundle that meets no other fault
and reads a register whose result is in flight, or one of whose results would become visible to a register together with one in flight,
does not execute: its thread stops, TIMING_HAZARD is raised, and the first hazard since the registers were cleared stands in CORE_HAZARD and
CORE_HAZARD_ADDR, with KIND 0 or 2, THREAD, REG, TASK_ID and the bundle's address (R162, R163). Which of several faults or hazards is
taken, and VCTX 0, are the model's choices (DESIGN CHOICE, log 131 and log 168). -/
def Obligations.BundlesFetchAndIssue : Prop :=
  ∀ (s : State) (c : CoreId),
    (∀ (t : ThreadId) (th : Thread), (s.core c).thread t = some th → s.rec0.stopped = false → th.stopped = false →
      (∀ (bytes : List Byte) (w : EWork), mapFind (s.core c).code th.pc.toNat = none →
        (fetchBytes th.pc.toNat).run (.start s c (64 + t.toNat) th.task) = .ok bytes w →
        ∃ u, exec (.bundleFetch c t th.pc) s = .next u ∧
          (u.core c) = { w.s.core c with code := mapPut (w.s.core c).code th.pc.toNat bytes }) ∧
      (∀ (addr : W64) (bytes : List Byte) (w : EWork), addr ∈ fetchWanted (s.core c) th → addr ≠ th.pc →
        mapFind (s.core c).code addr.toNat = none → mapFind (s.core c).heads addr.toNat = none →
        (vaRead addr.toNat 2).run (.start s c (64 + t.toNat) th.task) = .ok bytes w →
        ∃ u, exec (.bundleFetch c t addr) s = .next u ∧
          (u.core c) = { w.s.core c with
            heads := mapPut (w.s.core c).heads addr.toNat (bundleLen (natOfBytes bytes)) }) ∧
      (∀ (bytes : List Byte) (b : Bundle) (loops : List LoopLevel) (next : W64), th.held = none →
        (issueOrder (s.core c)).find? (readyAt s (s.core c)) = some t.toNat →
        mapFind (s.core c).code th.pc.toNat = some bytes → decodeBundle bytes = some b →
        issueFault s (s.core c) th b = none → nextBundle b th (s.core c).lenAt = some (loops, next) →
        exec (.bundleIssue c) s =
          .next (s.settle (s.setCore c (executeBundle s.unitsEff t th b loops next (s.core c))).sweepVersions))) ∧
    ((issueOrder (s.core c)).find? (readyAt s (s.core c)) = none → exec (.bundleIssue c) s = .next (s.settle s.sweepVersions)) ∧
    (∀ (th : Thread) (b : Bundle), s.audit = true → issueFault { s with audit := false } (s.core c) th b = none →
      let tagged (r : RegRef) : Prop := ∃ p ∈ th.pend, p.dest = r
      let results := bundleResults (s.core c) th b
      ((∃ r ∈ b.reads, tagged r) → ∃ r ∈ b.reads, tagged r ∧ issueFault s (s.core c) th b = some (.hazard 0 r)) ∧
      ((∀ r ∈ b.reads, ¬ tagged r) → (∃ x ∈ results, ∃ p ∈ th.pend, p.dest = x.dest ∧ p.left = x.left) →
        ∃ x ∈ results, (∃ p ∈ th.pend, p.dest = x.dest ∧ p.left = x.left) ∧
          issueFault s (s.core c) th b = some (.hazard 2 x.dest)) ∧
      ((∀ r ∈ b.reads, ¬ tagged r) → th.pend = [] → results.length ≤ 1 → issueFault s (s.core c) th b = none)) ∧
    (∀ (t : ThreadId) (th : Thread) (bytes : List Byte) (b : Bundle) (kind : Nat) (r : RegRef), (s.core c).thread t = some th →
      s.rec0.stopped = false → (issueOrder (s.core c)).find? (readyAt s (s.core c)) = some t.toNat →
      mapFind (s.core c).code th.pc.toNat = some bytes → decodeBundle bytes = some b →
      issueFault s (s.core c) th b = some (.hazard kind r) →
      let k := s.core c
      let reg := match r with
        | .s n => n.toNat
        | .a n => 32 + n.toNat
      let regs : CoreRegs := if k.regs.hazard.getLsbD 63 then k.regs else { k.regs with
        hazard := BitVec.ofNat 64 (2 ^ 63 + kind * 2 ^ 61 + t.toNat * 2 ^ 49 + reg * 2 ^ 43 + th.task.taskId.toNat),
        hazardAddr := BitVec.ofNat 64 (th.pc.toNat % 2 ^ 52) }
      exec (.bundleIssue c) s = .next (s.settle (raise 0x0108 1 c.toNat th.task.taskId.toNat
        (s.setCore c { k.setThread t { th with stopped := true } with regs := regs })).sweepVersions))

/-! # Engine queues, the gather engine, the mill and the transfer engine (spec/04, spec/06, spec/09) -/

namespace Sys2Proof.Claims

/-- Queue `q` of core `c` runs the command `r` of that slot, opcode and TGT, whose work is not done and which no fault has
stopped. -/
def Runs (s : State) (c : CoreId) (q : Nat) (slot : Slot) (op : BitVec 6) (tgt : BitVec 4) (r : Run) : Prop :=
  ((s.core c).queue q).run = some r ∧ r.cmd.slot = slot ∧ r.cmd.op = op ∧ r.cmd.tgt = tgt ∧ r.done = false ∧ r.failed = false

/-- The state in which the command's work begins: queue 0 has divided the command into lane tasks, where its list can be read. -/
def workState (s : State) (c : CoreId) (q : Nat) : State := if q = 0 then fillLanes c s else s

/-- Where the command's work begins: the state, the core and queue, the task it captured; a unit whose accesses wait for their meters
has issued `paid` of them in earlier attempts, and a surveyor's wait for HOST too. -/
def workFrom (s : State) (c : CoreId) (q : Nat) (r : Run) : EWork :=
  ⟨workState s c q, c, q, r.args.task, false, 0, r.cmd.metered, r.cmd.metered && r.cmd.tgt == 1, r.paid, 0⟩

/-- The work completes, every read it asked for having come: `w` is where it ends. -/
def Completes (work : EM Unit) (s : State) (c : CoreId) (q : Nat) (r : Run) (w : EWork) : Prop :=
  work.run (workFrom s c q r) = .ok () w ∧ w.missing = false

/-- The command's work is done: everything it wrote stands, it awaits its acknowledgements, and what it asked for is
forgotten. -/
def finished (c : CoreId) (q : Nat) (w : EWork) : State :=
  { (w.s.modCore c fun k => k.markDone q w.acks) with tier := w.s.tier.forget (.engine c q) }

/-- The row does the work of the started command, unless its unit has owed work of another source to do first: it completes, waits for
data leaving only its requests, or stops with the core fault it meets at the point it has reached. -/
def DoesWork (i : Instr) (work : EM Unit) (s : State) (c : CoreId) (q : Nat) (r : Run) : Prop :=
  (s.yields c r = true → exec i s = .next (s.settle s)) ∧ (s.yields c r = false →
  (∀ w, Completes work s c q r w → exec i s = .next (s.settle (finished c q w))) ∧
  (∀ w, work.run (workFrom s c q r) = .ok () w → w.missing = true → exec i s = .next (s.settle (w.waits (workState s c q)))) ∧
  (∀ w, work.run (workFrom s c q r) = .error .wait w → exec i s = .next (s.settle (w.waits (workState s c q)))) ∧
  (∀ w code, work.run (workFrom s c q r) = .error (.fault code) w → exec i s = .next (s.settle
    (raise code 1 c.toNat r.args.task.taskId.toNat
      { (w.s.modCore c fun k => k.markFailed q) with tier := w.s.tier.forget (.engine c q) }))))

/-- A STASH that starts takes its slot, where the almanac declares it and it is EMPTY: the slot is PENDING. -/
def takesSlot (c : CoreId) (q : Nat) (cmd : EngCmd) (a : EArgs) (s : State) : State :=
  if cmd.slot = .x ∧ cmd.op = 2 ∧ cmd.tgt = 5 then
    match s.run.active.slotEntry (a.param.toNat / 2 ^ 48), mapFind s.granary.slots (a.param.toNat / 2 ^ 48) with
    | some _, none => { s with granary := { s.granary with
        slots := mapPut s.granary.slots (a.param.toNat / 2 ^ 48) ⟨.pending, c.toNat * 16 + q, 0⟩ } }
    | _, _ => s
  else s

/-- A descriptor in the local store with one access, of `n` bytes at task offset `a`. -/
def oneAccess (a n : Nat) : Desc :=
  { base := BitVec.ofNat 64 a, stride0 := 0, stride1 := 0, stride2 := 0, count0 := 1, count1 := 1, count2 := 1,
    size := BitVec.ofNat 16 n, space := 1 }

end Sys2Proof.Claims

/-- Every command of the gather engine, the mill and the transfer engine does its work when it is the started command of its
queue (R106, R183): GATHER to PATHRED in queue 0, MPASS to MLOAD in queue 1, XCOPY, XSEND and XCOLL in queue 3. A port and the
collective engines serve owed work first (R50). That all the work of a command is one step, and that it is tried anew while it waits for
data, are the model's choices (DEDUCED, log 5; log 154). -/
def Obligations.EngineCommandsDoTheirWork : Prop :=
  ∀ (s : State) (c : CoreId) (r : Run),
    let g (i : Instr) (op : BitVec 6) (w : EArgs → EM Unit) : Prop := Runs s c 0 .g op 0 r → DoesWork i (w r.args) s c 0 r
    let m (i : Instr) (op : BitVec 6) (w : EArgs → EM Unit) : Prop := Runs s c 1 .m op 0 r → DoesWork i (w r.args) s c 1 r
    let x (i : Instr) (op : BitVec 6) (w : EArgs → EM Unit) : Prop := Runs s c 3 .x op 0 r → DoesWork i (w r.args) s c 3 r
    g (.gather c) 1 gatherWork ∧ g (.gmerge c) 2 (mergeWork false) ∧ g (.gcompact c) 3 (mergeWork true) ∧
    g (.scatter c) 4 scatterWork ∧ g (.scatterAdd c) 5 scatterAddAny ∧ g (.lookup c) 6 lookupWork ∧ g (.fetch c) 7 fetchWork ∧
    g (.lookupComp c) 8 lookupCompWork ∧ g (.pathred c) 9 pathredWork ∧ m (.mpass c) 1 mpassWork ∧ m (.mclear c) 2 mclearWork ∧
    m (.mstore c) 5 mstoreWork ∧ m (.mload c) 6 mloadWork ∧ x (.xcopy c) 1 xcopyWork ∧ x (.xsend c) 3 xsendWork ∧
    x (.xcoll c) 4 xcollWork

/-- Surveyor, sampler, smithy-staging, UNSTASH and parity-rebuild requests do their work in the queue that the enable set gives
their TGT (R105, R132); surveyors and samplers serve owed work first (R50). All the work in one step, and tried anew
while it waits, are the model's choices (DEDUCED, log 5; log 154), as is that the parity-rebuild request only completes (DESIGN CHOICE, log
44). -/
def Obligations.UnitRequestsDoTheirWork : Prop :=
  ∀ (s : State) (c : CoreId) (r : Run) (q : Nat),
    let u (i : Instr) (tgt : BitVec 4) (w : EArgs → EM Unit) : Prop :=
      tgtQueue s.unitsEff tgt.toNat = some q → Runs s c q .x 2 tgt r → DoesWork i (w r.args) s c q r
    u (.surveyRequest c) 1 surveyWork ∧ u (.sampleRequest c) 2 sampleWork ∧ u (.smithyStage c) 3 smithyStageWork ∧
    u (.unstash c) 6 unstashWork ∧ u (.parityRebuildRequest c) 8 (fun _ => pure ())

/-- Queues of the enable set: queues 0 to 3 are always there, and the optional units take the numbers from 4 in the order of their
bits, one each for surveyor and sampler, two each for smithy, granary and parity; a TGT of an absent unit has none (R105). Every queue
has depth ((1536 div queues) div 16) × 16; with every unit enabled there are 12 queues of 128 slots, and with none 4 of 384 (R16). -/
def Obligations.QueueNumbers : Prop :=
  (∀ units, tgtQueue units 0 = some 3) ∧
  (∀ units tgt, 1 ≤ tgt → tgt ≤ 8 → (tgtQueue units tgt = none ↔ bit units (tgtUnit tgt) = false)) ∧
  (∀ units tgt q, tgtQueue units tgt = some q → tgt ≤ 8 → q < queueCount units) ∧
  (∀ units tgt q, 1 ≤ tgt → tgt ≤ 8 → tgtQueue units tgt = some q → 4 ≤ q) ∧
  (∀ units a b p q, a < b → b ≤ 8 → tgtQueue units a = some p → tgtQueue units b = some q → p < q) ∧
  (∀ units, queueCount units = 4 + (if units.testBit 0 then 1 else 0) + (if units.testBit 1 then 1 else 0) +
    (if units.testBit 2 then 2 else 0) + (if units.testBit 3 then 2 else 0) + (if units.testBit 4 then 2 else 0)) ∧
  (∀ units, queueDepth units = 1536 / queueCount units / 16 * 16) ∧
  queueCount 0x1F = 12 ∧ queueDepth 0x1F = 128 ∧ queueCount 0 = 4 ∧ queueDepth 0 = 384

/-- What some engine commands leave, in full. MCLEAR clears its bank, leaves the other, and charges 4 MILL units. XCOPY of one
local-store access copies its bytes, and FETCH of one puts them at LS; every other byte of the local store reads as before. That the work
is one step, and reads all it copies before it writes, are the model's choices (DEDUCED, log 5; DESIGN CHOICE, log 138). -/
def Obligations.EngineEffectsInFull : Prop :=
  ∀ (s : State) (c : CoreId) (r : Run),
    (Runs s c 1 .m 2 0 r → ∃ t, exec (.mclear c) s = .next t ∧
      (∀ n, n < 64 → (t.core c).bankRow r.args.bank n = List.replicate 64 A48.zero ∧
        (t.core c).bankRow (!r.args.bank) n = (s.core c).bankRow (!r.args.bank) n) ∧
      (t.core c).meters = { (s.core c).meters with mill := (s.core c).meters.mill - 4 } ∧
      (t.core c).ls = (s.core c).ls ∧ t.tier.hbm = s.tier.hbm ∧
      ((t.core c).queue 1).run = some { r with done := true }) ∧
    (∀ a b n p q : Nat, Runs s c 3 .x 1 0 r → r.args.d1 = oneAccess a n → r.args.d2 = oneAccess b n → 1 ≤ n → n ≤ 2048 →
      a < 2 ^ 52 → b < 2 ^ 52 → r.args.task.lsAddr a n = some p → r.args.task.lsAddr b n = some q → (s.core c).errors.ls = [] →
      ∃ t, exec (.xcopy c) s = .next t ∧
        (t.core c).ls = (s.core c).ls.writeBytes q ((s.core c).ls.readBytes p n) ∧
        (t.core c).threads = (s.core c).threads ∧ t.tier.hbm = s.tier.hbm ∧ t.outbox = s.outbox ∧
        ((t.core c).queue 3).run = some { r with done := true }) ∧
    (∀ a n p q : Nat, Runs s c 0 .g 7 0 r → r.args.d2 = oneAccess a n → 1 ≤ n → n ≤ 2048 → a < 2 ^ 52 →
      (GParam.of r.args.param).rsvd = 0 → (GParam.of r.args.param).kpSel = 0 → (GParam.of r.args.param).thresh = 0 →
      (GParam.of r.args.param).struct = 0 → r.args.task.lsAddr a n = some p →
      r.args.task.lsAddr (GParam.of r.args.param).ls n = some q → (s.core c).errors.ls = [] →
      ∃ t, exec (.fetch c) s = .next t ∧
        (t.core c).ls = (s.core c).ls.writeBytes q ((s.core c).ls.readBytes p n) ∧
        (t.core c).threads = (s.core c).threads ∧ t.tier.hbm = s.tier.hbm ∧
        (t.core c).meters.gather = (s.core c).meters.gather - 1)

/-- MDRAIN and MDRAINS form their tiles, which then wait for the tile queue; TILE_QUEUE_WRITE puts the next one into a free slot
of eight, and the drain is done with its last (R193, R194, R200). A drain of a bank gives four tiles in the order of the
quadrants, with `split` each followed by its residual, whose exponent is 16 less; every tile holds 1,024 words and a legend that takes
ROUND, SAT and TENSOR_ID from LEG_RES (R193, R194, R199). A drain that meets a fault stops with it. -/
def Obligations.DrainsFillTileQueueInOrder : Prop :=
  (∀ (s : State) (c : CoreId) (r : Run),
    (∀ w, Runs s c 1 .m 3 0 r → (s.core c).drained = [] →
      (mdrainWork false r.args).run (.start s c 1 r.args.task) = .ok () w → exec (.mdrain c) s = .next (s.settle w.s)) ∧
    (∀ w, Runs s c 1 .m 4 0 r → (s.core c).drained = [] →
      (mdrainWork true r.args).run (.start s c 1 r.args.task) = .ok () w → exec (.mdrains c) s = .next (s.settle w.s)) ∧
    (∀ split w code, Runs s c 1 .m (if split then 4 else 3) 0 r → (s.core c).drained = [] →
      (mdrainWork split r.args).run (.start s c 1 r.args.task) = .error (.fault code) w →
      exec (if split then .mdrains c else .mdrain c) s = .next (s.settle (raise code 1 c.toNat r.args.task.taskId.toNat
        (w.s.modCore c fun k => k.markFailed 1)))) ∧
    (∀ t rest, (s.core c).drained = t :: rest → (s.core c).tileQ.length < 8 → ∃ u, exec (.tileQueueWrite c) s = .next u ∧
      (u.core c).drained = rest ∧ (u.core c).tileQ = (s.core c).tileQ ++ [t] ∧
      (rest = [] → (u.core c).queue 1 = ((s.core c).markDone 1 0).queue 1) ∧
      (rest ≠ [] → (u.core c).queue 1 = (s.core c).queue 1)) ∧
    (8 ≤ (s.core c).tileQ.length → exec (.tileQueueWrite c) s = .next (s.settle s))) ∧
  (∀ (e : DrainEnv) (bank : Nat → List A48) (uid : Nat), (∀ n, (bank n).length = 64) →
    let leg (T : Int) : Legend := { e.res with fmt := .i32, T := T, m := e.m }
    ((drainTiles e false bank uid).1.map fun t => (t.leg, t.words.length)) = List.replicate 4 (leg e.T, 1024) ∧
    ((drainTiles e true bank uid).1.map fun t => (t.leg, t.words.length)) =
      (List.replicate 4 [(leg e.T, 1024), (leg (e.T - 16), 1024)]).flatten)

/-- The head command of an idle engine queue, unless it is one of a commit, starts once its wait holds and the meters of its class are
above zero: it leaves the queue and reads its two descriptors (R98, R106, R60). The classes are GATHER of queue 0, MILL of queue 1, and
for the transfer engine the FABRIC meter of the port it sends by, and the HBM or POOL meters of what it reads and writes first (log 49).
The queue slot is free at the start (log 51). A STASH takes its declared slot where that is EMPTY (R344). A command of queue 0 is divided into lane tasks: task i covers 16 segments and goes to lane i mod 16, in order (R108, R173).
While the wait or a meter does not allow it, nothing changes. A command word with an uncorrectable error raises CORE_UE (R519); that it is
one a queue is the model's choice (log 122). -/
def Obligations.EngineCommandStarts : Prop :=
  (∀ (s : State) (c : CoreId) (q : BitVec 4) (cmd : EngCmd) (rest : List QCmd),
    let k := s.core c
    let transfer := cmd.slot = .x ∧ cmd.tgt = 0
    (k.queue q.toNat).waiting = .eng cmd :: rest → (k.queue q.toNat).run = none → s.rec0.stopped = false →
    ¬ (cmd.slot = .x ∧ cmd.op = 2 ∧ (cmd.tgt = 3 ∨ cmd.tgt = 4 ∨ cmd.tgt = 7)) →
    let open_ := condHolds cmd.wait.cond (k.counter cmd.wait.ctr) cmd.wait.value = true ∧
      (q = 0 → 0 < k.meters.gather) ∧ (q = 1 → 0 < k.meters.mill) ∧
      (q ≠ 0 → q ≠ 1 → transfer → (∀ p, s.portOf k cmd = some p → 0 < mapGet 0 s.bud.fabric p) ∧
        (s.readsFirst k cmd = true → s.descOpen false (k.desc cmd.d1) = true) ∧
        (s.writesSecond k cmd = true → s.descOpen true (k.desc cmd.d2) = true))
    let u := s.setCore c (k.setQueue q.toNat ⟨rest, some ⟨cmd, startArgs k cmd, false, 0, false, 0, false⟩⟩)
    (open_ → q.toNat ∉ k.errors.cmd → exec (.engineCommandStart c q) s =
      .next (s.settle (takesSlot c q.toNat cmd (startArgs k cmd) (if q = 0 then fillLanes c u else u)))) ∧
    (¬ open_ → exec (.engineCommandStart c q) s = .next (s.settle s)) ∧
    (open_ → q.toNat ∈ k.errors.cmd → exec (.engineCommandStart c q) s = .next (s.settle
      (raise 0x0122 1 c.toNat cmd.task.taskId.toNat
        (s.setCore c { k with errors := { k.errors with cmd := k.errors.cmd.erase q.toNat } }))))) ∧
  (∀ (s : State) (c : CoreId) (r : Run) (n l : Nat), ((s.core c).queue 0).run = some r → r.done = false → r.cmd.op ≠ 7 →
    (s.core c).lanes = [] → peekSegments s c r.args.task r.args.d1 = some n → l < 16 →
    let lane := mapGet Lane.idle ((fillLanes c s).core c).lanes l
    lane.now.toList ++ lane.queue =
      ((List.range ((n + 15) / 16)).filter fun i => i % 16 == l).map fun i => ⟨r.cmd.seq, i⟩)

/-- A command whose work is done and whose writes are all acknowledged retires: the engine is free, its increment is added to its
counter modulo 2^16 unless it is 0, its lane tasks go, and a frame that is over notes the cycles since its end as the core's slip (R101,
R289, R50). Until then nothing changes. -/
def Obligations.CommandsRetireAndSignal : Prop :=
  ∀ (s : State) (c : CoreId) (q : BitVec 4) (r : Run), ((s.core c).queue q.toNat).run = some r →
    (r.done = true → r.failed = false → r.acks = 0 → ∃ u : State,
      exec (.commandRetire c q) s = .next (s.settle u.sweepVersions) ∧
      ((u.core c).queue q.toNat).run = none ∧ ((u.core c).queue q.toNat).waiting = ((s.core c).queue q.toNat).waiting ∧
      (u.core c).counter r.cmd.sctr = (s.core c).counter r.cmd.sctr + r.cmd.sinc.zeroExtend 16 ∧
      (∀ n, n ≠ r.cmd.sctr → (u.core c).counter n = (s.core c).counter n) ∧
      (u.core c).lanes = (if q = 0 then [] else (s.core c).lanes) ∧
      u.run.openFrames = (s.run.openFrames.map fun f =>
        if f.first = r.cmd.task.frame ∧ s.slipNow f ≠ 0 then { f with slips := mapPut f.slips c.toNat (s.slipNow f) } else f) ∧
      (u.core c).ls = (s.core c).ls ∧ u.tier = s.tier ∧ u.fab = s.fab) ∧
    (r.done = false ∨ r.failed = true ∨ r.acks ≠ 0 → exec (.commandRetire c q) s = .next (s.settle s.sweepVersions))

/-- A lane whose lane task has ended goes on with the oldest of its own; with none it takes the newest of the neighbour that holds more,
when it holds at least 2, on a tie of lane (l + 1) mod 16; else it is idle (R108; that a row of the table ends one lane's task is the
model's choice: DESIGN CHOICE, log 133). -/
def Obligations.LaneStealing : Prop :=
  ∀ (s : State) (c : CoreId) (l : BitVec 4) (t : LaneTask) (rest : List LaneTask),
    let k := s.core c
    let at_ (n : Nat) : List LaneTask := (mapGet Lane.idle k.lanes n).queue
    let up := (l.toNat + 1) % 16
    let down := (l.toNat + 15) % 16
    let takes (v : Nat) : Prop := exec (.laneSteal c l) s = .next (s.settle (s.setCore c { k with
      lanes := mapPut (mapPut k.lanes v { mapGet Lane.idle k.lanes v with queue := rest }) l.toNat ⟨some t, []⟩ }))
    (at_ l.toNat = t :: rest → exec (.laneSteal c l) s =
      .next (s.settle (s.setCore c { k with lanes := mapPut k.lanes l.toNat ⟨some t, rest⟩ }))) ∧
    (at_ l.toNat = [] → at_ up = rest ++ [t] → rest ≠ [] → (at_ down).length ≤ (at_ up).length → takes up) ∧
    (at_ l.toNat = [] → at_ down = rest ++ [t] → rest ≠ [] → (at_ up).length < (at_ down).length → takes down) ∧
    (at_ l.toNat = [] → (at_ up).length < 2 → (at_ down).length < 2 → exec (.laneSteal c l) s =
      .next (s.settle (s.setCore c { k with lanes := k.lanes.map fun x => if x.1 = l.toNat then (l.toNat, Lane.idle) else x })))

/-! # The vector engine (spec/07, spec/05 R149, R520) -/

namespace Sys2Proof.Claims

/-- The instruction `v` stands at the head of the buffer of context `x`, is the row's, and can issue: its context is not stopped,
the VECTOR meter is above zero, a VWAIT's condition holds and a VTQPOP finds a tile; `e` is what its entry and legends give. -/
def VReady (op : BitVec 7) (s : State) (c : CoreId) (ctx : VCtx) (v : VInstr) (rest : List VInstr) (e : VEnv) : Prop :=
  ((s.core c).vcontext ctx).buf = v :: rest ∧ v.op = op ∧ ((s.core c).vcontext ctx).stopped = false ∧
    vCanIssue (s.core c) v = true ∧ vEnvOf s (s.core c) v = .ok e

/-- The quarters of the instruction, one after the other. -/
def vQuarters (op : BitVec 7) (s : State) (c : CoreId) (ctx : VCtx) (v : VInstr) (rest : List VInstr) (e : VEnv) : VRun :=
  let k := s.core c
  let x0 : VContext := { k.vcontext ctx with buf := rest }
  (quartersOf (vQsel v.bits)).foldl
    (vQuarter s ctx.toNat v e (x0.quarter (e.conv.reg 1) 0) ((k.tileQ.head?.map Tile.words).getD []))
    ⟨k, x0, [], NumCount.none, 0, none⟩

/-- The instruction issues: its results are in flight, due its latency after the last issue; it charges one VECTOR unit an issue,
takes the popped tile, adds its counts, and stands unretired. -/
def VIssues (op : BitVec 7) (i : Instr) (s : State) (c : CoreId) (ctx : VCtx) : Prop :=
  ∀ (v : VInstr) (rest : List VInstr) (e : VEnv), VReady op s c ctx v rest e →
    let r := vQuarters op s c ctx v rest e
    r.bad = none →
    let f := VR.ofBits v.bits
    let whole := if vWhole op.toNat then wholeResult op.toNat f r.sns else ([], NumCount.none)
    let x : VContext := { r.x with
      pend := r.x.pend ++ whole.1.map fun d => PendTile.mk d.1 d.2 (r.x.issues - 1 + vLatency op.toNat),
      unret := r.x.unret ++ [VUnret.mk op v.cap.task none] }
    let k : Core := { r.k with meters := { r.k.meters with vector := r.k.meters.vector - r.charged },
                               tileQ := if op = 0x48 then r.k.tileQ.drop 1 else r.k.tileQ }
    exec i s = .next (s.settle ((s.setCore c (k.setVContext ctx x)).countNum c (r.count.add whole.2)))

/-- The instruction at the head of its context's buffer meets fault `n` of CORE_VSTAT at its first issue: nothing of it issues, its context
stops for the step, CORE_VSTAT takes the first such fault, and the core fault is raised (R231). -/
def VFaults (code n : Nat) (i : Instr) (s : State) (c : CoreId) (ctx : VCtx) (v : VInstr) : Prop :=
  let k := s.core c
  let task := v.cap.task.taskId.toNat
  let regs : CoreRegs := if k.regs.vValid then k.regs else
    { k.regs with vValid := true, vVctx := ctx.toNat, vFault := n, vOp := v.op.toNat, vTask := task }
  exec i s = .next (s.settle (raise code 1 c.toNat task
    (s.setCore c ({ k with regs := regs }.setVContext ctx { k.vcontext ctx with stopped := true }))))

/-- The faults of an instruction with a conversion entry, in the order in which they are found: its 32 bytes reach the local store's limit;
the entry names something that its opcode does not use; a legend that it reads is invalid, or of a format that it does not take; and in
audit mode a scalar index whose register held a result in flight, with KIND 0 and the scalar register's number. -/
def ConvFaults (op : BitVec 7) (i : Instr) (s : State) (c : CoreId) (ctx : VCtx) : Prop :=
  ∀ (v : VInstr) (rest : List VInstr), ((s.core c).vcontext ctx).buf = v :: rest → v.op = op →
    ((s.core c).vcontext ctx).stopped = false → vCanIssue (s.core c) v = true →
    let k := s.core c
    let at_ := v.cap.task.lsAddr (32 * (VR.ofBits v.bits).mod.toNat) 32
    (at_ = none → VFaults 0x0104 3 i s c ctx v) ∧
    (∀ p u, at_ = some p → convUse op.toNat = some u → k.errors.lsBad p 32 = false →
      let e := Conv.ofBytes (k.ls.readBytes p 32)
      (convInvalid u e = true → VFaults 0x010C 1 i s c ctx v) ∧
      (convInvalid u e = false → ((∃ j ∈ legsRead op.toNat e, s.legendCount ≤ e.legIndex j) ∨ convLegs s op.toNat e = none) →
        VFaults 0x0101 2 i s c ctx v) ∧
      (convInvalid u e = false → (convLegs s op.toNat e).isSome = true → s.audit = true → 128 ≤ e.sreg % 256 →
        e.sreg % 32 ∈ v.cap.tagged →
        let regs : CoreRegs := if k.regs.hazard.getLsbD 63 then k.regs else { k.regs with
          hazard := BitVec.ofNat 64 (2 ^ 63 + v.cap.thread.toNat * 2 ^ 49 + e.sreg % 32 * 2 ^ 43 + v.cap.task.taskId.toNat),
          hazardAddr := BitVec.ofNat 64 (v.cap.addr.toNat % 2 ^ 52) }
        exec i s = .next (s.settle (raise 0x0108 1 c.toNat v.cap.task.taskId.toNat
          (s.setCore c ({ k with regs := regs }.setVContext ctx { k.vcontext ctx with stopped := true }))))))

/-- The word of a code, and of OVF. -/
def ovfWord : W32 := 0x80000000

/-- A word read as its signed code, where it is not OVF. -/
def isCode (w : W32) (v : Int) : Prop := w ≠ ovfWord ∧ w.toInt = v

/-- `w` is the word of `v` where `v` is an I32 code, and OVF otherwise, counted once as arisen. -/
def ExactOrOvf (r : Option WordRes) (v : Int) : Prop :=
  ∃ w n, r = some (w, n) ∧ ((-(2 ^ 31) < v ∧ v < 2 ^ 31 ∧ isCode w v ∧ n = NumCount.none) ∨
    (¬ (-(2 ^ 31) < v ∧ v < 2 ^ 31) ∧ w = ovfWord ∧ n = ⟨0, 1⟩))

end Sys2Proof.Claims

/-- Every V instruction but VWAIT and VSIGNAL issues its quarters when it stands ready at the head of its context's buffer and no
quarter meets a fault (R157 to R160, R205; the whole instruction in one step is the model's choice: DEDUCED, log 4). An instruction with a
conversion entry raises LS_RANGE, CONV_INVALID or LEGEND_INVALID at its first issue, or TIMING_HAZARD in audit mode, and VLD and VST
raise LS_RANGE: nothing of it issues, its context stops, and CORE_VSTAT or CORE_HAZARD takes the first such fault (R209, R212, R231, R143,
R162, R163; their order, and VCTX 0 for a hazard of KIND 0, are the model's choices: DESIGN CHOICE, log 168). -/
def Obligations.VectorInstructionsIssue : Prop :=
  (∀ (s : State) (c : CoreId) (x : VCtx),
    ConvFaults 0x18 (.vnarrow c x) s c x ∧ ConvFaults 0x19 (.vwiden c x) s c x ∧ ConvFaults 0x20 (.vexp c x) s c x ∧
    ConvFaults 0x21 (.vlog c x) s c x ∧ ConvFaults 0x22 (.vrsqrt c x) s c x ∧ ConvFaults 0x38 (.vnorm c x) s c x ∧
    ConvFaults 0x39 (.vnormb c x) s c x ∧ ConvFaults 0x3A (.vsmax c x) s c x ∧ ConvFaults 0x3B (.vsmaxb c x) s c x ∧
    ConvFaults 0x58 (.vrand c x) s c x ∧
    (∀ (v : VInstr) (rest : List VInstr) (q : Nat), ((s.core c).vcontext x).buf = v :: rest → ((s.core c).vcontext x).stopped = false →
      vCanIssue (s.core c) v = true → q ∈ quartersOf (vQsel v.bits) →
      v.cap.task.lsAddr (vmOffset (VM.ofBits v.bits) v.cap q) (256 * widthBytes (VM.ofBits v.bits).width) = none →
      (v.op = 0x40 → VFaults 0x0104 3 (.vld c x) s c x v) ∧ (v.op = 0x41 → VFaults 0x0104 3 (.vst c x) s c x v))) ∧
  (∀ (s : State) (c : CoreId) (x : VCtx),
    VIssues 0x01 (.vadd c x) s c x ∧ VIssues 0x02 (.vsub c x) s c x ∧ VIssues 0x03 (.vmul c x) s c x ∧
    VIssues 0x04 (.vmin c x) s c x ∧ VIssues 0x05 (.vmax c x) s c x ∧ VIssues 0x06 (.vand c x) s c x ∧
    VIssues 0x07 (.vor c x) s c x ∧ VIssues 0x08 (.vxor c x) s c x ∧ VIssues 0x09 (.vshl c x) s c x ∧
    VIssues 0x0A (.vsra c x) s c x ∧ VIssues 0x0B (.vsel c x) s c x ∧ VIssues 0x0C (.vcmplt c x) s c x ∧
    VIssues 0x0D (.vcmpeq c x) s c x ∧ VIssues 0x10 (.vaddi c x) s c x ∧ VIssues 0x11 (.vmaxi c x) s c x ∧
    VIssues 0x12 (.vmini c x) s c x ∧ VIssues 0x18 (.vnarrow c x) s c x ∧ VIssues 0x19 (.vwiden c x) s c x ∧
    VIssues 0x20 (.vexp c x) s c x ∧ VIssues 0x21 (.vlog c x) s c x ∧ VIssues 0x22 (.vrsqrt c x) s c x ∧
    VIssues 0x28 (.vrsum c x) s c x ∧ VIssues 0x29 (.vrmax c x) s c x ∧ VIssues 0x2A (.vcsum c x) s c x ∧
    VIssues 0x30 (.vcompress c x) s c x ∧ VIssues 0x31 (.vexpand c x) s c x ∧ VIssues 0x38 (.vnorm c x) s c x ∧
    VIssues 0x39 (.vnormb c x) s c x ∧ VIssues 0x3A (.vsmax c x) s c x ∧ VIssues 0x3B (.vsmaxb c x) s c x ∧
    VIssues 0x40 (.vld c x) s c x ∧ VIssues 0x41 (.vst c x) s c x ∧ VIssues 0x48 (.vtqpop c x) s c x ∧
    VIssues 0x58 (.vrand c x) s c x ∧ VIssues 0x60 (.vmov c x) s c x)

/-- Table 07-3 word by word: exact sums, differences and products, OVF outside the range of I32; minimum and maximum; bitwise
operations on the patterns; VSHL exact or OVF and VSRA rounding down; VSEL keeps td where ta is zero; compares give 1 or 0, and 0
where an operand is OVF; an OVF operand gives OVF, uncounted (R213). The VST row stores the words of each of its quarters, each as its low
bytes, at the quarter's place, and every other byte of the local store reads as before; the VLD row gives for each of its quarters a result
in flight, due the latency of Table 05-13 after that quarter's issue, whose words are the bytes at the quarter's place sign-extended from
the width, and stores nothing; VLD of what VST stored reads back the words (R143, R158). The whole instruction in one step is the model's
choice (DEDUCED, log 4). -/
def Obligations.VectorWordResults : Prop :=
  (∀ (a b : W32) (x y : Int),
    (isCode a x → isCode b y →
      ExactOrOvf (elemWord 0x01 a b) (x + y) ∧ ExactOrOvf (elemWord 0x02 a b) (x - y) ∧ ExactOrOvf (elemWord 0x03 a b) (x * y) ∧
      ExactOrOvf (elemWord 0x04 a b) (min x y) ∧ ExactOrOvf (elemWord 0x05 a b) (max x y) ∧
      ExactOrOvf (elemWord 0x09 a b) (x * 2 ^ (b.toNat % 32)) ∧ ExactOrOvf (elemWord 0x0A a b) (x / 2 ^ (b.toNat % 32)) ∧
      elemWord 0x0C a b = some (if x < y then 1 else 0, NumCount.none) ∧
      elemWord 0x0D a b = some (if x = y then 1 else 0, NumCount.none) ∧
      ExactOrOvf (elemWord 0x10 a b) (x + y) ∧ ExactOrOvf (elemWord 0x11 a b) (max x y) ∧
      ExactOrOvf (elemWord 0x12 a b) (min x y)) ∧
    elemWord 0x06 a b = some (a &&& b, NumCount.none) ∧ elemWord 0x07 a b = some (a ||| b, NumCount.none) ∧
    elemWord 0x08 a b = some (a ^^^ b, NumCount.none) ∧
    elemWord 0x0B a b = (if a = 0 then none else some (b, NumCount.none)) ∧ elemWord 0x60 a b = some (a, NumCount.none) ∧
    (a = ovfWord ∨ b = ovfWord → elemWord 0x01 a b = some (ovfWord, NumCount.none) ∧
      elemWord 0x02 a b = some (ovfWord, NumCount.none) ∧ elemWord 0x03 a b = some (ovfWord, NumCount.none) ∧
      elemWord 0x04 a b = some (ovfWord, NumCount.none) ∧ elemWord 0x05 a b = some (ovfWord, NumCount.none) ∧
      elemWord 0x09 a b = some (ovfWord, NumCount.none) ∧ elemWord 0x0A a b = some (ovfWord, NumCount.none) ∧
      elemWord 0x0C a b = some (0, NumCount.none) ∧ elemWord 0x0D a b = some (0, NumCount.none)) ∧
    (a = ovfWord → elemWord 0x10 a b = some (ovfWord, NumCount.none) ∧ elemWord 0x11 a b = some (ovfWord, NumCount.none) ∧
      elemWord 0x12 a b = some (ovfWord, NumCount.none))) ∧
  (∀ (s : State) (c : CoreId) (ctx : VCtx) (v : VInstr) (rest : List VInstr) (e : VEnv),
    let k := s.core c
    let x := k.vcontext ctx
    let m := VM.ofBits v.bits
    let w := widthBytes m.width
    let place (q : Nat) : Option Nat := v.cap.task.lsAddr (vmOffset m v.cap q) (256 * w)
    (VReady 0x41 s c ctx v rest e → (vQuarters 0x41 s c ctx v rest e).bad = none →
      (∀ q ∈ quartersOf (vQsel v.bits), (x.quarter m.t q).length = 256 ∧ ∀ p ∈ x.pend, p.key ≠ m.t.toNat * 4 + q) →
      ∃ u, exec (.vst c ctx) s = .next u ∧
        (∀ q ∈ quartersOf (vQsel v.bits), ∃ p, place q = some p ∧ ∀ i, i < 256 * w →
          (u.core c).ls.read (p + i) = BitVec.ofNat 8 (((x.quarter m.t q).getD (i / w) 0).toNat / 256 ^ (i % w))) ∧
        (∀ a, (∀ q ∈ quartersOf (vQsel v.bits), ∀ p, place q = some p → a < p ∨ p + 256 * w ≤ a) →
          (u.core c).ls.read a = k.ls.read a)) ∧
    (VReady 0x40 s c ctx v rest e → (vQuarters 0x40 s c ctx v rest e).bad = none →
      ∃ u, exec (.vld c ctx) s = .next u ∧ (u.core c).ls = k.ls ∧
        (∀ (n q : Nat), (quartersOf (vQsel v.bits))[n]? = some q → ∃ p, place q = some p ∧
          PendTile.mk (m.t.toNat * 4 + q) ((List.range 256).map fun i =>
              some (BitVec.ofInt 32 (signedOf (8 * w) (k.ls.readNat (p + i * w) w)))) (x.issues + n + 6) ∈
            ((u.core c).vcontext ctx).pend))) ∧
  (∀ (m : Memory) (p w : Nat) (ws : List W32), ws.length = 256 → (w = 1 ∨ w = 2 ∨ w = 4) →
    let m1 := m.writeBytes p (ws.flatMap fun x => bytesOfNat w x.toNat)
    loadWords w 256 (m1.readBytes p (256 * w)) = ws.map (fun x => BitVec.ofInt 32 (signedOf (8 * w) x.toNat)) ∧
    (w = 4 → loadWords w 256 (m1.readBytes p (256 * w)) = ws) ∧
    (∀ q, q < p ∨ p + 256 * w ≤ q → m1.read q = m.read q))

/-- VCOMPRESS writes into td, in row-major order from the first word, the words of ta whose mask word in tb is not 0, in row-major order,
and 0 into every later word (R219). VEXPAND walks tb in row-major order: where the mask word is not 0 it writes the next word of ta, from
the first on, and elsewhere 0 (R220). Both write the four quarters of td, carry codes unchanged, OVF included, and count nothing. VEXPAND
undoes VCOMPRESS under one mask: the words that the mask selects return to their places and the others are 0. -/
def Obligations.ExpandUndoesCompress : Prop :=
  (∀ (f : VR) (sns : List Snap),
    let ta := sns.flatMap Snap.ta
    let tb := sns.flatMap Snap.tb
    ta.length = 1024 → tb.length = 1024 →
    let active (n : Nat) : List Nat := (List.range n).filter fun i => tb.getD i 0 != 0
    let word (r : List (Nat × List (Option W32)) × NumCount) (i : Nat) : Option W32 :=
      ((r.1.flatMap Prod.snd).getD i none)
    (∀ op, op = 0x30 ∨ op = 0x31 → (wholeResult op f sns).2 = NumCount.none ∧
      (wholeResult op f sns).1.map (fun q => (q.1, q.2.length)) = (List.range 4).map fun q => (f.td.toNat * 4 + q, 256)) ∧
    (∀ i, i < 1024 → word (wholeResult 0x30 f sns) i = some (match (active 1024)[i]? with
      | some j => ta.getD j 0
      | none => 0)) ∧
    (∀ i, i < 1024 → word (wholeResult 0x31 f sns) i = some (if tb.getD i 0 = 0 then 0 else ta.getD (active i).length 0))) ∧
  (∀ ta tb : List W32, ta.length = tb.length →
    (compressWords ta tb).length = ta.length ∧
    expandWords (compressWords ta tb) tb = (ta.zip tb).map fun p => if p.2 = 0 then 0 else p.1)

/-- VWAIT holds its context, with no effect, until its condition holds, and then issues; VSIGNAL issues and waits to retire; both
charge one VECTOR unit (R149, R157). A quarter that a result due at the issue writes whole holds no error any more (R519). -/
def Obligations.VectorWaitAndSignal : Prop :=
  ∀ (s : State) (c : CoreId) (ctx : VCtx) (v : VInstr) (rest : List VInstr),
    let k := s.core c
    let x := k.vcontext ctx
    let f := VC.ofBits v.bits
    let ctr := v.cap.task.ctr f.ctr
    let leaves (sig : Option (ScReg × BitVec 16)) : State :=
      let x1 := VContext.arrive { x with buf := rest, issues := x.issues + 1 } (x.issues + 1)
      let due := (x.pend.filter fun p => p.words.all Option.isSome && p.due == x.issues + 1).map PendTile.key
      s.setCore c ({ k with meters := { k.meters with vector := k.meters.vector - 1 },
                            errors := k.errors.tilesWritten ctx.toNat due }.setVContext ctx
        { x1 with unret := x1.unret ++ [VUnret.mk v.op v.cap.task sig] })
    x.buf = v :: rest → x.stopped = false → 0 < k.meters.vector →
    (v.op = 0x50 → condHolds f.cond (k.counter ctr) f.value = true → exec (.vwait c ctx) s = .next (s.settle (leaves none))) ∧
    (v.op = 0x50 → condHolds f.cond (k.counter ctr) f.value = false → exec (.vwait c ctx) s = .next (s.settle s)) ∧
    (v.op = 0x51 → exec (.vsignal c ctx) s = .next (s.settle (leaves (some (ctr, f.value)))))

/-- The head V command of queue 2 enters its context's buffer when that holds fewer than 16 (R149, R203). An unretired instruction
retires; a VSIGNAL only as the oldest, and it then adds its value to its counter modulo 2^16 (R149, R520, R101). -/
def Obligations.VectorBufferAndRetire : Prop :=
  ∀ (s : State) (c : CoreId) (ctx : VCtx),
    let k := s.core c
    let x := k.vcontext ctx
    (∀ v rest, (k.queue 2).waiting = .vec ctx v :: rest → s.rec0.stopped = false → x.buf.length < 16 → 2 ∉ k.errors.cmd →
      exec (.vCommandBufferEntry c) s = .next (s.settle (s.setCore c
        ((k.setQueue 2 { k.queue 2 with waiting := rest }).setVContext ctx { x with buf := x.buf ++ [v] })))) ∧
    (∀ (i : BitVec 8) (u : VUnret), x.unret[i.toNat]? = some u → (u.signal = none ∨ i = 0) → ∃ y : State,
      exec (.vRetire c ctx i) s = .next (s.settle y.sweepVersions) ∧
      ((y.core c).vcontext ctx).unret = x.unret.eraseIdx i.toNat ∧ ((y.core c).vcontext ctx).tiles = x.tiles ∧
      (∀ n, (y.core c).counter n = match u.signal with
        | some (ctr, v) => if n = ctr then k.counter n + v else k.counter n
        | none => k.counter n) ∧ (y.core c).ls = k.ls) ∧
    (∀ (i : BitVec 8) (u : VUnret), x.unret[i.toNat]? = some u → u.signal.isSome = true → i ≠ 0 →
      exec (.vRetire c ctx i) s = .next (s.settle s.sweepVersions))

/-! # The bell, economy, slip and overrun (spec/03) -/

/-- At every frame tick FRAME_NO goes on by 1 modulo 2^48, CYCLE starts again at 0 and the marks of the frame are still to be sent
(R48, R281). The pace stays; a root stays root and LOCKED unless a retired core leads to a fault that takes the module out of its rings
(R52, R115). -/
def Obligations.TickAdvancesFrame : Prop :=
  ∀ s : State, ∃ t, exec .bellTick s = .next t ∧ t.bel.frame = (s.bel.frame + 1) % 2 ^ 48 ∧ t.bel.cycle = 0 ∧ t.bel.sent = [] ∧
    t.bel.half = s.bel.half ∧ (s.retiredCores = [] → t.bel.root = s.bel.root) ∧ (t.bel.root = true → t.bel.state = .locked) ∧
    (s.bel.root = false → t.bel.root = false ∧ t.bel.state = s.bel.state)

/-- The bell locks after 64 frames within half a cycle, enters HOLDOVER after 4 frames without a mark, and raises BELL_LOST once
after 2,048 frames of HOLDOVER; short of that each command leaves everything as it was (R52, R54). -/
def Obligations.BellStates : Prop :=
  ∀ s : State,
    (s.bel.root = true → exec .bellLock s = .next (s.settle s)) ∧
    (s.bel.state = .acquire → 64 ≤ s.bel.lockCount → s.bel.root = false →
      exec .bellLock s = .next (s.settle { s with bel := { s.bel with state := .locked } })) ∧
    (s.bel.state ≠ .acquire ∨ s.bel.lockCount < 64 → exec .bellLock s = .next (s.settle s)) ∧
    (s.bel.root = false → 4 ≤ s.bel.markless → s.bel.state = .locked ∨ s.bel.state = .acquire →
      exec .bellHoldover s = .next (s.settle { s with bel := { s.bel with state := .holdover, holdFrames := 0 } })) ∧
    (s.bel.root = true ∨ s.bel.markless < 4 ∨ s.bel.state = .free ∨ s.bel.state = .holdover →
      exec .bellHoldover s = .next (s.settle s)) ∧
    (s.bel.state = .holdover → s.bel.holdFrames = 2048 → exec .bellLost s =
      .next (s.settle (raise 0x0151 0 0 0 { s with bel := { s.bel with holdFrames := 2049 } }))) ∧
    (s.bel.state ≠ .holdover ∨ s.bel.holdFrames ≠ 2048 → exec .bellLost s = .next (s.settle s))

/-- A MARK whose CRC holds, received on the upstream port of a module that is not root, ends the frame's count of missing marks and
HOLDOVER, and while the bell acquires it gives FRAME_NO and the pace, and counts one more frame within half a cycle or starts the count
again; a block whose CRC fails changes nothing (R52, R281). A keeper in BYPASS passes the block on to the opposite port (R282). That any
port's MARK counts so while UP_PORT is 7, no upstream port, is the model's choice (log 61). -/
def Obligations.MarksDriveTheBell : Prop :=
  ∀ (s : State) (p : Port) (block : List Byte) (count : W32) (off : Int),
    (markGood block = false → (s.port p.val).bypass = false → exec (.mark p block count off) s = .next (s.settle s)) ∧
    (markGood block = false → (s.port p.val).bypass = true → exec (.mark p block count off) s = .next (s.settle { s with
      outbox := s.outbox ++ [Msg.mark (if p.val % 2 = 0 then p.val + 1 else p.val - 1) block] })) ∧
    (markGood block = true → s.bel.root = false → s.bel.upPort = p.val ∨ s.bel.upPort = 7 → ∃ t, exec (.mark p block count off) s = .next t ∧
      t.bel.seen = true ∧ t.bel.markless = 0 ∧ t.bel.holdFrames = 0 ∧
      t.bel.peerRun = bit (markNat block 1 1) 3 ∧
      (s.bel.state = .free ∨ s.bel.state = .acquire → t.bel.state = .acquire ∧ t.bel.frame = markNat block 8 6 ∧
        t.bel.half = bit (markNat block 1 1) 0) ∧
      (s.bel.state = .acquire → t.bel.lockCount = if off.natAbs ≤ 1 then s.bel.lockCount + 1 else 0) ∧
      (s.bel.state = .locked ∨ s.bel.state = .holdover → t.bel.state = .locked ∧ t.bel.frame = s.bel.frame ∧
        t.bel.half = s.bel.half) ∧ t.tier = s.tier ∧ t.cores = s.cores)

/-- An UP port sends its one MARK of the frame within 256 cycles of the tick, 32 bytes long, of kind 1, with this frame's number and
pace and a CRC that holds; a port sends no second one, and none in BYPASS (R281, R283). -/
def Obligations.MarkIsSentOncePerFrame : Prop :=
  ∀ (s : State) (p : Port) (x : PortReg) (count : W32), mapFind s.fab.ports p.val = some x →
    (x.state = .up → x.bypass = false → p.val ∉ s.bel.sent → s.bel.cycle ≤ 256 →
      exec (.markSend p count) s = .next (s.settle { s with
        bel := { s.bel with sent := s.bel.sent ++ [p.val] }, outbox := s.outbox ++ [Msg.mark p.val (s.markBlock p.val count.toNat)] })) ∧
    (x.bypass = true ∨ x.state ≠ .up ∨ p.val ∈ s.bel.sent ∨ 256 < s.bel.cycle →
      exec (.markSend p count) s = .next (s.settle s)) ∧
    (s.bel.frame < 2 ^ 48 → markGood (s.markBlock p.val count.toNat) = true ∧
      markNat (s.markBlock p.val count.toNat) 8 6 = s.bel.frame ∧
      bit (markNat (s.markBlock p.val count.toNat) 1 1) 0 = s.bel.half)

/-- TICK_IN latches FRAME_NO and CYCLE while the module runs, and is ignored in reset and without its main rails (R57, R506). The root announces full pace after two frames without a request (R65), and 512
frames after half pace took effect the ordinary overrun check resumes (R67). At the announced tick, and at no other cycle, the pace
changes and the announcement is spent; the frames that begin there take the new pace. Full pace lifts the economy cap when every cause has
cleared, and keeps it otherwise; a suspended overrun check stays suspended (R58, R65, R67, R68). That full pace is announced for the third
frame from now is the model's choice (log 43). -/
def Obligations.CapturePaceAndEconomyTimers : Prop :=
  (∀ s : State,
    (s.pwr.domain = .running → s.pwr.dieReset = false → exec .tickInCapture s = .next (s.settle { s with bel := { s.bel with
      capValid := true, capFrame := s.bel.frame, capCycle := s.bel.cycle } })) ∧
    (s.pwr.domain ≠ .running ∨ s.pwr.dieReset = true → exec .tickInCapture s = .next (s.settle s)) ∧
    (∀ f, s.bel.lastReq = some f → s.bel.root = true → s.bel.half = true → s.bel.annPace = none → s.bel.request = false →
      f + 3 ≤ s.bel.frame → exec .econRequestTimeout s = .next (s.settle { s with bel := { s.bel with
        annPace := some (false, s.bel.frame + 3), lastReq := none } })) ∧
    (∀ f, s.bel.lastReq = some f → s.bel.frame < f + 3 → exec .econRequestTimeout s = .next (s.settle s)) ∧
    (∀ t, s.bel.halfSince = some t → s.bel.overrunOff = true → t + 512 ≤ s.bel.frame →
      exec .overrunCheckResume s = .next (s.settle { s with bel := { s.bel with overrunOff := false, halfSince := none } })) ∧
    (∀ t, s.bel.halfSince = some t → s.bel.frame < t + 512 → exec .overrunCheckResume s = .next (s.settle s))) ∧
  (∀ (s : State) (half : Bool) (n : Nat), s.bel.annPace = some (half, n) →
    (s.bel.frame ≠ n ∨ s.bel.cycle ≠ 0 → exec .paceChange s = .next (s.settle s)) ∧
    (s.bel.frame = n → s.bel.cycle = 0 → ∃ t, exec .paceChange s = .next t ∧ t.bel.half = half ∧ t.bel.annPace = s.bel.annNext ∧
      t.bel.annNext = none ∧ t.bel.frame = s.bel.frame ∧ t.bel.overrunOff = s.bel.overrunOff ∧
      (half = false → s.bel.supplyCause = false → s.bel.thermalCause = false → t.bel.econ = false) ∧
      (half = true ∨ s.bel.supplyCause = true ∨ s.bel.thermalCause = true → t.bel.econ = s.bel.econ) ∧
      t.run.openFrames = (s.run.openFrames.map fun f =>
        if f.first = n then { f with bells := if half then 2 else 1, half := half, econ := t.bel.econ } else f) ∧
      t.tier = s.tier ∧ t.fab = s.fab))

/-- A core that owes work of a frame one full frame after its end raises FRAME_OVERRUN once for the frame, unless the check is
suspended or the module is stopped; one raised while a port of the module is DOWN or training, or within 512 frames after, retires no core
(R51, R67, R467). A received partial that no step has taken is owed by the first core in service (R295; that core is the model's
choice: DESIGN CHOICE, log 139). One full frame after the end of a frame its slip is recorded: the record enters the
ring at SLIP_HEAD, which goes on by 1 modulo 1,024, and the total counts it; a frame without slip leaves the ring alone (R80,
R81). A meter at a refill: the allowance floor(A × min(CEIL, IN_FORCE × p) / 256), A being limited to what the class can do at full
pace and p being 2 at half pace, plus a negative balance; IN_FORCE is 128 for MILL and VECTOR under the economy cap and 256 otherwise (R59, R60, R61). -/
def Obligations.OverrunSlipAndMeters : Prop :=
  (∀ (s : State) (c : CoreId) (f : OpenFrame) (rest : List OpenFrame), s.run.openFrames = f :: rest → f.recorded = false →
    (∀ g ∈ rest, g.first ≠ f.first) →
    (f.first + f.bells + 1 ≤ s.bel.frame →
      (s.core c).owes f.first = true ∨ ((∃ p ∈ s.fab.staging, p.owed = some f.first) ∧ c.toNat = s.firstCore) → c.toNat ∉ f.overrun → s.bel.overrunOff = false →
      s.rec0.stopped = false → exec (.frameOverrun c) s = .next (s.settle (raise 0x0121 1 c.toNat 0
        { s with run := { s.run with openFrames := { f with overrun := f.overrun ++ [c.toNat] } :: rest },
                 rec0 := { s.rec0 with spared := if s.portsBusy then s.rec0.spared ++ [c.toNat] else s.rec0.spared } }))) ∧
    (s.portsBusy = true ↔ s.bel.frame < s.rec0.portBusy ∨ ∃ i, i < 6 ∧ ((s.port i).state = .down ∨ (s.port i).state = .train)) ∧
    (s.bel.overrunOff = true ∨ s.rec0.stopped = true → exec (.frameOverrun c) s = .next (s.settle s))) ∧
  (∀ (s : State) (f : OpenFrame) (rest : List OpenFrame), s.run.openFrames = f :: rest → f.recorded = false →
    f.first + f.bells + 1 ≤ s.bel.frame → (∀ g ∈ rest, g.first ≠ f.first) →
    let run : RunCtl := { s.run with openFrames := { f with recorded := true } :: rest }
    (s.slipsOf f ≠ [] → exec .slipRecordWrite s = .next (s.settle { s with run := run, bud := { s.bud with
      ring := mapSet 0 s.bud.ring s.bud.slipNext (slipWord f (s.slipsOf f)), slipNext := (s.bud.slipNext + 1) % 1024,
      slipTotal := min (s.bud.slipTotal + 1) (2 ^ 32 - 1) } })) ∧
    (s.slipsOf f = [] → exec .slipRecordWrite s = .next (s.settle { s with run := run }))) ∧
  (∀ (s : State) (cls a : Nat) (m : Int),
    (0 ≤ m → refill m (s.allow cls a) = s.allow cls a) ∧ (m < 0 → refill m (s.allow cls a) = m + s.allow cls a) ∧
    s.allow cls a = (if cls = 5 then a else min a (if cls = 2 then 65535 else if cls = 3 then 61740 else if cls = 4 then 6625
      else if cls = 6 then 18218 else 16384)) * min (mapGet 256 s.bud.ceil cls)
      ((if s.bel.econ = true ∧ cls ≤ 1 then 128 else 256) * (if s.bel.half = true then 2 else 1)) / 256)

/-! # Steps, the almanac switch and tasks (spec/03, spec/04, spec/14) -/

namespace Sys2Proof.Claims

/-- The next step may begin: an almanac runs, no lost module is being dealt with and LINK_HARD holds nothing, the step before and its
interlude are over and no switch to it is armed, no context save, DIE install, leave, join, stop or rebuild stands before it, and it is a tick of a locked bell, or after the first step of one that
holds over, and no hold is due (R54, R72, R77, R121, R301, R440, R441, R451, R473, R477, R489, R490). -/
def StepMayBegin (s : State) : Prop :=
  (s.run.state = .running ∨ s.run.state = .replaying) ∧ s.run.active.loaded = true ∧ s.bel.cycle = 0 ∧
  s.run.inStep = false ∧ s.run.bounded = false ∧ s.run.interludeDue = false ∧ s.run.interlude = false ∧ s.run.frameLive = false ∧
  (s.smithy.phase = 0 ∨ s.run.resumePos.isSome = true) ∧ s.run.armed ≠ some s.run.nextStep ∧
  s.saveDue = false ∧ s.dieDue = false ∧ s.boundaryEvent = false ∧ s.rec0.stopping = false ∧ s.rec0.rebuild = [] ∧
  s.rec0.modules = [] ∧ s.rec0.holdIdle = none ∧
  ((∃ t, s.run.startAt = some t ∧ t ≤ s.bel.frame ∧ s.bel.state = .locked) ∨
    (s.run.startAt = none ∧ (s.bel.state = .locked ∨ s.bel.state = .holdover) ∧ s.holdDue = false))

end Sys2Proof.Claims

/-- STEP_BEGIN at a tick at which the next step may begin: the step's number, its first section and frame, and the state of the
run; unless a SECTION context resumes, counters, descriptors and fetched code of every core clear, granary slots empty and the smithies
start anew (R72, R95, R99, R344, R440). Where it may not, nothing changes. The two almanac slots change places at the first tick after the
commit of step S − 1 and any interlude at which no core owes work; every core's sync counters clear, code of the old almanac is
forgotten, and the pages that hold the new one's are read-only (R77, R99, R127; which pages these are: DESIGN CHOICE, log 50; that the step's
begin too empties the code buffer: DESIGN CHOICE, log 167). -/
def Obligations.StepBeginsAndAlmanacSwitches : Prop :=
  (∀ s : State,
    (¬ StepMayBegin s → exec .stepBegin s = .next (s.settle s)) ∧
    (StepMayBegin s → ∃ t, exec .stepBegin s = .next t ∧
      t.run.step = s.run.nextStep ∧ t.run.inStep = true ∧ t.run.interlude = false ∧ t.run.pos = s.run.resumePos.getD 0 ∧
      t.run.frameIdx = 0 ∧ t.run.frameLive = true ∧ t.run.startAt = none ∧ t.run.ranSinceReset = true ∧ t.run.resumePos = none ∧
      t.run.state = s.run.state ∧ t.run.committed = s.run.committed ∧ t.bel.frame = s.bel.frame ∧
      (s.run.resumePos = none → t.smithy.touched = [] ∧ t.smithy.phase = 0 ∧ t.granary.slots = [] ∧ t.granary.cursor = 0 ∧
        ∀ c, (t.core c).sc = [] ∧ (t.core c).st = [] ∧ (t.core c).code = []) ∧
      (s.run.resumePos.isSome = true → t.smithy.phase = s.smithy.phase ∧ t.granary.slots = s.granary.slots ∧
        ∀ c, (t.core c).sc = (s.core c).sc ∧ (t.core c).st = (s.core c).st))) ∧
  (∀ s : State,
    (s.run.armed = some s.run.nextStep → s.run.anyCommit = true → s.run.committed + 1 = s.run.nextStep → s.bel.cycle = 0 →
      s.run.inStep = false → s.run.bounded = false → s.run.interludeDue = false → s.run.frameLive = false → s.smithy.phase = 0 →
      s.anyWork = false → s.rec0.stopping = false → exec .almanacSwitchEffect s = .next (s.settle { s with
        run := { s.run with active := s.run.staged, staged := s.run.active, armed := none },
        cores := s.cores.map fun c => (c.1, { c.2 with sc := [], code := [], heads := [] }),
        tier := { s.tier with codePages := s.codeOf s.run.staged } })) ∧
    (s.run.armed ≠ some s.run.nextStep ∨ s.anyWork = true ∨ s.run.inStep = true ∨ s.bel.cycle ≠ 0 →
      exec .almanacSwitchEffect s = .next (s.settle s)))

/-- TASK_START starts the task that its core's rules pick: it takes the lowest free threads, each at the task's entry with s0 its
number, s1 the number of threads and a0 ARG; a gate that says so skips it and adds its increment; an invalid record raises
TASK_INVALID (R87, R88, R334). A started task runs on as many threads as its record says, the lowest-numbered free ones: thread j
holds the task at its entry with s0 = j, s1 = THREADS and a0 = ARG, every other register 0 and no loop open; only the first names
the task's vector context; other threads are as before (R87, R88). -/
def Obligations.TasksStartOnTheirThreads : Prop :=
  (∀ (s : State) (c : CoreId) (t : TaskInst),
    let k := s.core c
    let frames := ((k.tasks.filter TaskInst.unstarted).map fun t => t.ctx.frame).eraseDups
    s.rec0.stopped = false → s.run.saving = false → s.pickTask c [] (frames.mergeSort fun a b => decide (a ≤ b)) = some t →
    (t.stage ≠ .invalid → s.gateOf c t ≠ .skip → exec (.taskStart c) s = .next (s.settle (s.setCore c (k.startTask t)))) ∧
    (t.stage ≠ .invalid → s.gateOf c t = .skip → exec (.taskStart c) s = .next (s.settle (s.setCore c
      ((k.modTask t.ctx.uid fun x => { x with stage := .skipped }).addCounter
        (t.ctx.ctr (BitVec.ofNat 6 t.gate.ctr)) (BitVec.ofNat 16 t.gate.sinc))))) ∧
    (t.stage = .invalid → exec (.taskStart c) s = .next (s.settle (raise 0x0102 1 c.toNat t.ctx.taskId.toNat
      (s.setCore c (k.modTask t.ctx.uid fun x => { x with stage := .ended })))))) ∧
  (∀ (k : Core) (t : TaskInst) (i j : Nat), t.trec.threads ≤ k.freeThreads.length → j < t.trec.threads →
    k.freeThreads[j]? = some i →
    (∀ th, mapFind (k.startTask t).threads i = some th → th.task = t.ctx ∧ th.pc = BitVec.ofNat 64 t.trec.entry ∧
      th.getS 0 = BitVec.ofNat 64 j ∧ th.getS 1 = BitVec.ofNat 64 t.trec.threads ∧ th.getA 0 = BitVec.ofNat 64 t.trec.arg ∧
      (∀ r : SReg, 2 ≤ r.toNat → th.getS r = 0) ∧ (∀ r : AReg, r ≠ 0 → th.getA r = 0) ∧ th.loops = [] ∧ th.pend = [] ∧
      th.held = none ∧ th.first = decide (j = 0)) ∧
    (mapFind (k.startTask t).threads i).isSome = true ∧
    (∀ n, (mapFind k.threads n).isSome = true → mapFind (k.startTask t).threads n = mapFind k.threads n))

/-! # The granary, the smithy and the commit (spec/11, spec/09) -/

/-- A STASH does its work in the slot that is PENDING for it since its start; a slot that no table declares (DEDUCED, log 78), and one
that is already used, raise STASH_INVALID (R344, R345). A parity-reduction request of a step that runs no parity completes at once; the first one of a parity
step waits for every inbound row copy, sends the staged deltas, TIER_STAGE.PHASE is 2 and B_DONE goes out when nothing is awaited; a later
one completes at once (R301, R361, R389). APPLY retires at once after its step's commit is applied; before, without parity, it writes the
commit record where the meter of stack 0 is above zero (R364), and so does the module itself once the COMMIT section is quiet, which ends Phase
A of a group's member whose almanac asked for no reduction (R362; DESIGN CHOICE, log 41). A command of a commit starts once the reduce section
has completed (R10): the first staging request is a start point of the commit, one after the parity reduction or an APPLY raises
SMITHY_ORDER, and an APPLY after the first is done at once (R361, R362, R517). -/
def Obligations.GranaryAndCommitRequests : Prop :=
  ∀ (s : State) (c : CoreId) (r : Run) (q : Nat),
    (tgtQueue s.unitsEff 5 = some q → Runs s c q .x 2 5 r → ∀ slot, field r.args.param.toNat 63 48 = slot →
      (∀ x, s.run.active.slotEntry slot = some x → (mapFind s.granary.slots slot = none ∨
          ∃ g, mapFind s.granary.slots slot = some g ∧ g.state = .pending ∧ g.addr = ownerOf c q) → ∀ w,
        Completes (stashWork slot x r.args) s c q r w →
        exec (.stash c) s = .next (s.settle (finished c q w))) ∧
      (s.run.active.slotEntry slot = none ∨
          (∃ g, mapFind s.granary.slots slot = some g ∧ ¬ (g.state = .pending ∧ g.addr = ownerOf c q)) →
        exec (.stash c) s = .next (s.settle (raise 0x0112 1 c.toNat r.args.task.taskId.toNat
          { (s.modCore c fun k => k.markFailed q) with tier := s.tier.forget (.engine c q) })))) ∧
    (tgtQueue s.unitsEff 7 = some q → Runs s c q .x 2 7 r →
      (s.parityRuns = false → exec (.parityReduction c) s = .next (s.settle (finished c q (workFrom s c q r)))) ∧
      (s.parityRuns = true → ∀ a, a = s.sendTrained →
        (∀ w, a.smithy.phase < 2 → a.inboundWaiting = false →
          Completes (sendDeltas r.args) { a with smithy := { a.smithy with phase := 2 } } c q r w →
          exec (.parityReduction c) s = .next (s.settle (finished c q w).tryBDone)) ∧
        (a.smithy.phase < 2 → a.inboundWaiting = true → exec (.parityReduction c) s = .next (s.settle a)) ∧
        (2 ≤ a.smithy.phase → exec (.parityReduction c) s = .next (s.settle (finished c q (workFrom a c q r)))))) ∧
    (tgtQueue s.unitsEff 4 = some q → Runs s c q .x 2 4 r → r.cmd.task.detour = none → r.cmd.d1 = 0 → r.cmd.d2 = 0 →
      r.args.param = 0 →
      (s.run.anyCommit = true → r.args.task.step ≤ s.run.committed → s.smithy.phase = 0 →
        exec (.apply c) s = .next (s.settle (finished c q (workFrom s c q r)))) ∧
      (s.run.anyCommit = false ∨ s.run.committed < r.args.task.step ∨ s.smithy.phase ≠ 0 →
        exec (.apply c) s = .next (s.settle s.applyNow))) ∧
    (s.commitQuiet = true → s.smithy.applyStarted = false → s.rec0.stopping = false → ∀ t, t = s.tellReady →
      (t.commitOpen = false → exec .autoApply s = .next (s.settle t)) ∧
      (t.commitOpen = true → t.parityRuns = false → exec .autoApply s =
        .next (s.settle ({ t with smithy := { t.smithy with applyStarted := true } }).applyNow)) ∧
      (t.commitOpen = true → t.parityRuns = true → 2 ≤ t.smithy.phase → exec .autoApply s =
        .next (s.settle { t with smithy := { t.smithy with applyStarted := true } })) ∧
      (t.commitOpen = true → t.parityRuns = true → t.smithy.phase ≤ 1 →
        ({ t with smithy := { t.smithy with parityStarted := true } }).sendTrained.inboundWaiting = false →
        ∃ u, exec .autoApply s = .next u ∧ u.smithy.phase = 2 ∧ u.smithy.applyStarted = true)) ∧
    (s.commitQuiet = false ∨ s.smithy.applyStarted = true ∨ s.rec0.stopping = true → exec .autoApply s = .next (s.settle s)) ∧
    (s.parityRuns = false → s.tables.entries = [] → s.rec0.stopping = false → s.run.inStep = true → s.smithy.phase ≤ 2 →
      0 < mapGet 0 s.bud.hbm 0 → s.applyNow = s.writeRecord.sweepVersions) ∧
    (∀ (n : BitVec 4) (cmd : EngCmd) (rest : List QCmd), ((s.core c).queue n.toNat).waiting = .eng cmd :: rest →
      ((s.core c).queue n.toNat).run = none → tgtQueue s.unitsEff cmd.tgt.toNat = some n.toNat → cmd.slot = .x → cmd.op = 2 →
      cmd.tgt = 3 ∨ cmd.tgt = 4 ∨ cmd.tgt = 7 → ∀ t, t = s.tellReady →
      (t.commitOpen = false → exec (.engineCommandStart c n) s = .next (s.settle t)) ∧
      (t.commitOpen = true → t.rec0.stopped = false →
        condHolds cmd.wait.cond ((s.core c).counter cmd.wait.ctr) cmd.wait.value = true → n.toNat ∉ (s.core c).errors.cmd →
        ∀ a u, a = startArgs (s.core c) cmd →
        u = t.setCore c ((s.core c).setQueue n.toNat ⟨rest, some ⟨cmd, a, false, 0, false, 0, false⟩⟩) →
        (cmd.tgt = 3 → t.smithy.applyStarted = false → t.smithy.parityStarted = false → exec (.engineCommandStart c n) s =
          .next (s.settle { u with smithy := { u.smithy with phase := max u.smithy.phase 1 } })) ∧
        (cmd.tgt = 3 → t.smithy.applyStarted = true ∨ t.smithy.parityStarted = true → exec (.engineCommandStart c n) s =
          .next (s.settle (raise 0x0116 1 c.toNat a.task.taskId.toNat
            { (u.modCore c fun k => k.markFailed n.toNat) with tier := u.tier.forget (.engine c n.toNat) }))) ∧
        (cmd.tgt = 7 → exec (.engineCommandStart c n) s = .next (s.settle
          { u with smithy := { u.smithy with parityStarted := u.smithy.parityStarted || s.fab.parity.isSome } })) ∧
        (cmd.tgt = 4 → cmd.task.detour = none → cmd.d1 = 0 → cmd.d2 = 0 → a.param = 0 → exec (.engineCommandStart c n) s =
          .next (s.settle (if t.smithy.applyStarted = true then u.modCore c fun k => k.markDone n.toNat 0
            else { u with smithy := { u.smithy with applyStarted := true } })))))

/-- Phase B to D. A holder adds a delta page to the alternate sums of its stripe, word by word, and acknowledges it once it stands; in a
recovery the delta goes into the current sums (R252, R479). B_DONE of the step counts, and so does what a member tells of its G, DMAX,
base and D, which must agree once both are as far (R298; DEDUCED, log 76). With every member's B_DONE the commit record is written:
64 bytes with a CRC-32C in slot step mod 2, FAB_COMMIT, the step boundary; then the deltas are applied, the buffers change places and the
step's marks go, TIER_STAGE.PHASE reading 4 while some are left (R299, R301, R302, R362, R364, R365). A word that rests on a poisoned one is
poisoned (R261; DEDUCED, log 166). Where the slots stand in the system reserve is the model's choice (DESIGN CHOICE, log 146).
PARITY_BUILD works while a build is due and the MAINT meter of the die allows it; the build complete, VALID is 1 and the group no longer
degraded (R300, R478; DESIGN CHOICE, log 147). -/
def Obligations.CommitPhases : Prop :=
  ∀ s : State,
    (∀ (src : ModId) (stripe : W32) (bytes : List Byte) (tag : W32) (p : ParityCfg) (st : Nat), s.fab.parity = some p →
      stripe.toNat = st →
      let sum (old new : Nat) : Nat × State := s.writeSum (.remote src.toNat tag.toNat) [old] new
        (addWords (s.peekLocal old pageBytes) bytes)
      let added (old new : Nat) : State :=
        if (sum old new).1 = 0 then (sum old new).2.send (.bulkAck src.toNat tag.toNat) else (sum old new).2
      let cur := p.stripeVa s.groupSize s.fab.buf st
      let alt := p.stripeVa s.groupSize (1 - s.fab.buf) st
      (s.rec0.q = none → s.rec0.stopped = false → s.parityRuns = true → st % s.groupSize = s.memberIdx → bytes.length = pageBytes →
        ∀ u : State, u = added (if (mapFind s.fab.deltas st).isSome = true then alt else cur) alt →
        exec (.parityDelta src stripe bytes tag) s = .next (s.settle
          { u with fab := { u.fab with deltas := mapPut u.fab.deltas st (mapGet 0 u.fab.deltas st + 1) } })) ∧
      (s.rec0.q.isSome = true → s.parityRuns = true → st % s.groupSize = s.memberIdx → bytes.length = pageBytes →
        exec (.parityDelta src stripe bytes tag) s = .next (s.settle (added cur cur))) ∧
      ((s.rec0.q = none ∧ s.rec0.stopped = true) ∨ s.parityRuns = false ∨ st % s.groupSize ≠ s.memberIdx ∨
          bytes.length ≠ pageBytes →
        exec (.parityDelta src stripe bytes tag) s = .next (s.settle s))) ∧
    (∀ (who : Requester) (old new : Nat) (b : List Byte),
      (s.poisonIn old b.length = [] → s.writeSum who [old] new b = (s.chargeLocal old b.length).pokeFor who new b) ∧
      (∀ w ∈ s.poisonIn old b.length, ∀ x, s.wordHere (new / 32 + w - old / 32) = some x →
        x ∈ (s.writeSum who [old] new b).2.tier.poison)) ∧
    (∀ tag : W32, exec (.bulkAck tag) s = .next (s.settle (s.acked tag.toNat).tryBDone)) ∧
    (s.smithy.phase = 2 → s.fab.bSent = false → s.parityRuns = true → s.deltasOut = false →
      s.tryBDone.fab.bSent = true ∧ s.modNo ∈ s.tryBDone.fab.bDone) ∧
    (∀ (src : ModId) (n : W64), n.toNat = s.run.step → s.rec0.stopped = false → exec (.commitCtrl src n none) s =
      .next (s.settle { s with fab := { s.fab with bDone := (s.fab.bDone ++ [src.toNat]).eraseDups } })) ∧
    (∀ (src : ModId) (n : W64), n.toNat ≠ s.run.step ∨ s.rec0.stopped = true →
      exec (.commitCtrl src n none) s = .next (s.settle s)) ∧
    (∀ (src : ModId) (n : W64) (x : BitVec 4 × W32 × W64 × W32) (t : State),
      t = { s with fab := { s.fab with
        ready := mapPut s.fab.ready src.toNat n.toNat
        memberCfg := mapPut s.fab.memberCfg src.toNat (x.1.toNat, x.2.1.toNat, x.2.2.1.toNat, x.2.2.2.toNat) } } →
      (s.rec0.stopped = true → exec (.commitCtrl src n (some x)) s = .next (s.settle s)) ∧
      (s.rec0.stopped = false → (∀ p, s.fab.parity = some p → s.fab.degraded = true ∨
          mapFind s.fab.ready s.modNo ≠ some n.toNat ∨ (p.g = x.1.toNat ∧ p.dmax = x.2.1.toNat)) →
        exec (.commitCtrl src n (some x)) s = .next (s.settle t)) ∧
      (∀ p, s.rec0.stopped = false → s.fab.parity = some p → s.fab.degraded = false →
        mapFind s.fab.ready s.modNo = some n.toNat → p.g ≠ x.1.toNat ∨ p.dmax ≠ x.2.1.toNat →
        exec (.commitCtrl src n (some x)) s = .next (s.settle (raise 0x0118 0 0 0 t)))) ∧
    (s.parityRuns = true → s.smithy.phase = 2 → s.fab.bSent = true → s.allDone = true → s.rec0.stopping = false →
      s.run.inStep = true → 0 < mapGet 0 s.bud.hbm 0 → exec .commitRecordWrite s = .next (s.settle s.copyStripes.writeRecord.sweepVersions)) ∧
    (s.allDone = false ∨ s.smithy.phase ≠ 2 ∨ s.rec0.stopping = true ∨ mapGet 0 s.bud.hbm 0 ≤ 0 →
      exec .commitRecordWrite s = .next (s.settle s)) ∧
    (s.writeRecord.run.committed = s.run.step ∧ s.writeRecord.run.inStep = false ∧ s.writeRecord.run.nextStep = s.run.step + 1 ∧
      s.writeRecord.fab.lastStep = s.run.step ∧ s.writeRecord.fab.lastFrame = s.bel.frame ∧ s.writeRecord.smithy.phase = 3 ∧
      s.writeRecord.tier.hbm.readBytes (recordByte (s.run.step % 2)) 64 =
        CommitRec.image ⟨s.run.step, s.bel.frame, s.nextBuf, s.groupSize, s.run.active.ident⟩ ∧
      s.writeRecord.recordIn (1 - s.run.step % 2) = s.recordIn (1 - s.run.step % 2)) ∧
    (∀ r : CommitRec, r.step < 2 ^ 64 → r.frame < 2 ^ 48 → r.buf < 256 → r.g < 256 → r.almanac < 2 ^ 64 →
      CommitRec.of (CommitRec.image r) = some r) ∧
    (3 ≤ s.smithy.phase → s.smithy.applyStarted = true → exec .deltaApply s = .next (s.settle
      (if (s.phaseD false).smithy.phase = 0 then (s.phaseD false).takeHolds else s.phaseD false))) ∧
    (s.smithy.phase < 3 ∨ s.smithy.applyStarted = false → exec .deltaApply s = .next (s.settle s)) ∧
    ((s.phaseD true).smithy.phase = 0 ∧ (s.phaseD true).smithy.touched = [] ∧
      (s.phaseD true).smithy.undo = s.smithy.undo ++ s.smithy.touched) ∧
    ((s.phaseD false).smithy.phase = if (s.phaseD false).smithy.touched = [] then 0 else 4) ∧
    (∀ (done : Bool) (p : ParityCfg), s.fab.parity = some p → s.fab.building = true → s.maintOpen 8 = true →
      (∀ (st : W32) (bytes : List Byte) (u : State), s.fab.built = true → st.toNat % s.groupSize = s.memberIdx →
        bytes.length = pageBytes →
        u = (s.chargeMaint 8 (Config.copyCycles pageBytes)).pokeLocal (p.stripeVa s.groupSize s.fab.buf st.toNat) bytes →
        exec (.parityBuild [(st, bytes)] done) s = .next (s.settle { u with fab := { u.fab with
          valid := done, building := !done, degraded := !done && u.fab.degraded } })) ∧
      (∀ u : State, s.fab.built = false → u = (s.chargeMaint 8 (Config.copyCycles (p.pages * pageBytes))).sendShard p →
        exec (.parityBuild [] done) s = .next (s.settle { u with fab := { u.fab with
          valid := done, building := !done, degraded := !done && u.fab.degraded } }))) ∧
    (∀ (done : Bool) (sums : List (W32 × List Byte)), s.fab.parity = none ∨ s.fab.building = false ∨ s.maintOpen 8 = false →
      exec (.parityBuild sums done) s = .next (s.settle s))

/-! # Memory and the tiers (spec/08) -/

namespace Sys2Proof.Claims

/-- The guard band of an almanac frame that began at tick `f` has begun: cycle 15,360 of its last bell frame. -/
def guardBegun (s : State) (f : Nat) : Prop := ∀ o ∈ s.run.openFrames, o.first = f →
  o.first + o.bells - 1 < s.bel.frame ∨ (s.bel.frame = o.first + o.bells - 1 ∧ 15360 ≤ s.bel.cycle)

end Sys2Proof.Claims

/-- Reads. The home answers from its HBM, and a poisoned word with a poisoned reply; a signpost forwards; any other module answers
NOT_HOME. Data goes to the read that waits for it and nowhere else, a poisoned answer comes to it as such, and late SUBSTITUTE
data is dropped. A SUBSTITUTE row read of the core that has not come by the guard band is late. A NOT_HOME drops the entry and asks
the directory; the directory answers with what it holds; a reply installs the entry or says there is none. A word of HBM that was
corrected is counted at its frame; an uncorrectable one is poisoned, and stops the command that asked for it; a read of the scrub takes of
the MAINT budget of the stack's agent and of the stack's HBM meter, and stops nothing (R59, R237, R241, R242, R257, R260, R261, R262). -/
def Obligations.ReadsFindTheirHome : Prop :=
  ∀ s : State,
    (∀ (src : ModId) (va : VA) (len : BitVec 17) (tag : W32) (stage : Bool) (p : Nat), p = va.toNat / pageBytes →
      (∀ e b u, s.standing p = .home e → e.tier = .local →
        ((s.lendTo p src.toNat e stage).addHeat p len.toNat).readFrame e.frame (va.toNat % pageBytes) len.toNat = .ok b u →
        exec (.readReq src va len tag stage none) s =
          .next (s.settle (u.send (.readData src.toNat va.toNat b tag.toNat u.modNo))) ∧
        b = s.tier.hbm.readBytes (e.frame * pageBytes + va.toNat % pageBytes) len.toNat) ∧
      (∀ e code u, s.standing p = .home e → e.tier = .local →
        ((s.lendTo p src.toNat e stage).addHeat p len.toNat).readFrame e.frame (va.toNat % pageBytes) len.toNat = .fault code u →
        exec (.readReq src va len tag stage none) s = .next (s.settle (u.send (.poisoned src.toNat va.toNat len.toNat tag.toNat)))) ∧
      (∀ m, s.standing p = .signpost m → exec (.readReq src va len tag stage none) s =
        .next (s.settle (s.send (.readReq m src.toNat va.toNat len.toNat tag.toNat false none)))) ∧
      (s.standing p = .stranger → exec (.readReq src va len tag stage none) s =
        .next (s.settle (s.send (.notHome src.toNat va.toNat tag.toNat none))))) ∧
    (∀ (home : ModId) (va : VA) (bytes : List Byte) (poison : Option (BitVec 17)) (r : ReadOut) (n : Nat),
      n = (match poison with
        | some k => k.toNat
        | none => bytes.length) →
      (s.tier.reads.filter fun r => r.va == va.toNat && r.len == n && r.host.isNone) = [r] → r.row = none →
      mapFind s.tier.xlate (va.toNat / pageBytes) = none →
      exec (.readData home va bytes ⟨false, poison⟩) s =
        .next (s.settle (if poison.isSome = true then s.deliver r (List.replicate n 0) true else s.deliver r bytes))) ∧
    (∀ (a : W64) (bytes : List Byte) (r : ReadOut),
      (s.tier.reads.filter fun r => r.host == some a.toNat && r.len == bytes.length) = [r] →
      exec (.hostMemoryReadComplete a bytes) s = .next (s.settle
        (State.deliver { s with hostMem := s.hostMem.writeBytes a.toNat bytes } r bytes))) ∧
    (∀ (r : ReadOut) (bytes : List Byte) (bad : Bool),
      ((∀ t, r.who ≠ .aperture t) → r ∉ (s.deliver r bytes bad).tier.reads) ∧
      (r.late = true → (s.deliver r bytes bad).tier.arrived = s.tier.arrived ∧ (s.deliver r bytes bad).outbox = s.outbox) ∧
      (∀ c q, r.late = false → r.who = .engine c q →
        (s.deliver r bytes bad).tier.arrived = s.tier.arrived ++ [⟨r.who, r.va, bytes, bad⟩] ∧
        (s.deliver r bytes bad).outbox = s.outbox)) ∧
    (∀ c : CoreId, ∃ t, exec (.readDeadline c) s = .next t ∧ t.tier.xlate = s.tier.xlate ∧ t.tier.hbm = s.tier.hbm ∧
      t.tier.arrived = s.tier.arrived ∧ ∀ (i : Nat) (r : ReadOut), s.tier.reads[i]? = some r →
        (∀ q, r.who = .engine c q → r.sub = true → guardBegun s r.frame → t.tier.reads[i]? = some { r with late := true }) ∧
        (r.sub = false ∨ ¬ guardBegun s r.frame ∨ (∀ q, r.who ≠ .engine c q) → t.tier.reads[i]? = some r)) ∧
    (∀ (va : VA) (tag : W32) (home : Option ModId) (p : Nat), p = va.toNat / pageBytes → p ≠ 0 → s.hif.aper = [] →
      (∀ e, mapFind s.tier.xlate p = some e → e.tier = .pool ∨ e.tier = .staged) →
      (∀ r d, d = s.dirAt p → d ≠ s.modNo → (s.route d).isSome = true → (∀ q ∈ s.tier.queries, q.1 ≠ p) →
        (s.tier.reads.filter fun r => r.va == va.toNat && r.host.isNone) = [r] → (∀ w ∈ s.tier.writesOut, w.tag ≠ tag.toNat) →
        ∃ u, exec (.notHome va tag home none) s = .next (s.settle u) ∧ mapFind u.tier.xlate p = none ∧ r ∉ u.tier.reads ∧
          u.tier.queries = s.tier.queries ++ [(p, r.who)] ∧ u.outbox = s.outbox ++ [.dirQuery d p]) ∧
      (∀ w e, s.dirAt p = s.modNo → mapFind s.tier.dir p = some e → s.tier.writesOut = [w] → w.tag = tag.toNat →
        w.va / pageBytes = p → w.bytes ≠ [] → ∃ u, exec (.notHome va tag home none) s = .next (s.settle u) ∧
          u.tier.writesOut = [{ w with again := false }] ∧
          u.outbox = s.outbox ++ [.write (xOfDir e).mod s.modNo w.va w.bytes w.tag])) ∧
    (∀ (src : ModId) (p : BitVec 36), exec (.dirQuery src p) s =
      .next (s.settle (s.send (.dirReply src.toNat p.toNat (mapFind s.tier.dir p.toNat))))) ∧
    (∀ p : BitVec 36, s.dirAt p.toNat ≠ s.modNo → s.hif.aper = [] → s.tier.writesOut = [] → mapFind s.tier.xlate p.toNat = none →
      (∀ d, d.home ≠ s.modNo → ∃ t, exec (.dirReply p (some d)) s = .next t ∧ mapFind t.tier.xlate p.toNat = some (xOfDir d) ∧
        t.tier.queries = s.tier.queries.filter fun q => q.1 != p.toNat) ∧
      (∃ t, exec (.dirReply p none) s = .next t ∧ t.tier.xlate = s.tier.xlate ∧
        t.tier.noEntry = s.tier.noEntry ++ s.tier.queries.filter (fun q => q.1 == p.toNat) ∧
        t.tier.queries = s.tier.queries.filter fun q => q.1 != p.toNat)) ∧
    (∀ (w : BitVec 35) (o : BitVec 2) (q : Option (CoreId × BitVec 4)), 32 * w.toNat < hbmBytes →
      (o = 0 → w.toNat ∉ s.tier.poison → exec (.hbmReadComplete w o ⟨q, false⟩) s = .next (s.settle s)) ∧
      (o = 1 → w.toNat ∉ s.tier.poison → ∃ t, exec (.hbmReadComplete w o ⟨q, false⟩) s = .next t ∧ t.tier.poison = s.tier.poison ∧
        mapGet [] t.tier.corr (w.toNat / 2048) = s.corrOf (w.toNat / 2048) ++ [s.bel.frame] ∧ t.tier.hbm = s.tier.hbm) ∧
      (o = 2 → ∃ t, exec (.hbmReadComplete w o ⟨q, false⟩) s = .next t ∧ w.toNat ∈ t.tier.poison ∧ t.tier.hbm = s.tier.hbm ∧
        ∀ c k r, q = some (c, k) → ((s.core c).queue k.toNat).run = some r → r.done = false → r.failed = false →
          ((t.core c).queue k.toNat).run = some { r with failed := true }) ∧
      (∀ st, st = w.toNat / 2048 / framesPerStack →
        (s.maintOpen st = true → exec (.hbmReadComplete w o ⟨q, true⟩) s =
          .next (s.settle (((s.eccOutcome w.toNat o).chargeHbm st 32).chargeMaint st (Config.copyCycles 32)))) ∧
        (s.maintOpen st = false → exec (.hbmReadComplete w o ⟨q, true⟩) s = .next (s.settle s)))) ∧
    (∀ (w : BitVec 35) (o : BitVec 2) (q : Option (CoreId × BitVec 4)) (b : Bool), hbmBytes ≤ 32 * w.toNat →
      exec (.hbmReadComplete w o ⟨q, b⟩) s = .fault (.noSuchHbm (32 * w.toNat)))

/-- Writes. The home of a page that nobody has staged applies the bytes and acknowledges; with a holder it keeps the write back and
tells the holder once to drop its copy, and applies it once the last holder's acknowledgement, or its notice of having dropped the copy,
has come. A signpost forwards; any other module answers NOT_HOME. The acknowledgement goes to whoever awaits it. A holder drops its
copy on INVAL, counts it and acknowledges, and tells the home when it drops one of its own (R241, R242, R250, R252, R253, R289). A stopped
home discards a write of the stopped step (R468), and answers nothing (the model's choice: DESIGN CHOICE, log 164). -/
def Obligations.WritesReachTheirHome : Prop :=
  ∀ s : State,
    (∀ (src : ModId) (va : VA) (bytes : List Byte) (tag : W32) (p : Nat), p = va.toNat / pageBytes →
      (∀ e, s.standing p = .home e → s.rec0.stopped = true → exec (.write src va bytes tag) s = .next (s.settle s)) ∧
      (∀ e, s.standing p = .home e → s.rec0.stopped = false → mapGet [] s.tier.holders p = [] → exec (.write src va bytes tag) s =
        .next (s.settle ((s.applyAtHome e va.toNat bytes).send (.writeAck src.toNat tag.toNat s.modNo)))) ∧
      (∀ e h, s.standing p = .home e → s.rec0.stopped = false → mapGet [] s.tier.holders p = [h] → exec (.write src va bytes tag) s =
        .next (s.settle (let u : State := { s with tier := { s.tier with
            writes := s.tier.writes ++ [⟨.remote src.toNat tag.toNat, va.toNat, bytes, [h]⟩]
            invals := if s.tier.invals.contains p then s.tier.invals else s.tier.invals ++ [p] } }
          if s.tier.invals.contains p then u else u.send (.inval h p)))) ∧
      (∀ m, s.standing p = .signpost m → exec (.write src va bytes tag) s =
        .next (s.settle (s.send (.write m src.toNat va.toNat bytes tag.toNat)))) ∧
      (s.standing p = .stranger → mapFind s.tier.movesIn p = none → exec (.write src va bytes tag) s =
        .next (s.settle (s.send (.notHome src.toNat va.toNat tag.toNat none))))) ∧
    (∀ (e : XEntry) (va : Nat) (bytes : List Byte), e.tier = .local →
      (s.applyAtHome e va bytes).tier.hbm = s.tier.hbm.writeBytes (e.frame * pageBytes + va % pageBytes) bytes ∧
      (s.applyAtHome e va bytes).hostMem = s.hostMem ∧ (s.applyAtHome e va bytes).cores = s.cores ∧
      (s.applyAtHome e va bytes).tier.xlate = s.tier.xlate) ∧
    (∀ (tag : W32) (home : ModId) (w : WriteOut) (c : CoreId) (q : Nat),
      s.tier.writesOut.find? (fun x => x.tag == tag.toNat) = some w → w.who = .engine c q →
      w.add = none → mapFind s.tier.xlate (w.va / pageBytes) = none → exec (.writeAck tag home) s = .next (s.settle
        (State.modCore { s with tier := { s.tier with writesOut := s.tier.writesOut.filter fun x => x.tag != tag.toNat } } c
          fun k => k.ackOne q))) ∧
    (∀ (tag : W32) (home : ModId), s.tier.writesOut.find? (fun x => x.tag == tag.toNat) = none →
      exec (.writeAck tag home) s = .next (s.settle s)) ∧
    (∀ (src : ModId) (p : BitVec 36),
      exec (.invalAck src p) s = .next (s.settle (s.loseHolder src.toNat p.toNat)) ∧
      exec (.stageDropNotice src p) s = .next (s.settle (s.loseHolder src.toNat p.toNat))) ∧
    (∀ (h p m tag va : Nat) (e : XEntry) (bytes : List Byte), mapGet [] s.tier.holders p = [h] → mapFind s.tier.xlate p = some e →
      va / pageBytes = p → s.tier.writes = [⟨.remote m tag, va, bytes, [h]⟩] → mapFind s.tier.movesOut p = none →
      s.loseHolder h p = (State.applyAtHome { s with tier := { s.tier with
        holders := mapErase s.tier.holders p
        xlate := mapPut s.tier.xlate p { e with lent := false }
        invals := s.tier.invals.filter fun v => v != p
        movesOut := s.tier.movesOut.map fun x => if x.1 = p then (p, { x.2 with flipFrom := s.tickFor }) else x
        writes := [] } } { e with lent := false } va bytes).send (.writeAck m tag s.modNo)) ∧
    (∀ (home : ModId) (p : BitVec 36) (f : StageFrame) (e : XEntry),
      mapFind s.tier.staged p.toNat = some f → mapFind s.tier.xlate p.toNat = some e → e.tier = .staged →
      (∃ t, exec (.inval home p) s = .next (s.settle t) ∧ mapFind t.tier.staged p.toNat = none ∧
        mapFind t.tier.xlate p.toNat = some { e with tier := .pool, frame := 0 } ∧
        t.outbox = s.outbox ++ [.invalAck home.toNat p.toNat] ∧
        t.tier.regs.inval = min (s.tier.regs.inval + 1) (2 ^ 32 - 1)) ∧
      (∃ t, exec (.stageDrop p) s = .next (s.settle t) ∧ mapFind t.tier.staged p.toNat = none ∧
        mapFind t.tier.xlate p.toNat = some { e with tier := .pool, frame := 0 } ∧
        t.outbox = s.outbox ++ [.stageDropped f.home p.toNat])) ∧
    (∀ (home : ModId) (p : BitVec 36), mapFind s.tier.staged p.toNat = none →
      exec (.inval home p) s = .next (s.settle (s.send (.invalAck home.toNat p.toNat))) ∧
      exec (.stageDrop p) s = .next (s.settle s))

/-- Moves, heat, quotas and retirement. The directory grants a move of an entry that may move to a destination that accepts, or refuses;
pieces of a granted move land in the reserved frame, poison with them; at a tick after the grant the flip leaves POOL and a signpost at the
old home, and the frame's entry, with the directory's attributes, at the new one; the signpost goes one frame later; 64 frames after its
grant an unflipped move is abandoned at a tick, and flips no more. Heat decays at epoch ends; stage frames above a quota go
at once, and pages above one, less those that leave already, by moves, of which none begins under the economy cap; a
frame with 16 corrections in 24 hours is retired at a tick, one that does not exist stops (R66, R237, R243, R246-R249, R261, R262, R265,
R266). -/
def Obligations.PagesMove : Prop :=
  ∀ s : State,
    (∀ (by_ source dest owner : ModId) (p : BitVec 36) (host a : Bool) (g : Option (BitVec 48 × BitVec 4)) (e : DEntry),
      s.dirAt p.toNat = s.modNo → mapFind s.tier.dir p.toNat = some e →
      ((s.moveAllowed e && s.destAccepts e.owner dest.toNat host a) = false → by_.toNat ≠ s.modNo →
        exec (.moveRequest by_ p source dest host owner a g) s =
        .next (s.settle (s.send (.moveGrant by_.toNat p.toNat dest.toNat e.attrs false)))) ∧
      ((s.moveAllowed e && s.destAccepts e.owner dest.toNat host a) = true → ∃ t,
        exec (.moveRequest by_ p source dest host owner a g) s = .next t ∧
        mapFind t.tier.dir p.toNat = some { e with moving := true } ∧
        mapFind t.tier.grants p.toNat = some (dest.toNat + (if host = true then 2 ^ 12 else 0), s.bel.frame) ∧
        t.tier.hbm = s.tier.hbm ∧ t.tier.xlate = s.tier.xlate)) ∧
    (∀ (by_ source dest owner : ModId) (p : BitVec 36) (host a : Bool), s.dirAt p.toNat ≠ s.modNo →
      exec (.moveRequest by_ p source dest host owner a none) s = .next (s.settle s) ∧
      (∀ g : BitVec 48 × BitVec 4, exec (.moveRequest by_ p source dest host owner a (some g)) s = .next (s.settle
        (s.moveGranted p.toNat source.toNat dest.toNat host g.1.toNat owner.toNat g.2.toNat)))) ∧
    (∀ (src : ModId) (p : BitVec 36) (i : BitVec 5) (bytes : List Byte) (bad : List (BitVec 6)) (tag : W32) (m : MoveIn),
      mapFind s.tier.movesIn p.toNat = some m → m.source = src.toNat → bytes.length = 2048 → ∃ t,
      exec (.movePiece src p i ⟨bytes, bad⟩ tag) s = .next (s.settle t) ∧
      (m.host = none → t.tier.hbm = s.tier.hbm.writeBytes (m.frame * pageBytes + 2048 * i.toNat) bytes ∧ t.hostMem = s.hostMem) ∧
      (∀ h, m.host = some h → t.hostMem = s.hostMem.writeBytes (h * pageBytes + 2048 * i.toNat) bytes ∧
        t.tier.hbm = s.tier.hbm) ∧
      (m.host = none → ∀ w ∈ bad, m.frame * 2048 + 64 * i.toNat + w.toNat ∈ t.tier.poison) ∧
      t.outbox = s.outbox ++ [.bulkAck src.toNat tag.toNat] ∧ t.tier.xlate = s.tier.xlate) ∧
    (∀ p : BitVec 36,
      (∀ m e, mapFind s.tier.movesOut p.toNat = some m → mapFind s.tier.xlate p.toNat = some e →
        (s.moveReady p.toNat m = false → exec (.pageFlip p) s = .next (s.settle s)) ∧
        (s.moveReady p.toNat m = true → m.dest ≠ s.modNo → ∃ t, exec (.pageFlip p) s = .next t ∧
          mapFind t.tier.xlate p.toNat = some { e with
            tier := .pool, mod := m.dest, frame := 0, host := 0, lent := false, away := m.toHost } ∧
          mapFind t.tier.signposts p.toNat = some ⟨m.dest, if e.tier = .local then some e.frame else none, s.bel.frame⟩ ∧
          mapFind t.tier.movesOut p.toNat = none ∧ t.tier.hbm = s.tier.hbm)) ∧
      (∀ m, mapFind s.tier.movesOut p.toNat = none → mapFind s.tier.movesIn p.toNat = some m →
        (s.bel.cycle = 0 → m.grant < s.bel.frame → s.bel.frame < m.grant + 64 → ∃ t, exec (.pageFlip p) s = .next t ∧
          mapFind t.tier.xlate p.toNat = some
            { tier := if m.host.isSome then .host else .local
              w := bit m.attrs 0, pin := bit m.attrs 1, lent := false, stage := bit m.attrs 2, late := bit m.attrs 3
              frame := if m.host.isSome then 0 else m.frame
              mod := 0, host := m.host.getD 0, away := false } ∧
          mapFind t.tier.movesIn p.toNat = none ∧ mapFind t.tier.owners p.toNat = some m.owner ∧ t.tier.hbm = s.tier.hbm) ∧
        (s.bel.cycle ≠ 0 ∨ s.bel.frame ≤ m.grant ∨ m.grant + 64 ≤ s.bel.frame → exec (.pageFlip p) s = .next (s.settle s))) ∧
      (∀ x, mapFind s.tier.signposts p.toNat = some x →
        (x.flip < s.bel.frame → exec (.signpostExpire p) s = .next (s.settle { s with
          tier := { s.tier with signposts := mapErase s.tier.signposts p.toNat } })) ∧
        (s.bel.frame ≤ x.flip → exec (.signpostExpire p) s = .next (s.settle s))) ∧
      (∀ g, s.grantTick p.toNat = some g →
        (s.bel.frame < g + 64 ∨ s.bel.cycle ≠ 0 → exec (.moveAbandon p) s = .next (s.settle s)) ∧
        (g + 64 ≤ s.bel.frame → s.bel.cycle = 0 → ∃ t, exec (.moveAbandon p) s = .next t ∧ t.grantTick p.toNat = none ∧
          (∀ e, mapFind s.tier.dir p.toNat = some e → mapFind t.tier.dir p.toNat = some { e with moving := false }) ∧
          t.tier.xlate = s.tier.xlate ∧ t.tier.hbm = s.tier.hbm))) ∧
    (∀ room : List (ModId × Bool), (s.bel.frame % 2 ^ s.tier.regs.epoch ≠ 0 ∨ s.bel.cycle ≠ 0 →
        exec (.epochEnd room) s = .next (s.settle s)) ∧
      (s.bel.frame % 2 ^ s.tier.regs.epoch = 0 → s.bel.cycle = 0 → s.bel.econ = true → s.tables.entries = [] → ∃ t,
        exec (.epochEnd room) s = .next t ∧
        t.tier.heat = (s.tier.heat.map fun e =>
          (e.1, (min (e.2.1 - e.2.1 / 2 ^ s.tier.regs.decay + e.2.2) 65535, 0))).filter (fun e => e.2.1 != 0) ∧
        t.tier.xlate = s.tier.xlate ∧ t.outbox = s.outbox)) ∧
    (∀ room, (∀ c, c ≤ 4 → s.quotaUse c ≤ s.quotaLimit c) → exec (.quotaExcessPush room) s = .next (s.settle s)) ∧
    (∀ room, s.bel.econ = true → exec (.quotaExcessPush room) s = .next (s.settle s.dropStages)) ∧
    (∀ p, s.quotaUse 0 ≤ s.quotaLimit 0 → s.quotaUse 4 = s.quotaLimit 4 + 1 → s.oldestStage = some p → s.dropStages = s.yieldStage p) ∧
    (∀ p room, s.bel.econ = false → s.quotaUse 0 ≤ s.quotaLimit 0 → s.quotaUse 4 = s.quotaLimit 4 + 1 → s.oldestStage = some p →
      (∀ c, c < 4 → (s.yieldStage p).quotaUse c ≤ (s.yieldStage p).quotaLimit c) →
      exec (.quotaExcessPush room) s = .next (s.settle (s.yieldStage p))) ∧
    (∀ p d h room, s.quotaLimit 0 < s.quotaUse 0 - s.leaving 0 → s.tier.staged = [] → s.bel.econ = false → 
      s.excessMove (room.map fun x : ModId × Bool => (x.1.toNat, x.2)) 0 = some (p, d, h) →
      (∀ c, c < 4 → (s.requestMove p d h).quotaUse (c + 1) ≤ (s.requestMove p d h).quotaLimit (c + 1)) →
      exec (.quotaExcessPush room) s = .next (s.settle (s.requestMove p d h))) ∧
    (∀ f : BitVec 24,
      (8 * framesPerStack ≤ f.toNat → exec (.frameRetirement f) s = .fault (.noSuchHbm (f.toNat * pageBytes))) ∧
      (f.toNat < 8 * framesPerStack → (s.corrOf f.toNat).length < 16 ∨ s.bel.cycle ≠ 0 →
        exec (.frameRetirement f) s = .next (s.settle s)) ∧
      (f.toNat < 8 * framesPerStack → 16 ≤ (s.corrOf f.toNat).length → s.bel.cycle = 0 → ∃ t,
        exec (.frameRetirement f) s = .next t ∧ f.toNat ∈ t.tier.retired ∧ mapFind t.tier.corr f.toNat = none))

/-! # Links, rings and membership, and data that arrives (spec/09) -/

namespace Sys2Proof.Claims

/-- A port that serves its link. -/
def Serving (s : State) (n : Nat) : Prop := (s.port n).state = .up ∧ (s.port n).bypass = false

/-- The number of a cell (SEQ) and what it acknowledges. -/
def cellSeq (b : List Byte) : Nat := blkNat b 8 2 % 4096

/-- A port after it has accepted a cell: what the cell acknowledges leaves the replay buffer, the next number is expected, and the
cell's credits are back. -/
def accepted (p : PortReg) (b : List Byte) : PortReg :=
  ({ (p.ackTo (blkNat b 10 2 % 4096)) with nextRecv := (p.nextRecv + 1) % 4096 }).credit (creditsOf (blkNat b 272 8))

end Sys2Proof.Claims

/-- Links. A good cell with the expected number is accepted: one for this module leaves its slot at once, but for a BULK cell that waits
for staging (log 74), any other waits to be sent on; every other cell, and one that finds no slot (DESIGN CHOICE, log 148), is discarded and
a NAK names the expected number. An
acknowledgement frees the replay buffer up to the cell it names, a NAK has the cells that it does not acknowledge sent again in order; a
block whose CRC fails changes nothing but the counts of the port's FEC (R271, R272). A keeper in BYPASS passes cells and IDLE blocks on to
the opposite port (R282). A port retrains at half width on the lane pair that is good, or goes DOWN with neither, and counts it (R270);
training ends UP exactly where the peer's position differs in the port's dimension alone (R277), sends again what is not acknowledged, and
from number 0 for another peer, whose link it forgets (R273, R288; log 29); a lost stream retrains, a link that stays DOWN toward a live peer makes the
higher-numbered module leave its rings, and a ring that does not train has the machine hold IDLE until a port of it comes UP (R285, R473; log
162). A message of the module's
own waits at the port of its route as cells of up to four payload units, and charges that port's FABRIC meter unless it acknowledges or is
of class CTRL; one that no route serves raises ROUTE_NONE (log 143); in BYPASS none is sent (R274, R283, R290; log 119). -/
def Obligations.LinksCarryCellsInOrder : Prop :=
  ∀ (s : State) (n : Port) (b : List Byte) (fec : Byte × Byte),
    let p := (s.port n.val).countFec (fec.1.toNat, fec.2.toNat)
    let a := accepted p b
    let opp := if n.val % 2 = 0 then n.val + 1 else n.val - 1
    (Serving s n.val → cellGood b = true → cellSeq b = p.nextRecv → p.recv.length < 455 → cellDest b = s.modNo →
      s.bulkWaits p.recv b = false →
      exec (.cellReceive n ⟨b, fec⟩) s =
        .next (s.settle ((s.setPort n.val a).sendIdle n.val false a.lastRecv [(cellVc b, 1)]).pushLinks)) ∧
    (Serving s n.val → cellGood b = true → cellSeq b = p.nextRecv → p.recv.length < 455 →
      cellDest b ≠ s.modNo ∨ s.bulkWaits p.recv b = true →
      exec (.cellReceive n ⟨b, fec⟩) s = .next (s.settle (s.setPort n.val { a with recv := a.recv ++ [b] }).pushLinks)) ∧
    (Serving s n.val → cellGood b = false ∨ cellSeq b ≠ p.nextRecv ∨ 455 ≤ p.recv.length →
      exec (.cellReceive n ⟨b, fec⟩) s = .next (s.settle ((s.setPort n.val p).sendIdle n.val true p.nextRecv []))) ∧
    ((s.port n.val).bypass = true →
      exec (.cellReceive n ⟨b, fec⟩) s = .next (s.settle (s.send (.cell opp b))) ∧
      exec (.idleBlock n ⟨b, fec⟩) s = .next (s.settle (s.send (.idle opp b)))) ∧
    ((s.port n.val).bypass = false → (s.port n.val).state ≠ .up →
      exec (.cellReceive n ⟨b, fec⟩) s = .next (s.settle s) ∧ exec (.idleBlock n ⟨b, fec⟩) s = .next (s.settle s)) ∧
    (Serving s n.val → b.length = 32 → blkNat b 0 1 = 0 → blkNat b 28 4 = crc32c (b.take 28) →
      let q := p.credit (creditsOf (blkNat b 4 8))
      let seq := blkNat b 2 2 % 4096
      let r := q.ackTo ((seq + 4095) % 4096)
      (bit (blkNat b 1 1) 0 = false →
        exec (.idleBlock n ⟨b, fec⟩) s = .next (s.settle (s.setPort n.val (q.ackTo seq)).pushLinks)) ∧
      (bit (blkNat b 1 1) 0 = true → r.replay ≠ [] → r.resent < 15 → exec (.idleBlock n ⟨b, fec⟩) s =
        .next (s.settle (((s.setPort n.val { r with
          retry := min (r.retry + r.replay.length) (2 ^ 16 - 1), resent := r.resent + 1 }).resendCells n.val).pushLinks)))) ∧
    (Serving s n.val → b.length ≠ 32 ∨ blkNat b 0 1 ≠ 0 ∨ blkNat b 28 4 ≠ crc32c (b.take 28) →
      exec (.idleBlock n ⟨b, fec⟩) s = .next (s.settle (s.setPort n.val p))) ∧
    (∀ (p : PortReg) (a r : List (Nat × List Byte)) (c : List Byte) (seq : Nat), p.replay = a ++ (seq, c) :: r →
      (∀ x ∈ a, x.1 ≠ seq) → (p.ackTo seq).replay = r ∧ (p.ackTo seq).nextSend = p.nextSend) ∧
    ((s.resendCells n.val).outbox = s.outbox ++ (s.port n.val).replay.map fun c => Msg.cell n.val c.2) ∧
    (∀ failed : BitVec 4, (s.port n.val).state ≠ .unused → (s.port n.val).state ≠ .miswired → (s.port n.val).bypass = false → ∃ t,
      exec (.linkRetrain n failed) s = .next (s.settle t) ∧ (t.port n.val).retrains = min ((s.port n.val).retrains + 1) 255 ∧
      (failed = 0 → (t.port n.val).state = .train ∧ (t.port n.val).width = 4) ∧
      (failed ≠ 0 → failed &&& 3 = 0 ∨ failed &&& 12 = 0 → (t.port n.val).state = .train ∧ (t.port n.val).width = 2) ∧
      (failed &&& 3 ≠ 0 → failed &&& 12 ≠ 0 → (t.port n.val).state = .down ∧ (t.port n.val).width = 0)) ∧
    ((s.port n.val).state = .unused ∨ (s.port n.val).state = .miswired ∨ (s.port n.val).bypass = true → ∀ failed : BitVec 4,
      exec (.linkRetrain n failed) s = .next (s.settle s)) ∧
    ((s.port n.val).state = .train → (s.port n.val).bypass = false → ∀ v : W64,
      let q := Position.ofReg v.toNat
      let me := s.position
      let x := me.number q.x q.y q.z
      let o := s.port n.val
      let match_ : Prop := q.shapeX = me.shapeX ∧ q.shapeY = me.shapeY ∧ q.shapeZ = me.shapeZ ∧
        ∀ e, e < 3 → (coordOf (me.x, me.y, me.z) e = coordOf (q.x, q.y, q.z) e ↔ e ≠ n.val / 2)
      (match_ → exec (.portTrainComplete n (some v)) s = .next (s.settle
        ((((((s.setPort n.val { (if o.peer = x then o else o.freshLink) with
            state := .up, peer := x, width := if o.width = 0 then 4 else o.width }).resendCells n.val).pushLinks).portRest).tellRing
          (n.val / 2)).ringMended (n.val / 2)))) ∧
      (¬ match_ → exec (.portTrainComplete n (some v)) s = .next (s.settle
        (s.setPort n.val { o with state := .miswired, width := 0 }).portRest)) ∧
      exec (.portTrainComplete n none) s = .next (s.settle
        ((s.setPort n.val { o with state := .down, width := 0 }).tellRing (n.val / 2))) ∧
      o.freshLink.recv = [] ∧ o.freshLink.replay = [] ∧ o.freshLink.nextSend = 0 ∧ o.freshLink.used = []) ∧
    (Serving s n.val → exec (.linkLost n) s = .next (s.settle
      (((s.setPort n.val { s.port n.val with state := .train, width := 0 }).tellRing (n.val / 2)).sendTrain n.val))) ∧
    ((s.port n.val).bypass = false → (s.port n.val).state = .down → s.isLive (s.port n.val).peer = true →
      ∀ u, u = raise 0x0141 3 n.val 0 (s.setPort n.val { s.port n.val with state := .down, width := 0 }) →
      ((s.port n.val).peer < s.modNo → exec (.linkFailed n) s = .next (s.settle (u.flush s.outbox.length).leaveRings)) ∧
      (s.modNo ≤ (s.port n.val).peer → exec (.linkFailed n) s = .next (s.settle u))) ∧
    (∀ ring : Fin 3, ∃ t, exec (.linkHard ring) s = .next t ∧ t.rec0.holdIdle = some ring.val ∧
      (s.rec0.modules = [] → t.run = s.run) ∧ (s.rec0.modules ≠ [] → t.run.state = .idle) ∧ t.cores = s.cores ∧ t.tier = s.tier) ∧
    (∀ (m : Msg) (k : MsgKind) (d port : Nat), m.kind = some k → s.destsOf m = [d] → s.route d = some port →
      (s.inBypass = true → s.linkMsg m = s) ∧
      (s.inBypass = false → (s.linkMsg m).outbox = s.outbox ++ [m] ∧
        ((s.linkMsg m).port port).wait = (s.port port).wait ++
          ownCells k (k.cls + 8 * s.wraps port) d s.modNo m.tag s.freeCtr ∧
        mapGet 0 (s.linkMsg m).bud.fabric port =
          mapGet 0 s.bud.fabric port - (if k.ack = true ∨ k.cls = 3 then 0 else (max k.units 1 : Int)))) ∧
    (∀ (m : Msg) (k : MsgKind) (d : Nat), m.kind = some k → s.destsOf m = [d] → d ≠ s.modNo → s.route d = none →
      s.inBypass = false → m ∉ s.outbox → m ≠ .stop →
      s.evLog.length < 256 → m ∉ (s.linkMsg m).outbox ∧ ∃ e ∈ (s.linkMsg m).evLog, e.code = 0x010F)

/-- Membership. A MEMBERSHIP message brings the ring of a dimension to its live set: a module of it is dead exactly where its bit is
0, this module apart, and the live module of lowest number is the bell root once its live sets agree (log 149), the others taking marks
from the first port of their route to it (R52, R278, R281). The rings are taken only from BYPASS before PWR_STATUS.UP, when the marks carry RUN = 0
or none has come for 64 frames, and not in recovery (log 150): every keeper then passes, ports of a dimension of size 1 are unused and the others train (R276, R284).
XSEND data is written at its page and acknowledged once every byte is visible, PASS then adding to its counter: to a lent page it waits for
the holders; a partial waits in staging while 256 MiB hold it; a stopped module discards both (R252, R289, R293, R296, R468). -/
def Obligations.MembershipAndArrivingData : Prop :=
  ∀ s : State,
    (∀ (at_ : ModId) (dim : Fin 3) (live : W32), s.modCount ≤ at_.toNat → exec (.membership at_ dim live) s = .next (s.settle s)) ∧
    (∀ (at_ : ModId) (dim : Fin 3) (live : W32), at_.toNat < s.modCount → ∃ u : State,
      exec (.membership at_ dim live) s = .next (s.settle (u.chooseRoot.ringMended dim.val)) ∧ u.position = s.position ∧ u.cores = s.cores ∧
      ∀ c m, (c, m) ∈ s.ringOf at_.toNat dim.val → m ≠ s.modNo → (m ∈ u.fab.dead ↔ live.getLsbD c = false)) ∧
    ((∀ m, m < s.modNo → s.isLive m = false) → s.isLive s.modNo = true →
      (s.setsAgree = false → s.chooseRoot = s) ∧
      (s.setsAgree = true → s.chooseRoot.bel.root = true ∧ s.chooseRoot.bel.upPort = 7 ∧
        s.chooseRoot.bel.frame = s.bel.frame ∧ s.chooseRoot.fab = s.fab)) ∧
    (∀ m, m < s.modNo → s.isLive m = true → s.chooseRoot.bel.root = false ∧
      s.chooseRoot.bel.frame = s.bel.frame ∧ (∀ l, s.isLive l = true → (∀ k, k < l → s.isLive k = false) →
        s.chooseRoot.bel.upPort = (s.route l).getD 7)) ∧
    (s.inBypass = true → s.pwr.up = false → s.pwr.dieReset = false → s.pwr.failed = false → s.pwr.domain = .running →
      s.reeve.mode ≠ .recovery → s.rec0.stopping = false →
      (s.bel.state ≠ .free ∧ s.bel.peerRun = false) ∨ 64 ≤ s.bel.markless →
      exec .ringTakeover s = .next (s.settle s.takeRings)) ∧
    (s.inBypass = false ∨ s.pwr.up = true ∨ s.reeve.mode = .recovery ∨ (s.bel.peerRun = true ∧ s.bel.markless < 64) → exec .ringTakeover s = .next (s.settle s)) ∧
    (∀ i, i < 6 → (s.takeRings.port i).bypass = false ∧
      (s.takeRings.port i).state = (if s.position.size (i / 2) = 1 then .unused else .train)) ∧
    (∀ (src : ModId) (va : VA) (bytes : List Byte) (tag : W32) (pass : Option (CoreId × ScReg × BitVec 16)) (e : XEntry) (p : Nat),
      p = va.toNat / pageBytes → p ≠ 0 → va.toNat % pageBytes + bytes.length ≤ pageBytes → bytes ≠ [] → s.rec0.stopped = false →
      src.toNat ≠ s.modNo →
      mapFind s.tier.xlate p = some e → e.tier = .local → e.w = true → p ∉ s.tier.codePages →
      ∀ who aux, who = Requester.bulk src.toNat tag.toNat → aux = pass.map (fun x => (x.1.toNat, x.2.1.toNat, x.2.2.toNat)) →
      (mapGet [] s.tier.holders p = [] → (∀ w ∈ s.tier.writes, w.who ≠ who) → (∀ w ∈ s.tier.writesOut, w.who ≠ who) →
        (∀ b ∈ s.tier.bulks, b.1 ≠ src.toNat ∨ b.2.1 ≠ tag.toNat) → exec (.xsendData src va bytes tag pass) s =
        .next (s.settle (((s.applyAtHome e va.toNat bytes).passAdd aux).send (.bulkAck src.toNat tag.toNat)))) ∧
      (mapGet [] s.tier.holders p ≠ [] → exec (.xsendData src va bytes tag pass) s = .next (s.settle
        ((s.holdWrite who va.toNat bytes).modTier fun t => { t with bulks := t.bulks ++ [(src.toNat, tag.toNat, aux)] })))) ∧
    (∀ (c : CoreId) (n : ScReg) (v : BitVec 16), ((s.passAdd (some (c.toNat, n.toNat, v.toNat))).core c).counter n =
      (s.core c).counter n + v ∧ s.passAdd none = s) ∧
    (∀ (src : ModId) (va : VA) (bytes : List Byte) (tag : W32) (pass : Option (CoreId × ScReg × BitVec 16)),
      s.rec0.stopped = true → exec (.xsendData src va bytes tag pass) s = .next (s.settle s)) ∧
    (∀ (src : ModId) (coll chunk : BitVec 16) (lo n : W32) (bytes : List Byte) (tag : W32),
      (s.rec0.stopped = false → s.stagedBytes + bytes.length ≤ 2 ^ 28 → exec (.collPartial src coll chunk lo n bytes tag) s =
        .next (s.settle (State.send { s with fab := { s.fab with staging := s.fab.staging ++
          [⟨⟨coll.toNat, chunk.toNat, lo.toNat, n.toNat⟩, some src.toNat, bytes, none⟩] } }
            (.bulkAck src.toNat tag.toNat)).wake)) ∧
      (s.rec0.stopped = true ∨ 2 ^ 28 < s.stagedBytes + bytes.length →
        exec (.collPartial src coll chunk lo n bytes tag) s = .next (s.settle s)))

/-! # Embedding tables (spec/12) -/

/-- Contributions, versions and moves of table rows. A contribution is added at the row's home, which acknowledges it once it stands; a
signpost forwards it; any other module answers NOT_HOME (R252, R379, R387, R388); a stopped module discards it (R468; DESIGN CHOICE, log
164). A pending version becomes CURRENT at its tick and the current one
RETIRING (R370). A destination with a free slot and load to spare reserves the slot and grants; else it refuses (R384); a slot
whose move the record's module refuses is free again. The copy is written into the reserved slot and acknowledged (R388). At a tick after the
grant, the copy acknowledged in an earlier frame, the flip leaves a signpost at the old home and the row live at the new one, for a TRAINED
row at a tick after its step's commit record (R388, R389; that the other home's record stands too the command says: DESIGN CHOICE, log 145); the signpost
expires one frame later, and 64 frames after its grant a move without TRAINED is abandoned at a tick (R388). -/
def Obligations.TableRowsMoveAndAdd : Prop :=
  ∀ (s : State) (tn : BitVec 12) (t : Table) (v row : W32) (key : Nat), s.table tn.toNat = some t →
    key = rowKey v.toNat row.toNat →
    (∀ (src : ModId) (sums : List (Option Int)) (seq tag : W32) (k : Nat),
      k = rowKey t.addVersion row.toNat →
      (s.rec0.stopped = true → exec (.tableAddApply src tn row sums seq tag) s = .next (s.settle s)) ∧ (s.rec0.stopped = false →
      (s.rowAt t k = .base ∨ (∃ i, s.rowAt t k = .slot i) → ∀ u : Nat × State,
        u = s.applyAdd (.remote src.toNat tag.toNat) tn.toNat t row.toNat sums src.toNat →
        exec (.tableAddApply src tn row sums seq tag) s =
          .next (s.settle (if u.1 = 0 then u.2.send (.writeAck src.toNat tag.toNat s.modNo) else u.2))) ∧
      (∀ p, s.rowAt t k = .unknown ∨ (∃ m, s.rowAt t k = .away m) → mapFind t.signposts k = some p →
        exec (.tableAddApply src tn row sums seq tag) s =
          .next (s.settle (s.countForward.send (.tableAdd p.1 src.toNat tn.toNat row.toNat sums seq.toNat tag.toNat)))) ∧
      (∀ m, s.rowAt t k = .away m → mapFind t.signposts k = none → exec (.tableAddApply src tn row sums seq tag) s =
        .next (s.settle (s.send (.notHome src.toNat 0 tag.toNat (some m))))))) ∧
    ((∀ x ∈ t.versions, x.2.state = .pending → s.bel.frame < x.2.from_) →
      exec (.versionCurrent tn) s = .next (s.settle s.sweepVersions)) ∧
    (∀ r w, (t.versions.filter fun x => x.2.state == .pending && decide (x.2.from_ ≤ s.bel.frame)) = [(r, w)] →
      mapFind t.versions r = some w → (∀ x ∈ t.versions, x.2.version ≤ w.version) →
      exec (.versionCurrent tn) s = .next (s.settle (s.putTable tn.toNat { t with
        versions := t.versions.map fun x => if x.1 = r then (x.1, { x.2 with state := .current, from_ := s.bel.frame })
          else if x.2.state = .current then (x.1, { x.2 with state := .retiring }) else x,
        image := t.image.take 40 ++ bytesOfNat 4 w.version ++ t.image.drop 44 }).sweepVersions)) ∧
    (∀ (by_ dest : ModId) (count : W32) (i : Nat), s.homesVa (t.baseAddr key) = false → dest.toNat = s.modNo →
      t.freeSlot = some i →
      (t.lastLoad + count.toNat ≤ t.loadLimit → s.bel.econ = false → t.hotAt key = none → t.reserved key = none →
        exec (.rowMoveRequest tn v row by_ dest count false ⟨none, false⟩) s = .next (s.settle ((s.takeSlot tn.toNat t key i).send
          (.rowMoveGrant ((s.baseHome t key).getD by_.toNat) tn.toNat key dest.toNat i true)))) ∧
      (t.loadLimit < t.lastLoad + count.toNat ∨ s.bel.econ = true →
        exec (.rowMoveRequest tn v row by_ dest count false ⟨none, false⟩) s = .next (s.settle (s.send
          (.rowMoveGrant ((s.baseHome t key).getD by_.toNat) tn.toNat key dest.toNat 0 false))))) ∧
    (∀ (by_ dest : ModId) (count : W32) (ret : Bool) (slot : Option (BitVec 16)) (i : Nat) (h : HotSlot),
      t.reserved key = some (i, h) → dest.toNat = s.modNo → exec (.rowMoveRequest tn v row by_ dest count ret ⟨slot, true⟩) s =
        .next (s.settle (s.putTable tn.toNat { t with hot := mapErase t.hot i }))) ∧
    (∀ (src : ModId) (bytes : List Byte) (tag : W32) (i : Nat) (h : HotSlot), t.trained = false → t.reserved key = some (i, h) →
      ∀ (r : Nat × State) (u : State), r = s.pokeFor (.remote src.toNat tag.toNat) (t.slotParts i).1 (bytes.take t.valueBytes) →
      u = r.2.putTable tn.toNat { t with hot := mapPut t.hot i { h with copied := true } } →
      exec (.rowCopy src tn v row bytes tag) s =
        .next (s.settle (if r.1 = 0 then u.send (.bulkAck src.toNat tag.toNat) else u))) ∧
    (∀ m : RowMove, mapFind t.moves key = some m → t.reserved key = none → mapFind t.redirects key = none →
      let flipped : State := (s.putTable tn.toNat { t with
        moves := mapErase t.moves key, signposts := mapPut t.signposts key (m.dest, s.bel.frame),
        hot := t.hot.map fun h => if h.2.row == keyRow key && h.2.version == keyVersion key && h.2.live
          then (h.1, { h.2 with live := false, flip := s.bel.frame }) else h }).countFlip
      (t.trained = false → m.copied = true → s.bel.cycle = 0 → m.grant < s.bel.frame → m.flipFrom ≤ s.bel.frame →
        exec (.rowMoveFlip tn v row) s = .next (s.settle flipped) ∧ exec (.trainedRowFlip tn v row) s = .next (s.settle s)) ∧
      (t.trained = true → m.copied = true → s.bel.cycle = 0 → s.fab.lastFrame < s.bel.frame → m.flipFrom ≤ s.bel.frame →
        s.run.anyCommit = true → m.step ≤ s.run.committed → s.smithy.phase = 0 →
        exec (.trainedRowFlip tn v row) s = .next (s.settle flipped) ∧
        exec (.rowMoveFlip tn v row) s = .next (s.settle s)) ∧
      (t.trained = true → s.run.committed < m.step → ∃ u, exec (.trainedRowFlip tn v row) s = .next u ∧
        u.table tn.toNat = some t) ∧
      (t.trained = false → ∃ u, exec (.rowMoveAbandon tn v row) s = .next u ∧
        (m.grant + 64 ≤ s.bel.frame → s.bel.cycle = 0 → u.table tn.toNat = some { t with moves := mapErase t.moves key }) ∧
        (s.bel.frame < m.grant + 64 ∨ s.bel.cycle ≠ 0 → u.table tn.toNat = some t))) ∧
    (∀ (i : Nat) (h : HotSlot), mapFind t.moves key = none → t.reserved key = some (i, h) → mapFind t.redirects key = none →
      h.copied = true → t.trained = false → s.bel.cycle = 0 → h.flip < s.bel.frame → exec (.rowMoveFlip tn v row) s = .next (s.settle (s.putTable tn.toNat
        { t with hot := mapPut t.hot i { h with live := true, flip := s.bel.frame } }).countFlip)) ∧
    (∀ p : Nat × Nat, mapFind t.signposts key = some p →
      (p.2 < s.bel.frame → t.trained = false → exec (.rowSignpostExpire tn v row) s = .next (s.settle (s.putTable tn.toNat
        { t with signposts := mapErase t.signposts key,
                 hot := t.hot.filter fun h => !(!h.2.live && h.2.row == row.toNat && h.2.version == v.toNat) }))) ∧
      (s.bel.frame ≤ p.2 → exec (.rowSignpostExpire tn v row) s = .next (s.settle s)))

/-! # Recovery, leaving and joining (spec/16) -/

/-- A STOP makes the module stop at its next tick, one that comes once the recovery step is known there another time (log 124): it issues nothing more, its cores drop their work, staging and the deltas of a
commit that has sent no B_DONE go, and the stop is counted (R363, R468). With every module stopped the recovery step follows, and the
deciding class of the faults decides (a FRAME_OVERRUN of the windows of R467 retires no core): CORE and MEMORY replay, a third try or STEP hold, LINK and MODULE hold IDLE (R466, R469). The
replay begins at a tick once nothing is left to rebuild (R471). A poisoned page is rebuilt in place from its stripe (R472, R477). The
deputy takes the entries of a lost module's directory part, any other module sends it its own (R476). What nothing restores of a
lost module is forgotten with DATA_LOST, and a group that cannot rebuild is UNRECOVERABLE for
every module, and LINK_HARD holds the rebuild back (R473, R477-R479). A module that leaves in no parity group tells STOP, bypasses its rings
and is IDLE at its boundary, and a page handed over finds a frame of the module that takes it, OWNER as it was (R475, R489; log 165); a
joiner is admitted or refused at the boundary its command names, and takes its directory part (R490, R491). -/
def Obligations.RecoveryRows : Prop :=
  ∀ s : State,
    (s.rec0.q = none → exec .stop s = .next (s.settle { s with
      rec0 := { s.rec0 with stopping := true, stopAt := if s.rec0.stopping then s.rec0.stopAt else s.bel.frame } })) ∧
    (s.rec0.q.isSome = true → exec .stop s = .next (s.settle { s with
      rec0 := { s.rec0 with again := true, stopAt := if s.rec0.again then s.rec0.stopAt else s.bel.frame } })) ∧
    (s.rec0.stopping = false ∨ s.rec0.stopped = true ∨ s.bel.cycle ≠ 0 ∨ s.bel.frame = s.rec0.stopAt →
      exec .moduleStop s = .next (s.settle s)) ∧
    (s.rec0.stopping = true → s.rec0.stopped = false → s.bel.cycle = 0 → s.bel.frame ≠ s.rec0.stopAt → ∃ t, exec .moduleStop s = .next (s.settle t) ∧ t.rec0.stopped = true ∧
      t.run.frameLive = false ∧ t.run.openFrames = [] ∧ t.fab.staging = [] ∧
      t.cores = s.cores.map (fun c => (c.1, c.2.stopCore)) ∧ t.outbox = s.outbox ++ [.stopped s.run.nextStep s.groupG] ∧
      t.fab.ready = [] ∧
      t.bud.stops = min (s.bud.stops + 1) (2 ^ 16 - 1) ∧ t.tier = s.tier ∧
      (s.smithy.phase ≤ 2 → s.fab.bSent = false → t.smithy.phase = 0 ∧ t.smithy.touched = [] ∧ t.fab.deltas = []) ∧
      (s.fab.bSent = true → t.smithy = s.smithy ∧ t.fab.deltas = s.fab.deltas)) ∧
    (∀ f c d st : Nat, s.rec0.faults = [⟨f, 0x0121, 2, 1, c, d, st⟩] → s.toRetire = if c ∈ s.rec0.spared then [] else [(c, 3)]) ∧
    ((s.rec0.again = true → s.endStop.rec0.stopping = true) ∧ (s.rec0.again = false → s.endStop.rec0.stopping = false) ∧
      s.endStop.rec0.faults = s.rec0.later ∧ s.endStop.rec0.stopped = false ∧ s.endStop.rec0.q = none) ∧
    (∀ made classes, s.rec0.stopped = false ∨ s.rec0.q.isSome = true →
      exec (.recoveryStepAnnounce made classes) s = .next (s.settle s)) ∧
    (∀ (cls : BitVec 3), s.rec0.stopped = true → s.rec0.q = none → s.bel.root = false → s.smithy.phase = 0 →
      s.rec0.faults = [] → s.rec0.ueNow = [] → ∃ t, exec (.recoveryStepAnnounce [] [cls]) s = .next t ∧
        t.run.nextStep = s.run.nextStep ∧ t.run.inStep = false ∧ t.bud.lastClass = (if cls.toNat ≤ 5 then cls.toNat else 0) ∧
        (cls = 2 ∨ cls = 3 → mapGet 0 s.run.tries s.run.nextStep < 2 →
          t.run.state = .replaying ∧ t.rec0.q = some s.run.nextStep) ∧
        (cls = 2 ∨ cls = 3 → 2 ≤ mapGet 0 s.run.tries s.run.nextStep → t.run.state = .held ∧ t.rec0.stopped = false) ∧
        (cls = 1 → t.run.state = .held ∧ t.rec0.stopped = false) ∧
        (cls = 4 ∨ cls = 5 → t.run.state = .idle ∧ t.rec0.stopped = false)) ∧
    (s.run.state = .replaying → s.rec0.q.isSome = true → s.rec0.rebuild = [] → s.bel.cycle = 0 →
      exec .replayBegin s = .next (s.settle (stepBegin s.retireFaulted.endStop))) ∧
    (s.run.state ≠ .replaying ∨ s.rec0.rebuild ≠ [] ∨ s.bel.cycle ≠ 0 → exec .replayBegin s = .next (s.settle s)) ∧
    (∀ (p : BitVec 36) (parity sum : List Byte),
      (p.toNat ∈ s.rec0.rebuild → parity.length = pageBytes → sum.length = pageBytes → ∀ u : State,
        u = s.pokeLocal (p.toNat * pageBytes) (s.rebuiltPage p.toNat parity sum) →
        exec (.pageRebuild p parity sum) s = .next (s.settle { u with
          rec0 := { u.rec0 with rebuild := u.rec0.rebuild.erase p.toNat } })) ∧
      (p.toNat ∉ s.rec0.rebuild → exec (.pageRebuild p parity sum) s = .next (s.settle s))) ∧
    (∀ (w : BitVec 35) (parity sum : List Byte) (p : Nat), s.pageOfWord w.toNat = some p →
      (w.toNat ∈ s.tier.poison → s.rebuildable p = true → s.run.inStep = false → s.smithy.phase = 0 → s.rec0.stopping = false →
        parity.length = pageBytes → sum.length = pageBytes → exec (.scrubPoisonRebuild w parity sum) s =
          .next (s.settle (s.pokeLocal (p * pageBytes) (s.rebuiltPage p parity sum)))) ∧
      (w.toNat ∉ s.tier.poison ∨ s.run.inStep = true → exec (.scrubPoisonRebuild w parity sum) s = .next (s.settle s))) ∧
    (∀ (lost src : ModId) (p : BitVec 36) (d : DEntry),
      (lost.toNat ≠ s.modNo → s.isLive lost.toNat = true → exec (.directoryHandover lost src [(p, d)]) s = .next (s.settle s)) ∧
      (lost.toNat = s.modNo → s.dirAt p.toNat = s.modNo →
        exec (.directoryHandover lost src [(p, d)]) s = .next (s.settle (s.putDir p.toNat d))) ∧
      (lost.toNat ≠ s.modNo → s.isLive lost.toNat = false → lost.toNat < s.modCount → s.deputy lost.toNat = s.modNo → s.tier.xlate = [] →
        dirModule s.modCount p.toNat = lost.toNat → mapFind s.tier.dir p.toNat = none → ∃ t,
        exec (.directoryHandover lost src [(p, d)]) s = .next t ∧ mapFind t.tier.dir p.toNat = some d ∧
        p.toNat ∈ t.tier.deputised ∧ t.tier.hbm = s.tier.hbm)) ∧
    (∀ (lost : ModId) sums told rows,
      (s.rec0.q = none ∨ lost.toNat ∉ s.rec0.modules ∨ s.rec0.holdIdle.isSome = true →
        exec (.shardRebuild lost sums told rows) s = .next (s.settle s)) ∧
      (s.rec0.q.isSome = true → lost.toNat ∈ s.rec0.modules → s.rec0.holdIdle = none → lost.toNat ∉ s.fab.left →
        ((s.fab.parity.isSome = true ∧ s.sameGroup s.groupG lost.toNat s.modNo = true) ∧ (s.fab.degraded = true ∨ s.fab.valid = false)) ∨
        (s.fab.parity = none ∧ told = none) →
        exec (.shardRebuild lost sums told rows) s = .next (s.settle s.unrecoverable)) ∧
      (∀ ps : List ToldPage, told = some ps → s.rec0.q.isSome = true → lost.toNat ∈ s.rec0.modules → s.rec0.holdIdle = none →
        s.fab.parity = none → ∀ (r : Nat × State) (e : State),
        r = (s.returnRows lost.toNat (rows.map fun x => (x.1.toNat, x.2.1.toNat, x.2.2))).forget lost.toNat
          (ps.map fun x => (x.vpn.toNat, x.home.toNat)) → r.2.rec0.modules = [lost.toNat] →
        e = (raise 0x0159 0 lost.toNat r.1 { r.2 with fab := { r.2.fab with left := r.2.fab.left.erase lost.toNat } }).endStop →
        exec (.shardRebuild lost sums told rows) s = .next (s.settle { e with run := { e.run with state := .idle } }))) ∧
    (∀ whole room, (s.fab.leave = none ∨ (∃ b, s.fab.leave = some b ∧ s.atBoundary b = false) ∨ s.rec0.faults ≠ [] →
        exec (.leaveHandover whole (.give room)) s = .next (s.settle s)) ∧
      (∀ b, s.fab.leave = some b → s.atBoundary b = true → s.rec0.faults = [] → s.fab.parity = none → ∃ t,
        exec (.leaveHandover whole (.give room)) s = .next (s.settle t) ∧ t.run.state = .idle ∧ t.fab.leave = none ∧
        t.rec0.stopped = false ∧ (s.rec0.stopped = false → .stop ∈ s.stopAtBoundary.outbox) ∧ ∀ i, i < 6 → (t.port i).bypass = true)) ∧
    (∀ whole (src : ModId) (pages : List HandedPage),
      (s.rec0.stopping = false → exec (.leaveHandover whole (.take src pages)) s = .next (s.settle s)) ∧
      (s.rec0.stopping = true → ∃ t, exec (.leaveHandover whole (.take src pages)) s = .next (s.settle t) ∧
        src.toNat ∈ t.fab.left)) ∧
    (∀ (p : HandedPage) (f : Nat) (u : State), s.fab.parity = none → p.entry.home = s.modNo →
      mapFind s.tier.xlate p.vpn.toNat = none → s.takeFrame p.vpn.toNat = some (f, u) → s.acceptsPage p.entry.owner false = true →
      mapFind (s.takePage none p).tier.xlate p.vpn.toNat =
        some { xOfDir p.entry with tier := .local, frame := f, mod := 0 } ∧
      mapFind (s.takePage none p).tier.owners p.vpn.toNat = some p.entry.owner) ∧
    (∀ (m : ModId) (J : W64) (locked shape : Bool) (part : JoinPart), m.toNat ≠ s.modNo →
      (s.atBoundary J.toNat = false → exec (.joinAdmission ⟨m, J⟩ locked shape part) s = .next (s.settle s)) ∧
      (s.atBoundary J.toNat = true → s.fab.join ≠ some J.toNat → s.bel.root = true →
        (s.isLive m.toNat = false → m.toNat < s.modCount → locked = true → shape = true → s.rec0.stopping = false →
          exec (.joinAdmission ⟨m, J⟩ locked shape part) s = .next (s.settle
            (((s.send (.joinReply true)).stopAtBoundary).handBack m.toNat).idleAtBoundary)) ∧
        (s.isLive m.toNat = true ∨ locked = false ∨ shape = false ∨ s.rec0.stopping = true →
          exec (.joinAdmission ⟨m, J⟩ locked shape part) s =
            .next (s.settle (raise 0x0182 0 0 0 (s.send (.joinReply false)))))) ∧
      (s.atBoundary J.toNat = true → s.fab.join ≠ some J.toNat → s.bel.root = false →
        exec (.joinAdmission ⟨m, J⟩ locked shape (.answer true)) s =
          .next (s.settle ((s.stopAtBoundary).handBack m.toNat).idleAtBoundary) ∧
        exec (.joinAdmission ⟨m, J⟩ locked shape (.answer false)) s = .next (s.settle s))) ∧
    (∀ (m : ModId) (J : W64) (locked shape : Bool), m.toNat = s.modNo →
      (s.fab.join = some J.toNat → ∃ t, exec (.joinAdmission ⟨m, J⟩ locked shape (.answer true)) s = .next (s.settle t) ∧
        t.run.state = .idle ∧ t.fab.join = none ∧ ∀ i, i < 6 → (t.port i).bypass = false) ∧
      (s.fab.join ≠ some J.toNat → ∀ a, exec (.joinAdmission ⟨m, J⟩ locked shape (.answer a)) s = .next (s.settle s)) ∧
      (s.inBypass = false → s.run.state = .idle → ∀ (v : BitVec 36) (d : DEntry), s.dirAt v.toNat = s.modNo →
        exec (.joinAdmission ⟨m, J⟩ locked shape (.back [(v, d)] [])) s = .next (s.settle (s.putDir v.toNat d))))

/-! # Damtin commands: starting and answering; maintenance; contexts (spec/14, spec/16, spec/04) -/

namespace Sys2Proof.Claims

/-- OPCODE of a Damtin command and its parameters in PARAMS: offset, size and value (Table 14-11). -/
def spelling : Instr → Nat × List (Nat × Nat × Nat)
  | .sessionOpen _ => (0x0001, [])
  | .sessionClose _ => (0x0002, [])
  | .queueCreate _ q sl rl v sb rb => (0x0003, [(0, 1, q.toNat), (1, 1, sl.toNat), (2, 1, rl.toNat), (3, 1, v.toNat), (8, 8, sb.toNat),
      (16, 8, rb.toNat)])
  | .queueDelete _ q => (0x0004, [(0, 1, q.toNat)])
  | .nop _ a b c => (0x0005, [(0, 8, a.toNat), (8, 8, b.toNat), (16, 8, c.toNat)])
  | .moduleReset _ k => (0x0006, [(0, 1, k.toNat)])
  | .almanacLoad _ a n => (0x0101, [(0, 8, a.toNat), (8, 8, n.toNat)])
  | .almanacSwitch _ n => (0x0102, [(0, 8, n.toNat)])
  | .almanacCancel _ => (0x0103, [])
  | .almanacStatus _ => (0x0104, [])
  | .stepRun _ a c t => (0x0201, [(0, 8, a.toNat), (8, 8, c.toNat), (16, 8, t.toNat)])
  | .stepHold _ b => (0x0202, [(0, 8, b.toNat)])
  | .stepStatus _ => (0x0203, [])
  | .budgetSet _ c v => (0x0210, [(0, 1, c.toNat), (2, 2, v.toNat)])
  | .rngSeed _ a n => (0x0220, [(0, 8, a.toNat), (8, 8, n.toNat)])
  | .tableCreate _ a => (0x0301, [(0, 8, a.toNat)])
  | .tablePublish _ t f v b p a _ => (0x0302, [(0, 2, t.toNat), (2, 1, f.toNat), (4, 4, v.toNat), (8, 8, b.toNat), (16, 8, p.toNat),
      (24, 8, a.toNat)])
  | .tableDestroy _ t => (0x0303, [(0, 2, t.toNat)])
  | .tableQuery _ t a n => (0x0304, [(0, 2, t.toNat), (8, 8, a.toNat), (16, 4, n.toNat)])
  | .memAlloc _ v n t f m a _ _ => (0x0401, [(0, 8, v.toNat), (8, 8, n.toNat), (16, 1, t.toNat), (17, 1, f.toNat), (18, 2, m.toNat),
      (24, 8, a.toNat)])
  | .memFree _ v n _ => (0x0402, [(0, 8, v.toNat), (8, 8, n.toNat)])
  | .memAttr _ v n f _ => (0x0403, [(0, 8, v.toNat), (8, 8, n.toNat), (16, 1, f.toNat)])
  | .memQuery _ v _ => (0x0404, [(0, 8, v.toNat)])
  | .quotaSet _ c l => (0x0405, [(0, 1, c.toNat), (4, 4, l.toNat)])
  | .tierConfig _ w n t b p => (0x0406, [(0, 8, w.toNat), (8, 1, n.toNat), (10, 16, t.toNat), (32, 8, b.toNat), (40, 8, p.toNat)])
  | .smithyConfig _ c cp st sp => (0x0410, [(0, 8, c.toNat), (8, 8, cp.toNat), (16, 8, st.toNat), (24, 8, sp.toNat)])
  | .granaryConfig _ b n => (0x0411, [(0, 8, b.toNat), (8, 8, n.toNat)])
  | .fabStatus _ => (0x0501, [])
  | .fabLeave _ b => (0x0502, [(0, 8, b.toNat)])
  | .fabJoin _ b => (0x0503, [(0, 8, b.toNat)])
  | .parityConfig _ g m bd b d p b0 b1 => (0x0504, [(0, 1, g.toNat), (4, 4, m.toNat), (8, 8, bd.toNat), (16, 8, b.toNat), (24, 4, d.toNat),
      (28, 4, p.toNat), (32, 8, b0.toNat), (40, 8, b1.toNat)])
  | .maintStart _ a t d => (0x0601, [(0, 2, a.toNat), (2, 2, t.toNat), (8, 8, d.toNat)])
  | .maintCancel _ n => (0x0602, [(0, 4, n.toNat)])
  | .maintStatus _ n => (0x0603, [(0, 4, n.toNat)])
  | .coreRetire _ c => (0x0620, [(0, 1, c.toNat)])
  | .coreReturn _ c => (0x0621, [(0, 1, c.toNat)])
  | .timingAudit _ e => (0x0630, [(0, 1, e.toNat)])
  | .ledgerRead _ n => (0x0701, [(0, 1, n.toNat)])
  | .ledgerWrite _ n v => (0x0702, [(0, 1, n.toNat), (8, 8, v.toNat)])
  | .fwStage _ a n => (0x0801, [(0, 8, a.toNat), (8, 8, n.toNat)])
  | .fwActivate _ n => (0x0802, [(0, 1, n.toNat)])
  | .debugUnlock _ a n => (0x0820, [(0, 8, a.toNat), (8, 4, n.toNat)])
  | .debugLock _ => (0x0821, [])
  | .entropyRead _ => (0x0830, [])
  | .telemetrySnapshot _ a n => (0x0901, [(0, 8, a.toNat), (8, 4, n.toNat)])
  | .contextSave _ k t p a n => (0x0910, [(0, 1, k.toNat), (1, 1, t.toNat), (2, 1, p.toNat), (8, 8, a.toNat), (16, 8, n.toNat)])
  | .contextRestore _ p a n => (0x0911, [(2, 1, p.toNat), (8, 8, a.toNat), (16, 8, n.toNat)])
  | _ => (0, [])

/-- The packet is the command: it holds its OPCODE and parameters (R429, R437). -/
def Spells (i : Instr) (h : PktHdr) : Prop := h.says (spelling i).1 (spelling i).2 = true

/-- The packet's command may start: the order of its queue allows it, its queue may carry the opcode's family, and a session is open where it
needs one (R427, R433, R435). -/
def Starts (s : State) (op : Nat) (h : PktHdr) : Prop :=
  s.mayStart h = true ∧ (0x0100 ≤ op ∨ h.queue = 0) ∧ (needsSession op = false ∨ s.sessionFor h = true)

/-- The command that the packet spells leaves `t` and its reply with a status (Table 14-10) and three results. -/
def Replies (i : Instr) (s t : State) (h : PktHdr) (status : Nat) (r0 r1 r2 : Nat := 0) : Prop :=
  Spells i h → exec i s = .next (s.settle (t.reply h status r0 r1 r2))

end Sys2Proof.Claims

/-- A reply waits in its queue with the packet's tag, the status and the results, and the packet is no longer in progress; nothing
else changes. Packets of a queue start in the order of their acceptance, a FENCE packet after every earlier one has replied, and one of
an OPCODE that the table does not have is INVALID_PARAM in its turn. A command runs for the packet that holds its OPCODE and
parameters; one that may not start yet changes nothing; a command of which a rule has BUSY before anything else is BUSY; one of family 0x00
outside queue 0, and one without the session that it needs, is INVALID_PARAM, after NOT_ENABLED for the configuration of a unit that is off
(R425, R426, R427, R429, R432, R433, R435, R437). -/
def Obligations.RepliesAndStarting : Prop :=
  (∀ (s : State) (h : PktHdr) (status r0 r1 r2 : Nat),
    (∀ q, mapFind s.hif.queues h.queue.toNat = some q → h ∈ q.progress → (∀ p ∈ q.progress, p.op.toNat ∈ knownOpcodes) → s.reply h status r0 r1 r2 = { s with hif := { s.hif with
      queues := mapPut s.hif.queues h.queue.toNat { q with progress := q.progress.erase h, started := q.started.erase h, replies := q.replies ++
        [⟨h.tag.toNat, status, false, h.irq, r0 % 2 ^ 64, r1 % 2 ^ 64, r2 % 2 ^ 64⟩] } } }) ∧
    (mapFind s.hif.queues h.queue.toNat = none → s.hif.gone = [] → s.reply h status r0 r1 r2 = s) ∧
    (∀ q, mapFind s.hif.queues h.queue.toNat = some q → q.progress = [h] → q.started = [] → h.op.toNat ∉ knownOpcodes →
      s.answerUnknown h.queue.toNat = { s with hif := { s.hif with
        queues := mapPut s.hif.queues h.queue.toNat
          { q with progress := [], replies := q.replies ++ [⟨h.tag.toNat, 0x15, false, h.irq, 0, 0, 0⟩] } } })) ∧
  (∀ (s : State) (h : PktHdr) (op : Nat) (f : List (Nat × Nat × Nat)) (body : State → State) (busy : State → Bool),
    (h.says op f = true ↔ h.op.toNat = op ∧ ∀ x ∈ f, natOfBytes ((h.params.drop x.1).take x.2.1) = x.2.2) ∧
    (h.says op f = false ∨ s.mayStart h = false → damtinFirst busy op h f body s = s ∧ damtin op h f body s = s) ∧ (h.says op f = true →
    (s.mayStart h = true → busy s = true → damtinFirst busy op h f body s = s.reply h 0x14) ∧
    (busy s = false → damtinFirst busy op h f body s = damtin op h f body s) ∧
    (Starts s op h → s.unitOff op = false → damtin op h f body s = body s) ∧
    (s.mayStart h = true → 0x0100 ≤ op → s.unitOff op = true → damtin op h f body s = s.reply h 0x16) ∧
    (s.unitOff op = true ↔ (op = 0x0410 ∧ s.unitOn 2 = false) ∨ (op = 0x0411 ∧ s.unitOn 3 = false) ∨ (op = 0x0504 ∧ s.unitOn 4 = false)) ∧
    (s.mayStart h = true → op < 0x0100 → h.queue ≠ 0 → damtin op h f body s = s.reply h 0x15) ∧
    (s.mayStart h = true → 0x0100 ≤ op → op ≤ 0x0700 → s.unitOff op = false → s.sessionFor h = false →
      damtin op h f body s = s.reply h 0x15))) ∧
  (∀ (s : State) (h : PktHdr) (q : QPair) (a b : List PktHdr), mapFind s.hif.queues h.queue.toNat = some q →
    q.progress = a ++ h :: b → h ∉ a → (s.mayStart h = true ↔ h ∈ q.started ∨ if h.fence = true then a = [] else ∀ p ∈ a, p ∈ q.started))

/-- Maintenance (logs 109, 111). MAINT_START refuses, queues, defers or registers by the checks of Table 16-8 in order, and its reply carries the
handle (R485); a handle can be cancelled, and MAINT_STATUS gives its state and the step of its last attempt (R486); a part starts where its unit is fallow, and ends its activity
DONE or FAILED with the event and the outcome, or brings it back to wait for the next part (R483, R487); each charges
its unit's MAINT meter (R59, R483; DEDUCED, log 152); an exclusive part that ends after its frame's working portion counts for nothing (R70; the
model's choice: DESIGN CHOICE, log 151); a QUEUED activity whose conflict is clear is admitted (R485). CORE_RETURN registers the tests of a
retired core (R488). -/
def Obligations.MaintenanceRows : Prop :=
  ∀ (s : State) (h : PktHdr),
    (∀ (act target : BitVec 16) (deadline : W64), Starts s 0x0601 h →
      let i : Instr := .maintStart h act target deadline
      let reg (st : MaintState) : State := s.register act.toNat target.toNat deadline.toNat st
      (maintKind act.toNat = none → Replies i s s h 0x15) ∧
      (∀ k, maintKind act.toNat = some k →
        (k.targets ≤ target.toNat ∨ deadline.toNat < s.openStep → Replies i s s h 0x15) ∧
        (target.toNat < k.targets → s.openStep ≤ deadline.toNat →
          (∀ u, k.unit = some u → s.unitOn u = false → Replies i s s h 0x16) ∧
          ((∀ u, k.unit = some u → s.unitOn u = true) →
            ((∃ a ∈ s.openActs, a.act = act.toNat ∧ a.target = target.toNat) ∨ 64 ≤ s.openActs.length → Replies i s s h 0x14) ∧
            ((∀ a ∈ s.openActs, a.act = act.toNat → a.target ≠ target.toNat) → s.openActs.length < 64 →
              (conflicts s.maint.acts k.cls target.toNat = true → Replies i s (reg .queued) h 1 s.maint.next) ∧
              (conflicts s.maint.acts k.cls target.toNat = false →
                (s.tooFew k target.toNat (s.fallowAhead k target.toNat deadline.toNat) = true →
                  Replies i s (reg .deferred) h 2 s.maint.next) ∧
                (s.tooFew k target.toNat (s.fallowAhead k target.toNat deadline.toNat) = false →
                  Replies i s (reg .waiting) h 0 s.maint.next))))))) ∧
    (∀ (n : W32) (a : MaintAct), s.actOf n.toNat = some a →
      (Starts s 0x0602 h → (a.final = true → Replies (.maintCancel h n) s s h 0x15) ∧
        (a.state = .running → Replies (.maintCancel h n) s (s.putAct { a with cancel := true }) h 0) ∧
        (a.state = .waiting ∨ a.state = .queued ∨ a.state = .deferred → Replies (.maintCancel h n) s
          ((s.putAct { a with state := .cancelled }).dropReturn a) h 0)) ∧
      (Starts s 0x0603 h → Replies (.maintStatus h n) s s h 0 a.state.code a.last)) ∧
    (∀ (n : W32), s.actOf n.toNat = none → (Starts s 0x0602 h → Replies (.maintCancel h n) s s h 0x15) ∧
      (Starts s 0x0603 h → Replies (.maintStatus h n) s s h 0x15) ∧
      exec (.maintPartStart n) s = .next (s.settle s)) ∧
    (∀ (n : W32) (a : MaintAct) (k : MaintKind), s.actOf n.toNat = some a → maintKind a.act = some k →
      (s.partMayStart k a = true → exec (.maintPartStart n) s =
        .next (s.settle (s.putAct { a with state := .running, last := s.run.step, began := s.bel.frame, half := s.bel.half }))) ∧
      (s.partMayStart k a = false → exec (.maintPartStart n) s = .next (s.settle s)) ∧
      (a.state = .running → s.maint.suspended = false → ∀ (last : Bool) (cycles : BitVec 16) bad u, u = s.chargeAct a k cycles.toNat →
        (k.exclusive = true → s.partLate a = true → ∀ p,
          (a.cancel = false → exec (.maintPartEnd n p last cycles bad) s = .next (s.settle (u.putAct { a with state := .waiting }))) ∧
          (a.cancel = true → exec (.maintPartEnd n p last cycles bad) s =
            .next (s.settle ((u.putAct { a with state := .cancelled }).dropReturn a)))) ∧
        (k.exclusive = false → last = false → a.cancel = false → exec (.maintPartEnd n true last cycles bad) s =
          .next (s.settle (u.putAct { a with parts := a.parts + 1, state := .waiting }))) ∧
        (k.exclusive = true → s.partLate a = false →
          (k.frames ≤ a.parts + 1 → exec (.maintPartEnd n true last cycles bad) s = .next (s.settle
            (raise 0x0180 a.evUnit a.target a.handle
              ((u.putAct { a with parts := a.parts + 1, state := .done }).noteReturn a)))) ∧
          (a.parts + 1 < k.frames → a.cancel = false → exec (.maintPartEnd n true last cycles bad) s = .next (s.settle
            (u.putAct { a with parts := a.parts + 1, state := .waiting }))) ∧
          exec (.maintPartEnd n false last cycles bad) s = .next (s.settle ((raise 0x0181 a.evUnit a.target a.handle
            ((u.putAct { a with parts := a.parts + 1, state := .failed }).dropReturn a)).maintOutcome a (bad.map BitVec.toNat))))) ∧
      (a.state ≠ .running ∨ s.maint.suspended = true → ∀ p last cycles bad, exec (.maintPartEnd n p last cycles bad) s = .next (s.settle s))) ∧
    (s.rec0.stopping = true ∨ s.maint.suspended = true → exec .maintAdmissionRecheck s = .next (s.settle s)) ∧
    (∀ (a : MaintAct) (k : MaintKind), s.rec0.stopping = false → s.maint.suspended = false → s.maint.acts = [a] → a.state = .queued →
      maintKind a.act = some k → s.tooFew k a.target (s.fallowAhead k a.target a.deadline) = false →
      exec .maintAdmissionRecheck s = .next (s.settle (s.putAct { a with state := .waiting }))) ∧
    (∀ c : CoreId, Starts s 0x0621 h →
      (c.toNat ∉ s.retiredCores ∨ s.returnPending c.toNat = true → Replies (.coreReturn h c) s s h 0x15) ∧
      (c.toNat ∈ s.retiredCores → s.returnPending c.toNat = false → s.bel.econ = true ∨ s.rec0.stopping = true →
        Replies (.coreReturn h c) s { s with maint := { s.maint with deferred := s.maint.deferred ++ [c.toNat] } } h 2) ∧
      (c.toNat ∈ s.retiredCores → s.returnPending c.toNat = false → s.bel.econ = false → s.rec0.stopping = false →
        Replies (.coreReturn h c) s (s.registerReturn c.toNat) h 0 (if s.run.inStep then s.run.step + 1 else s.run.nextStep))) ∧
    [MaintState.queued, .deferred, .waiting, .running, .done, .failed, .cancelled].map MaintState.code = [0, 1, 2, 3, 4, 5, 6]

/-- Contexts. CONTEXT_SAVE waits for its boundary or section tick, one at a time; there the context is written, a SECTION one where
the tick qualifies and no core in service holds an uncorrectable word, and the save replies with its kind and length; while the HOST meter
is closed the save is under way, and is written once it is open. A HALT save holds the module, a SECTION one at its section.
CONTEXT_RESTORE takes the checks of Table 04-9 and then holds the module at the context's step; a STEP context leaves local stores and
accumulators as they stand (R118, R121, R122, R515, R519; logs 107, 108, 171, 172). -/
def Obligations.ContextRows : Prop :=
  ∀ (s : State) (h : PktHdr),
    (∀ (kind halt space : Byte) (dest len : W64) (size : Nat), Starts s 0x0910 h →
      size = (if kind = 0 then 112 else sectionContextBytes s.servingCores.length) → kind.toNat ≤ 1 → halt.toNat ≤ 1 → space = 1 →
      let i : Instr := .contextSave h kind halt space dest len
      (len.toNat < size → Replies i s s h 0x15) ∧
      (size ≤ len.toNat → s.run.save.isSome = true → Replies i s s h 0x14) ∧
      (size ≤ len.toNat → s.run.save = none → Spells i h → exec i s = .next (s.settle (State.begun { s with run := { s.run with
        save := some ⟨kind.toNat, halt == 1, true, dest.toNat, len.toNat, some h, s.openStep, none, false⟩ } } h)))) ∧
    (∀ r : SaveReq, s.run.save = some r → s.rec0.stopping = false → r.written = false → r.host = true →
      let put (r : SaveReq) (kind : Nat) (bytes : List Byte) : State := if s.hostOutOpen = true
        then ((s.chargeOut bytes.length).hostWrite r.dest bytes).finishSave r kind bytes.length
        else { s with run := { s.run with saving := true, save := some r } }
      let section_ (x : Nat × Nat) : State := put { r with begun := some x } 1 (s.sectionContext x.1 x.2)
      (r.begun = none → s.sectionTick r = true → s.badCores = [] → exec .contextSaveWrite s =
        .next (s.settle (section_ (s.run.pos, s.bel.frame)))) ∧
      (∀ x, r.begun = some x → s.badCores = [] → exec .contextSaveWrite s = .next (s.settle (section_ x))) ∧
      (r.begun = none → s.sectionTick r = false → s.saveBoundary r = true → exec .contextSaveWrite s =
        .next (s.settle (put r 0 s.stepContext))) ∧
      (r.begun = none → s.sectionTick r = false → s.saveBoundary r = false → exec .contextSaveWrite s = .next (s.settle s))) ∧
    (s.run.save = none → exec .contextSaveWrite s = .next (s.settle s)) ∧
    (∀ (r : SaveReq) (kind size : Nat) (p : PktHdr), r.halt = false → r.hdr = some p → s.finishSave r kind size =
      State.reply { s with run := { s.run with save := none, saving := false } } p 0 kind size) ∧
    (∀ (r : SaveReq) (size pos frame : Nat), r.halt = true →
      (s.finishSave r 0 size).run.state = .held ∧ (s.finishSave r 0 size).run.halted = true ∧
      (r.begun = some (pos, frame) → (s.finishSave r 1 size).run.state = .held ∧ (s.finishSave r 1 size).run.inStep = false ∧
        (s.finishSave r 1 size).run.resumePos = some pos ∧ (s.finishSave r 1 size).run.nextStep = s.run.step)) ∧
    (∀ (src len : W64), Starts s 0x0911 h →
      let m := s.hostMem.slice src.toNat len.toNat
      let i : Instr := .contextRestore h 1 src len
      let u := s.chargeIn len.toNat
      (s.run.state = .running ∨ s.run.state = .replaying ∨ (s.run.state = .held ∧ s.run.halted = false) →
        Replies i s s h 0x14) ∧
      (s.run.state = .idle ∨ (s.run.state = .held ∧ s.run.halted = true) →
        (u.contextCheck m len.toNat = 0 → Replies i s (u.restore m) h 0) ∧
        (u.contextCheck m len.toNat ≠ 0 → Replies i s u h (u.contextCheck m len.toNat)))) ∧
    (∀ m : Memory, (s.restore m).run.state = .held ∧ (s.restore m).run.nextStep = m.readNat 16 8 ∧
      (s.restore m).run.inStep = false ∧ (m.readNat 7 1 = 1 → (s.restore m).run.resumePos = some (m.readNat 24 2)) ∧
      (s.restore m).bel = s.bel ∧ (s.restore m).tier.hbm = s.tier.hbm ∧
      (m.readNat 7 1 = 0 → (s.restore m).run.resumePos = none ∧ ∀ c, ((s.restore m).core c).ls = (s.core c).ls ∧
        ((s.restore m).core c).banks = (s.core c).banks))

/-! # The PCIe function, the queues and the registers (spec/14) -/

/-- The queue engine accepts the next packet of the queue whose turn it is, in order, with its OPCODE, TAG, FLAGS, RADDR and PARAMS, and
answers an unknown opcode; a queue's packets wait for the aperture writes made before its doorbell write (R421, R429); replies are
written in order at the ring's next entry, with PHASE and an interrupt where asked, while the ring has room (R425-R427, R430, R433).
Doorbells move the tail and the head; a bad one stops its queue; other offsets of BAR2 read zero and ignore writes; the BARs answer only with
Memory Space Enable in D0 (R414, R424, R428; log 105). -/
def Obligations.QueueRows : Prop :=
  ∀ s : State,
    (s.engineFetches = false ∨ s.nextQueue = none → exec .packetAccept s = .next (s.settle s)) ∧
    (∀ n q b, s.engineFetches = true → s.nextQueue = some (n, q) → b = s.hostMem.readBytes (q.sqBase + 64 * q.head) 64 →
      let p := packetOf n s.hif.pktNum b
      let took : QPair := { q with head := (q.head + 1) % 2 ^ q.sqLog, progress := q.progress ++ [p] }
      let u : State := { s with hif := { s.hif with lastQueue := n, queues := mapPut s.hif.queues n took, pktNum := s.hif.pktNum + 1 } }
      ((∀ x ∈ took.progress, x.op.toNat ∈ knownOpcodes) → exec .packetAccept s = .next (s.settle u)) ∧
      (q.progress = [] → p.op.toNat ∉ knownOpcodes → exec .packetAccept s =
        .next (s.settle (u.putReply p ⟨p.tag.toNat, 0x15, false, p.irq, 0, 0, 0⟩))) ∧
      p.op.toNat = natOfBytes (b.take 2) ∧ p.tag.toNat = natOfBytes ((b.drop 2).take 2) ∧
      p.flags.toNat = natOfBytes ((b.drop 4).take 2) ∧ p.raddr.toNat = natOfBytes ((b.drop 8).take 8) ∧ p.params = b.drop 16 ∧
      p.queue.toNat = n) ∧
    (∀ n q, s.nextQueue = some (n, q) → mapFind s.hif.queues n = some q ∧ q.stopped = false ∧ q.closing = false ∧
      q.head ≠ q.tail ∧ q.progress.length < 16 ∧ q.rqFull = false ∧ ∀ t ∈ q.behind, t ∉ s.aperWrites) ∧
    (∀ (i : QueueId) (q : QPair) (r : ReplyMsg) (rest : List ReplyMsg), mapFind s.hif.queues i.toNat = some q →
      q.replies = r :: rest →
      (q.rqFull = true → exec (.replyWrite i) s = .next (s.settle s)) ∧
      (q.rqFull = false → ∀ next : Nat, next = (q.rqNext + 1) % 2 ^ q.rqLog → ∃ u : State, exec (.replyWrite i) s = .next (s.settle u.finishQueues) ∧
        u.hostMem = s.hostMem.writeBytes (q.rqBase + 32 * q.rqNext) (q.entry i.toNat r) ∧
        mapFind u.hif.queues i.toNat = 
          some { q with replies := rest, rqNext := next, phase := if next = 0 then !q.phase else q.phase } ∧
        u.outbox = (if r.event = true ∨ r.irq = true then s.outbox ++ [.interrupt q.vector] else s.outbox) ∧
        u.cores = s.cores ∧ u.tier = s.tier ∧ u.run = s.run)) ∧
    (∀ (i : Byte) (v : W32), s.barOpen = false →
      exec (.sqTailDoorbell i v) s = .next (s.settle (s.send .unsupportedRequest)) ∧
      exec (.rqHeadDoorbell i v) s = .next (s.settle (s.send .unsupportedRequest))) ∧
    (∀ (i : Byte) (v : W32) (q : QPair) (n : Nat), s.barOpen = true → mapFind s.hif.queues i.toNat = some q → n = v.toNat % 4096 →
      (n < 2 ^ q.sqLog → (n + 2 ^ q.sqLog - q.head) % 2 ^ q.sqLog ≤ 4095 → exec (.sqTailDoorbell i v) s =
        .next (s.settle { s with hif := { s.hif with
          queues := mapPut s.hif.queues i.toNat { q with tail := n, behind := s.aperWrites } } })) ∧
      (2 ^ q.sqLog ≤ n → exec (.sqTailDoorbell i v) s = .next (s.settle (s.badDoorbell i.toNat))) ∧
      (n < 2 ^ q.rqLog → exec (.rqHeadDoorbell i v) s = .next (s.settle { s with
        hif := { s.hif with queues := mapPut s.hif.queues i.toNat { q with rqHead := n } } })) ∧
      (2 ^ q.rqLog ≤ n → exec (.rqHeadDoorbell i v) s = .next (s.settle (s.badDoorbell i.toNat)))) ∧
    (∀ (o : Nat) (v : W32), s.barOpen = true → o % 0x1000 ≠ 0 → o % 0x1000 ≠ 4 → s.bar2Write o v = s ∧ s.bar2Read o = some 0) ∧
    (∀ (i : Byte) (v : W32), s.barOpen = true → mapFind s.hif.queues i.toNat = none →
      exec (.sqTailDoorbell i v) s = .next (s.settle (s.badDoorbell i.toNat)) ∧
      exec (.rqHeadDoorbell i v) s = .next (s.settle (s.badDoorbell i.toNat))) ∧
    (∀ n, (s.badDoorbell n).hif.errDoorbell = true ∧ (s.badDoorbell n).hif.errQueue = n ∧
      (∀ q, mapFind s.hif.queues n = some q → mapFind (s.badDoorbell n).hif.queues n = some { q with stopped := true }))

/-- The function. ENABLE going to 1 makes queue 0 of the queue-0 registers when they are valid; going to 0, a Function Level Reset,
a hot reset and a link-down each leave no queue, no session and no aperture; what was accepted still completes, unanswered (R415, R423; log
105). EVENTS, configuration writes and DOE discovery have their effects (R414, R416, R434; log 34). A write of a register that takes none is
counted and changes no other thing; W1C bits clear; in debug-unlock state it overrides the field (R417-R419; logs 19, 102). A BAR0 access of
another size or alignment, or with the BARs closed, is an Unsupported Request, a read of all ones; else it reads the register: unit set and
queues, HIF, FRAME_NO and bell, ceilings, ledger, power, fabric, memory and seed registers and the cores' own as their tables say. The
aperture reads and writes the page at its home (R420). -/
def Obligations.FunctionRows : Prop :=
  ∀ s : State,
    (s.barOpen = false → (∀ on, exec (.hifEventsSet on) s = .next (s.settle (s.send .unsupportedRequest))) ∧
      exec .hifEnableSet s = .next (s.settle (s.send .unsupportedRequest)) ∧
      exec .hifEnableClear s = .next (s.settle (s.send .unsupportedRequest)) ∧
      (∀ o w v, exec (.registerWrite o w v) s = .next (s.settle (s.send .unsupportedRequest))) ∧
      (∀ o n, exec (.apertureRead o n) s = .next (s.settle (s.send .unsupportedRequest))) ∧
      (∀ o b, exec (.apertureWrite o b) s = .next (s.settle (s.send .unsupportedRequest)))) ∧
    (s.barOpen = true →
      (∀ on, exec (.hifEventsSet on) s = .next (s.settle { s with hif := { s.hif with events := on } })) ∧
      (s.hif.enable = false → ∀ q, s.queueZero = some q → exec .hifEnableSet s = .next (s.settle { s with
        hif := { s.hif with enable := true, queues := mapPut s.hif.queues 0 q } })) ∧
      (s.hif.enable = false → s.queueZero = none → exec .hifEnableSet s = .next (s.settle { s with
        hif := { s.hif with enable := true } })) ∧
      (s.hif.enable = true → exec .hifEnableSet s = .next (s.settle s)) ∧
      (s.hif.enable = true → exec .hifEnableClear s = .next (s.settle s.flr)) ∧
      (s.hif.enable = false → exec .hifEnableClear s = .next (s.settle s))) ∧
    (∀ q, s.queueZero = some q → q.sqBase = s.hif.aqSq / 4096 * 4096 ∧ q.sqLog = s.hif.aqSq % 16 ∧
      q.rqBase = s.hif.aqRq / 4096 * 4096 ∧ q.rqLog = s.hif.aqRq % 16 ∧ q.head = 0 ∧ q.tail = 0 ∧ q.phase = true) ∧
    exec .functionLevelReset s = .next (s.settle s.flr) ∧ exec .pcieHotReset s = .next (s.settle s.flr) ∧
    exec .pcieLinkDown s = .next (s.settle s.flr) ∧
    (s.flr.hif.queues = [] ∧ s.flr.hif.session = false ∧ s.flr.hif.aperOn = false ∧ s.flr.hif.enable = false ∧
      s.flr.hif.mse = s.hif.mse ∧ s.flr.cores = s.cores ∧ s.flr.tier.xlate = s.tier.xlate ∧ s.flr.tier.hbm = s.tier.hbm ∧ s.flr.run.state = s.run.state ∧
      s.flr.outbox = s.outbox ∧ (s.hif.closing = none → (∀ x ∈ s.hif.queues, x.2.deleting = none) → ∀ n q h,
        mapFind s.hif.queues n = some q → h ∈ q.progress → s.flr.sessionFor h = true)) ∧
    exec (.configSpaceWrite (.memorySpace true)) s = .next (s.settle { s with
      hif := { s.hif with mse := true, bar4 := s.hif.bar4Next.getD s.hif.bar4, bar4Next := none } }) ∧
    exec (.configSpaceWrite (.memorySpace false)) s = .next (s.settle { s with hif := { s.hif with mse := false } }) ∧
    (∀ on, exec (.configSpaceWrite (.d3hot on)) s = .next (s.settle { s with hif := { s.hif with d3 := on } })) ∧
    (∀ i : Byte, ∃ b, exec (.doeDiscovery i) s = .next (s.settle (s.send (.doe b))) ∧ b.length = 4) ∧
    (s.barOpen = true → s.reeve.debug = false → ∀ (o : BitVec 26) (v : W64), o.toNat % 8 = 0 → regMask o.toNat ≠ 0 →
      w1cMask o.toNat = 0 → ¬ (0x10000 ≤ o.toNat ∧ o.toNat < 0x20000) → exec (.registerWrite o 8 v) s =
        .next (s.settle { s with hif := { s.hif with errDenied := true, deniedCount := min (s.hif.deniedCount + 1) (2 ^ 32 - 1) } })) ∧
    (s.barOpen = true → ∀ v : W64, v.toNat % 2 = 1 → s.reeve.debug = false → ∃ t,
      exec (.registerWrite 0x200010 8 v) s = .next t ∧ t.tier.regs.nondet = false ∧ t.hif.deniedCount = s.hif.deniedCount ∧
      t.tier.hbm = s.tier.hbm) ∧
    (s.barOpen = true → ∀ (o : BitVec 26) (n : BitVec 13) (v : W64), (n ≠ 4 ∧ n ≠ 8) ∨ o.toNat % n.toNat ≠ 0 →
      exec (.registerWrite o n v) s = .next (s.settle (s.send .unsupportedRequest)) ∧
      s.barRead o.toNat n.toNat = (2 ^ (8 * n.toNat) - 1, true)) ∧
    (s.barOpen = true → s.reeve.debug = true → mapFind s.reeve.overrides 0x20000 = none → ∀ v : W64, ∃ t, exec (.registerWrite 0x20000 8 v) s = .next t ∧
      t.bel.frame = v.toNat % 2 ^ 48 ∧ t.readReg 0x20000 = v.toNat % 2 ^ 48) ∧
    (∀ o n : Nat, (s.barOpen = false → s.barRead o n = (2 ^ (8 * n) - 1, true)) ∧
      (s.barOpen = true → o % 8 = 0 → s.barRead o 8 = (s.readReg o % 2 ^ 64, false) ∧
        s.barRead (o + 4) 4 = (s.readReg o / 2 ^ 32 % 2 ^ 32, false))) ∧
    (s.reeve.overrides = [] →
      s.readReg 0x10 = (queueDepth s.unitsEff * 2 ^ 16 + queueCount s.unitsEff * 2 ^ 8 + s.unitsEff % 32) % 2 ^ 64 ∧
      s.readReg 0x10000 = bnat s.hif.events * 2 + bnat s.hif.enable ∧
      s.readReg 0x10008 = s.hif.errQueue % 256 * 2 ^ 8 + bnat s.reeve.debug * 8 + bnat s.hif.session * 4 +
        bnat (s.hif.queues.any fun q => q.2.stopped) * 2 + bnat s.hif.ready ∧
      s.readReg 0x20000 = s.bel.frame % 2 ^ 48 ∧ s.readReg 0x20008 % 2 ^ 14 = s.bel.cycle % 2 ^ 14 ∧
      s.readReg 0x20008 / 2 ^ 18 % 2 ^ 8 = bnat s.bel.root + 2 * (s.bel.upPort % 8) + 2 ^ 4 * bnat s.bel.half + 2 ^ 5 * bnat s.bel.econ +
        2 ^ 6 * bnat s.bel.econSupply + 2 ^ 7 * bnat s.bel.econThermal ∧
      (s.readReg 0x20008 / 2 ^ 16 % 4 = 2 ↔ s.bel.state = .locked) ∧
      (∀ c, c < 8 → s.readReg (0x30000 + 8 * c) = (s.inForce c * 2 ^ 16 + s.ceilOf c) % 2 ^ 64) ∧
      s.readReg 0x30180 = (s.bud.lostFrames * 2 ^ 32 + s.bud.stops * 2 ^ 16 + s.bud.rebuilds * 2 ^ 8 + s.bud.lastClass % 8) % 2 ^ 64 ∧
      (∀ n, n < 256 → s.readReg (0x40000 + 8 * n) = s.ledger n % 2 ^ 64 ∧
        s.readReg (0x40800 + 8 * n) = bnat (decide (1000000 ≤ s.wearOf n)) * 2 ^ 20 + min (s.wearOf n) 1000000) ∧
      s.readReg 0x50000 = s.pwr.cause % 16 * 2 ^ 20 + bnat s.pwr.up * 2 ^ 9 + bnat s.pwr.brake * 2 ^ 8 + bnat s.pwr.stage1 * 2 ^ 7 +
        bnat s.pwr.warn * 2 ^ 6 + bnat s.pwr.stage1Seen * 2 + bnat s.pwr.warnSeen ∧
      (∀ p, p < 6 → s.readReg (0x100000 + 16 * p) / 2 ^ 4 % 2 ^ 4 = (s.port p).width % 8 + 8 * bnat (s.port p).bypass ∧
        (s.readReg (0x100000 + 16 * p) % 8 = 2 ↔ (s.port p).state = .up) ∧
        s.readReg (0x100000 + 16 * p) / 2 ^ 52 = (s.port p).peer % 2 ^ 12) ∧
      s.readReg 0x1000A8 = s.fab.lastStep % 2 ^ 64 ∧ s.readReg 0x200010 = (s.tier.regs.subst * 2 ^ 32 + bnat s.tier.regs.nondet) % 2 ^ 64 ∧
      s.readReg 0x200240 = (s.smithy.touched.length * 2 ^ 32 + s.smithy.phase) % 2 ^ 64 ∧ s.readReg 0x400008 = s.rng.seed % 2 ^ 64 ∧
      (∀ c : CoreId, s.readReg (0x1000000 + 0x10000 * c.toNat + 0x60) = (s.core c).regs.hazard.toNat ∧
        s.readReg (0x1000000 + 0x10000 * c.toNat + 0x68) = (s.core c).regs.hazardAddr.toNat ∧
        ((s.core c).detour = none → s.readReg (0x1000000 + 0x10000 * c.toNat) =
          (s.core c).regs.retireCause % 256 * 2 ^ 24 + bnat (s.core c).regs.hosting * 4 + bnat (s.core c).regs.retired))) ∧
    (∀ (o : BitVec 40) (n : BitVec 13) (e : XEntry) (a p : Nat), s.apertureOpen o.toNat n.toNat = true →
      a = s.hif.aperBase * 2 ^ 36 + o.toNat → p = a / pageBytes → p ≠ 0 → p < 2 ^ 36 → mapFind s.tier.xlate p = some e →
      e.tier = .local → 1 ≤ n.toNat → a % pageBytes + n.toNat ≤ pageBytes →
      (∀ b u, (State.addHeat { s.chargeHostOut n.toNat with freeCtr := s.freeCtr + 1 } p n.toNat).readFrame e.frame
          (a % pageBytes) n.toNat = .ok b u →
        exec (.apertureRead o n) s = .next (s.settle ((u.endAper s.freeCtr).send (.busData b)))) ∧
      (e.w = true → p ∉ s.tier.codePages → mapGet [] s.tier.holders p = [] → ∀ bytes : List Byte, bytes.length = n.toNat →
        exec (.apertureWrite o bytes) s = .next (s.settle
          (((State.applyAtHome { s.chargeHostIn n.toNat with freeCtr := s.freeCtr + 1 } e a bytes).endAper s.freeCtr).send
            .busWritten))) ∧
      (e.w = false → ∀ bytes : List Byte, bytes.length = n.toNat → exec (.apertureWrite o bytes) s = .next (s.settle
        ((State.endAper { s.chargeHostIn n.toNat with freeCtr := s.freeCtr + 1 } s.freeCtr).apertureAbort))))

/-! # The Damtin commands (spec/14, spec/03, spec/08, spec/09, spec/11, spec/12, spec/13) -/

/-- Sessions, queues, almanacs and steps: what each command does where its conditions hold, and its refusals; a command that
waits has begun, so that later packets of its queue may start (R75-R78, R161, R397, R427, R431, R435-R442; logs 97, 101, 128). STEP_RUN is
BUSY while a stop is in progress or LINK_HARD holds the module (log 163); a long result waits for the HOST meter (R439). -/
def Obligations.SessionAndStepCommands : Prop :=
  ∀ (s : State) (h : PktHdr),
    (Starts s 0x0001 h → (s.hif.session = true → Replies (.sessionOpen h) s s h 0x14) ∧
      (s.hif.session = false → Replies (.sessionOpen h) s { s with hif := { s.hif with session := true } } h 0)) ∧
    (Starts s 0x0002 h → (s.hif.session = false ∨ s.hif.closing.isSome = true → Replies (.sessionClose h) s s h 0x15) ∧
      (s.hif.session = true → s.hif.closing = none → Spells (.sessionClose h) h → exec (.sessionClose h) s = .next (s.settle (State.finishQueues (State.begun { s with
        hif := { s.hif with closing := some h,
                            queues := s.hif.queues.map fun q => if q.1 = 0 then q else (q.1, q.2.close q.2.deleting) } } h))))) ∧
    (Starts s 0x0003 h → ∀ (q sl rl v : Byte) (sb rb : W64),
      (q = 0 ∨ 63 < q.toNat ∨ sb.toNat % 4096 ≠ 0 ∨ rb.toNat % 4096 ≠ 0 ∨ sl = 0 ∨ 12 < sl.toNat ∨ rl = 0 ∨ 12 < rl.toNat ∨ v = 0 ∨
        64 < v.toNat → Replies (.queueCreate h q sl rl v sb rb) s s h 0x15) ∧
      (q ≠ 0 → q.toNat ≤ 63 → ringOk sb.toNat sl.toNat = true → ringOk rb.toNat rl.toNat = true → v ≠ 0 → v.toNat ≤ 64 →
        (mapFind s.hif.queues q.toNat = none → Replies (.queueCreate h q sl rl v sb rb) s { s with hif := { s.hif with
          queues := mapPut s.hif.queues q.toNat (QPair.fresh sb.toNat sl.toNat rb.toNat rl.toNat v.toNat) } } h 0) ∧
        ((mapFind s.hif.queues q.toNat).isSome = true → Replies (.queueCreate h q sl rl v sb rb) s s h 0x14))) ∧
    (Starts s 0x0004 h → ∀ q : Byte, (q = 0 ∨ mapFind s.hif.queues q.toNat = none → Replies (.queueDelete h q) s s h 0x15) ∧
      (∀ x, q ≠ 0 → mapFind s.hif.queues q.toNat = some x → x.closing = false → Spells (.queueDelete h q) h → exec (.queueDelete h q) s =
        .next (s.settle (State.finishQueues (State.begun { s with hif := { s.hif with
          queues := mapPut s.hif.queues q.toNat { x with closing := true, deleting := some h } } } h))))) ∧
    (Starts s 0x0005 h → ∀ d0 d1 d2 : W64, Replies (.nop h d0 d1 d2) s s h 0 d0.toNat d1.toNat d2.toNat) ∧
    (Starts s 0x0006 h → (∀ k : Byte, k ≠ 1 → Replies (.moduleReset h k) s s h 0x15) ∧
      (s.pwr.dieReset = false → Replies (.moduleReset h 1) s { s with pwr := { s.pwr with modReset := true } } h 0)) ∧
    (Starts s 0x0101 h → ∀ a n : W64, (s.run.armed.isSome = true → Replies (.almanacLoad h a n) s s h 0x14) ∧
      (s.run.armed = none → s.hostInOpen = false → Spells (.almanacLoad h a n) h → exec (.almanacLoad h a n) s = .next (s.settle (s.begun h))) ∧
      (s.run.armed = none → s.hostInOpen = true →
        let x : AlmSlot := ⟨s.hostMem.slice a.toNat n.toNat, n.toNat⟩
        Replies (.almanacLoad h a n) s (State.chargeIn { s with
          run := { s.run with staged := if s.almanacCheck x = 0 then x else ⟨[], 0⟩ } } n.toNat) h (s.almanacCheck x))) ∧
    (Starts s 0x0102 h → ∀ n : W64,
      (n.toNat < s.run.step + 2 ∨ s.run.staged.loaded = false → Replies (.almanacSwitch h n) s s h 0x15) ∧
      (s.run.step + 2 ≤ n.toNat → s.run.staged.loaded = true → s.run.armed.isSome = true →
        Replies (.almanacSwitch h n) s s h 0x14) ∧
      (s.run.step + 2 ≤ n.toNat → s.run.staged.loaded = true → s.run.armed = none →
        Replies (.almanacSwitch h n) s { s with run := { s.run with armed := some n.toNat } } h 0)) ∧
    (Starts s 0x0103 h → ∀ n, s.run.armed = some n →
      (s.run.step + 1 < n → Replies (.almanacCancel h) s { s with run := { s.run with armed := none } } h 0) ∧
      (n ≤ s.run.step + 1 → Replies (.almanacCancel h) s s h 0x14)) ∧
    (Starts s 0x0104 h → (h.raddr = 0 → Replies (.almanacStatus h) s s h 0x15) ∧
      (h.raddr ≠ 0 → s.hostOutOpen = false → Spells (.almanacStatus h) h → exec (.almanacStatus h) s = .next (s.settle (s.begun h))) ∧
      (h.raddr ≠ 0 → s.hostOutOpen = true → ∃ t : State, (∃ r0 r1 r2, Replies (.almanacStatus h) s t h 0 r0 r1 r2) ∧
        t.hostMem = s.hostMem.writeBytes h.raddr.toNat
          (bytesOfNat 8 (if s.run.active.loaded then s.run.active.ident else 0) ++
           bytesOfNat 8 (if s.run.staged.loaded then s.run.staged.ident else 0) ++ bytesOfNat 8 (s.run.armed.getD 0) ++
           bytesOfNat 8 s.run.step) ∧ t.bud.hostOut = s.bud.hostOut - 1 ∧ t.run = s.run ∧ t.tier = s.tier)) ∧
    (Starts s 0x0201 h → ∀ start count at_ : W64,
      (s.run.state = .idle → s.run.staged.loaded = false → Replies (.stepRun h start count at_) s s h 0x15) ∧
      (s.almanacRuns = true → at_ = 0 → Replies (.stepRun h start count at_) s s h 0x14) ∧
      (s.run.state = .held → at_ = 0 → s.rec0.stopping = true ∨ s.rec0.holdIdle.isSome = true →
        Replies (.stepRun h start count at_) s s h 0x14) ∧
      (s.run.state = .held → at_ = 0 → s.rec0.stopping = false → s.rec0.holdIdle = none → Replies (.stepRun h start count at_) s { s with run := { s.run with
        state := .running, startAt := some s.tickFor, halted := false,
        countHold := if count = 0 then none else some (s.run.nextStep + count.toNat - 1) } } h 0 s.tickFor) ∧
      (s.run.state = .idle → s.run.staged.loaded = true → at_ = 0 → s.rec0.stopping = false → s.rec0.holdIdle = none → ∃ t : State, Replies (.stepRun h start count at_) s t h 0 s.tickFor ∧
        t.run.state = .running ∧ t.run.nextStep = start.toNat ∧ t.run.active = s.run.staged ∧ t.run.startAt = some s.tickFor ∧
        t.run.countHold = (if count = 0 then none else some (start.toNat + count.toNat - 1)))) ∧
    (Starts s 0x0202 h → ∀ b : W64, b ≠ 0 → (b.toNat < s.openStep → Replies (.stepHold h b) s s h 0x15) ∧
      (s.openStep ≤ b.toNat → Spells (.stepHold h b) h → exec (.stepHold h b) s = .next (s.settle (State.begun { s with run := { s.run with
        holds := s.run.holds ++ [(b.toNat, some h)] } } h)))) ∧
    (Starts s 0x0202 h → Spells (.stepHold h 0) h → exec (.stepHold h 0) s = .next (s.settle (State.begun { s with run := { s.run with
        holds := s.run.holds ++ [(s.openStep, some h)] } } h))) ∧
    (Starts s 0x0203 h → ∃ c, Replies (.stepStatus h) s s h 0 s.run.step s.run.committed c ∧
      (c = 0 ↔ s.run.state = .idle) ∧ (c = 1 ↔ s.run.state = .running) ∧ (c = 2 ↔ s.run.state = .held) ∧
      (c = 3 ↔ s.run.state = .replaying)) ∧
    (Starts s 0x0210 h → ∀ (c : Byte) (v : BitVec 16),
      (7 < c.toNat ∨ v = 0 ∨ 256 < v.toNat → Replies (.budgetSet h c v) s s h 0x15) ∧
      (c.toNat ≤ 7 → v ≠ 0 → v.toNat ≤ 256 → Replies (.budgetSet h c v) s (s.latch (.ceil c.toNat v.toNat)) h 0 s.tickFor)) ∧
    (Starts s 0x0220 h → ∀ seed n : W64,
      (s.almanacRuns = true → n.toNat < s.run.step + 2 → Replies (.rngSeed h seed n) s s h 0x15) ∧
      (s.almanacRuns = true → s.run.step + 2 ≤ n.toNat → Replies (.rngSeed h seed n) s
        { s with rng := { s.rng with pending := some (seed.toNat, n.toNat) } } h 0 n.toNat) ∧
      (s.almanacRuns = false → ∃ t : State, (∃ r0, Replies (.rngSeed h seed n) s t h 0 r0) ∧ t.rng.seed = seed.toNat ∧
        t.rng.pending = none ∧ t.run.step = s.run.step)) ∧
    (Starts s 0x0620 h → ∀ c : CoreId,
      (c.toNat ∈ s.goingCores → Replies (.coreRetire h c) s s h 0 s.stepInEffect) ∧
      (c.toNat ∉ s.goingCores → s.detoursHold (c.toNat :: s.goingCores) = false → Replies (.coreRetire h c) s s h 0x15) ∧
      (c.toNat ∉ s.goingCores → s.detoursHold (c.toNat :: s.goingCores) = true → Replies (.coreRetire h c) s { s with
        run := { s.run with retireNext := s.run.retireNext ++ [(c.toNat, s.stepInEffect)] } } h 0 s.stepInEffect)) ∧
    (Starts s 0x0630 h → ∀ e : Byte, (1 < e.toNat → Replies (.timingAudit h e) s s h 0x15) ∧
      (e.toNat ≤ 1 → Replies (.timingAudit h e) s { s with auditNext := some (e == 1, s.stepInEffect) } h 0 s.stepInEffect)) ∧
    (Starts s 0x0901 h → ∀ (a : W64) (n : W32),
      (n.toNat < 18616 ∨ h.raddr = 0 → Replies (.telemetrySnapshot h a n) s s h 0x15) ∧
      (18616 ≤ n.toNat → h.raddr ≠ 0 → Spells (.telemetrySnapshot h a n) h → exec (.telemetrySnapshot h a n) s = .next (s.settle (State.begun { s with
        hif := { s.hif with snapshots := s.hif.snapshots ++ [⟨some h, a.toNat, s.bel.frame + 1, [], false⟩] } } h)))) ∧
    (∀ p a t, s.hif.snapshots = [⟨p, a, t, [], false⟩] → exec .telemetryImageWrite s = .next (s.settle s) ∧
      (t ≤ s.bel.frame → s.takeImages.hif.snapshots = [⟨p, a, s.bel.frame, s.snapshot, false⟩]) ∧
      (s.bel.frame < t → s.takeImages.hif.snapshots = s.hif.snapshots)) ∧
    (∀ p a t b, s.hif.snapshots = [⟨some p, a, t, b, false⟩] → b ≠ [] → ∀ u : State,
      u = (({ s with hif := { s.hif with snapshots := [] } } : State).chargeOut 18616).hostWrite a b →
      (s.hostOutOpen = false → exec .telemetryImageWrite s = .next (s.settle s)) ∧
      (s.hostOutOpen = true → u.hostOutOpen = true → exec .telemetryImageWrite s =
        .next (s.settle (u.replyLong p 0 (bytesOfNat 8 t ++ bytesOfNat 8 18616)))) ∧
      (s.hostOutOpen = true → u.hostOutOpen = false → exec .telemetryImageWrite s =
        .next (s.settle { u with hif := { u.hif with snapshots := [⟨some p, a, t, b, true⟩] } }))) ∧
    (∀ p a t b, s.hif.snapshots = [⟨some p, a, t, b, true⟩] → b ≠ [] → s.hostOutOpen = true → exec .telemetryImageWrite s =
      .next (s.settle (State.replyLong { s with hif := { s.hif with snapshots := [] } } p 0 (bytesOfNat 8 t ++ bytesOfNat 8 18616)))) ∧
    (∀ q : QPair, mapFind s.hif.queues h.queue.toNat = some q → h ∈ q.progress → h ∉ q.started →
      (∀ p ∈ q.progress, p.op.toNat ∈ knownOpcodes) →
      mapFind (s.begun h).hif.queues h.queue.toNat = some { q with started := q.started ++ [h] } ∧
      (s.begun h).run = s.run ∧ (s.begun h).tier = s.tier ∧ (s.begun h).cores = s.cores)

/-- Memory, tables, the granary, the smithy and the fabric: what each command does where its conditions hold, and its refusals; a
configuration "from the next step" is in force at once for a step that STEP_RUN will resume at a section (logs 33, 84, 90, 100; R236, R244, R263, R264, R298, R346, R351, R366, R367, R370, R383, R391, R489, R490). -/
def Obligations.MemoryTableAndFabricCommands : Prop :=
  ∀ (s : State) (h : PktHdr),
    (Starts s 0x0401 h → ∀ (va n : W64) (tier flags : Byte) (m : BitVec 16) (host : W64) (room : Bool) (known : List (BitVec 36)),
      let i : Instr := .memAlloc h va n tier flags m host room known
      let v := va.toNat / pageBytes
      (rangeOk va.toNat n.toNat = false ∨ 2 < tier.toNat → Replies i s s h 0x15) ∧
      (rangeOk va.toNat n.toNat = true → v ≠ 0 → pagesAll v n.toNat (fun p => !s.pageMapped (known.map BitVec.toNat) p) = true →
        (tier = 0 → s.quotaRoom 0 n.toNat = false → Replies i s s h 0x10) ∧
        (∀ t, tier = 0 → s.quotaRoom 0 n.toNat = true → s.createLocal v n.toNat flags = some t → Replies i s t h 0) ∧
        (tier = 1 → m.toNat < s.modCount → m.toNat ≠ s.modNo → s.quotaRoom 2 n.toNat = true → room = true → Replies i s
          (overPages v n.toNat (fun p s => s.createPage p (attrEntry .pool flags 0 m.toNat 0)) s) h 0) ∧
        (tier = 2 → host = 0 → s.quotaRoom 3 n.toNat = true → n.toNat ≤ s.poolFree.length → Replies i s
          (s.createHost v (s.poolFree.take n.toNat) flags) h 0))) ∧
    (∀ (v : Nat) (flags : Byte) (f : Nat) (u : State), s.takeFrame v = some (f, u) → s.dirAt v = s.modNo → ∃ t,
      s.createLocal v 1 flags = some t ∧ mapFind t.tier.xlate v = some (attrEntry .local flags f 0 0) ∧
      mapFind t.tier.owners v = some s.modNo ∧ t.tier.hbm = s.tier.hbm.zero (f * pageBytes) pageBytes) ∧
    (∀ (va n : W64) (known : List (BitVec 36)), ∀ ok : Bool,
      ok = (rangeOk va.toNat n.toNat && pagesAll (va.toNat / pageBytes) n.toNat (s.pageMapped (known.map BitVec.toNat))) →
      (Starts s 0x0402 h → (ok = false → Replies (.memFree h va n known) s s h 0x15) ∧
        (ok = true → Replies (.memFree h va n known) s (s.latch (.memFree (va.toNat / pageBytes) n.toNat)) h 0 s.tickFor)) ∧
      (Starts s 0x0403 h → ∀ f : Byte, (ok = false → Replies (.memAttr h va n f known) s s h 0x15) ∧
        (ok = true → Replies (.memAttr h va n f known) s (s.latch (.memAttr (va.toNat / pageBytes) n.toNat (f.getLsbD 0)
          (f.getLsbD 1) (f.getLsbD 2) (f.getLsbD 3))) h 0 s.tickFor))) ∧
    (Starts s 0x0404 h → ∀ (va : W64) (remote : Option DEntry) (e : XEntry) (d : DEntry) (v : Nat), v = va.toNat / pageBytes →
      va.toNat < 2 ^ 52 → v ≠ 0 → mapFind s.tier.xlate v = some e → s.dirAt v = s.modNo → mapFind s.tier.dir v = some d →
      Replies (.memQuery h va remote) s s h 0 e.toNat (d.toNat v % 2 ^ 64) (d.toNat v / 2 ^ 64)) ∧
    (Starts s 0x0405 h → ∀ (c : Byte) (l : W32),
      (4 < c.toNat ∨ 2 ^ 31 ≤ l.toNat → Replies (.quotaSet h c l) s s h 0x15) ∧
      (c.toNat ≤ 4 → l.toNat ≤ 10354688 → Replies (.quotaSet h c l) s (s.latch (.quota c.toNat l.toNat)) h
        (if l.toNat < s.quotaUse c.toNat then 3 else 0) s.tickFor)) ∧
    (Starts s 0x0406 h → ∀ (w : W64) (targets : BitVec 128) (base pages : W64), s.poolUsed = [] → base.toNat % pageBytes = 0 →
      w.toNat % 16 ≤ 10 → Replies (.tierConfig h w 0 targets base pages) s
        ((s.latch (.tierHeat (field w.toNat 63 48) (field w.toNat 47 32) (field w.toNat 31 16) (field w.toNat 11 8)
          (field w.toNat 3 0))).latch (.targets [] base.toNat pages.toNat)) h 0 s.tickFor) ∧
    (Starts s 0x0301 h → s.hostInOpen = true → ∀ (a : W64) (t : Table),
      t = Table.fresh (s.hostMem.readBytes a.toNat 128) →
      let u := s.chargeIn 128
      (t.fieldsOk = false → Replies (.tableCreate h a) s u h 0x15) ∧
      (t.fieldsOk = true → u.componentsOk t = true → u.areasOk t = true →
        (u.table (t.nat 0 2) = none → Replies (.tableCreate h a) s (u.putTable (t.nat 0 2) t) h 0) ∧
        ((u.table (t.nat 0 2)).isSome = true → Replies (.tableCreate h a) s u h 0x14))) ∧
    (∀ tn : BitVec 16, s.table tn.toNat = none →
      (Starts s 0x0302 h → ∀ f v b p a k, Replies (.tablePublish h tn f v b p a k) s s h 0x15) ∧
      (Starts s 0x0303 h → Replies (.tableDestroy h tn) s s h 0x15) ∧
      (Starts s 0x0304 h → ∀ a n, Replies (.tableQuery h tn a n) s s h 0x15)) ∧
    (∀ (tn : BitVec 16) (t : Table), s.table tn.toNat = some t → t.destroy = none →
      (Starts s 0x0302 h → ∀ (f : Byte) (v : W32) (b p : W64) (k : List (BitVec 36 × DEntry)),
        (∀ x ∈ t.versions, x.2.version < v.toNat) → t.trained = false → b.toNat % pageBytes = 0 → b.toNat < 2 ^ 52 → b ≠ 0 →
        pagesAll (b.toNat / pageBytes) p.toNat (s.versionPageOk t (k.map fun e => (e.1.toNat, e.2))) = true →
        (∀ r vs, t.freeRecord = some r →
          vs = mapPut t.versions r ⟨v.toNat, .pending, f.getLsbD 0, b.toNat, s.tickFor, p.toNat⟩ →
          Replies (.tablePublish h tn f v b p 0 k) s (s.putTable tn.toNat { t with versions := vs }) h 0 s.tickFor) ∧
        (t.freeRecord = none → Replies (.tablePublish h tn f v b p 0 k) s s h 0x14)) ∧
      (Starts s 0x0303 h → Replies (.tableDestroy h tn) s (s.putTable tn.toNat { t with destroy := some s.tickFor }) h 0 s.tickFor) ∧
      (Starts s 0x0304 h → s.hostOutOpen = true → ∀ (a : W64) (n : W32) (b : List Byte),
        b = (s.tableImage tn.toNat t).take n.toNat →
        Replies (.tableQuery h tn a n) s ((s.chargeOut b.length).hostWrite a.toNat b) h 0 b.length)) ∧
    (Starts s 0x0410 h → ∀ c cp st sp : W64, (s.unitOn 2 = false → Replies (.smithyConfig h c cp st sp) s s h 0x16) ∧
      (s.unitOn 2 = true → s.fab.parity = none → c.toNat % pageBytes = 0 → st.toNat % pageBytes = 0 → cp.toNat ≤ sp.toNat →
        c.toNat + cp.toNat * pageBytes ≤ st.toNat → s.pagesPin c.toNat cp.toNat = true → s.pagesPin st.toNat sp.toNat = true →
        (s.commitBusy = true → Replies (.smithyConfig h c cp st sp) s s h 0x14) ∧
        (s.commitBusy = false → s.heldInStep = false → Replies (.smithyConfig h c cp st sp) s { s with smithy := { s.smithy with
          next := some ⟨c.toNat, cp.toNat, st.toNat, sp.toNat⟩ } } h 0 s.stepInEffect) ∧
        (s.commitBusy = false → s.heldInStep = true → Replies (.smithyConfig h c cp st sp) s { s with smithy := { s.smithy with
          cfg := some ⟨c.toNat, cp.toNat, st.toNat, sp.toNat⟩, next := none } } h 0 s.stepInEffect))) ∧
    (Starts s 0x0411 h → ∀ b n : W64, (s.unitOn 3 = false → Replies (.granaryConfig h b n) s s h 0x16) ∧
      (s.unitOn 3 = true → b.toNat % 64 ≠ 0 → Replies (.granaryConfig h b n) s s h 0x15) ∧
      (s.unitOn 3 = true → b.toNat % 64 = 0 → pageBytes ≤ b.toNat → b.toNat + n.toNat ≤ 2 ^ 52 →
        Replies (.granaryConfig h b n) s { s with granary := if s.heldInStep = true
          then { s.granary with spill := (b.toNat, n.toNat), next := none, cursor := 0 }
          else { s.granary with next := some (b.toNat, n.toNat) } } h 0 s.stepInEffect)) ∧
    (Starts s 0x0501 h → (h.raddr = 0 → Replies (.fabStatus h) s s h 0x15) ∧
      (h.raddr ≠ 0 → s.hostOutOpen = true → ∃ (t : State) (b : List Byte), (∃ r0 r1 r2, Replies (.fabStatus h) s t h s.fabricOk r0 r1 r2) ∧
        t = (s.chargeOut 128).hostWrite h.raddr.toNat b ∧ b.length = 128 ∧
        ∀ p, p < 6 → (b.drop (8 * p)).take 8 = bytesOfNat 8 (s.readReg (0x100000 + 16 * p)))) ∧
    (∀ b : W64,
      (b.toNat < s.run.step + 2 → (Starts s 0x0502 h → Replies (.fabLeave h b) s s h 0x15) ∧
        (Starts s 0x0503 h → Replies (.fabJoin h b) s s h 0x15)) ∧
      (s.run.step + 2 ≤ b.toNat →
        (Starts s 0x0502 h → ∀ u : State, u = { s with fab := { s.fab with leave := some b.toNat } } →
          Replies (.fabLeave h b) s u h u.fabricOk) ∧
        (Starts s 0x0503 h → s.fab.join.isSome = true ∨ s.fab.leave.isSome = true → Replies (.fabJoin h b) s s h 0x14) ∧
        (Starts s 0x0503 h → s.fab.join = none → s.fab.leave = none → ∀ u : State,
          u = { s with fab := { s.fab with join := some b.toNat } } → Replies (.fabJoin h b) s u h u.fabricOk))) ∧
    (Starts s 0x0504 h → ∀ (g : Byte) (dmax : W32) (bd base : W64) (d p : W32) (b0 b1 : W64),
      let i : Instr := .parityConfig h g dmax bd base d p b0 b1
      (s.unitOn 4 = false → Replies i s s h 0x16) ∧
      (s.unitOn 4 = true → g.toNat < 2 ∨ 8 < g.toNat ∨ s.position.shapeX % g.toNat = 1 ∨ dmax.toNat < d.toNat →
        Replies i s s h 0x15) ∧
      (s.unitOn 4 = true → 2 ≤ g.toNat → g.toNat ≤ 8 → s.position.shapeX % g.toNat ≠ 1 → base.toNat % pageBytes = 0 →
        b0.toNat % pageBytes = 0 → b1.toNat % pageBytes = 0 → d.toNat ≤ dmax.toNat →
        dmax.toNat ≤ p.toNat * (s.groupOf g.toNat - 1) → s.pagesPin base.toNat d.toNat = true →
        s.pagesPin b0.toNat p.toNat = true → s.pagesPin b1.toNat p.toNat = true → s.openStep ≤ bd.toNat →
        (s.commitBusy = true → Replies i s s h 0x14) ∧
        (s.commitBusy = false → ∀ u : State, u = { s with fab := { s.fab with
            parityPending := some (bd.toNat, ⟨g.toNat, base.toNat, d.toNat, b0.toNat, b1.toNat, p.toNat, dmax.toNat⟩) } } →
          Replies i s u h u.fabricOk)))

/-! # The reeve: firmware, ledger, debug, entropy, attestation, the log (spec/15, spec/13) -/

/-- Firmware, the ledger, debug and the restart of the reeve: staging checks in the order of Table 15-4, activation by a trial, its
commit and its fallback, the boot chain; ledger reads and writes, accepted in order and durable in order with the wear count; debug
unlock by a signed token and debug lock; updates by PLDM; a DIE component installed where it may be (R443, R448-R454, R458-R461; logs 35, 112,
113). An activation restarts the reeve once the commands that it interprets have replied, and is over when FW_STATE is durable; one update
at a time; a write that an exhausted register does not store takes effect all the same (R450, R452, R461). -/
def Obligations.ReeveAndLedgerRows : Prop :=
  ∀ (s : State) (h : PktHdr),
    (Starts s 0x0801 h → ∀ (a n : W64) (x : FwSlot), x = ⟨s.hostMem.slice a.toNat n.toNat, n.toNat⟩ →
      (s.reeve.path = .pldm ∨ s.reeve.act.isSome = true ∨ (∃ p ∈ s.staging, p ≠ h) → Replies (.fwStage h a n) s s h 0x14) ∧
      (s.reeve.path ≠ .pldm → s.reeve.act = none → (∀ p ∈ s.staging, p = h) → s.hostInOpen = false → Spells (.fwStage h a n) h →
        exec (.fwStage h a n) s = .next (s.settle (s.begun h))) ∧
      (s.reeve.path ≠ .pldm → s.reeve.act = none → (∀ p ∈ s.staging, p = h) → s.hostInOpen = true → Replies (.fwStage h a n) s
        ((s.setFw (!s.reeve.slotB) (if s.fwCheck x = 0 then x else ⟨[], 0⟩)).chargeIn n.toNat) h (s.fwCheck x))) ∧
    (∀ x : FwSlot, s.fwCheck x = 0 ↔ s.blockValid x.bytes x.size (x.nat 40 8) 0 false = true ∧ x.nat 6 1 ≤ 2 ∧ x.formOk = true ∧
      s.svnMin ≤ x.svn ∧ x.svnFloor ≤ x.svn) ∧
    (Starts s 0x0802 h → ∀ (b : Bool) (n : Byte), n = (if b then 1 else 0) →
      (b = s.reeve.slotB → s.reeve.path ≠ .pldm → s.reeve.act = none → Replies (.fwActivate h n) s s h 0) ∧
      (b ≠ s.reeve.slotB → (s.reeve.slot b).size = 0 → Replies (.fwActivate h n) s s h 0x15) ∧
      (b ≠ s.reeve.slotB → (s.reeve.slot b).size ≠ 0 → s.reeve.path = .pldm ∨ s.reeve.act.isSome = true →
        Replies (.fwActivate h n) s s h 0x14) ∧
      (b ≠ s.reeve.slotB → (s.reeve.slot b).size ≠ 0 → s.reeve.path ≠ .pldm → s.reeve.act = none → Spells (.fwActivate h n) h → ∃ t,
        exec (.fwActivate h n) s = .next t ∧ t.tier = s.tier ∧ t.cores = s.cores ∧
        ((s.begun h).reeveServes = false → t.reeve.mode = .boot ∧ t.reeve.act = some ⟨some h, b, s.reeve.slotB, .trying⟩) ∧
        ((s.begun h).reeveServes = true → t.reeve.mode = s.reeve.mode ∧ t.reeve.act = some ⟨some h, b, s.reeve.slotB, .asked⟩))) ∧
    (s.reeve.mode ≠ .boot → s.reeve.act = none → exec .reeveStart s = .next (s.settle s)) ∧
    (∀ a, s.reeve.mode ≠ .boot → s.reeve.act = some a → a.stage = .asked → s.reeveServes = false → ∃ t, exec .reeveStart s = .next t ∧
      t.reeve.mode = .boot ∧ t.reeve.act = some { a with stage := .trying }) ∧
    (s.reeve.mode = .boot → s.reeve.act = none → ∃ t, exec .reeveStart s = .next (s.settle t) ∧
      if s.bootable s.fwSlot = true then t.reeve.mode = .running ∧ t.reeve.slotB = s.fwSlot ∧
        (s.reeve.dieLoaded = false → t.reeve.die = (s.reeve.slot s.fwSlot).comp 1)
      else if s.bootable (!s.fwSlot) = true then t.reeve.mode = .running ∧ t.reeve.slotB = !s.fwSlot
      else t.reeve.mode = .recovery ∧ ∀ i, i < 6 → (t.port i).bypass = true) ∧
    (∀ a, s.reeve.mode = .boot → s.reeve.act = some a →
      (a.stage = .asked ∨ a.stage = .trying → ∃ t, exec .reeveStart s = .next t ∧
        if s.bootable a.named = true then t.reeve.mode = .trial ∧ t.reeve.slotB = a.named ∧ t.reeve.die = s.reeve.die
        else t.reeve.mode ≠ .trial ∧ t.reeve.act = none) ∧
      (a.stage = .back → s.bootable a.former = true → ∃ t, exec .reeveStart s = .next t ∧
        t.reeve.mode = .running ∧ t.reeve.slotB = a.former ∧ t.reeve.act = none)) ∧
    (s.reeve.mode = .running ∨ s.reeve.mode = .recovery → ∃ t, exec .reeveWatchdog s = .next t ∧ t.reeve.mode = .boot ∧ t.tier = s.tier ∧ t.cores = s.cores) ∧
    (∀ a, s.reeve.mode = .trial → s.reeve.act = some a → ∃ t : State, exec .fwFallback s = .next t ∧
      exec .reeveWatchdog s = .next t ∧ t.reeve.mode = .boot ∧ t.reeve.slotB = a.former ∧
      t.reeve.act = some { a with hdr := none, stage := .back }) ∧
    (s.reeve.mode ≠ .trial → exec .fwFallback s = .next (s.settle s)) ∧
    (∀ a p v, s.reeve.mode = .trial → s.reeve.act = some a → a.hdr = some p → ((s.reeve.slot a.named).comp 1) = [] →
      s.reeve.diePending = none → v = max s.svnMin (s.reeve.slot a.named).svnFloor * 2 ^ 32 + bnat a.named →
      (s.ledger 0x02 ≠ v → s.full 0x02 = false → exec .fwCommit s = .next (s.settle (State.ledgerAccept { s with
        reeve := { s.reeve with mode := .running, act := some { a with stage := .committing } } } 0x02 v none 0))) ∧
      (s.ledger 0x02 ≠ v → s.full 0x02 = true → ∃ t, exec .fwCommit s = .next t ∧ t.ledger 0x02 = v % 2 ^ 64 ∧
        t.reeve.ledger.stored = s.reeve.ledger.stored ∧ t.reeve.mode = .running ∧ t.reeve.act = none) ∧
      (s.ledger 0x02 = v → exec .fwCommit s =
        .next (s.settle (State.reply { s with reeve := { s.reeve with mode := .running, act := none } } p 0)))) ∧
    (s.reeve.act = none ∨ s.reeve.mode ≠ .trial → exec .fwCommit s = .next (s.settle s)) ∧
    (∀ c same n, s.reeve.diePending = some (c, same, n) →
      (s.mayInstall = true → exec .dieComponentInstall s =
        .next (s.settle { s with reeve := { s.reeve with die := c, dieLoaded := true, diePending := none } })) ∧
      (s.mayInstall = false → exec .dieComponentInstall s = .next (s.settle s))) ∧
    (s.reeve.diePending = none → exec .dieComponentInstall s = .next (s.settle s)) ∧
    (Starts s 0x0701 h → ∀ n : Byte, Replies (.ledgerRead h n) s s h 0 (s.ledger n.toNat) (s.wearWord n.toNat)) ∧
    (Starts s 0x0702 h → ∀ (n : Byte) (x : W64) (v : Nat), v = x.toNat &&& ledgerMask n.toNat →
      (s.ledgerBad n.toNat v = true → Replies (.ledgerWrite h n x) s s h 0x15) ∧
      (s.ledgerBad n.toNat v = false → v = s.reeve.ledger.kept n.toNat → Replies (.ledgerWrite h n x) s s h 0) ∧
      (s.ledgerBad n.toNat v = false → v ≠ s.reeve.ledger.kept n.toNat → s.full n.toNat = true → Replies (.ledgerWrite h n x) s s h 0x11) ∧
      (s.ledgerBad n.toNat v = false → v ≠ s.reeve.ledger.kept n.toNat → s.full n.toNat = false →
        Spells (.ledgerWrite h n x) h →
        exec (.ledgerWrite h n x) s = .next (s.settle ((s.begun h).ledgerAccept n.toNat v (some h) 0)))) ∧
    (∀ w rest, s.reeve.ledger.waiting = w :: rest →
      (s.ledgerOpen = false → exec .ledgerWriteDurable s = .next (s.settle s)) ∧
      (s.ledgerOpen = true → w.scope = 0 → ∀ u : Ledger, u = { s.reeve.ledger with
          stored := mapPut s.reeve.ledger.stored w.reg w.value,
          wear := mapPut s.reeve.ledger.wear w.reg (mapGet 0 s.reeve.ledger.wear w.reg + 1), waiting := rest } → ∃ t,
        exec .ledgerWriteDurable s = .next t ∧ t.reeve.ledger = u ∧ t.reeve.debug = s.reeve.debug ∧ (w.reg = 0x02 → t.reeve.act = none) ∧
        t.tier = s.tier)) ∧
    (s.reeve.ledger.waiting = [] → exec .ledgerWriteDurable s = .next (s.settle s)) ∧
    (Starts s 0x0820 h → s.hostInOpen = true → ∀ (a : W64) (m : Memory), m = s.hostMem.slice a.toNat 320 →
      Spells (.debugUnlock h a 320) h → exec (.debugUnlock h a 320) s = .next (s.settle (
        if s.blockValid m 320 64 2 (bit (m.readNat 6 2) 2) = false then (s.chargeIn 320).reply h 0x12
        else if s.tokenBodyOk m = false ∨ s.full 0x03 = true then (s.chargeIn 320).reply h 0x15
        else ((s.chargeIn 320).begun h).ledgerAccept 0x03 (s.ledger 0x03 + 1) (some h) (m.readNat 6 2)))) ∧
    (Starts s 0x0821 h → Replies (.debugLock h) s { s with reeve := { s.reeve with debug := false, jtag := false } } h 0) ∧
    (s.reeveUp = true ∨ s.reeve.mode = .recovery →
      (s.reeve.act.isSome = true ∨ s.reeve.path = .pldm ∨ s.staging ≠ [] → exec .pldmRequestUpdate s = .next (s.settle (s.send (.pldm 0x81)))) ∧
      (s.reeve.act = none → s.reeve.path ≠ .pldm → s.staging = [] → exec .pldmRequestUpdate s = .next (s.settle
        (State.send { s with reeve := { s.reeve with path := .pldm } } (.pldm 0))))) ∧
    (∀ (i : BitVec 16) (b : List Byte), (s.reeve.path ≠ .pldm → exec (.pldmUpdateComponent i b) s =
        .next (s.settle (s.send (.pldm 0x80)))) ∧
      (s.reeve.path = .pldm → s.reeve.act.isSome = true → exec (.pldmUpdateComponent i b) s = .next (s.settle (s.send (.pldm 0x86)))) ∧
      (s.reeve.path = .pldm → s.reeve.act = none → i = 1 → ∀ x : FwSlot, x = ⟨Memory.writeBytes [] 0 b, b.length⟩ →
        exec (.pldmUpdateComponent i b) s = .next (s.settle ((s.setFw (!s.reeve.slotB) (if s.fwCheck x = 0 then x else ⟨[], 0⟩)).send
          (.pldm (if s.fwCheck x = 0 then 0 else 1)))))) ∧
    (s.reeve.path ≠ .pldm → exec .pldmActivateFirmware s = .next (s.settle (s.send (.pldm 0x80)))) ∧
    (s.reeve.path = .pldm → (s.reeve.slot (!s.reeve.slotB)).size ≠ 0 → s.reeve.act.isSome = true →
      exec .pldmActivateFirmware s = .next (s.settle (s.send (.pldm 0x86)))) ∧
    (s.reeve.path = .pldm → (s.reeve.slot (!s.reeve.slotB)).size ≠ 0 → s.reeve.act = none → s.reeveServes = false → ∃ t,
      exec .pldmActivateFirmware s = .next (s.settle t) ∧ t.reeve.mode = .boot ∧
      t.reeve.act = some ⟨none, !s.reeve.slotB, s.reeve.slotB, .trying⟩ ∧ t.outbox = s.outbox ++ [.pldm 0])

/-- Entropy, attestation and the event log. A failed health test discards nothing that was released, counts and starts the start-up
test; a fourth start-up failure in a row is DEAD, which a cold start alone ends, and after it nothing more is counted or released; a block of 1,536 passing samples in RUN is released and serves one reader
(R402-R405; logs 115, 155): of more than 40 equal samples in a row, or more than 791 of 1,024 equal to the first, none passes. Certificates, challenges and measurements answer while the reeve runs, signed with a fresh nonce, Busy before the
entropy source runs (R455-R457). Events are stored in order with a rising SEQ and counted, and read back, as are the power
registers (R462, R510; logs 36, 156). -/
def Obligations.EntropyAttestationAndLogRows : Prop :=
  ∀ (s : State) (h : PktHdr),
    (s.rng.dead = true → exec .entropyHealthFail s = .next (s.settle s)) ∧
    (∀ b : List Byte, s.rng.dead = true ∨ s.rng.est = 1 ∨ b.length ≠ 128 → exec (.entropyStartupTestEnd b) s = .next (s.settle s)) ∧
    (∀ (x y : Health × Bool) (b : Bool), y = Health.sample x b →
      y.1.run = (if x.1.run ≠ 0 ∧ b = x.1.last then x.1.run + 1 else 1) ∧ y.1.last = b ∧ y.1.pos = (x.1.pos + 1) % 1024 ∧
      (y.2 = true ↔ x.2 = true ∧ y.1.run ≤ 40 ∧ y.1.same ≤ 791)) ∧
    (s.rng.dead = false → s.rng.est = 1 → ∃ t, exec .entropyHealthFail s = .next t ∧ t.rng.est = 2 ∧ t.rng.fail = true ∧
      t.rng.failCount = min (s.rng.failCount + 1) (2 ^ 16 - 1) ∧ t.rng.failsInRow = 0 ∧ t.rng.fresh = s.rng.fresh ∧
      t.rng.dead = false) ∧
    (s.rng.dead = false → s.rng.est ≠ 1 → ∀ b : List Byte, b.length = 128 →
      ((Health.fresh.over b).2 = true → ∃ t, exec (.entropyStartupTestEnd b) s = .next t ∧ t.rng.est = 1 ∧ t.rng.failsInRow = 0) ∧
      ((Health.fresh.over b).2 = false → ∃ t, exec (.entropyStartupTestEnd b) s = .next t ∧ t.rng.failsInRow = s.rng.failsInRow + 1 ∧
        t.rng.est = (if 3 ≤ s.rng.failsInRow then 3 else 2) ∧ t.rng.dead = decide (3 ≤ s.rng.failsInRow))) ∧
    (∀ b : List Byte, (s.rng.est = 1 → b.length = 192 → (s.rng.health.over b).2 = true → ∃ t, exec (.entropyBlockReady b) s = .next t ∧
        t.rng.fresh = s.rng.fresh ++ [sha384 b] ∧ t.rng.blocks = min (s.rng.blocks + 1) (2 ^ 32 - 1)) ∧
      (s.rng.est = 1 → s.rng.dead = false → b.length = 192 → (s.rng.health.over b).2 = false → ∃ t,
        exec (.entropyBlockReady b) s = .next t ∧ t.rng.est = 2 ∧ t.rng.fresh = s.rng.fresh) ∧
      (s.rng.est ≠ 1 ∨ b.length ≠ 192 → exec (.entropyBlockReady b) s = .next (s.settle s))) ∧
    (Starts s 0x0830 h → (s.rng.est ≠ 1 → Replies (.entropyRead h) s s h 0x14) ∧
      (∀ b t, s.rng.est = 1 → s.rng.fresh = b :: t → Replies (.entropyRead h) s { s with rng := { s.rng with fresh := t } } h 0
        (natOfBytes (b.take 8)) (natOfBytes ((b.drop 8).take 8))) ∧
      (s.rng.est = 1 → s.rng.fresh = [] → Spells (.entropyRead h) h → exec (.entropyRead h) s = .next (s.settle (s.begun h)))) ∧
    (s.reeveUp = true →
      (∀ o n : BitVec 16, exec (.spdmGetCertificate 0 o n) s =
        .next (s.settle (s.send (.spdm 0 ((Config.certificateChain.drop o.toNat).take n.toNat) [])))) ∧
      (∀ (slot : Byte) (o n : BitVec 16) (nonce : List Byte), slot ≠ 0 →
        exec (.spdmGetCertificate slot o n) s = .next (s.settle (s.send (.spdmError 1))) ∧
        exec (.spdmChallenge slot nonce) s = .next (s.settle (s.send (.spdmError 1)))) ∧
      (∀ nonce : List Byte, exec (.spdmChallenge 0 nonce) s =
        .next (s.settle (s.signedResponse (sha384 Config.certificateChain) nonce))) ∧
      (∀ (i : Byte) (nonce : List Byte), 1 ≤ i.toNat → i.toNat ≤ 7 →
        exec (.spdmGetMeasurements i false nonce) s = .next (s.settle (s.send (.spdm 0 (s.measurement i.toNat) []))) ∧
        exec (.spdmGetMeasurements i true nonce) s = .next (s.settle (s.signedResponse (s.measurement i.toNat) nonce))) ∧
      (∀ nonce : List Byte, exec (.spdmGetMeasurements 0xFF false nonce) s = .next (s.settle (s.send (.spdm 0
        (s.measurement 1 ++ s.measurement 2 ++ s.measurement 3 ++ s.measurement 4 ++ s.measurement 5 ++ s.measurement 6 ++
          s.measurement 7) [])))) ∧
      (∀ seq : W64, exec (.logRead .records seq) s = .next (s.settle (s.send
        (.mctp (((s.reeve.log.filter fun r => decide (seq.toNat ≤ r.1)).take 16).flatMap logRecord))))) ∧
      exec (.logRead .power 0) s = .next (s.settle (s.send (.mctp (bytesOfNat 8 s.pwr.statusWord ++ bytesOfNat 8 s.pwr.inputWord ++
        bytesOfNat 8 s.pwr.tempWord)))) ∧
      exec (.logRead .counts 0) s = .next (s.settle (s.send (.mctp (s.reeve.counts.flatMap fun c =>
        bytesOfNat 8 c.1 ++ bytesOfNat 8 c.2)))) ∧
      (∀ e rest, s.evLog = e :: rest → s.reeve.log.length < 1048576 → ∃ t, exec .eventLogStore s = .next t ∧ t.evLog = rest ∧
        t.reeve.log = s.reeve.log ++ [(s.reeve.nextSeq, e)] ∧ t.reeve.nextSeq = s.reeve.nextSeq + 1 ∧
        mapGet 0 t.reeve.counts e.code = (mapGet 0 s.reeve.counts e.code + 1) % 2 ^ 64 ∧
        ∀ c, c ≠ e.code → mapGet 0 t.reeve.counts c = mapGet 0 s.reeve.counts c) ∧
      (s.evLog = [] → exec .eventLogStore s = .next (s.settle s)) ∧
      exec .eventCountSave s = .next (s.settle { s with reeve := { s.reeve with saved := s.reeve.counts } })) ∧
    (s.reeveUp = false → exec .eventLogStore s = .next (s.settle s) ∧ exec .eventCountSave s = .next (s.settle s)) ∧
    (∀ body asked : List Byte,
      (s.rng.dead = true → s.signedResponse body asked = s.send (.spdmError 5)) ∧
      (s.rng.dead = false → s.rng.est ≠ 1 → s.signedResponse body asked = s.send (.spdmError 3)) ∧
      (s.rng.dead = false → s.rng.est = 1 → s.rng.fresh = [] → s.signedResponse body asked = s) ∧
      (∀ b t, s.rng.dead = false → s.rng.est = 1 → s.rng.fresh = b :: t → s.signedResponse body asked = State.send { s with
        rng := { s.rng with fresh := t } } (.spdm 0 (body ++ b.take 32) (Config.deviceSignature (asked ++ (body ++ b.take 32))))))

/-! # Supply, temperature, resets and sideband (spec/17) -/

/-- SUPPLY_WARN asserts below an average of 41.5 V over four samples or on PWR_BRAKE_N, and clears above 43.0 V; below 38.0 V the main
rails go, below 30.0 V all power (R493, R494). Stage 1 asserts and clears at its limits, and stage 2 trips and stops the main rails
(R496, R497). A cold start leaves the die at its reset values with the cause of the start, and boots the reeve; after a trip
it needs that 48 V was away for a second; a failed stack stops start-up; a warm reset clears the die and keeps HBM contents, the reeve and the ledger; its release takes the ledger registers (R499,
R500, R502, R503). PERST_N during a
cold start only holds the die, and a tripped module that browns out restarts its reeve alone (logs 116, 125). Start-up completes once the reeve is
up (R501). I3C and JTAG answer where they have power, and the condition of ALERT_N raises an in-band interrupt (R454, R507, R509; log 157);
the bytes of GETSTATUS are a free value (DESIGN CHOICE, log 13). -/
def Obligations.PowerAndResetRows : Prop :=
  ∀ s : State,
    (∀ (a b c d : BitVec 16) (low : Bool), s.pwr.domain ≠ .off →
      (a.toNat + b.toNat + c.toNat + d.toNat < 4 * 41500 ∨ low = true → ∃ t, exec (.supplyWarnAssert a b c d low) s = .next t ∧
        t.pwr.warn = true ∧ t.pwr.warnSeen = true ∧ t.pwr.brake = low ∧ t.bel.supplyCause = true ∧ t.pwr.alertLow = true ∧ t.tier = s.tier ∧
        ∀ i, s.pwr.i3c = some i → s.pwr.alertLow = false → .inBand i ∈ t.outbox) ∧
      (4 * 41500 ≤ a.toNat + b.toNat + c.toNat + d.toNat → low = false →
        exec (.supplyWarnAssert a b c d low) s = .next (s.settle { s with pwr := { s.pwr with brake := false } }))) ∧
    (∀ v : BitVec 16, s.pwr.domain ≠ .off →
      (43000 < v.toNat → exec (.supplyWarnClear v false) s = .next (s.settle { s with
        pwr := { s.pwr with warn := false, brake := false }, bel := { s.bel with supplyCause := false } })) ∧
      (v.toNat ≤ 43000 → exec (.supplyWarnClear v false) s = .next (s.settle { s with pwr := { s.pwr with brake := false } })) ∧
      exec (.supplyWarnClear v true) s = .next (s.settle s)) ∧
    (∀ v : BitVec 16,
      (s.pwr.domain = .off ∨ s.reeve.mode = .off ∨ 38000 ≤ v.toNat → exec (.brownOut v) s = .next (s.settle s)) ∧
      (s.pwr.domain ≠ .off → s.reeve.mode ≠ .off → v.toNat < 38000 → ∃ t, exec (.brownOut v) s = .next t ∧ t.pwr.domain = .standby ∧ t.reeve.mode = .off ∧ t.cores = [] ∧
        t.tier.hbm = [] ∧ t.tier.xlate = [] ∧ t.run.state = .idle ∧ t.pwr.up = false)) ∧
    (∀ v : BitVec 16, s.pwr.domain ≠ .off →
      (30000 ≤ v.toNat → exec (.standbyLoss v) s = .next (s.settle s)) ∧
      (v.toNat < 30000 → ∃ t, exec (.standbyLoss v) s = .next (s.settle t) ∧ t.pwr.domain = .off ∧ t.evLog = [] ∧ t.reeve.mode = .off ∧
        t.pwr.tripped = s.pwr.tripped)) ∧
    (∀ (r : Sense) (long : Bool), s.pwr.domain = .running →
      (97 ≤ r.junction.toNat ∨ 90 ≤ r.hbm.toNat ∨ 1500 < r.power.toNat ∨ (1200 < r.power.toNat ∧ long = true) → ∃ t,
        exec (.thermalStage1Assert r long) s = .next t ∧ t.pwr.stage1 = true ∧ t.pwr.stage1Seen = true ∧ t.bel.thermalCause = true ∧
        t.pwr.junctionMax = r.junction.toNat ∧ t.pwr.alertLow = true) ∧
      (r.junction.toNat < 97 → r.hbm.toNat < 90 → r.power.toNat ≤ 1200 →
        exec (.thermalStage1Assert r long) s = .next (s.settle (s.sensed r))) ∧
      (r.junction.toNat < 92 → r.hbm.toNat < 85 → r.power.toNat ≤ 1100 → ∃ t, exec (.thermalStage1Clear r) s = .next t ∧
        t.pwr.stage1 = false ∧ t.bel.thermalCause = false) ∧
      (92 ≤ r.junction.toNat ∨ 85 ≤ r.hbm.toNat ∨ 1100 < r.power.toNat →
        exec (.thermalStage1Clear r) s = .next (s.settle (s.sensed r))) ∧
      (105 ≤ r.junction.toNat ∨ 95 ≤ r.hbm.toNat → ∃ t, exec (.thermTrip r) s = .next t ∧ t.pwr.tripped = true ∧
        t.pwr.domain = .standby ∧ t.pwr.thermTripLow = true ∧ t.cores = [] ∧ t.reeve.mode = s.reeve.mode) ∧
      (r.junction.toNat < 105 → r.hbm.toNat < 95 → exec (.thermTrip r) s = .next (s.settle (s.sensed r)))) ∧
    (∀ (away : Bool) (stacks_ : List (Fin 8)), s.pwr.tripped = false ∨ (s.pwr.domain = .off ∧ away = true) → ∃ t,
      exec (.coldStart away [] stacks_) s = .next t ∧
      t.pwr.domain = .running ∧ t.pwr.up = false ∧ t.reeve.mode = .boot ∧ t.tier.xlate = [] ∧ t.run.state = .idle ∧
      t.pwr.cause = (if s.pwr.tripped = true then 2 else if s.pwr.domain = .standby then 1 else 0) ∧
      (t.pwr.failed = true ↔ stacks_ ≠ [])) ∧
    (s.pwr.tripped = true → s.pwr.domain ≠ .off → ∀ away cs ks,
      (s.reeve.mode ≠ .off → exec (.coldStart away cs ks) s = .next (s.settle s)) ∧
      (s.reeve.mode = .off → exec (.coldStart away cs ks) s =
        .next (s.settle { s with reeve := { s.reeve with mode := .boot, lost := 0 } }))) ∧
    (s.pwr.tripped = true → s.pwr.domain = .off → ∀ cs ks, ∃ t, exec (.coldStart false cs ks) s = .next t ∧ t.pwr.domain = .standby ∧
      t.pwr.tripped = true ∧ t.pwr.thermTripLow = true ∧ t.reeve.mode = .boot ∧ t.cores = s.cores) ∧
    (s.pwr.domain = .running → s.pwr.dieReset = false →
      (s.pwr.up = false → s.pwr.cause ≤ 2 → exec (.warmReset true) s = .next (s.settle { s with
        pwr := { s.pwr with perst := true, dieReset := true, modReset := false } })) ∧
      (s.pwr.up = true ∨ 2 < s.pwr.cause → ∃ t, exec (.warmReset true) s = .next t ∧ t.pwr.dieReset = true ∧ t.pwr.perst = true ∧ t.pwr.cause = 3 ∧
        t.tier.hbm = s.tier.hbm ∧ t.tier.poison = s.tier.poison ∧ t.tier.xlate = [] ∧ t.cores = [] ∧ t.run.state = .idle ∧
        t.rng.est = 0 ∧ t.rng.dead = s.rng.dead ∧ t.reeve.mode = s.reeve.mode ∧
        t.reeve.log = s.reeve.log ∧ t.reeve.ledger.stored = s.reeve.ledger.stored ∧ t.hostMem = s.hostMem) ∧
      (s.pwr.modReset = true → ∃ t, exec (.warmReset false) s = .next t ∧ t.pwr.dieReset = true ∧ t.pwr.hold = true ∧
        t.pwr.cause = 4 ∧ t.tier.hbm = s.tier.hbm ∧ t.cores = []) ∧
      (s.pwr.modReset = false → exec (.warmReset false) s = .next (s.settle s))) ∧
    (s.pwr.domain = .running → s.pwr.dieReset = true → s.pwr.hold = false → ∃ t, exec (.warmResetRelease true) s = .next t ∧
      t.pwr.dieReset = false ∧ t.pwr.perst = false ∧ t.unitsEff = s.ledgerReset.ledger 0x10 % 32 ∧ t.tier.hbm = s.tier.hbm) ∧
    (s.pwr.domain = .running → s.pwr.dieReset = true → s.pwr.perst = true → exec (.warmResetRelease false) s =
      .next (s.settle { s with pwr := { s.pwr with hold := false } })) ∧
    (s.pwr.up = false → s.pwr.dieReset = false → s.pwr.failed = false → s.pwr.domain = .running → s.reeveUp = true → s.reeve.dieLoaded = true →
      exec .startUpComplete s = .next (s.settle (State.send { s with pwr := { s.pwr with up := true } } .deviceReady))) ∧
    (s.pwr.up = true ∨ s.pwr.failed = true ∨ s.reeveUp = false ∨ s.reeve.dieLoaded = false → exec .startUpComplete s = .next (s.settle s)) ∧
    (∀ a b : BitVec 7, s.pwr.domain ≠ .off →
      (a = 0x3A → s.pwr.i3c.isSome = true ∨ s.pwr.alertLow = false → exec (.i3cSetdasa a b) s =
        .next (s.settle (State.send { s with pwr := { s.pwr with i3c := some b } } (.i3c [])))) ∧
      (a = 0x3A → s.pwr.i3c = none → s.pwr.alertLow = true → exec (.i3cSetdasa a b) s =
        .next (s.settle ((State.send { s with pwr := { s.pwr with i3c := some b } } (.i3c [])).send (.inBand b)))) ∧
      (a ≠ 0x3A → exec (.i3cSetdasa a b) s = .next (s.settle s)) ∧
      (s.pwr.i3c = some a → ∃ v : List Byte, v.length = 2 ∧ exec (.i3cGetstatus a) s =
        .next (s.settle (State.send { s with freeCtr := s.freeCtr + 1 } (.i3c v)))) ∧
      (s.pwr.i3c ≠ some a → exec (.i3cGetstatus a) s = .next (s.settle s))) ∧
    (∀ (code : BitVec 8) (priv : Bool),
      (s.pwr.domain = .running → s.pwr.dieReset = false → exec (.jtagInstruction code priv) s = .next (s.settle { s with
        pwr := { s.pwr with jtag := some (code.toNat, priv && !s.reeve.jtag) } })) ∧
      (s.pwr.domain ≠ .running ∨ s.pwr.dieReset = true → exec (.jtagInstruction code priv) s = .next (s.settle s)))

/-! # Where the engine commands complete, in full (spec/06, spec/09 to spec/13) -/

namespace Sys2Proof.Claims

/-- What the machine `w` has come to when a check or a read of the command passes with the value `x`, asking for nothing that is still
to come. -/
def Gives {α : Type} (m : EM α) (w : EWork) (x : α) (w1 : EWork) : Prop := m.run w = .ok x w1 ∧ w1.missing = false

/-- `bytes` written to the local store at the task's offset `a`; `p` is where that is. -/
def stored (w : EWork) (p : Nat) (bytes : List Byte) : EWork :=
  { w with s := w.s.modCore w.core fun k =>
      { k with ls := k.ls.writeBytes p bytes, errors := k.errors.lsWritten p bytes.length } }

/-- Counts of OVF and saturation added to the command's core. -/
def counted (w : EWork) (n : NumCount) : EWork := { w with s := w.s.countNum w.core n }

/-- `n` units taken from the GATHER meter. -/
def gathered (w : EWork) (n : Nat) : EWork :=
  { w with s := w.s.modCore w.core fun k => { k with meters := { k.meters with gather := k.meters.gather - n } } }

/-- `n` units taken from the MILL meter. -/
def milled (w : EWork) (n : Nat) : EWork :=
  { w with s := w.s.modCore w.core fun k => { k with meters := { k.meters with mill := k.meters.mill - n } } }

/-- The bulk message `m` sent under a fresh tag, whose acknowledgement the command awaits. -/
def bulk (w : EWork) (m : Nat → Msg) : EWork :=
  { w with acks := w.acks + 1,
           s := { w.s with fab := { w.s.fab with tagNext := w.s.fab.tagNext + 1 },
                           tier := { w.s.tier with writesOut := w.s.tier.writesOut ++
                             [⟨w.s.fab.tagNext, .engine w.core w.queue, 0, [], false, none⟩] },
                           outbox := w.s.outbox ++ [m w.s.fab.tagNext] } }

/-- The command is done, in queue `q` of core `c`, with the machine at `w`. -/
def Ends (i : Instr) (s : State) (c : CoreId) (q : Nat) (w : EWork) : Prop := exec i s = .next (s.settle (finished c q w))

end Sys2Proof.Claims

/-- GATHER, GMERGE and GCOMPACT of one row, SCATTER and SCATTER_ADD to one row in the local store, LOOKUP and LOOKUP_COMP of one row,
and PATHRED of one node: where the command's checks pass and its rows are read, it is done, with the converted or merged row in the
local store at LS (SCATTER, SCATTER_ADD: in the target row), the OVF and saturation counted (R168, R171, R176 to R178, R324, R375,
R376). MPASS of one pass adds its tiles' products to its bank; MDRAIN and MDRAINS form their tiles; MLOAD fills its bank (R192 to R194).
XSEND and a SEND step of XCOLL send their bytes and await the acknowledgement (R289, R293). A dispatch request writes its gazetteer and
a sample request of one row its record; a staging request of one row without states stages its delta, or counts its skip; UNSTASH
writes the slot's bytes; the parity-rebuild request is done (R326, R343, R358, R360, R412; that it only completes: DESIGN CHOICE, log
44). All of a command's work in one step, and its waits for data, are the model's choices (DEDUCED, logs 5 and 154). -/
def Obligations.EngineCommandsComplete : Prop :=
  ∀ (s : State) (c : CoreId) (r : Run) (p : Nat) (b : List Byte) (w1 w2 w3 : EWork),
    let W (q : Nat) : EWork := workFrom s c q r
    let a := r.args
    (∀ (g : GEnv) (x : OutRow × NumCount), Runs s c 0 .g 1 0 r → a.mode ≠ 8 → Gives (gPrepare a false false legendsOk) (W 0) g w1 →
      Gives (entryRows true g g.csr.idx) w1 [b] w2 → x = convertRow g.tab g.ls g.key g.n g.csr.row0 b →
      w2.task.lsAddr g.p.ls (x.1.bytes g.ls.fmt).length = some p →
      Ends (.gather c) s c 0 (stored (counted w2 x.2) p (x.1.bytes g.ls.fmt))) ∧
    (∀ (g : GEnv) (rows : List (List Byte)) (op : Nat) (pl : ProdLegend) (x : OutRow × NumCount), op = a.mode.toNat % 4 →
      mergeLegend (W 0).s op g.tab g.csr = some pl → g.csr.segs = 1 →
      x = mergeRow g op pl g.csr.row0 ((g.csr.entries 0).map fun i =>
        ((rows.map (decodeSrc g.tab.fmt g.n)).getD i [], if op = 3 then some (g.csr.wts.getD i none) else none)) →
      (Runs s c 0 .g 2 0 r → a.mode.getLsbD 3 = false → Gives (gPrepare a false false (mergeOk op)) (W 0) g w1 →
        Gives (entryRows true g g.csr.idx) w1 rows w2 → w2.task.lsAddr g.p.ls (x.1.bytes g.ls.fmt).length = some p →
        Ends (.gmerge c) s c 0 (stored (counted w2 x.2) p (x.1.bytes g.ls.fmt))) ∧
      (∀ ts, ts = tilesOf g.ls.fmt (kpOf g.p.kpSel) g.n true g.p.struct g.p.thresh [x.1] → Runs s c 0 .g 3 0 r →
        Gives (gPrepare a true false (mergeOk op)) (W 0) g w1 → Gives (entryRows true g g.csr.idx) w1 rows w2 →
        w2.task.lsAddr g.p.ls (ts.flatMap Prod.fst).length = some p →
        Ends (.gcompact c) s c 0 (let u := stored (counted w2 x.2) p (ts.flatMap Prod.fst)
          { u with s := u.s.modCore u.core fun k => { k with regs := k.regs.noteStruct (ts.filter Prod.snd).length } }))) ∧
    (∀ (g : GEnv) (els : List SrcEl) (y : List Byte) (row pos : Nat) (x : OutRow × NumCount), Runs s c 0 .g 4 0 r → a.mode ≠ 8 →
      Gives (gPrepare a false false legendsOk) (W 0) g w1 → Gives (readSide g false) w1 [(els, y)] w2 →
      targets g = [(row, [pos])] → g.csr.segOf pos = 0 → x = scatterRow g g.csr.row0 els y → g.str.isLs = true →
      w2.task.lsAddr (g.str.access row) (x.1.bytes g.tab.fmt).length = some p →
      Ends (.scatter c) s c 0 (stored (gathered (counted w2 x.2) 1) p (x.1.bytes g.tab.fmt))) ∧
    (∀ (g : GEnv) (src : List (List SrcEl × List Byte)) (row : Nat) (ps : List Nat) (x : List (SrcEl × Nat)),
      Runs s c 0 .g 5 0 r → (W 0).s.addTable a.d2 = none → a.mode ≠ 8 → Gives (gPrepare a false false addLegendsOk) (W 0) g w1 →
      Gives (readSide g false) w1 src w2 → targets g = [(row, ps)] →
      Gives (spaceRead g.str (g.str.access row) g.str.size.toNat) (gathered w2 1) b w3 → x = addedRow g src ps b →
      g.str.isLs = true → w3.task.lsAddr (g.str.access row) ((elsOut (x.map Prod.fst)).bytes g.tab.fmt).length = some p →
      Ends (.scatterAdd c) s c 0 (stored (gathered (counted w3 ⟨0, x.foldl (fun n e => n + e.2) 0⟩) 1) p
        ((elsOut (x.map Prod.fst)).bytes g.tab.fmt))) ∧
    (∀ (g : GEnv) (v n : Nat) (x : OutRow × NumCount), Runs s c 0 .g 6 0 r → a.mode ≠ 8 →
      Gives (lookupPrepare a) (W 0) (g, v, n) w1 → Gives (entryRowsBy g (readVersionRow g.p.legTab v) n g.csr.idx) w1 [b] w2 →
      x = convertRow g.tab g.ls g.key g.n g.csr.row0 b → w2.task.lsAddr g.p.ls (x.1.bytes g.ls.fmt).length = some p →
      Ends (.lookup c) s c 0 (stored (counted w2 x.2) p (x.1.bytes g.ls.fmt))) ∧
    (∀ (y : CompRows) (b2 : List Byte) (p2 : Nat) (x z : OutRow × NumCount), Runs s c 0 .g 8 0 r → a.mode ≠ 8 →
      Gives (compRead a) (W 0) y w1 → y.rowsA = [b] → y.rowsB = [b2] →
      x = convertRow y.a.tab y.a.ls y.a.key y.a.n y.a.csr.row0 b → z = convertRow y.b.tab y.b.ls y.b.key y.b.n y.b.csr.row0 b2 →
      w1.task.lsAddr y.a.p.ls (x.1.bytes y.a.ls.fmt).length = some p →
      w1.task.lsAddr y.b.p.ls (z.1.bytes y.b.ls.fmt).length = some p2 →
      Ends (.lookupComp c) s c 0
        (stored (counted (stored (counted w1 x.2) p (x.1.bytes y.a.ls.fmt)) z.2) p2 (z.1.bytes y.b.ls.fmt))) ∧
    (∀ (g : GEnv) (used : List Nat) (rows : List (List Byte)) (x : OutRow × NumCount) (n : Nat), Runs s c 0 .g 9 0 r →
      Gives (pathPrepare a) (W 0) (g, used) w1 → Gives (entryRows false g (used.map some)) w1 rows w2 →
      pathRows g (a.mode.toNat % 4) (used.zip rows) = ([x], n) → w2.task.lsAddr g.p.ls (x.1.bytes g.ls.fmt).length = some p →
      Ends (.pathred c) s c 0 (stored (counted (counted w2 ⟨0, n⟩) x.2) p (x.1.bytes g.ls.fmt))) ∧
    (∀ (t : TileData × TileData × Nat), Runs s c 1 .m 1 0 r → a.param.toNat / 2 ^ 48 = 1 → a.d1.ok = true → a.d2.ok = true →
      1 ≤ a.d1.count → 1 ≤ a.d2.count → Gives (passTiles a 0) (W 1) t (W 1) → (s.core c).errors.mill = [] →
      Ends (.mpass c) s c 1 (milled { W 1 with s := addPass a.bank [] t.1 t.2.1 c (s.setCore c (s.core c)) }
        (passCycles t.2.2 (a.mode == 1) t.1 t.2.1))) ∧
    (∀ (split : Bool) (la lw lr : Legend) (e : DrainEnv) (x : List Tile × NumCount),
      Runs s c 1 .m (if split then 4 else 3) 0 r → (s.core c).drained = [] → s.legend (field a.param.toNat 63 52) = some la →
      s.legend (field a.param.toNat 51 40) = some lw → s.legend (field a.param.toNat 39 28) = some lr →
      e = ⟨(prodLegend la lw).t + signedOf 8 (field a.param.toNat 7 0), (prodLegend la lw).m, lr, signedOf 8 (field a.param.toNat 7 0),
        field a.param.toNat 27 8, s.randKey a.task lr.tensorId 0⟩ → -128 ≤ e.T → e.T ≤ 127 → (split = true → -112 ≤ e.T) →
      (s.core c).bankWrong a.bank = false → x = drainTiles e split ((s.core c).bankRow a.bank) a.task.uid →
      exec (if split then .mdrains c else .mdrain c) s = .next (s.settle ((State.countNum (s.modCore c fun k =>
        { k with drained := x.1 }) c x.2).modCore c fun k =>
          { k with meters := { k.meters with mill := k.meters.mill - (if split then 256 else 128) } }))) ∧
    (Runs s c 1 .m 6 0 r → a.d1.ok = true → a.d1.total = 36864 → Gives (descReadAll a.d1) (W 1) b w1 →
      Ends (.mload c) s c 1 (milled { w1 with s := w1.s.modCore w1.core fun k =>
        ((List.range 64).zip (rowsOf 64 64 (a48s 4096 b))).foldl (fun k x => k.setBankRow a.bank x.1 x.2) k } 288)) ∧
    (∀ q, Runs s c 1 .m 5 0 r → a.d1 = { oneAccess p 2048 with stride0 := 2048, count0 := 18 } → p + 36864 < 2 ^ 52 →
      a.task.lsAddr p 36864 = some q → (s.core c).bankWrong a.bank = false →
      (∀ n, n < 64 → ((s.core c).bankRow a.bank n).length = 64) → ∃ t, exec (.mstore c) s = .next t ∧
        (t.core c).ls = (s.core c).ls.writeBytes q
          ((List.range 64).flatMap fun n => ((s.core c).bankRow a.bank n).flatMap A48.toBytes) ∧
        (t.core c).meters = { (s.core c).meters with mill := (s.core c).meters.mill - 288 } ∧
        ((t.core c).queue 1).run = some { r with done := true }) ∧
    (∀ d m, d = a.param.toNat / 2 ^ 52 → Runs s c 3 .x 3 0 r → s.yields c r = false → a.d1.ok = true → d ≠ s.modNo →
      s.route d = some m → Gives (descReadSoon a.d1) (W 3) b w1 → (w1.s.route d).isSome = true →
      Ends (.xsend c) s c 3 (bulk w1 fun tag => .xsend d (a.param.toNat % 2 ^ 52) b tag none)) ∧
    (∀ x : CollStep, Runs s c 3 .x 4 0 r → s.yields c r = false → s.collOf (s.core c) a.task a.param = some x → x.op = 0 →
      x.peer ≠ w1.s.modNo →
      isNode x.lo x.n x.leaves = true → x.local_ = true → a.d1.ok = true → a.d1.total = x.partBytes →
      Gives (descReadSoon a.d1) (W 3) b w1 → (w1.s.route x.peer).isSome = true →
      Ends (.xcoll c) s c 3 (bulk w1 fun tag =>
        .partial_ x.peer ⟨field a.param.toNat 63 48, x.chunk, x.lo, x.n⟩ b tag)) ∧
    (∀ (q : Nat), (∀ (x : SurReq) (gr : Graph) (area : Nat) (cb gb z : List Byte) (d : List (Option (List Byte)) × Nat × Nat),
      tgtQueue s.unitsEff 1 = some q → Runs s c q .x 2 1 r → s.yields c r = false → q ≠ 0 → Gives (surveyPrepare a) (W q) (x, gr, area) w1 →
      x.kind ≠ 0 → Gives (vaRead x.source (2 * (x.count * x.hops))) w1 cb w2 →
      Gives (vaRead x.seeds (2 * (x.count * x.hops))) w2 gb w3 →
      d = dispatch x (natsOf 2 (x.count * x.hops) cb) (natsOf 2 (x.count * x.hops) gb) → a.d2.isLs = true →
      z = gazetteer x a.task.step d.2.1 [d.1] → w3.task.lsAddr area z.length = some p →
      Ends (.surveyRequest c) s c q (stored { w3 with s := w3.s.noteSurvey w3.core d.2.2 d.2.1 } p z)) ∧
    (∀ (x : SmpReq) (l : Legend) (area : Nat) (k : RowKeys) (codes : List Code) (t : TokenRec),
      tgtQueue s.unitsEff 2 = some q → Runs s c q .x 2 2 r → s.yields c r = false → q ≠ 0 →
      Gives (samplePrepare a) (W q) (x, l, area, [k]) w1 → x.rows = 1 → Gives (vaRead x.logits (l.fmt.rowBytes x.vocab)) w1 b w2 →
      codes = (l.fmt.decodeRow x.vocab b).map Elem.q →
      t = sampleRow l x (draw64 (s.randKey a.task x.tensor k.branch) (k.tree * 2 ^ 32 + k.position) purposeSample) codes →
      a.d2.isLs = true → w2.task.lsAddr area t.bytes.length = some p →
      Ends (.sampleRequest c) s c q (let u := stored w2 p t.bytes
        { u with s := u.s.noteSample c (codes.filter Option.isNone).length (t.kept == 0) })) ∧
    (∀ (x : Staging) (row : UpdRow) (d : UpdData) (res : RowResult), tgtQueue s.unitsEff 3 = some q → Runs s c q .x 2 3 r → q ≠ 0 →
      s.yields c r = false → Gives (smithyPrepare a) (W q) x w1 → x.rows = [row] → x.u.masked = false →
      Gives (readUpd x.u x.l row) w1 d w2 →
      res = updateRow x.u x.l (s.randKey a.task 0 0) d.row d.w d.m d.v d.g →
      w3 = { w2 with s := { w2.s with smithy := w2.s.smithy.stagedRows x } } →
      (res = .skipGrad → Ends (.smithyStage c) s c q { w3 with s := w3.s.countSkip (w3.s.stackOf d.row.w) true }) ∧
      (∀ n, res = .new n [] [] → n ≠ [] → w3.metered = true → w3.paid ≤ w3.seen →
        w3.unknown ((w3.s.stageAddr d.row.w).getD d.row.w) = false →
        w3.s.metersOpen true w3.hostToo ((w3.s.stageAddr d.row.w).getD d.row.w, pad8 n.length) = true →
        Ends (.smithyStage c) s c q { w3 with
          seen := w3.seen + 1, paid := w3.paid + 1
          s := w3.s.stageDelta d.row.w (subWords (padWords n) (padWords d.w)) })) ∧
    (∀ (x : SlotEntry) (g : GSlot) (at_ : Nat), tgtQueue s.unitsEff 6 = some q → Runs s c q .x 2 6 r → q ≠ 0 →
      Gives (unstashPrepare a) (W q) (x, g) w1 → (x.tiles = false ∨ bit a.param.toNat 47 = false) →
      Gives (vaReadSoon g.addr g.size) w1 b w2 → b.length = a.d2.size.toNat → b ≠ [] → a.d2.isLs = true →
      a.d2.accesses.take 1 = [at_] → w2.task.lsAddr at_ b.length = some p → Ends (.unstash c) s c q (stored w2 p b)) ∧
    (tgtQueue s.unitsEff 8 = some q → Runs s c q .x 2 8 r → s.yields c r = false → Ends (.parityRebuildRequest c) s c q (W q)))
end

