-- ==== Sys2Proof/Laws/Map.lean ====
section
/-! SUPPORT. Laws of sparse maps and byte memories: a read after a write, other places untouched, the canonical form kept. -/

namespace Sys2Proof.Machine

variable {β : Type}

/-! ## Reading what was put -/

theorem mapFind_mapPut_same (m : List (Nat × β)) (a : Nat) (x : β) : mapFind (mapPut m a x) a = some x := by
  induction m with
  | nil => simp [mapPut, mapFind]
  | cons h t ih =>
    obtain ⟨k, v⟩ := h
    simp only [mapPut]
    split
    · simp [mapFind]
    · split
      · simp [mapFind]
      · rename_i h1 h2
        simp [mapFind, Ne.symm h2, ih]

theorem mapFind_mapPut_other (m : List (Nat × β)) {a b : Nat} (x : β) (h : a ≠ b) :
    mapFind (mapPut m a x) b = mapFind m b := by
  induction m with
  | nil => simp [mapPut, mapFind, h]
  | cons p t ih =>
    obtain ⟨k, v⟩ := p
    simp only [mapPut]
    split
    · simp [mapFind, h]
    · split
      · rename_i h2
        subst h2
        simp [mapFind, h]
      · simp [mapFind, ih]

theorem mapGet_eq_mapFind (d : β) (m : List (Nat × β)) (a : Nat) : mapGet d m a = (mapFind m a).getD d := by
  induction m with
  | nil => rfl
  | cons p t ih =>
    obtain ⟨k, v⟩ := p
    simp only [mapGet, mapFind]
    split <;> simp [ih]

@[simp] theorem mapGet_mapPut_same (d : β) (m : List (Nat × β)) (a : Nat) (x : β) : mapGet d (mapPut m a x) a = x := by
  rw [mapGet_eq_mapFind, mapFind_mapPut_same]; rfl

theorem mapGet_mapPut_other (d : β) (m : List (Nat × β)) {a b : Nat} (x : β) (h : a ≠ b) :
    mapGet d (mapPut m a x) b = mapGet d m b := by
  rw [mapGet_eq_mapFind, mapFind_mapPut_other m x h, ← mapGet_eq_mapFind]

theorem mapGet_mapErase_other (d : β) (m : List (Nat × β)) {a b : Nat} (h : a ≠ b) :
    mapGet d (mapErase m a) b = mapGet d m b := by
  induction m with
  | nil => rfl
  | cons p t ih =>
    obtain ⟨k, v⟩ := p
    simp only [mapErase]
    split
    · rename_i hk
      subst hk
      simp [mapGet, h, ih]
    · simp [mapGet, ih]

@[simp] theorem mapGet_mapErase_same (d : β) (m : List (Nat × β)) (a : Nat) : mapGet d (mapErase m a) a = d := by
  induction m with
  | nil => rfl
  | cons p t ih =>
    obtain ⟨k, v⟩ := p
    simp only [mapErase]
    split
    · exact ih
    · rename_i hk
      simp [mapGet, hk, ih]

/-! ## The canonical form -/

variable [DecidableEq β]

theorem mapWfFrom_mono {d : β} {lo lo' : Nat} {m : List (Nat × β)} (h : lo' ≤ lo) (hm : mapWfFrom d lo m = true) :
    mapWfFrom d lo' m = true := by
  cases m with
  | nil => rfl
  | cons p t =>
    obtain ⟨k, v⟩ := p
    simp only [mapWfFrom, Bool.and_eq_true, decide_eq_true_eq] at hm ⊢
    exact ⟨⟨by omega, hm.1.2⟩, hm.2⟩

theorem mapWfFrom_mapErase {d : β} {lo a : Nat} {m : List (Nat × β)} (hm : mapWfFrom d lo m = true) :
    mapWfFrom d lo (mapErase m a) = true := by
  induction m generalizing lo with
  | nil => rfl
  | cons p t ih =>
    obtain ⟨k, v⟩ := p
    simp only [mapErase]
    have hm' := hm
    simp only [mapWfFrom, Bool.and_eq_true, decide_eq_true_eq] at hm'
    split
    · exact mapWfFrom_mono (by omega) (ih hm'.2)
    · simp only [mapWfFrom, Bool.and_eq_true, decide_eq_true_eq]
      exact ⟨hm'.1, ih hm'.2⟩

theorem mapWfFrom_mapPut {d x : β} {lo a : Nat} {m : List (Nat × β)} (hm : mapWfFrom d lo m = true) (hx : x ≠ d)
    (ha : lo ≤ a) : mapWfFrom d lo (mapPut m a x) = true := by
  induction m generalizing lo with
  | nil => simp [mapPut, mapWfFrom, hx, ha]
  | cons p t ih =>
    obtain ⟨k, v⟩ := p
    have hm' := hm
    simp only [mapWfFrom, Bool.and_eq_true, decide_eq_true_eq] at hm'
    simp only [mapPut]
    split
    · rename_i h1
      simp only [mapWfFrom, Bool.and_eq_true, decide_eq_true_eq]
      exact ⟨⟨ha, hx⟩, ⟨by omega, hm'.1.2⟩, hm'.2⟩
    · split
      · rename_i h1 h2
        subst h2
        simp only [mapWfFrom, Bool.and_eq_true, decide_eq_true_eq]
        exact ⟨⟨ha, hx⟩, hm'.2⟩
      · rename_i h1 h2
        simp only [mapWfFrom, Bool.and_eq_true, decide_eq_true_eq]
        exact ⟨hm'.1, ih hm'.2 (by omega)⟩

theorem mapWfFrom_mapSet {d : β} {m : List (Nat × β)} (hm : mapWfFrom d 0 m = true) (a : Nat) (x : β) :
    mapWfFrom d 0 (mapSet d m a x) = true := by
  unfold mapSet
  split
  · exact mapWfFrom_mapErase hm
  · exact mapWfFrom_mapPut hm ‹_› (Nat.zero_le _)

@[simp] theorem mapGet_mapSet_same (d : β) (m : List (Nat × β)) (a : Nat) (x : β) :
    mapGet d (mapSet d m a x) a = x := by
  unfold mapSet
  split
  · rename_i h
    rw [mapGet_mapErase_same, h]
  · exact mapGet_mapPut_same ..

theorem mapGet_mapSet_other {d : β} (m : List (Nat × β)) {a b : Nat} (x : β) (h : a ≠ b) :
    mapGet d (mapSet d m a x) b = mapGet d m b := by
  unfold mapSet
  split
  · exact mapGet_mapErase_other d m h
  · exact mapGet_mapPut_other d m x h

theorem mapWfFrom_filter {d : β} {lo : Nat} {m : List (Nat × β)} (f : Nat × β → Bool) (hm : mapWfFrom d lo m = true) :
    mapWfFrom d lo (m.filter f) = true := by
  induction m generalizing lo with
  | nil => rfl
  | cons p t ih =>
    obtain ⟨k, v⟩ := p
    have hm' := hm
    simp only [mapWfFrom, Bool.and_eq_true, decide_eq_true_eq] at hm'
    simp only [List.filter_cons]
    split
    · simp only [mapWfFrom, Bool.and_eq_true, decide_eq_true_eq]
      exact ⟨hm'.1, ih hm'.2⟩
    · exact ih (mapWfFrom_mono (by omega) hm'.2)

/-! ## Byte memories -/

theorem Memory.wf_write {m : Memory} (hm : m.wf) (a : Nat) (b : Byte) : (m.write a b).wf := mapWfFrom_mapSet hm a b

@[simp] theorem Memory.read_write_same (m : Memory) (a : Nat) (b : Byte) : (m.write a b).read a = b :=
  mapGet_mapSet_same unlisted m a b

theorem Memory.read_write_other (m : Memory) {a c : Nat} (b : Byte) (h : a ≠ c) : (m.write a b).read c = m.read c :=
  mapGet_mapSet_other m b h

theorem Memory.wf_writeBytes {m : Memory} (hm : m.wf) (a : Nat) (bs : List Byte) : (m.writeBytes a bs).wf := by
  induction bs generalizing m a with
  | nil => exact hm
  | cons b t ih => exact ih (Memory.wf_write hm a b) (a + 1)

/-- Bytes outside the written range read as before. -/
theorem Memory.read_writeBytes_outside (m : Memory) (a : Nat) (bs : List Byte) {c : Nat}
    (h : c < a ∨ a + bs.length ≤ c) : (m.writeBytes a bs).read c = m.read c := by
  induction bs generalizing m a with
  | nil => rfl
  | cons b t ih =>
    simp only [List.length_cons] at h
    have h1 : c < a + 1 ∨ a + 1 + t.length ≤ c := by omega
    have h2 : a ≠ c := by omega
    rw [Memory.writeBytes, ih (m.write a b) (a + 1) h1, Memory.read_write_other m b h2]

/-- Bytes inside the written range read as written. -/
theorem Memory.read_writeBytes_inside (m : Memory) (a : Nat) (bs : List Byte) {i : Nat} (h : i < bs.length) :
    (m.writeBytes a bs).read (a + i) = bs[i] := by
  induction bs generalizing m a i with
  | nil => exact absurd h (by simp)
  | cons b t ih =>
    cases i with
    | zero =>
      rw [Memory.writeBytes, Memory.read_writeBytes_outside _ _ _ (by omega)]
      exact Memory.read_write_same m a b
    | succ j =>
      have hj : j < t.length := by simpa using h
      have := ih (m.write a b) (a + 1) hj
      rw [Memory.writeBytes, show a + (j + 1) = a + 1 + j by omega, this]
      rfl

theorem Memory.wf_zero {m : Memory} (hm : m.wf) (a n : Nat) : (m.zero a n).wf := mapWfFrom_filter _ hm

@[simp] theorem Memory.length_readBytes (m : Memory) (a n : Nat) : (m.readBytes a n).length = n := by
  induction n generalizing a with
  | zero => rfl
  | succ n ih => simp [Memory.readBytes, ih]

/-- Reading back what was written. -/
theorem Memory.readBytes_writeBytes (m : Memory) (a : Nat) (bs : List Byte) :
    (m.writeBytes a bs).readBytes a bs.length = bs := by
  suffices h : ∀ (n k : Nat), n + k = bs.length → (m.writeBytes a bs).readBytes (a + k) n = bs.drop k by
    simpa using h bs.length 0 (by omega)
  intro n
  induction n with
  | zero =>
    intro k hk
    have : bs.length ≤ k := by omega
    simp [Memory.readBytes, List.drop_eq_nil_of_le this]
  | succ n ih =>
    intro k hk
    have hk' : k < bs.length := by omega
    rw [Memory.readBytes, Memory.read_writeBytes_inside m a bs hk', show a + k + 1 = a + (k + 1) by omega,
      ih (k + 1) (by omega), List.drop_eq_getElem_cons hk']

end Sys2Proof.Machine
end

