-- ==== Sys2Proof/Laws/Raise.lean ====
section
/-! SUPPORT. What raising an event and answering a packet may change. -/

namespace Sys2Proof.Machine

/-- Leaving the rings changes the ports, the live sets and the module's part as root, and nothing else. -/
theorem State.leaveRings_frame (s : State) : ∃ p lv rt st lc, s.leaveRings =
    { s with fab := { s.fab with ports := p, live := lv, heard := [] },
             bel := { s.bel with root := rt, state := st, lockCount := lc } } := by
  have key : ∀ (l : List Nat) (s : State), ∃ p, l.foldl (fun s p => s.setPort p { s.port p with
      bypass := true, state := if (s.port p).state = .unused then .unused else .down, width := 0, replay := [], recv := [],
      used := [], shared := 327, wait := [] }) s = { s with fab := { s.fab with ports := p } } := by
    intro l
    induction l with
    | nil => exact fun s => ⟨s.fab.ports, rfl⟩
    | cons a t ih =>
      intro s
      obtain ⟨p, hp⟩ := ih (s.setPort a { s.port a with
        bypass := true, state := if (s.port a).state = .unused then .unused else .down, width := 0, replay := [], recv := [],
        used := [], shared := 327, wait := [] })
      exact ⟨p, by rw [List.foldl_cons, hp]; rfl⟩
  obtain ⟨p, hp⟩ := key (List.range 6) s
  unfold State.leaveRings
  simp only [hp]
  split
  · exact ⟨_, _, _, _, _, rfl⟩
  · exact ⟨_, _, s.bel.root, s.bel.state, s.bel.lockCount, rfl⟩

theorem State.postEvent_frame (s : State) (e : EventRec) : ∃ q, (mapFind q 0).isSome = (mapFind s.hif.queues 0).isSome ∧
    s.postEvent e = { s with hif := { s.hif with queues := q } } := by
  unfold State.postEvent
  split
  · split
    · next q hq => exact ⟨_, by rw [mapFind_mapPut_same, hq]; rfl, rfl⟩
    · exact ⟨s.hif.queues, rfl, rfl⟩
  · exact ⟨s.hif.queues, rfl, rfl⟩

theorem State.logEvent_frame (s : State) (e : EventRec) : ∃ q r l, (mapFind q 0).isSome = (mapFind s.hif.queues 0).isSome ∧
    s.logEvent e = { s with hif := { s.hif with queues := q }, reeve := { s.reeve with lost := r }, evLog := l } := by
  unfold State.logEvent
  split
  · obtain ⟨q, h0, hq⟩ := State.postEvent_frame { s with evLog := s.evLog ++ [e] } e
    exact ⟨q, s.reeve.lost, s.evLog ++ [e], h0, hq⟩
  · split
    · exact ⟨s.hif.queues, _, s.evLog, rfl, rfl⟩
    · exact ⟨s.hif.queues, s.reeve.lost, _, rfl, rfl⟩

/-- The record of a stop with another account of the faults, of the stop and of the one that may follow: all that a fault or a STOP changes
of it. -/
def Rec.restop (r : Rec) (n : List EventRec × List EventRec × Bool × Bool × Nat) : Rec :=
  { r with faults := n.1, later := n.2.1, stopping := n.2.2.1, again := n.2.2.2.1, stopAt := n.2.2.2.2 }

/-- What a fault or a STOP may change of the record of a stop. -/
def Rec.account (r : Rec) : List EventRec × List EventRec × Bool × Bool × Nat := (r.faults, r.later, r.stopping, r.again, r.stopAt)

@[simp] theorem Rec.restop_stopped (r : Rec) (n) : (r.restop n).stopped = r.stopped := rfl
@[simp] theorem Rec.restop_since (r : Rec) (n) : (r.restop n).since = r.since := rfl
@[simp] theorem Rec.restop_q (r : Rec) (n) : (r.restop n).q = r.q := rfl
@[simp] theorem Rec.restop_rebuild (r : Rec) (n) : (r.restop n).rebuild = r.rebuild := rfl
@[simp] theorem Rec.restop_poisonSeen (r : Rec) (n) : (r.restop n).poisonSeen = r.poisonSeen := rfl
@[simp] theorem Rec.restop_ueNow (r : Rec) (n) : (r.restop n).ueNow = r.ueNow := rfl
@[simp] theorem Rec.restop_portBusy (r : Rec) (n) : (r.restop n).portBusy = r.portBusy := rfl
@[simp] theorem Rec.restop_spared (r : Rec) (n) : (r.restop n).spared = r.spared := rfl
@[simp] theorem Rec.restop_modules (r : Rec) (n) : (r.restop n).modules = r.modules := rfl
@[simp] theorem Rec.restop_holdIdle (r : Rec) (n) : (r.restop n).holdIdle = r.holdIdle := rfl

theorem Rec.note_frame (r : Rec) (n : Nat) (ev : EventRec) : ∃ a, r.note n ev = r.restop a := by
  unfold Rec.note Rec.hear
  split
  · exact ⟨(r.faults, _, r.stopping, _, _), rfl⟩
  · exact ⟨(_, r.later, _, r.again, _), rfl⟩

/-- Raising an event of a fault that does not remove the module changes the reply queues, the count of lost events, the log, the
stop's record and what is sent, and nothing else; queue 0 stands or is absent as before. -/
theorem raise_frame_other {code : Nat} (hc : ownModuleFault code = false) (unit index detail : Nat) (s : State) :
    ∃ q r l a o, (mapFind q 0).isSome = (mapFind s.hif.queues 0).isSome ∧ raise code unit index detail s =
      { s with hif := { s.hif with queues := q }, reeve := { s.reeve with lost := r }, evLog := l,
               rec0 := s.rec0.restop a, outbox := o } := by
  obtain ⟨q, r, l, h0, hl⟩ := State.logEvent_frame s
    ⟨s.bel.frame, code, classOf code, unit, index, detail, s.run.step⟩
  unfold raise
  simp only [hc, Bool.false_eq_true, if_false, hl]
  split
  · exact ⟨q, r, l, s.rec0.account, s.outbox, h0, rfl⟩
  · obtain ⟨a, h⟩ := s.rec0.note_frame s.bel.frame ⟨s.bel.frame, code, classOf code, unit, index, detail, s.run.step⟩
    exact ⟨q, r, l, a, _, h0, by rw [State.stopFor, h]⟩

/-- Raising an event changes the reply queues, the count of lost events, the log, the ports, the live sets, the module's part as
root, the stop's record and what is sent, and nothing else. -/
theorem raise_frame (code unit index detail : Nat) (s : State) : ∃ q r l p lv hd rt st lc a o,
    raise code unit index detail s =
    { s with hif := { s.hif with queues := q }, reeve := { s.reeve with lost := r }, evLog := l,
             fab := { s.fab with ports := p, live := lv, heard := hd },
             bel := { s.bel with root := rt, state := st, lockCount := lc },
             rec0 := s.rec0.restop a, outbox := o } := by
  by_cases hc : ownModuleFault code = true
  · obtain ⟨p, lv, rt, st, lc, hp⟩ := s.leaveRings_frame
    obtain ⟨q, r, l, -, hl⟩ := State.logEvent_frame s.leaveRings
      ⟨s.bel.frame, code, classOf code, unit, index, detail, s.run.step⟩
    unfold raise
    simp only [hc, if_true, hl]
    simp only [hp]
    split
    · exact ⟨q, r, l, p, lv, [], rt, st, lc, s.rec0.account, s.outbox, rfl⟩
    · obtain ⟨a, h⟩ := s.rec0.note_frame s.bel.frame ⟨s.bel.frame, code, classOf code, unit, index, detail, s.run.step⟩
      exact ⟨q, r, l, p, lv, [], rt, st, lc, a, _, by rw [State.stopFor, h]⟩
  · obtain ⟨q, r, l, a, o, -, h⟩ := raise_frame_other (by simpa using hc) unit index detail s
    exact ⟨q, r, l, s.fab.ports, s.fab.live, s.fab.heard, s.bel.root, s.bel.state, s.bel.lockCount, a, o, h⟩

variable (c u i d : Nat) (s : State)

@[simp] theorem raise_cores : (raise c u i d s).cores = s.cores := by
  obtain ⟨_, _, _, _, _, _, _, _, _, _, _, h⟩ := raise_frame c u i d s; rw [h]
@[simp] theorem raise_core (k : CoreId) : (raise c u i d s).core k = s.core k := by simp [State.core]
/-- The bell stands as it was, unless the fault removes the module from its rings. -/
theorem raise_bel (h : ownModuleFault c = false := by rfl) : (raise c u i d s).bel = s.bel := by
  obtain ⟨_, _, _, _, _, -, e⟩ := raise_frame_other h u i d s; rw [e]
/-- The fabric stands as it was, unless the fault removes the module from its rings. -/
theorem raise_fab (h : ownModuleFault c = false := by rfl) : (raise c u i d s).fab = s.fab := by
  obtain ⟨_, _, _, _, _, -, e⟩ := raise_frame_other h u i d s; rw [e]
@[simp] theorem raise_bud : (raise c u i d s).bud = s.bud := by
  obtain ⟨_, _, _, _, _, _, _, _, _, _, _, h⟩ := raise_frame c u i d s; rw [h]
@[simp] theorem raise_run : (raise c u i d s).run = s.run := by
  obtain ⟨_, _, _, _, _, _, _, _, _, _, _, h⟩ := raise_frame c u i d s; rw [h]
@[simp] theorem raise_tier : (raise c u i d s).tier = s.tier := by
  obtain ⟨_, _, _, _, _, _, _, _, _, _, _, h⟩ := raise_frame c u i d s; rw [h]
@[simp] theorem raise_rng : (raise c u i d s).rng = s.rng := by
  obtain ⟨_, _, _, _, _, _, _, _, _, _, _, h⟩ := raise_frame c u i d s; rw [h]
@[simp] theorem raise_granary : (raise c u i d s).granary = s.granary := by
  obtain ⟨_, _, _, _, _, _, _, _, _, _, _, h⟩ := raise_frame c u i d s; rw [h]
@[simp] theorem raise_smithy : (raise c u i d s).smithy = s.smithy := by
  obtain ⟨_, _, _, _, _, _, _, _, _, _, _, h⟩ := raise_frame c u i d s; rw [h]
@[simp] theorem raise_tables : (raise c u i d s).tables = s.tables := by
  obtain ⟨_, _, _, _, _, _, _, _, _, _, _, h⟩ := raise_frame c u i d s; rw [h]
@[simp] theorem raise_maint : (raise c u i d s).maint = s.maint := by
  obtain ⟨_, _, _, _, _, _, _, _, _, _, _, h⟩ := raise_frame c u i d s; rw [h]
@[simp] theorem raise_pwr : (raise c u i d s).pwr = s.pwr := by
  obtain ⟨_, _, _, _, _, _, _, _, _, _, _, h⟩ := raise_frame c u i d s; rw [h]
@[simp] theorem raise_hostMem : (raise c u i d s).hostMem = s.hostMem := by
  obtain ⟨_, _, _, _, _, _, _, _, _, _, _, h⟩ := raise_frame c u i d s; rw [h]
@[simp] theorem raise_pending : (raise c u i d s).pending = s.pending := by
  obtain ⟨_, _, _, _, _, _, _, _, _, _, _, h⟩ := raise_frame c u i d s; rw [h]

theorem State.putReply_frame (s : State) (h : PktHdr) (r : ReplyMsg) : ∃ q g,
    s.putReply h r = { s with hif := { s.hif with queues := q, gone := g } } := by
  unfold State.putReply
  split
  · exact ⟨_, s.hif.gone, rfl⟩
  · exact ⟨s.hif.queues, _, rfl⟩

theorem State.answerUnknown_frame (s : State) (n : Nat) : ∃ q g,
    s.answerUnknown n = { s with hif := { s.hif with queues := q, gone := g } } := by
  have key : ∀ (l : List PktHdr) (s : State), ∃ q g, l.foldl (fun s p => if !knownOpcodes.contains p.op.toNat && s.mayStart p then
      s.putReply p ⟨p.tag.toNat, stInvalid, false, p.irq, 0, 0, 0⟩ else s) s = { s with hif := { s.hif with queues := q, gone := g } } := by
    intro l
    induction l with
    | nil => exact fun s => ⟨s.hif.queues, s.hif.gone, rfl⟩
    | cons p t ih =>
      intro s
      rw [List.foldl_cons]
      split
      · obtain ⟨q, g, h⟩ := s.putReply_frame p ⟨p.tag.toNat, stInvalid, false, p.irq, 0, 0, 0⟩
        obtain ⟨q2, g2, h2⟩ := ih (s.putReply p ⟨p.tag.toNat, stInvalid, false, p.irq, 0, 0, 0⟩)
        exact ⟨q2, g2, by rw [h2, h]⟩
      · exact ih s
  exact key _ s

/-- A reply changes the queues of the host interface, those that a Function Level Reset deleted among them, and nothing else. -/
theorem State.reply_frame (s : State) (h : PktHdr) (st r0 r1 r2 : Nat) : ∃ q g,
    s.reply h st r0 r1 r2 = { s with hif := { s.hif with queues := q, gone := g } } := by
  obtain ⟨q, g, h1⟩ := s.putReply_frame h ⟨h.tag.toNat, st, false, h.irq, r0 % 2 ^ 64, r1 % 2 ^ 64, r2 % 2 ^ 64⟩
  obtain ⟨q2, g2, h2⟩ := State.answerUnknown_frame (s.putReply h ⟨h.tag.toNat, st, false, h.irq, r0 % 2 ^ 64, r1 % 2 ^ 64, r2 % 2 ^ 64⟩)
    h.queue.toNat
  exact ⟨q2, g2, by unfold State.reply; rw [h2, h1]⟩

theorem State.replyTo_frame (s : State) (h : Option PktHdr) (st r0 r1 r2 : Nat) : ∃ q g,
    s.replyTo h st r0 r1 r2 = { s with hif := { s.hif with queues := q, gone := g } } := by
  cases h with
  | none => exact ⟨s.hif.queues, s.hif.gone, rfl⟩
  | some p => exact s.reply_frame p st r0 r1 r2

/-- Everything a command of a packet can do: it may not start yet or is not the packet's; it is answered BUSY, its unit is off, it is answered
INVALID, or its body runs (R427, R429, R432, R433, R435). -/
theorem damtinFirst_cases (busy : State → Bool) (op : Nat) (h : PktHdr) (fields : List (Nat × Nat × Nat)) (body : State → State) (s : State) :
    (damtinFirst busy op h fields body s = s ∧ (h.says op fields && s.mayStart h) = false) ∨
    (damtinFirst busy op h fields body s = s.reply h stBusy ∧ busy s = true) ∨
    (damtinFirst busy op h fields body s = s.reply h stNotEnabled ∧ s.unitOff op = true) ∨
    damtinFirst busy op h fields body s = s.reply h stInvalid ∨
    (damtinFirst busy op h fields body s = body s ∧ h.says op fields = true ∧ s.mayStart h = true ∧ (0x0100 ≤ op ∨ h.queue = 0) ∧
      (needsSession op = false ∨ s.sessionFor h = true)) := by
  unfold damtinFirst
  by_cases h1 : (h.says op fields && s.mayStart h) = true
  · obtain ⟨hs, hm⟩ : h.says op fields = true ∧ s.mayStart h = true := by simpa using h1
    right
    by_cases hb : busy s = true
    · left; exact ⟨by simp [hs, hm, hb], hb⟩
    · right
      by_cases h2 : op < 0x0100 ∧ h.queue ≠ 0
      · right; left; rw [if_neg (by simp [hs, hm]), if_neg hb, if_pos h2]
      · by_cases hu : s.unitOff op = true
        · left; exact ⟨by rw [if_neg (by simp [hs, hm]), if_neg hb, if_neg h2, if_pos hu], hu⟩
        · right
          by_cases h3 : (needsSession op && !s.sessionFor h) = true
          · left; rw [if_neg (by simp [hs, hm]), if_neg hb, if_neg h2, if_neg hu, if_pos h3]
          · right
            refine ⟨by rw [if_neg (by simp [hs, hm]), if_neg hb, if_neg h2, if_neg hu, if_neg h3], hs, hm, ?_, ?_⟩
            · by_cases h4 : op < 0x0100
              · exact Or.inr (Classical.byContradiction fun q => h2 ⟨h4, q⟩)
              · exact Or.inl (Nat.le_of_not_lt h4)
            · cases hn : needsSession op with
              | false => exact Or.inl rfl
              | true => right; simpa [hn] using h3
  · left
    refine ⟨?_, by simpa using h1⟩
    rw [if_pos]
    revert h1
    cases h.says op fields <;> cases s.mayStart h <;> simp

/-- A command of a packet that says it and may start, in a queue and a session that allow it, that no rule answers with BUSY first, and whose
unit is on, runs its body (R427, R429, R433, R435). -/
theorem damtinFirst_runs {busy : State → Bool} {op : Nat} {h : PktHdr} {fields : List (Nat × Nat × Nat)} {body : State → State} {s : State}
    (h0 : h.says op fields = true) (h1 : s.mayStart h = true) (hb : busy s = false) (h2 : 0x0100 ≤ op ∨ h.queue = 0)
    (h3 : needsSession op = false ∨ s.sessionFor h = true) (h5 : s.unitOff op = false := by rfl) :
    damtinFirst busy op h fields body s = body s := by
  unfold damtinFirst
  have h4 : ¬ (op < 0x0100 ∧ h.queue ≠ 0) := fun q => h2.elim (Nat.not_le_of_lt q.1) q.2
  rw [if_neg (by simp [h0, h1]), if_neg (by simp [hb]), if_neg h4, if_neg (by simp [h5]),
    if_neg (by cases h3 with | inl h3 => simp [h3] | inr h3 => simp [h3])]

/-- The same for a command of which no rule has BUSY first. -/
theorem damtin_runs {op : Nat} {h : PktHdr} {fields : List (Nat × Nat × Nat)} {body : State → State} {s : State}
    (h0 : h.says op fields = true) (h1 : s.mayStart h = true) (h2 : 0x0100 ≤ op ∨ h.queue = 0)
    (h3 : needsSession op = false ∨ s.sessionFor h = true) (h5 : s.unitOff op = false := by rfl) :
    damtin op h fields body s = body s := damtinFirst_runs h0 h1 rfl h2 h3 h5

end Sys2Proof.Machine
end

