-- ==== Sys2Proof/Laws/State.lean ====
section
/-! SUPPORT. The fields that the named updates of State and Core leave alone, and those that they set. -/

namespace Sys2Proof.Machine

/-! Replacing a core -/

@[simp] theorem State.setCore_bel (s : State) (c : CoreId) (x : Core) : (s.setCore c x).bel = s.bel := rfl
@[simp] theorem State.setCore_bud (s : State) (c : CoreId) (x : Core) : (s.setCore c x).bud = s.bud := rfl
@[simp] theorem State.setCore_run (s : State) (c : CoreId) (x : Core) : (s.setCore c x).run = s.run := rfl
@[simp] theorem State.setCore_tier (s : State) (c : CoreId) (x : Core) : (s.setCore c x).tier = s.tier := rfl
@[simp] theorem State.setCore_fab (s : State) (c : CoreId) (x : Core) : (s.setCore c x).fab = s.fab := rfl
@[simp] theorem State.setCore_rng (s : State) (c : CoreId) (x : Core) : (s.setCore c x).rng = s.rng := rfl
@[simp] theorem State.setCore_rec0 (s : State) (c : CoreId) (x : Core) : (s.setCore c x).rec0 = s.rec0 := rfl
@[simp] theorem State.setCore_granary (s : State) (c : CoreId) (x : Core) : (s.setCore c x).granary = s.granary := rfl
@[simp] theorem State.setCore_smithy (s : State) (c : CoreId) (x : Core) : (s.setCore c x).smithy = s.smithy := rfl
@[simp] theorem State.setCore_tables (s : State) (c : CoreId) (x : Core) : (s.setCore c x).tables = s.tables := rfl
@[simp] theorem State.setCore_sur (s : State) (c : CoreId) (x : Core) : (s.setCore c x).sur = s.sur := rfl
@[simp] theorem State.setCore_smp (s : State) (c : CoreId) (x : Core) : (s.setCore c x).smp = s.smp := rfl
@[simp] theorem State.setCore_hif (s : State) (c : CoreId) (x : Core) : (s.setCore c x).hif = s.hif := rfl
@[simp] theorem State.setCore_reeve (s : State) (c : CoreId) (x : Core) : (s.setCore c x).reeve = s.reeve := rfl
@[simp] theorem State.setCore_maint (s : State) (c : CoreId) (x : Core) : (s.setCore c x).maint = s.maint := rfl
@[simp] theorem State.setCore_pwr (s : State) (c : CoreId) (x : Core) : (s.setCore c x).pwr = s.pwr := rfl
@[simp] theorem State.setCore_evLog (s : State) (c : CoreId) (x : Core) : (s.setCore c x).evLog = s.evLog := rfl
@[simp] theorem State.setCore_unitsEff (s : State) (c : CoreId) (x : Core) : (s.setCore c x).unitsEff = s.unitsEff := rfl
@[simp] theorem State.setCore_audit (s : State) (c : CoreId) (x : Core) : (s.setCore c x).audit = s.audit := rfl
@[simp] theorem State.setCore_auditNext (s : State) (c : CoreId) (x : Core) : (s.setCore c x).auditNext = s.auditNext := rfl
@[simp] theorem State.setCore_hostMem (s : State) (c : CoreId) (x : Core) : (s.setCore c x).hostMem = s.hostMem := rfl
@[simp] theorem State.setCore_outbox (s : State) (c : CoreId) (x : Core) : (s.setCore c x).outbox = s.outbox := rfl
@[simp] theorem State.setCore_freeCtr (s : State) (c : CoreId) (x : Core) : (s.setCore c x).freeCtr = s.freeCtr := rfl
@[simp] theorem State.setCore_pending (s : State) (c : CoreId) (x : Core) : (s.setCore c x).pending = s.pending := rfl

/-! Changing a core -/

@[simp] theorem State.modCore_bel (s : State) (c : CoreId) (f : Core → Core) : (s.modCore c f).bel = s.bel := rfl
@[simp] theorem State.modCore_bud (s : State) (c : CoreId) (f : Core → Core) : (s.modCore c f).bud = s.bud := rfl
@[simp] theorem State.modCore_run (s : State) (c : CoreId) (f : Core → Core) : (s.modCore c f).run = s.run := rfl
@[simp] theorem State.modCore_tier (s : State) (c : CoreId) (f : Core → Core) : (s.modCore c f).tier = s.tier := rfl
@[simp] theorem State.modCore_fab (s : State) (c : CoreId) (f : Core → Core) : (s.modCore c f).fab = s.fab := rfl
@[simp] theorem State.modCore_rng (s : State) (c : CoreId) (f : Core → Core) : (s.modCore c f).rng = s.rng := rfl
@[simp] theorem State.modCore_rec0 (s : State) (c : CoreId) (f : Core → Core) : (s.modCore c f).rec0 = s.rec0 := rfl
@[simp] theorem State.modCore_granary (s : State) (c : CoreId) (f : Core → Core) : (s.modCore c f).granary = s.granary := rfl
@[simp] theorem State.modCore_smithy (s : State) (c : CoreId) (f : Core → Core) : (s.modCore c f).smithy = s.smithy := rfl
@[simp] theorem State.modCore_tables (s : State) (c : CoreId) (f : Core → Core) : (s.modCore c f).tables = s.tables := rfl
@[simp] theorem State.modCore_sur (s : State) (c : CoreId) (f : Core → Core) : (s.modCore c f).sur = s.sur := rfl
@[simp] theorem State.modCore_smp (s : State) (c : CoreId) (f : Core → Core) : (s.modCore c f).smp = s.smp := rfl
@[simp] theorem State.modCore_hif (s : State) (c : CoreId) (f : Core → Core) : (s.modCore c f).hif = s.hif := rfl
@[simp] theorem State.modCore_reeve (s : State) (c : CoreId) (f : Core → Core) : (s.modCore c f).reeve = s.reeve := rfl
@[simp] theorem State.modCore_maint (s : State) (c : CoreId) (f : Core → Core) : (s.modCore c f).maint = s.maint := rfl
@[simp] theorem State.modCore_pwr (s : State) (c : CoreId) (f : Core → Core) : (s.modCore c f).pwr = s.pwr := rfl
@[simp] theorem State.modCore_evLog (s : State) (c : CoreId) (f : Core → Core) : (s.modCore c f).evLog = s.evLog := rfl
@[simp] theorem State.modCore_unitsEff (s : State) (c : CoreId) (f : Core → Core) : (s.modCore c f).unitsEff = s.unitsEff := rfl
@[simp] theorem State.modCore_audit (s : State) (c : CoreId) (f : Core → Core) : (s.modCore c f).audit = s.audit := rfl
@[simp] theorem State.modCore_auditNext (s : State) (c : CoreId) (f : Core → Core) : (s.modCore c f).auditNext = s.auditNext := rfl
@[simp] theorem State.modCore_hostMem (s : State) (c : CoreId) (f : Core → Core) : (s.modCore c f).hostMem = s.hostMem := rfl
@[simp] theorem State.modCore_outbox (s : State) (c : CoreId) (f : Core → Core) : (s.modCore c f).outbox = s.outbox := rfl
@[simp] theorem State.modCore_freeCtr (s : State) (c : CoreId) (f : Core → Core) : (s.modCore c f).freeCtr = s.freeCtr := rfl
@[simp] theorem State.modCore_pending (s : State) (c : CoreId) (f : Core → Core) : (s.modCore c f).pending = s.pending := rfl

/-! Sending -/

@[simp] theorem State.send_cores (s : State) (m : Msg) : (s.send m).cores = s.cores := rfl
@[simp] theorem State.send_bel (s : State) (m : Msg) : (s.send m).bel = s.bel := rfl
@[simp] theorem State.send_bud (s : State) (m : Msg) : (s.send m).bud = s.bud := rfl
@[simp] theorem State.send_run (s : State) (m : Msg) : (s.send m).run = s.run := rfl
@[simp] theorem State.send_tier (s : State) (m : Msg) : (s.send m).tier = s.tier := rfl
@[simp] theorem State.send_fab (s : State) (m : Msg) : (s.send m).fab = s.fab := rfl
@[simp] theorem State.send_rng (s : State) (m : Msg) : (s.send m).rng = s.rng := rfl
@[simp] theorem State.send_rec0 (s : State) (m : Msg) : (s.send m).rec0 = s.rec0 := rfl
@[simp] theorem State.send_granary (s : State) (m : Msg) : (s.send m).granary = s.granary := rfl
@[simp] theorem State.send_smithy (s : State) (m : Msg) : (s.send m).smithy = s.smithy := rfl
@[simp] theorem State.send_tables (s : State) (m : Msg) : (s.send m).tables = s.tables := rfl
@[simp] theorem State.send_sur (s : State) (m : Msg) : (s.send m).sur = s.sur := rfl
@[simp] theorem State.send_smp (s : State) (m : Msg) : (s.send m).smp = s.smp := rfl
@[simp] theorem State.send_hif (s : State) (m : Msg) : (s.send m).hif = s.hif := rfl
@[simp] theorem State.send_reeve (s : State) (m : Msg) : (s.send m).reeve = s.reeve := rfl
@[simp] theorem State.send_maint (s : State) (m : Msg) : (s.send m).maint = s.maint := rfl
@[simp] theorem State.send_pwr (s : State) (m : Msg) : (s.send m).pwr = s.pwr := rfl
@[simp] theorem State.send_evLog (s : State) (m : Msg) : (s.send m).evLog = s.evLog := rfl
@[simp] theorem State.send_unitsEff (s : State) (m : Msg) : (s.send m).unitsEff = s.unitsEff := rfl
@[simp] theorem State.send_audit (s : State) (m : Msg) : (s.send m).audit = s.audit := rfl
@[simp] theorem State.send_auditNext (s : State) (m : Msg) : (s.send m).auditNext = s.auditNext := rfl
@[simp] theorem State.send_hostMem (s : State) (m : Msg) : (s.send m).hostMem = s.hostMem := rfl
@[simp] theorem State.send_freeCtr (s : State) (m : Msg) : (s.send m).freeCtr = s.freeCtr := rfl
@[simp] theorem State.send_pending (s : State) (m : Msg) : (s.send m).pending = s.pending := rfl

/-! Replacing a port -/

@[simp] theorem State.setPort_cores (s : State) (p : Nat) (x : PortReg) : (s.setPort p x).cores = s.cores := rfl
@[simp] theorem State.setPort_bel (s : State) (p : Nat) (x : PortReg) : (s.setPort p x).bel = s.bel := rfl
@[simp] theorem State.setPort_bud (s : State) (p : Nat) (x : PortReg) : (s.setPort p x).bud = s.bud := rfl
@[simp] theorem State.setPort_run (s : State) (p : Nat) (x : PortReg) : (s.setPort p x).run = s.run := rfl
@[simp] theorem State.setPort_tier (s : State) (p : Nat) (x : PortReg) : (s.setPort p x).tier = s.tier := rfl
@[simp] theorem State.setPort_rng (s : State) (p : Nat) (x : PortReg) : (s.setPort p x).rng = s.rng := rfl
@[simp] theorem State.setPort_rec0 (s : State) (p : Nat) (x : PortReg) : (s.setPort p x).rec0 = s.rec0 := rfl
@[simp] theorem State.setPort_granary (s : State) (p : Nat) (x : PortReg) : (s.setPort p x).granary = s.granary := rfl
@[simp] theorem State.setPort_smithy (s : State) (p : Nat) (x : PortReg) : (s.setPort p x).smithy = s.smithy := rfl
@[simp] theorem State.setPort_tables (s : State) (p : Nat) (x : PortReg) : (s.setPort p x).tables = s.tables := rfl
@[simp] theorem State.setPort_sur (s : State) (p : Nat) (x : PortReg) : (s.setPort p x).sur = s.sur := rfl
@[simp] theorem State.setPort_smp (s : State) (p : Nat) (x : PortReg) : (s.setPort p x).smp = s.smp := rfl
@[simp] theorem State.setPort_hif (s : State) (p : Nat) (x : PortReg) : (s.setPort p x).hif = s.hif := rfl
@[simp] theorem State.setPort_reeve (s : State) (p : Nat) (x : PortReg) : (s.setPort p x).reeve = s.reeve := rfl
@[simp] theorem State.setPort_maint (s : State) (p : Nat) (x : PortReg) : (s.setPort p x).maint = s.maint := rfl
@[simp] theorem State.setPort_pwr (s : State) (p : Nat) (x : PortReg) : (s.setPort p x).pwr = s.pwr := rfl
@[simp] theorem State.setPort_evLog (s : State) (p : Nat) (x : PortReg) : (s.setPort p x).evLog = s.evLog := rfl
@[simp] theorem State.setPort_unitsEff (s : State) (p : Nat) (x : PortReg) : (s.setPort p x).unitsEff = s.unitsEff := rfl
@[simp] theorem State.setPort_audit (s : State) (p : Nat) (x : PortReg) : (s.setPort p x).audit = s.audit := rfl
@[simp] theorem State.setPort_auditNext (s : State) (p : Nat) (x : PortReg) : (s.setPort p x).auditNext = s.auditNext := rfl
@[simp] theorem State.setPort_hostMem (s : State) (p : Nat) (x : PortReg) : (s.setPort p x).hostMem = s.hostMem := rfl
@[simp] theorem State.setPort_outbox (s : State) (p : Nat) (x : PortReg) : (s.setPort p x).outbox = s.outbox := rfl
@[simp] theorem State.setPort_freeCtr (s : State) (p : Nat) (x : PortReg) : (s.setPort p x).freeCtr = s.freeCtr := rfl
@[simp] theorem State.setPort_pending (s : State) (p : Nat) (x : PortReg) : (s.setPort p x).pending = s.pending := rfl

/-! Changing the tiers -/

@[simp] theorem State.modTier_cores (s : State) (f : Tier → Tier) : (s.modTier f).cores = s.cores := rfl
@[simp] theorem State.modTier_bel (s : State) (f : Tier → Tier) : (s.modTier f).bel = s.bel := rfl
@[simp] theorem State.modTier_bud (s : State) (f : Tier → Tier) : (s.modTier f).bud = s.bud := rfl
@[simp] theorem State.modTier_run (s : State) (f : Tier → Tier) : (s.modTier f).run = s.run := rfl
@[simp] theorem State.modTier_fab (s : State) (f : Tier → Tier) : (s.modTier f).fab = s.fab := rfl
@[simp] theorem State.modTier_rng (s : State) (f : Tier → Tier) : (s.modTier f).rng = s.rng := rfl
@[simp] theorem State.modTier_rec0 (s : State) (f : Tier → Tier) : (s.modTier f).rec0 = s.rec0 := rfl
@[simp] theorem State.modTier_granary (s : State) (f : Tier → Tier) : (s.modTier f).granary = s.granary := rfl
@[simp] theorem State.modTier_smithy (s : State) (f : Tier → Tier) : (s.modTier f).smithy = s.smithy := rfl
@[simp] theorem State.modTier_tables (s : State) (f : Tier → Tier) : (s.modTier f).tables = s.tables := rfl
@[simp] theorem State.modTier_sur (s : State) (f : Tier → Tier) : (s.modTier f).sur = s.sur := rfl
@[simp] theorem State.modTier_smp (s : State) (f : Tier → Tier) : (s.modTier f).smp = s.smp := rfl
@[simp] theorem State.modTier_hif (s : State) (f : Tier → Tier) : (s.modTier f).hif = s.hif := rfl
@[simp] theorem State.modTier_reeve (s : State) (f : Tier → Tier) : (s.modTier f).reeve = s.reeve := rfl
@[simp] theorem State.modTier_maint (s : State) (f : Tier → Tier) : (s.modTier f).maint = s.maint := rfl
@[simp] theorem State.modTier_pwr (s : State) (f : Tier → Tier) : (s.modTier f).pwr = s.pwr := rfl
@[simp] theorem State.modTier_evLog (s : State) (f : Tier → Tier) : (s.modTier f).evLog = s.evLog := rfl
@[simp] theorem State.modTier_unitsEff (s : State) (f : Tier → Tier) : (s.modTier f).unitsEff = s.unitsEff := rfl
@[simp] theorem State.modTier_audit (s : State) (f : Tier → Tier) : (s.modTier f).audit = s.audit := rfl
@[simp] theorem State.modTier_auditNext (s : State) (f : Tier → Tier) : (s.modTier f).auditNext = s.auditNext := rfl
@[simp] theorem State.modTier_hostMem (s : State) (f : Tier → Tier) : (s.modTier f).hostMem = s.hostMem := rfl
@[simp] theorem State.modTier_outbox (s : State) (f : Tier → Tier) : (s.modTier f).outbox = s.outbox := rfl
@[simp] theorem State.modTier_freeCtr (s : State) (f : Tier → Tier) : (s.modTier f).freeCtr = s.freeCtr := rfl
@[simp] theorem State.modTier_pending (s : State) (f : Tier → Tier) : (s.modTier f).pending = s.pending := rfl

/-! Writing host memory -/

@[simp] theorem State.hostWrite_cores (s : State) (a : Nat) (b : List Byte) : (s.hostWrite a b).cores = s.cores := rfl
@[simp] theorem State.hostWrite_bel (s : State) (a : Nat) (b : List Byte) : (s.hostWrite a b).bel = s.bel := rfl
@[simp] theorem State.hostWrite_bud (s : State) (a : Nat) (b : List Byte) : (s.hostWrite a b).bud = s.bud := rfl
@[simp] theorem State.hostWrite_run (s : State) (a : Nat) (b : List Byte) : (s.hostWrite a b).run = s.run := rfl
@[simp] theorem State.hostWrite_tier (s : State) (a : Nat) (b : List Byte) : (s.hostWrite a b).tier = s.tier := rfl
@[simp] theorem State.hostWrite_fab (s : State) (a : Nat) (b : List Byte) : (s.hostWrite a b).fab = s.fab := rfl
@[simp] theorem State.hostWrite_rng (s : State) (a : Nat) (b : List Byte) : (s.hostWrite a b).rng = s.rng := rfl
@[simp] theorem State.hostWrite_rec0 (s : State) (a : Nat) (b : List Byte) : (s.hostWrite a b).rec0 = s.rec0 := rfl
@[simp] theorem State.hostWrite_granary (s : State) (a : Nat) (b : List Byte) : (s.hostWrite a b).granary = s.granary := rfl
@[simp] theorem State.hostWrite_smithy (s : State) (a : Nat) (b : List Byte) : (s.hostWrite a b).smithy = s.smithy := rfl
@[simp] theorem State.hostWrite_tables (s : State) (a : Nat) (b : List Byte) : (s.hostWrite a b).tables = s.tables := rfl
@[simp] theorem State.hostWrite_sur (s : State) (a : Nat) (b : List Byte) : (s.hostWrite a b).sur = s.sur := rfl
@[simp] theorem State.hostWrite_smp (s : State) (a : Nat) (b : List Byte) : (s.hostWrite a b).smp = s.smp := rfl
@[simp] theorem State.hostWrite_hif (s : State) (a : Nat) (b : List Byte) : (s.hostWrite a b).hif = s.hif := rfl
@[simp] theorem State.hostWrite_reeve (s : State) (a : Nat) (b : List Byte) : (s.hostWrite a b).reeve = s.reeve := rfl
@[simp] theorem State.hostWrite_maint (s : State) (a : Nat) (b : List Byte) : (s.hostWrite a b).maint = s.maint := rfl
@[simp] theorem State.hostWrite_pwr (s : State) (a : Nat) (b : List Byte) : (s.hostWrite a b).pwr = s.pwr := rfl
@[simp] theorem State.hostWrite_evLog (s : State) (a : Nat) (b : List Byte) : (s.hostWrite a b).evLog = s.evLog := rfl
@[simp] theorem State.hostWrite_unitsEff (s : State) (a : Nat) (b : List Byte) : (s.hostWrite a b).unitsEff = s.unitsEff := rfl
@[simp] theorem State.hostWrite_audit (s : State) (a : Nat) (b : List Byte) : (s.hostWrite a b).audit = s.audit := rfl
@[simp] theorem State.hostWrite_auditNext (s : State) (a : Nat) (b : List Byte) : (s.hostWrite a b).auditNext = s.auditNext := rfl
@[simp] theorem State.hostWrite_outbox (s : State) (a : Nat) (b : List Byte) : (s.hostWrite a b).outbox = s.outbox := rfl
@[simp] theorem State.hostWrite_freeCtr (s : State) (a : Nat) (b : List Byte) : (s.hostWrite a b).freeCtr = s.freeCtr := rfl
@[simp] theorem State.hostWrite_pending (s : State) (a : Nat) (b : List Byte) : (s.hostWrite a b).pending = s.pending := rfl

/-! Charging a host transfer -/

@[simp] theorem State.chargeIn_cores (s : State) (n : Nat) : (s.chargeIn n).cores = s.cores := rfl
@[simp] theorem State.chargeIn_bel (s : State) (n : Nat) : (s.chargeIn n).bel = s.bel := rfl
@[simp] theorem State.chargeIn_run (s : State) (n : Nat) : (s.chargeIn n).run = s.run := rfl
@[simp] theorem State.chargeIn_tier (s : State) (n : Nat) : (s.chargeIn n).tier = s.tier := rfl
@[simp] theorem State.chargeIn_fab (s : State) (n : Nat) : (s.chargeIn n).fab = s.fab := rfl
@[simp] theorem State.chargeIn_rng (s : State) (n : Nat) : (s.chargeIn n).rng = s.rng := rfl
@[simp] theorem State.chargeIn_rec0 (s : State) (n : Nat) : (s.chargeIn n).rec0 = s.rec0 := rfl
@[simp] theorem State.chargeIn_granary (s : State) (n : Nat) : (s.chargeIn n).granary = s.granary := rfl
@[simp] theorem State.chargeIn_smithy (s : State) (n : Nat) : (s.chargeIn n).smithy = s.smithy := rfl
@[simp] theorem State.chargeIn_tables (s : State) (n : Nat) : (s.chargeIn n).tables = s.tables := rfl
@[simp] theorem State.chargeIn_sur (s : State) (n : Nat) : (s.chargeIn n).sur = s.sur := rfl
@[simp] theorem State.chargeIn_smp (s : State) (n : Nat) : (s.chargeIn n).smp = s.smp := rfl
@[simp] theorem State.chargeIn_hif (s : State) (n : Nat) : (s.chargeIn n).hif = s.hif := rfl
@[simp] theorem State.chargeIn_reeve (s : State) (n : Nat) : (s.chargeIn n).reeve = s.reeve := rfl
@[simp] theorem State.chargeIn_maint (s : State) (n : Nat) : (s.chargeIn n).maint = s.maint := rfl
@[simp] theorem State.chargeIn_pwr (s : State) (n : Nat) : (s.chargeIn n).pwr = s.pwr := rfl
@[simp] theorem State.chargeIn_evLog (s : State) (n : Nat) : (s.chargeIn n).evLog = s.evLog := rfl
@[simp] theorem State.chargeIn_unitsEff (s : State) (n : Nat) : (s.chargeIn n).unitsEff = s.unitsEff := rfl
@[simp] theorem State.chargeIn_audit (s : State) (n : Nat) : (s.chargeIn n).audit = s.audit := rfl
@[simp] theorem State.chargeIn_auditNext (s : State) (n : Nat) : (s.chargeIn n).auditNext = s.auditNext := rfl
@[simp] theorem State.chargeIn_hostMem (s : State) (n : Nat) : (s.chargeIn n).hostMem = s.hostMem := rfl
@[simp] theorem State.chargeIn_outbox (s : State) (n : Nat) : (s.chargeIn n).outbox = s.outbox := rfl
@[simp] theorem State.chargeIn_freeCtr (s : State) (n : Nat) : (s.chargeIn n).freeCtr = s.freeCtr := rfl
@[simp] theorem State.chargeIn_pending (s : State) (n : Nat) : (s.chargeIn n).pending = s.pending := rfl

/-! Charging a host transfer -/

@[simp] theorem State.chargeOut_cores (s : State) (n : Nat) : (s.chargeOut n).cores = s.cores := rfl
@[simp] theorem State.chargeOut_bel (s : State) (n : Nat) : (s.chargeOut n).bel = s.bel := rfl
@[simp] theorem State.chargeOut_run (s : State) (n : Nat) : (s.chargeOut n).run = s.run := rfl
@[simp] theorem State.chargeOut_tier (s : State) (n : Nat) : (s.chargeOut n).tier = s.tier := rfl
@[simp] theorem State.chargeOut_fab (s : State) (n : Nat) : (s.chargeOut n).fab = s.fab := rfl
@[simp] theorem State.chargeOut_rng (s : State) (n : Nat) : (s.chargeOut n).rng = s.rng := rfl
@[simp] theorem State.chargeOut_rec0 (s : State) (n : Nat) : (s.chargeOut n).rec0 = s.rec0 := rfl
@[simp] theorem State.chargeOut_granary (s : State) (n : Nat) : (s.chargeOut n).granary = s.granary := rfl
@[simp] theorem State.chargeOut_smithy (s : State) (n : Nat) : (s.chargeOut n).smithy = s.smithy := rfl
@[simp] theorem State.chargeOut_tables (s : State) (n : Nat) : (s.chargeOut n).tables = s.tables := rfl
@[simp] theorem State.chargeOut_sur (s : State) (n : Nat) : (s.chargeOut n).sur = s.sur := rfl
@[simp] theorem State.chargeOut_smp (s : State) (n : Nat) : (s.chargeOut n).smp = s.smp := rfl
@[simp] theorem State.chargeOut_hif (s : State) (n : Nat) : (s.chargeOut n).hif = s.hif := rfl
@[simp] theorem State.chargeOut_reeve (s : State) (n : Nat) : (s.chargeOut n).reeve = s.reeve := rfl
@[simp] theorem State.chargeOut_maint (s : State) (n : Nat) : (s.chargeOut n).maint = s.maint := rfl
@[simp] theorem State.chargeOut_pwr (s : State) (n : Nat) : (s.chargeOut n).pwr = s.pwr := rfl
@[simp] theorem State.chargeOut_evLog (s : State) (n : Nat) : (s.chargeOut n).evLog = s.evLog := rfl
@[simp] theorem State.chargeOut_unitsEff (s : State) (n : Nat) : (s.chargeOut n).unitsEff = s.unitsEff := rfl
@[simp] theorem State.chargeOut_audit (s : State) (n : Nat) : (s.chargeOut n).audit = s.audit := rfl
@[simp] theorem State.chargeOut_auditNext (s : State) (n : Nat) : (s.chargeOut n).auditNext = s.auditNext := rfl
@[simp] theorem State.chargeOut_hostMem (s : State) (n : Nat) : (s.chargeOut n).hostMem = s.hostMem := rfl
@[simp] theorem State.chargeOut_outbox (s : State) (n : Nat) : (s.chargeOut n).outbox = s.outbox := rfl
@[simp] theorem State.chargeOut_freeCtr (s : State) (n : Nat) : (s.chargeOut n).freeCtr = s.freeCtr := rfl
@[simp] theorem State.chargeOut_pending (s : State) (n : Nat) : (s.chargeOut n).pending = s.pending := rfl

/-! Replacing a thread -/

@[simp] theorem Core.setThread_lastIssued (k : Core) (t : ThreadId) (x : Thread) : (k.setThread t x).lastIssued = k.lastIssued := rfl
@[simp] theorem Core.setThread_sc (k : Core) (t : ThreadId) (x : Thread) : (k.setThread t x).sc = k.sc := rfl
@[simp] theorem Core.setThread_st (k : Core) (t : ThreadId) (x : Thread) : (k.setThread t x).st = k.st := rfl
@[simp] theorem Core.setThread_ls (k : Core) (t : ThreadId) (x : Thread) : (k.setThread t x).ls = k.ls := rfl
@[simp] theorem Core.setThread_queues (k : Core) (t : ThreadId) (x : Thread) : (k.setThread t x).queues = k.queues := rfl
@[simp] theorem Core.setThread_seq (k : Core) (t : ThreadId) (x : Thread) : (k.setThread t x).seq = k.seq := rfl
@[simp] theorem Core.setThread_code (k : Core) (t : ThreadId) (x : Thread) : (k.setThread t x).code = k.code := rfl
@[simp] theorem Core.setThread_ctxs (k : Core) (t : ThreadId) (x : Thread) : (k.setThread t x).ctxs = k.ctxs := rfl
@[simp] theorem Core.setThread_banks (k : Core) (t : ThreadId) (x : Thread) : (k.setThread t x).banks = k.banks := rfl
@[simp] theorem Core.setThread_drained (k : Core) (t : ThreadId) (x : Thread) : (k.setThread t x).drained = k.drained := rfl
@[simp] theorem Core.setThread_tileQ (k : Core) (t : ThreadId) (x : Thread) : (k.setThread t x).tileQ = k.tileQ := rfl
@[simp] theorem Core.setThread_lanes (k : Core) (t : ThreadId) (x : Thread) : (k.setThread t x).lanes = k.lanes := rfl
@[simp] theorem Core.setThread_tasks (k : Core) (t : ThreadId) (x : Thread) : (k.setThread t x).tasks = k.tasks := rfl
@[simp] theorem Core.setThread_detour (k : Core) (t : ThreadId) (x : Thread) : (k.setThread t x).detour = k.detour := rfl
@[simp] theorem Core.setThread_regs (k : Core) (t : ThreadId) (x : Thread) : (k.setThread t x).regs = k.regs := rfl
@[simp] theorem Core.setThread_meters (k : Core) (t : ThreadId) (x : Thread) : (k.setThread t x).meters = k.meters := rfl
@[simp] theorem Core.setThread_errors (k : Core) (t : ThreadId) (x : Thread) : (k.setThread t x).errors = k.errors := rfl
@[simp] theorem Core.setThread_ended (k : Core) (t : ThreadId) (x : Thread) : (k.setThread t x).ended = k.ended := rfl
@[simp] theorem Core.setThread_heads (k : Core) (t : ThreadId) (x : Thread) : (k.setThread t x).heads = k.heads := rfl
@[simp] theorem Core.setThread_hidden (k : Core) (t : ThreadId) (x : Thread) : (k.setThread t x).hidden = k.hidden := rfl

/-! Replacing a queue -/

@[simp] theorem Core.setQueue_threads (k : Core) (q : Nat) (x : Queue) : (k.setQueue q x).threads = k.threads := rfl
@[simp] theorem Core.setQueue_lastIssued (k : Core) (q : Nat) (x : Queue) : (k.setQueue q x).lastIssued = k.lastIssued := rfl
@[simp] theorem Core.setQueue_sc (k : Core) (q : Nat) (x : Queue) : (k.setQueue q x).sc = k.sc := rfl
@[simp] theorem Core.setQueue_st (k : Core) (q : Nat) (x : Queue) : (k.setQueue q x).st = k.st := rfl
@[simp] theorem Core.setQueue_ls (k : Core) (q : Nat) (x : Queue) : (k.setQueue q x).ls = k.ls := rfl
@[simp] theorem Core.setQueue_seq (k : Core) (q : Nat) (x : Queue) : (k.setQueue q x).seq = k.seq := rfl
@[simp] theorem Core.setQueue_code (k : Core) (q : Nat) (x : Queue) : (k.setQueue q x).code = k.code := rfl
@[simp] theorem Core.setQueue_ctxs (k : Core) (q : Nat) (x : Queue) : (k.setQueue q x).ctxs = k.ctxs := rfl
@[simp] theorem Core.setQueue_banks (k : Core) (q : Nat) (x : Queue) : (k.setQueue q x).banks = k.banks := rfl
@[simp] theorem Core.setQueue_drained (k : Core) (q : Nat) (x : Queue) : (k.setQueue q x).drained = k.drained := rfl
@[simp] theorem Core.setQueue_tileQ (k : Core) (q : Nat) (x : Queue) : (k.setQueue q x).tileQ = k.tileQ := rfl
@[simp] theorem Core.setQueue_lanes (k : Core) (q : Nat) (x : Queue) : (k.setQueue q x).lanes = k.lanes := rfl
@[simp] theorem Core.setQueue_tasks (k : Core) (q : Nat) (x : Queue) : (k.setQueue q x).tasks = k.tasks := rfl
@[simp] theorem Core.setQueue_detour (k : Core) (q : Nat) (x : Queue) : (k.setQueue q x).detour = k.detour := rfl
@[simp] theorem Core.setQueue_regs (k : Core) (q : Nat) (x : Queue) : (k.setQueue q x).regs = k.regs := rfl
@[simp] theorem Core.setQueue_meters (k : Core) (q : Nat) (x : Queue) : (k.setQueue q x).meters = k.meters := rfl
@[simp] theorem Core.setQueue_errors (k : Core) (q : Nat) (x : Queue) : (k.setQueue q x).errors = k.errors := rfl
@[simp] theorem Core.setQueue_ended (k : Core) (q : Nat) (x : Queue) : (k.setQueue q x).ended = k.ended := rfl
@[simp] theorem Core.setQueue_heads (k : Core) (q : Nat) (x : Queue) : (k.setQueue q x).heads = k.heads := rfl
@[simp] theorem Core.setQueue_hidden (k : Core) (q : Nat) (x : Queue) : (k.setQueue q x).hidden = k.hidden := rfl

/-! Replacing a vector context -/

@[simp] theorem Core.setVContext_threads (k : Core) (c : VCtx) (x : VContext) : (k.setVContext c x).threads = k.threads := rfl
@[simp] theorem Core.setVContext_lastIssued (k : Core) (c : VCtx) (x : VContext) : (k.setVContext c x).lastIssued = k.lastIssued := rfl
@[simp] theorem Core.setVContext_sc (k : Core) (c : VCtx) (x : VContext) : (k.setVContext c x).sc = k.sc := rfl
@[simp] theorem Core.setVContext_st (k : Core) (c : VCtx) (x : VContext) : (k.setVContext c x).st = k.st := rfl
@[simp] theorem Core.setVContext_ls (k : Core) (c : VCtx) (x : VContext) : (k.setVContext c x).ls = k.ls := rfl
@[simp] theorem Core.setVContext_queues (k : Core) (c : VCtx) (x : VContext) : (k.setVContext c x).queues = k.queues := rfl
@[simp] theorem Core.setVContext_seq (k : Core) (c : VCtx) (x : VContext) : (k.setVContext c x).seq = k.seq := rfl
@[simp] theorem Core.setVContext_code (k : Core) (c : VCtx) (x : VContext) : (k.setVContext c x).code = k.code := rfl
@[simp] theorem Core.setVContext_banks (k : Core) (c : VCtx) (x : VContext) : (k.setVContext c x).banks = k.banks := rfl
@[simp] theorem Core.setVContext_drained (k : Core) (c : VCtx) (x : VContext) : (k.setVContext c x).drained = k.drained := rfl
@[simp] theorem Core.setVContext_tileQ (k : Core) (c : VCtx) (x : VContext) : (k.setVContext c x).tileQ = k.tileQ := rfl
@[simp] theorem Core.setVContext_lanes (k : Core) (c : VCtx) (x : VContext) : (k.setVContext c x).lanes = k.lanes := rfl
@[simp] theorem Core.setVContext_tasks (k : Core) (c : VCtx) (x : VContext) : (k.setVContext c x).tasks = k.tasks := rfl
@[simp] theorem Core.setVContext_detour (k : Core) (c : VCtx) (x : VContext) : (k.setVContext c x).detour = k.detour := rfl
@[simp] theorem Core.setVContext_regs (k : Core) (c : VCtx) (x : VContext) : (k.setVContext c x).regs = k.regs := rfl
@[simp] theorem Core.setVContext_meters (k : Core) (c : VCtx) (x : VContext) : (k.setVContext c x).meters = k.meters := rfl
@[simp] theorem Core.setVContext_errors (k : Core) (c : VCtx) (x : VContext) : (k.setVContext c x).errors = k.errors := rfl
@[simp] theorem Core.setVContext_ended (k : Core) (c : VCtx) (x : VContext) : (k.setVContext c x).ended = k.ended := rfl
@[simp] theorem Core.setVContext_heads (k : Core) (c : VCtx) (x : VContext) : (k.setVContext c x).heads = k.heads := rfl
@[simp] theorem Core.setVContext_hidden (k : Core) (c : VCtx) (x : VContext) : (k.setVContext c x).hidden = k.hidden := rfl

/-! Setting a counter -/

@[simp] theorem Core.setCounter_threads (k : Core) (i : ScReg) (v : BitVec 16) : (k.setCounter i v).threads = k.threads := rfl
@[simp] theorem Core.setCounter_lastIssued (k : Core) (i : ScReg) (v : BitVec 16) : (k.setCounter i v).lastIssued = k.lastIssued := rfl
@[simp] theorem Core.setCounter_st (k : Core) (i : ScReg) (v : BitVec 16) : (k.setCounter i v).st = k.st := rfl
@[simp] theorem Core.setCounter_ls (k : Core) (i : ScReg) (v : BitVec 16) : (k.setCounter i v).ls = k.ls := rfl
@[simp] theorem Core.setCounter_queues (k : Core) (i : ScReg) (v : BitVec 16) : (k.setCounter i v).queues = k.queues := rfl
@[simp] theorem Core.setCounter_seq (k : Core) (i : ScReg) (v : BitVec 16) : (k.setCounter i v).seq = k.seq := rfl
@[simp] theorem Core.setCounter_code (k : Core) (i : ScReg) (v : BitVec 16) : (k.setCounter i v).code = k.code := rfl
@[simp] theorem Core.setCounter_ctxs (k : Core) (i : ScReg) (v : BitVec 16) : (k.setCounter i v).ctxs = k.ctxs := rfl
@[simp] theorem Core.setCounter_banks (k : Core) (i : ScReg) (v : BitVec 16) : (k.setCounter i v).banks = k.banks := rfl
@[simp] theorem Core.setCounter_drained (k : Core) (i : ScReg) (v : BitVec 16) : (k.setCounter i v).drained = k.drained := rfl
@[simp] theorem Core.setCounter_tileQ (k : Core) (i : ScReg) (v : BitVec 16) : (k.setCounter i v).tileQ = k.tileQ := rfl
@[simp] theorem Core.setCounter_lanes (k : Core) (i : ScReg) (v : BitVec 16) : (k.setCounter i v).lanes = k.lanes := rfl
@[simp] theorem Core.setCounter_tasks (k : Core) (i : ScReg) (v : BitVec 16) : (k.setCounter i v).tasks = k.tasks := rfl
@[simp] theorem Core.setCounter_detour (k : Core) (i : ScReg) (v : BitVec 16) : (k.setCounter i v).detour = k.detour := rfl
@[simp] theorem Core.setCounter_regs (k : Core) (i : ScReg) (v : BitVec 16) : (k.setCounter i v).regs = k.regs := rfl
@[simp] theorem Core.setCounter_meters (k : Core) (i : ScReg) (v : BitVec 16) : (k.setCounter i v).meters = k.meters := rfl
@[simp] theorem Core.setCounter_errors (k : Core) (i : ScReg) (v : BitVec 16) : (k.setCounter i v).errors = k.errors := rfl
@[simp] theorem Core.setCounter_ended (k : Core) (i : ScReg) (v : BitVec 16) : (k.setCounter i v).ended = k.ended := rfl
@[simp] theorem Core.setCounter_heads (k : Core) (i : ScReg) (v : BitVec 16) : (k.setCounter i v).heads = k.heads := rfl
@[simp] theorem Core.setCounter_hidden (k : Core) (i : ScReg) (v : BitVec 16) : (k.setCounter i v).hidden = k.hidden := rfl

/-! Setting a descriptor -/

@[simp] theorem Core.setDesc_threads (k : Core) (i : StReg) (d : Desc) : (k.setDesc i d).threads = k.threads := rfl
@[simp] theorem Core.setDesc_lastIssued (k : Core) (i : StReg) (d : Desc) : (k.setDesc i d).lastIssued = k.lastIssued := rfl
@[simp] theorem Core.setDesc_sc (k : Core) (i : StReg) (d : Desc) : (k.setDesc i d).sc = k.sc := rfl
@[simp] theorem Core.setDesc_ls (k : Core) (i : StReg) (d : Desc) : (k.setDesc i d).ls = k.ls := rfl
@[simp] theorem Core.setDesc_queues (k : Core) (i : StReg) (d : Desc) : (k.setDesc i d).queues = k.queues := rfl
@[simp] theorem Core.setDesc_seq (k : Core) (i : StReg) (d : Desc) : (k.setDesc i d).seq = k.seq := rfl
@[simp] theorem Core.setDesc_code (k : Core) (i : StReg) (d : Desc) : (k.setDesc i d).code = k.code := rfl
@[simp] theorem Core.setDesc_ctxs (k : Core) (i : StReg) (d : Desc) : (k.setDesc i d).ctxs = k.ctxs := rfl
@[simp] theorem Core.setDesc_banks (k : Core) (i : StReg) (d : Desc) : (k.setDesc i d).banks = k.banks := rfl
@[simp] theorem Core.setDesc_drained (k : Core) (i : StReg) (d : Desc) : (k.setDesc i d).drained = k.drained := rfl
@[simp] theorem Core.setDesc_tileQ (k : Core) (i : StReg) (d : Desc) : (k.setDesc i d).tileQ = k.tileQ := rfl
@[simp] theorem Core.setDesc_lanes (k : Core) (i : StReg) (d : Desc) : (k.setDesc i d).lanes = k.lanes := rfl
@[simp] theorem Core.setDesc_tasks (k : Core) (i : StReg) (d : Desc) : (k.setDesc i d).tasks = k.tasks := rfl
@[simp] theorem Core.setDesc_detour (k : Core) (i : StReg) (d : Desc) : (k.setDesc i d).detour = k.detour := rfl
@[simp] theorem Core.setDesc_regs (k : Core) (i : StReg) (d : Desc) : (k.setDesc i d).regs = k.regs := rfl
@[simp] theorem Core.setDesc_meters (k : Core) (i : StReg) (d : Desc) : (k.setDesc i d).meters = k.meters := rfl
@[simp] theorem Core.setDesc_errors (k : Core) (i : StReg) (d : Desc) : (k.setDesc i d).errors = k.errors := rfl
@[simp] theorem Core.setDesc_ended (k : Core) (i : StReg) (d : Desc) : (k.setDesc i d).ended = k.ended := rfl
@[simp] theorem Core.setDesc_heads (k : Core) (i : StReg) (d : Desc) : (k.setDesc i d).heads = k.heads := rfl
@[simp] theorem Core.setDesc_hidden (k : Core) (i : StReg) (d : Desc) : (k.setDesc i d).hidden = k.hidden := rfl

/-! Queueing a command -/

@[simp] theorem Core.enqueue_threads (k : Core) (q : Nat) (c : QCmd) : (k.enqueue q c).threads = k.threads := rfl
@[simp] theorem Core.enqueue_lastIssued (k : Core) (q : Nat) (c : QCmd) : (k.enqueue q c).lastIssued = k.lastIssued := rfl
@[simp] theorem Core.enqueue_sc (k : Core) (q : Nat) (c : QCmd) : (k.enqueue q c).sc = k.sc := rfl
@[simp] theorem Core.enqueue_st (k : Core) (q : Nat) (c : QCmd) : (k.enqueue q c).st = k.st := rfl
@[simp] theorem Core.enqueue_ls (k : Core) (q : Nat) (c : QCmd) : (k.enqueue q c).ls = k.ls := rfl
@[simp] theorem Core.enqueue_seq (k : Core) (q : Nat) (c : QCmd) : (k.enqueue q c).seq = k.seq := rfl
@[simp] theorem Core.enqueue_code (k : Core) (q : Nat) (c : QCmd) : (k.enqueue q c).code = k.code := rfl
@[simp] theorem Core.enqueue_ctxs (k : Core) (q : Nat) (c : QCmd) : (k.enqueue q c).ctxs = k.ctxs := rfl
@[simp] theorem Core.enqueue_banks (k : Core) (q : Nat) (c : QCmd) : (k.enqueue q c).banks = k.banks := rfl
@[simp] theorem Core.enqueue_drained (k : Core) (q : Nat) (c : QCmd) : (k.enqueue q c).drained = k.drained := rfl
@[simp] theorem Core.enqueue_tileQ (k : Core) (q : Nat) (c : QCmd) : (k.enqueue q c).tileQ = k.tileQ := rfl
@[simp] theorem Core.enqueue_lanes (k : Core) (q : Nat) (c : QCmd) : (k.enqueue q c).lanes = k.lanes := rfl
@[simp] theorem Core.enqueue_tasks (k : Core) (q : Nat) (c : QCmd) : (k.enqueue q c).tasks = k.tasks := rfl
@[simp] theorem Core.enqueue_detour (k : Core) (q : Nat) (c : QCmd) : (k.enqueue q c).detour = k.detour := rfl
@[simp] theorem Core.enqueue_regs (k : Core) (q : Nat) (c : QCmd) : (k.enqueue q c).regs = k.regs := rfl
@[simp] theorem Core.enqueue_meters (k : Core) (q : Nat) (c : QCmd) : (k.enqueue q c).meters = k.meters := rfl
@[simp] theorem Core.enqueue_ended (k : Core) (q : Nat) (c : QCmd) : (k.enqueue q c).ended = k.ended := rfl
@[simp] theorem Core.enqueue_heads (k : Core) (q : Nat) (c : QCmd) : (k.enqueue q c).heads = k.heads := rfl
@[simp] theorem Core.enqueue_hidden (k : Core) (q : Nat) (c : QCmd) : (k.enqueue q c).hidden = k.hidden := rfl

/-! ## Reading what was set -/

@[simp] theorem State.core_setCore_same (s : State) (c : CoreId) (x : Core) : (s.setCore c x).core c = x := by
  simp [State.core, State.setCore]

theorem State.core_setCore_other (s : State) {c d : CoreId} (x : Core) (h : c ≠ d) : (s.setCore c x).core d = s.core d := by
  have hn : c.toNat ≠ d.toNat := fun e => h (BitVec.eq_of_toNat_eq e)
  simp [State.core, State.setCore, mapGet_mapPut_other _ _ _ hn]

@[simp] theorem State.core_modCore_same (s : State) (c : CoreId) (f : Core → Core) : (s.modCore c f).core c = f (s.core c) := by
  simp [State.modCore]

theorem State.core_modCore_other (s : State) {c d : CoreId} (f : Core → Core) (h : c ≠ d) :
    (s.modCore c f).core d = s.core d := s.core_setCore_other _ h

@[simp] theorem State.core_send (s : State) (m : Msg) (c : CoreId) : (s.send m).core c = s.core c := rfl

@[simp] theorem Core.thread_setThread_same (k : Core) (t : ThreadId) (x : Thread) : (k.setThread t x).thread t = some x := by
  simp [Core.thread, Core.setThread, mapFind_mapPut_same]

theorem Core.thread_setThread_other (k : Core) {t u : ThreadId} (x : Thread) (h : t ≠ u) :
    (k.setThread t x).thread u = k.thread u := by
  have hn : t.toNat ≠ u.toNat := fun e => h (BitVec.eq_of_toNat_eq e)
  simp [Core.thread, Core.setThread, mapFind_mapPut_other _ _ hn]

theorem Core.queue_setQueue_other (k : Core) {p q : Nat} (x : Queue) (h : p ≠ q) : (k.setQueue p x).queue q = k.queue q := by
  simp [Core.queue, Core.setQueue, mapGet_mapSet_other _ _ h]

@[simp] theorem State.send_outbox (s : State) (m : Msg) : (s.send m).outbox = s.outbox ++ [m] := rfl

end Sys2Proof.Machine
end

