-- ==== Sys2Proof/Laws/Settle.lean ====
section
/-! SUPPORT. What every command leaves: its messages on the links, the queue as it stood, and READY as the state says. -/

namespace Sys2Proof.Machine

/-! ## What the links may change -/

/-- `u` is `t` but for what putting messages on the links may change: the ports, what is sent, the FABRIC meters, and, where no route
serves, the event of it and the stop. -/
def State.Sent (t u : State) : Prop :=
  ∃ q r l p n w a o c, (mapFind q 0).isSome = (mapFind t.hif.queues 0).isSome ∧
    u = { t with hif := { t.hif with queues := q }, reeve := { t.reeve with lost := r }, evLog := l,
                 fab := { t.fab with ports := p, linked := n }, bud := { t.bud with fabric := w },
                 rec0 := t.rec0.restop a, outbox := o, freeCtr := c }

theorem State.Sent.refl (t : State) : State.Sent t t :=
  ⟨t.hif.queues, t.reeve.lost, t.evLog, t.fab.ports, t.fab.linked, t.bud.fabric, t.rec0.account, t.outbox,
    t.freeCtr, rfl, rfl⟩

theorem State.Sent.trans {t u v : State} (h1 : State.Sent t u) (h2 : State.Sent u v) : State.Sent t v := by
  obtain ⟨q, r, l, p, n, w, a, o, c, h, rfl⟩ := h1
  obtain ⟨q', r', l', p', n', w', a', o', c', h', rfl⟩ := h2
  exact ⟨q', r', l', p', n', w', a', o', c', h'.trans h, rfl⟩

theorem State.Sent.foldl {α : Type} {f : State → α → State} (hf : ∀ s a, State.Sent s (f s a)) (l : List α) (s : State) :
    State.Sent s (l.foldl f s) := by
  induction l generalizing s with
  | nil => exact .refl s
  | cons a t ih => exact (hf s a).trans (ih _)

theorem State.sent_setPort (s : State) (p : Nat) (x : PortReg) : State.Sent s (s.setPort p x) :=
  ⟨s.hif.queues, s.reeve.lost, s.evLog, _, s.fab.linked, s.bud.fabric, s.rec0.account, s.outbox, s.freeCtr, rfl, rfl⟩

theorem State.sent_send (s : State) (m : Msg) : State.Sent s (s.send m) :=
  ⟨s.hif.queues, s.reeve.lost, s.evLog, s.fab.ports, s.fab.linked, s.bud.fabric, s.rec0.account, _, s.freeCtr, rfl,
    rfl⟩

theorem State.sent_chargeFabric (s : State) (p n : Nat) : State.Sent s (s.chargeFabric p n) :=
  ⟨s.hif.queues, s.reeve.lost, s.evLog, s.fab.ports, s.fab.linked, _, s.rec0.account, s.outbox, s.freeCtr, rfl, rfl⟩

theorem State.sent_freeCtr (s : State) (c : Nat) : State.Sent s { s with freeCtr := c } :=
  ⟨s.hif.queues, s.reeve.lost, s.evLog, s.fab.ports, s.fab.linked, s.bud.fabric, s.rec0.account, s.outbox, c, rfl, rfl⟩

theorem State.sent_outbox (s : State) (o : List Msg) : State.Sent s { s with outbox := o } :=
  ⟨s.hif.queues, s.reeve.lost, s.evLog, s.fab.ports, s.fab.linked, s.bud.fabric, s.rec0.account, o, s.freeCtr, rfl,
    rfl⟩

theorem State.sent_linked (s : State) (n : Nat) : State.Sent s { s with fab := { s.fab with linked := n } } :=
  ⟨s.hif.queues, s.reeve.lost, s.evLog, s.fab.ports, n, s.bud.fabric, s.rec0.account, s.outbox, s.freeCtr, rfl, rfl⟩

theorem State.sent_routeNone (s : State) : State.Sent s (raise cRouteNone 0 0 0 s) := by
  obtain ⟨q, r, l, a, o, h0, h⟩ := raise_frame_other (code := cRouteNone) rfl 0 0 0 s
  exact ⟨q, r, l, s.fab.ports, s.fab.linked, s.bud.fabric, a, o, s.freeCtr, h0, h⟩

theorem State.sent_sendCell (s : State) (p : Nat) (b : List Byte) (vc : Nat) : State.Sent s (s.sendCell p b vc) :=
  (s.sent_setPort _ _).trans (State.sent_send _ _)

theorem State.sent_linkTo (m : Msg) (k : MsgKind) (s : State) (d : Nat) : State.Sent s (State.linkTo m k s d) := by
  unfold State.linkTo
  split
  · exact .refl s
  · dsimp only
    refine State.Sent.trans ?_ (State.sent_setPort _ _ _)
    refine State.Sent.trans ?_ (State.sent_freeCtr _ _)
    split
    · exact .refl s
    · exact s.sent_chargeFabric _ _

theorem State.sent_linkMsg (s : State) (m : Msg) : State.Sent s (s.linkMsg m) := by
  unfold State.linkMsg
  split
  · exact s.sent_send m
  · split
    · exact .refl s
    · dsimp only
      split
      · exact (s.sent_send m).trans (.foldl (State.sent_linkTo m _) _ _)
      · exact s.sent_routeNone.trans (.foldl (State.sent_linkTo _ _) _ _)

theorem State.sent_pushTransit (s : State) (p : Nat) : State.Sent s (s.pushTransit p) := by
  unfold State.pushTransit
  refine .foldl (fun s b => ?_) _ _
  split
  · exact .refl s
  · dsimp only
    split
    · exact ((s.sent_setPort _ _).trans (State.sent_sendCell _ _ _ _)).trans (State.sent_send _ _)
    · exact .refl s

theorem State.sent_sendIdle (s : State) (p : Nat) (nak : Bool) (seq : Nat) (cr : List (Nat × Nat)) :
    State.Sent s (s.sendIdle p nak seq cr) := s.sent_send _

theorem State.sent_pushBulk (s : State) (p : Nat) : State.Sent s (s.pushBulk p) := by
  have key : ∀ (l : List (List Byte)) (a : State × List (List Byte)), State.Sent a.1 ((l.foldl (fun (a : State × List (List Byte)) b =>
      if cellDest b ≠ a.1.modNo then a
      else if a.1.bulkWaits a.2 b then (a.1, a.2 ++ [b])
      else
        let s1 := a.1.setPort p { a.1.port p with recv := (a.1.port p).recv.erase b }
        (s1.sendIdle p false (s1.port p).lastRecv [(cellVc b, 1)], a.2)) a).1) := by
    intro l
    induction l with
    | nil => exact fun a => .refl a.1
    | cons b t ih =>
      intro a
      rw [List.foldl_cons]
      refine State.Sent.trans ?_ (ih _)
      split
      · exact .refl a.1
      · split
        · exact .refl a.1
        · exact (a.1.sent_setPort _ _).trans (State.sent_sendIdle _ _ _ _ _)
  exact key _ (s, [])

theorem State.sent_pushOwn (s : State) (p : Nat) : State.Sent s (s.pushOwn p) := by
  have key : ∀ (l : List (List Byte)) (a : State × List Nat), State.Sent a.1 ((l.foldl (fun (a : State × List Nat) b =>
      let vc := cellVc b
      let r := a.1.port p
      if a.2.contains vc || !r.maySend vc then (a.1, vc :: a.2)
      else ((a.1.setPort p { r with wait := r.wait.erase b }).sendCell p b vc, a.2)) a).1) := by
    intro l
    induction l with
    | nil => exact fun a => .refl a.1
    | cons b t ih =>
      intro a
      rw [List.foldl_cons]
      refine State.Sent.trans ?_ (ih _)
      dsimp only
      split
      · exact .refl a.1
      · exact (a.1.sent_setPort _ _).trans (State.sent_sendCell _ _ _ _)
  exact key _ (s, [])

theorem State.sent_pushLinks (s : State) : State.Sent s s.pushLinks :=
  (State.Sent.foldl (fun s i => (s.sent_pushBulk i).trans ((s.pushBulk i).sent_pushTransit i)) _ s).trans (.foldl State.sent_pushOwn _ _)

/-- Everything that putting messages on the links can change. -/
theorem State.sent_flush (base : Nat) (s : State) : State.Sent s (s.flush base) := by
  unfold State.flush
  dsimp only
  split
  · exact .refl s
  · exact (((State.sent_outbox s _).trans (.foldl State.sent_linkMsg _ _)).trans (State.sent_pushLinks _)).trans
      (State.sent_linked _ _)

/-- Where nothing was sent, the links stand as they were. -/
theorem State.flush_quiet {base : Nat} {s : State} (h : s.outbox.length ≤ base) : s.flush base = s := by
  have : s.outbox.drop (max base s.fab.linked) = [] := List.drop_eq_nil_of_le (by omega)
  simp [State.flush, this]

/-! ## What every command leaves -/

/-- Everything that settling can change. -/
theorem State.settle_frame (s t : State) : ∃ q r l p n w a o c,
    s.settle t = { t with hif := { t.hif with queues := q, ready := t.readyNow }, reeve := { t.reeve with lost := r }, evLog := l,
                          fab := { t.fab with ports := p, linked := n }, bud := { t.bud with fabric := w },
                          rec0 := t.rec0.restop a, outbox := o, freeCtr := c,
                          pending := s.pending } := by
  obtain ⟨q, r, l, p, n, w, a, o, c, h0, h⟩ := t.sent_flush s.outbox.length
  refine ⟨q, r, l, p, n, w, a, o, c, ?_⟩
  unfold State.settle
  simp only [h, State.readyNow, h0]

/-- A command that sends nothing leaves its own effect, the queue as it stood and READY. -/
theorem State.settle_quiet {s t : State} (h : t.outbox = s.outbox) :
    s.settle t = { t with pending := s.pending, hif := { t.hif with ready := t.readyNow } } := by
  simp [State.settle, State.flush_quiet (Nat.le_of_eq (congrArg List.length h))]

variable (s t : State)

@[simp] theorem State.settle_cores : (s.settle t).cores = t.cores := by
  obtain ⟨_, _, _, _, _, _, _, _, _, h⟩ := State.settle_frame s t; rw [h]
@[simp] theorem State.settle_bel : (s.settle t).bel = t.bel := by
  obtain ⟨_, _, _, _, _, _, _, _, _, h⟩ := State.settle_frame s t; rw [h]
@[simp] theorem State.settle_run : (s.settle t).run = t.run := by
  obtain ⟨_, _, _, _, _, _, _, _, _, h⟩ := State.settle_frame s t; rw [h]
@[simp] theorem State.settle_tier : (s.settle t).tier = t.tier := by
  obtain ⟨_, _, _, _, _, _, _, _, _, h⟩ := State.settle_frame s t; rw [h]
@[simp] theorem State.settle_rng : (s.settle t).rng = t.rng := by
  obtain ⟨_, _, _, _, _, _, _, _, _, h⟩ := State.settle_frame s t; rw [h]
@[simp] theorem State.settle_granary : (s.settle t).granary = t.granary := by
  obtain ⟨_, _, _, _, _, _, _, _, _, h⟩ := State.settle_frame s t; rw [h]
@[simp] theorem State.settle_smithy : (s.settle t).smithy = t.smithy := by
  obtain ⟨_, _, _, _, _, _, _, _, _, h⟩ := State.settle_frame s t; rw [h]
@[simp] theorem State.settle_tables : (s.settle t).tables = t.tables := by
  obtain ⟨_, _, _, _, _, _, _, _, _, h⟩ := State.settle_frame s t; rw [h]
@[simp] theorem State.settle_sur : (s.settle t).sur = t.sur := by
  obtain ⟨_, _, _, _, _, _, _, _, _, h⟩ := State.settle_frame s t; rw [h]
@[simp] theorem State.settle_smp : (s.settle t).smp = t.smp := by
  obtain ⟨_, _, _, _, _, _, _, _, _, h⟩ := State.settle_frame s t; rw [h]
@[simp] theorem State.settle_maint : (s.settle t).maint = t.maint := by
  obtain ⟨_, _, _, _, _, _, _, _, _, h⟩ := State.settle_frame s t; rw [h]
@[simp] theorem State.settle_pwr : (s.settle t).pwr = t.pwr := by
  obtain ⟨_, _, _, _, _, _, _, _, _, h⟩ := State.settle_frame s t; rw [h]
@[simp] theorem State.settle_unitsEff : (s.settle t).unitsEff = t.unitsEff := by
  obtain ⟨_, _, _, _, _, _, _, _, _, h⟩ := State.settle_frame s t; rw [h]
@[simp] theorem State.settle_audit : (s.settle t).audit = t.audit := by
  obtain ⟨_, _, _, _, _, _, _, _, _, h⟩ := State.settle_frame s t; rw [h]
@[simp] theorem State.settle_auditNext : (s.settle t).auditNext = t.auditNext := by
  obtain ⟨_, _, _, _, _, _, _, _, _, h⟩ := State.settle_frame s t; rw [h]
@[simp] theorem State.settle_hostMem : (s.settle t).hostMem = t.hostMem := by
  obtain ⟨_, _, _, _, _, _, _, _, _, h⟩ := State.settle_frame s t; rw [h]
@[simp] theorem State.settle_pending : (s.settle t).pending = s.pending := by
  obtain ⟨_, _, _, _, _, _, _, _, _, h⟩ := State.settle_frame s t; rw [h]
@[simp] theorem State.settle_ready : (s.settle t).hif.ready = t.readyNow := by
  obtain ⟨_, _, _, _, _, _, _, _, _, h⟩ := State.settle_frame s t; rw [h]
@[simp] theorem State.settle_enable : (s.settle t).hif.enable = t.hif.enable := by
  obtain ⟨_, _, _, _, _, _, _, _, _, h⟩ := State.settle_frame s t; rw [h]
@[simp] theorem State.settle_session : (s.settle t).hif.session = t.hif.session := by
  obtain ⟨_, _, _, _, _, _, _, _, _, h⟩ := State.settle_frame s t; rw [h]
@[simp] theorem State.settle_reeve_mode : (s.settle t).reeve.mode = t.reeve.mode := by
  obtain ⟨_, _, _, _, _, _, _, _, _, h⟩ := State.settle_frame s t; rw [h]
@[simp] theorem State.settle_stopped : (s.settle t).rec0.stopped = t.rec0.stopped := by
  obtain ⟨_, _, _, _, _, _, _, _, _, h⟩ := State.settle_frame s t; rw [h]; rfl
@[simp] theorem State.core_settle (c : CoreId) : (s.settle t).core c = t.core c := by simp [State.core]

/-- Queue 0 stands or is absent as the command left it. -/
@[simp] theorem State.settle_queueZero : (mapFind (s.settle t).hif.queues 0).isSome = (mapFind t.hif.queues 0).isSome := by
  obtain ⟨q, r, l, p, n, w, a, o, c, h0, h⟩ := t.sent_flush s.outbox.length
  simp only [State.settle, h, h0]

/-- READY as every command leaves it. -/
theorem State.settle_readyNow : (s.settle t).readyNow = t.readyNow := by simp [State.readyNow]

@[simp] theorem State.settleOut_next : s.settleOut (.next t) = .next (s.settle t) := rfl

end Sys2Proof.Machine
end

