-- ==== Sys2Proof/Laws/Exec.lean ====
section
/-! SUPPORT. What every command leaves: the queue as it stood, and READY as the state says. -/

namespace Sys2Proof.Machine

theorem State.settleOut_eq_next {s t : State} {o : Host.Outcome State Fault Refusal} (h : s.settleOut o = .next t) :
    ∃ u, o = .next u ∧ t = s.settle u := by
  cases o with
  | next u => exact ⟨u, rfl, (Host.Outcome.next.inj h).symm⟩
  | fault f => cases h
  | refused r => cases h

/-- Every next state of a command is a settled one. -/
theorem exec_settles {c : Instr} {s t : State} (h : exec c s = .next t) : ∃ u, t = s.settle u := by
  cases c
  case hbmReadComplete w o b => obtain ⟨u, -, hu⟩ := State.settleOut_eq_next h; exact ⟨u, hu⟩
  case frameRetirement f => obtain ⟨u, -, hu⟩ := State.settleOut_eq_next h; exact ⟨u, hu⟩
  all_goals exact ⟨_, (Host.Outcome.next.inj h).symm⟩

end Sys2Proof.Machine
end

