-- ==== Sys2Proof/Laws/Issue.lean ====
section
/-! SUPPORT. What the issue of a bundle can do, said once. -/

namespace Sys2Proof.Machine

/-- Everything the issue of a bundle can do: no thread; the thread may not issue or must wait; a fault; or the whole bundle. -/
theorem issueBundle_cases (c : CoreId) (t : ThreadId) (b : Bundle) (s : State) :
    (issueBundle c t b s = s ∧ (s.core c).thread t = none) ∨
    ∃ th, (s.core c).thread t = some th ∧
      ((issueBundle c t b s = s ∧ (s.rec0.stopped = true ∨ th.stopped = true ∨ th.held.isSome = true ∨
          (b.illegal th = false ∧ (waitcHolds (s.core c) th b = false ∨ queuesReady s (s.core c) b = false)) ∨
          (issueFault s (s.core c) th b = none ∧ nextBundle b th (s.core c).lenAt = none))) ∨
       (∃ f, issueFault s (s.core c) th b = some f ∧ issueBundle c t b s = faultBundle c t th f s) ∨
       (∃ loops next, issueFault s (s.core c) th b = none ∧ nextBundle b th (s.core c).lenAt = some (loops, next) ∧
         issueBundle c t b s = s.setCore c (executeBundle s.unitsEff t th b loops next (s.core c)))) := by
  cases hth : (s.core c).thread t with
  | none => left; simp [issueBundle, hth]
  | some th =>
    right
    refine ⟨th, rfl, ?_⟩
    by_cases hs : (s.rec0.stopped || th.stopped || th.held.isSome) = true
    · left
      refine ⟨by simp [issueBundle, hth, hs], ?_⟩
      simp only [Bool.or_eq_true] at hs
      tauto
    · by_cases hw : (!b.illegal th && !(waitcHolds (s.core c) th b && queuesReady s (s.core c) b)) = true
      · left
        refine ⟨by simp only [issueBundle, hth, hs, hw]; simp, ?_⟩
        simp only [Bool.and_eq_true, Bool.not_eq_true', Bool.and_eq_false_iff] at hw
        tauto
      · cases hf : issueFault s (s.core c) th b with
        | some f => right; left; exact ⟨f, rfl, by simp only [issueBundle, hth, hs, hw, hf]; simp⟩
        | none =>
          cases hn : nextBundle b th (s.core c).lenAt with
          | none => left; exact ⟨by simp only [issueBundle, hth, hs, hw, hf, hn]; simp, by simp⟩
          | some p =>
            obtain ⟨loops, next⟩ := p
            right; right
            exact ⟨loops, next, rfl, rfl, by simp only [issueBundle, hth, hs, hw, hf, hn]; simp⟩

/-- A bundle that may issue, need not wait, meets no fault and knows its successor issues whole (R93). -/
theorem issueBundle_whole {c : CoreId} {t : ThreadId} {b : Bundle} {s : State} {th : Thread} {loops : List LoopLevel}
    {next : W64} (ht : (s.core c).thread t = some th) (hr : s.rec0.stopped = false) (hs : th.stopped = false)
    (hh : th.held = none) (hf : issueFault s (s.core c) th b = none) (hw : waitcHolds (s.core c) th b = true)
    (hq : queuesReady s (s.core c) b = true) (hn : nextBundle b th (s.core c).lenAt = some (loops, next)) :
    issueBundle c t b s = s.setCore c (executeBundle s.unitsEff t th b loops next (s.core c)) := by
  simp [issueBundle, ht, hr, hs, hh, hf, hw, hq, hn]

/-- A bundle that need not wait and meets a fault executes no slot (R128). -/
theorem issueBundle_fault {c : CoreId} {t : ThreadId} {b : Bundle} {s : State} {th : Thread} {f : IssueFault}
    (ht : (s.core c).thread t = some th) (hr : s.rec0.stopped = false) (hs : th.stopped = false) (hh : th.held = none)
    (hw : b.illegal th = true ∨ (waitcHolds (s.core c) th b = true ∧ queuesReady s (s.core c) b = true))
    (hf : issueFault s (s.core c) th b = some f) : issueBundle c t b s = faultBundle c t th f s := by
  obtain hw | ⟨hw, hq⟩ := hw
  · simp [issueBundle, ht, hr, hs, hh, hf, hw]
  · simp [issueBundle, ht, hr, hs, hh, hf, hw, hq]

end Sys2Proof.Machine
end

