-- ==== Sys2Proof/Tests/Slice0.lean ====
section
/-! SUPPORT. Tests: ill-formed commands that the check refuses; the spec's worked examples and single commands on small states, with
results taken from the spec or computed from it by hand; and for every statement with hypotheses states and operands that meet
them. -/

namespace Sys2Proof.Tests
set_option Elab.async false
open Sys2Proof Sys2Proof.Machine Sys2Proof.Claims

/-! # Helpers -/

/-- The state that a command leaves. -/
def ran (i : Instr) (s : State) : State := match exec i s with
  | .next t => t
  | _ => s

/-- Bytes of numbers. -/
def bytes (l : List Nat) : List Byte := l.map (BitVec.ofNat 8)
/-- Numbers of bytes. -/
def nums (l : List Byte) : List Nat := l.map BitVec.toNat

/-- A task without detour, at local-store base 0x100. -/
def task : TaskCtx := ⟨0, 7, 0x100, 0, 0, none, []⟩
/-- A thread that runs it, with s1 = 5, s2 = −3, a1 = 64. -/
def thread : Thread := { task := task, first := true, vctx := some 0, pc := 0x20000, s := [(1, 5), (2, -3)], a := [(1, 64)],
                         loops := [], pend := [], held := none, stopped := false }
/-- Core 0 of the module after reset replaced. -/
def with0 (k : Core) : State := State.reset.setCore 0 k
/-- The module with a thread as thread 0 of core 0. -/
def busy (th : Thread) : State := with0 { Core.reset with threads := [(0, th)] }
/-- Thread 0 of core 0. -/
def thr (s : State) : Option Thread := (s.core 0).thread 0
/-- Scalar register `r` of thread 0 of core 0. -/
def sOf (s : State) (r : SReg) : Option W64 := (thr s).map fun t => t.getS r
/-- Results in flight of thread 0 of core 0. -/
def pendOf (s : State) : Option (List PendReg) := (thr s).map Thread.pend
/-- Program address of thread 0 of core 0. -/
def pcOf (s : State) : Option W64 := (thr s).map Thread.pc

/-- The module with a session open. -/
def opened : State := { State.reset with hif := { Hif.reset with session := true } }
/-- A state whose ports are out of BYPASS and not yet UP, so that what the module sends waits for its link. -/
def linked (s : State) : State :=
  { s with fab := { s.fab with ports := (List.range 6).map fun p => (p, { s.port p with bypass := false, state := .down }) } }
/-- PARAMS that hold these values at these offsets, in these sizes, and 0 elsewhere. -/
def laid (fields : List (Nat × Nat × Nat)) : List Byte :=
  fields.foldl (fun b f => b.take f.1 ++ bytesOfNat f.2.1 f.2.2 ++ b.drop (f.1 + f.2.1)) (List.replicate 48 0)
/-- A packet of queue 0: its first, with TAG 9, no flags and no RADDR, and these parameters. -/
def asking (op : Nat) (fields : List (Nat × Nat × Nat)) : PktHdr := ⟨0, 0, 9, 0, 0, BitVec.ofNat 16 op, laid fields⟩
/-- A packet of queue 0, without parameters. -/
def pkt : PktHdr := asking 0x0005 []
/-- The packet that spells a command. -/
def spelt (f : PktHdr → Instr) : PktHdr := asking (spelling (f pkt)).1 (spelling (f pkt)).2
/-- A queue pair that holds that packet in progress. -/
def pair : QPair := ⟨0x1000, 4, 0x2000, 4, 3, 0, 0, 0, 0, true, false, none, false, [pkt], [], [], []⟩
/-- The state with queue 0 alone, which holds the packet of a command. -/
def offered (f : PktHdr → Instr) (s : State) : State :=
  { s with hif := { s.hif with queues := [(0, { pair with progress := [spelt f] })] } }
/-- What a command leaves, its packet being there. -/
def asked (f : PktHdr → Instr) (s : State) : State := ran (f (spelt f)) (offered f s)
/-- The module with a session open and that queue. -/
def served : State := { opened with hif := { opened.hif with queues := [(0, pair)] } }
/-- Status and results of the replies that wait in queue 0. -/
def replies (s : State) : List (Nat × Nat × Nat × Nat) := match mapFind s.hif.queues 0 with
  | some q => q.replies.map fun r => (r.status, r.r0, r.r1, r.r2)
  | none => []

/-! # Ill-formed commands -/

theorem test_wf_mark_block : (Instr.mark 0 [] 0 0).wf = false := by decide
theorem test_wf_cell_size : (Instr.cellReceive 0 ⟨[], (0, 0)⟩).wf = false := by decide
theorem test_wf_idle_size : (Instr.idleBlock 0 ⟨[], (0, 0)⟩).wf = false := by decide
theorem test_wf_hbm_word : (Instr.hbmReadComplete (BitVec.ofNat _ (10485760 * 2048)) 0 ⟨none, false⟩).wf = false := by decide
theorem test_wf_hbm_outcome : (Instr.hbmReadComplete 0 3 ⟨none, false⟩).wf = false := by decide
theorem test_wf_frame : (Instr.frameRetirement (BitVec.ofNat _ 10485760)).wf = false := by decide
theorem test_wf_read_crosses_page : (Instr.readReq 0 65535 2 0 false none).wf = false := by decide
theorem test_wf_read_nothing : (Instr.readData 0 0 [] ⟨false, none⟩).wf = false := by decide
theorem test_wf_write_crosses_page : (Instr.write 0 131071 [1, 2] 0).wf = false := by decide
theorem test_wf_xsend_nothing : (Instr.xsendData 0 0 [] 0 none).wf = false := by decide
theorem test_wf_move_piece : (Instr.movePiece 0 0 0 ⟨[], []⟩ 0).wf = false := by decide
theorem test_wf_parity_page : (Instr.parityDelta 0 0 [] 0).wf = false := by decide
theorem test_wf_rebuild_page : (Instr.pageRebuild 0 [] []).wf = false := by decide
theorem test_wf_scrub_page : (Instr.scrubPoisonRebuild 0 [] []).wf = false := by decide
theorem test_wf_shard_page : (Instr.shardRebuild 0 [(0, [])] none []).wf = false := by decide
theorem test_wf_parity_sums : (Instr.parityBuild [(0, [])] true).wf = false := by decide
theorem test_wf_class : (Instr.recoveryStepAnnounce [] [6]).wf = false := by decide
theorem test_wf_aperture_nothing : (Instr.apertureRead 0 0).wf = false := by decide
theorem test_wf_aperture_end : (Instr.apertureWrite (BitVec.ofNat _ (2 ^ 40 - 1)) [1, 2]).wf = false := by decide
theorem test_wf_samples : (Instr.entropyBlockReady []).wf = false := by decide
theorem test_wf_challenge : (Instr.spdmChallenge 0 []).wf = false := by decide
theorem test_wf_measurements : (Instr.spdmGetMeasurements 0 false []).wf = false := by decide
theorem test_wf_table_sum : (Instr.tableAddApply 0 0 0 [some (2 ^ 63)] 0 0).wf = false := by decide
theorem test_wf_accepts : (Instr.bellTick).wf = true ∧ (Instr.readReq 0 65535 1 0 false none).wf = true := by decide

/-- The table gives no row bits, so no word spells a command. -/
theorem test_no_table_words : decodeTableWord 32 5 = none ∧ (State.reset.withFetchWord 32 5) = State.reset := by decide

/-! # The spec's worked examples -/

/-- Example 01-1: the enable set 0x0A gives 7 queues of 208 and GEN_UNITS 0x00D0_070A. -/
theorem test_example_01_1 : queueCount 0xA = 7 ∧ queueDepth 0xA = 208 ∧
    ({ State.reset with unitsEff := 0xA }).readReg 0x10 = 0x00D0070A := by decide

/-- Example 02-1: two passes renormalise and compensate, and the split drain gives 130 and 17,919. -/
theorem test_example_02_1 :
    let a := (A48.add ⟨0x3FFFFFF00037A5C3, -31⟩ (some 0x123) 1).1
    let b := (A48.add a (some 5) (-40)).1
    a = ⟨0x004122FFF00037A5, -23⟩ ∧ b = ⟨0x004122FFF00037A7, -23⟩ ∧
    drainWord ⟨0, 32768, legUnused, 8, 0, ⟨0, 0, 0, 0⟩⟩ true 0 0 b = ((130, NumCount.none), (17919, NumCount.none)) := by decide

/-- The activation row and the weight column of Example 02-2. -/
def row02 : List Elem := List.replicate 16 ⟨some 100, 0⟩ ++ List.replicate 16 ⟨some (-50), 0⟩ ++
  List.replicate 16 ⟨some 127, -4⟩ ++ List.replicate 16 ⟨some 0, -4⟩
def col02 : List Elem := List.replicate 32 ⟨some 3, -1⟩ ++ List.replicate 16 ⟨some (-7), 2⟩ ++ List.replicate 16 ⟨some 5, 2⟩

/-- Example 02-2, steps 1 to 5: the pass sum, the product legend and the nine stored bytes. -/
theorem test_example_02_2_pass : outputSum row02 col02 (fun _ => 0) = (some (-9424), -2) ∧
    prodLegend ⟨.b8, -6, 32768, 0, false, 0⟩ ⟨.b4, -3, 49152, 0, false, 0⟩ = ⟨-9, 49152⟩ ∧
    nums ((A48.add A48.zero (some (-9424)) (-2)).1).toBytes = [0, 0, 0, 0, 0, 0, 0x66, 0xFB, 0xE1] := by decide

/-- The element of Example 02-2 under I8 with exponent `T`. -/
def x02 (T : Int) : Option Q := Elem.x0 ⟨.i32, -17, 49152, 0, false, 0⟩ ⟨.i8, T, 32768, 0, false, 0⟩ ⟨some (-603136), 0⟩

/-- Example 02-2, step 7: nearest-even gives −110; 4 random bits up to 8 give −110 and 9 gives −111; 3 bits up to 3 give −110. -/
theorem test_example_02_2_narrow : (narrowOne .i8 false 0 0 (x02 (-4))).1 = some (-110) ∧
    (narrowOne .i8 false 1 8 (x02 (-4))).1 = some (-110) ∧ (narrowOne .i8 false 1 9 (x02 (-4))).1 = some (-111) ∧
    (narrowOne .i8 false 2 3 (x02 (-4))).1 = some (-110) ∧ (narrowOne .i8 false 2 4 (x02 (-4))).1 = some (-111) := by decide

/-- Example 02-3: out of range is OVF, counted once, or saturates. -/
theorem test_example_02_3 : narrowOne .i8 false 0 0 (x02 (-5)) = (none, ⟨0, 1⟩) ∧
    narrowOne .i8 true 0 0 (x02 (-5)) = (some (-127), ⟨1, 0⟩) := by decide

/-- The detour entry of Example 04-1. -/
def detour04 : Detour := (AlmSlot.mk (Memory.writeBytes [] 0
  (bytes [0x25, 0x26, 0xFF, 0xFF, 0, 0, 0x10, 0, 0, 0, 8, 0, 0x4E, 0x30, 8, 1])) 16).detourRule 0

/-- Example 04-1: CORE_STATUS of both cores, and what a task of core 37 reaches on core 38. -/
theorem test_example_04_1 :
    let t : TaskCtx := ⟨0, 0, 0x4000, 912, 0, some detour04, []⟩
    Core.statusWord { Core.reset with detour := some detour04, regs := { CoreRegs.reset with retired := true, retireCause := 2 } }
      = 0x02260003 ∧
    Core.statusWord { Core.reset with regs := { CoreRegs.reset with hosting := true } } = 4 ∧
    t.lsAddr 0x200 4 = some 0x104200 ∧ t.ctr 20 = 4 ∧ t.stReg 10 = 2 ∧ t.vreg 1 = 3 ∧ t.bankOf false = true := by decide

/-- Example 05-2: the bundles B8, B12 and B14. -/
theorem test_example_05_2 :
    decodeBundle (bytes [1, 0, 0x0C, 0x40, 0, 0xC4]) = some ⟨some (.loopi 4 12), none, none, none, none, none, 6⟩ ∧
    decodeBundle (bytes [0x12, 0, 0, 4, 0x10, 9, 0, 0x10, 0x49, 0x82]) =
      some ⟨none, some (.aaddi 4 4 1024), none, none, some (0x41, 0x0491000), none, 10⟩ ∧
    VM.ofBits 0x0491000 = ⟨2, 4, 2, 4, 0⟩ ∧
    decodeBundle (bytes [0x20, 0, 0x50, 4, 0x21, 2, 0x38, 4]) =
      some ⟨none, none, none, none, none, some ⟨1, 3, 2, false, 1, 4, 1, 0x0450⟩, 8⟩ := by decide

/-- Example 06-1: the leaves of row 7 overflow in the fixed order, once; row 3 becomes 45. -/
theorem test_example_06_1 :
    let leaf (v : Int) : SrcEl × Nat := (.int ⟨some v, 0⟩, 0)
    (reduceTree (addEls .i32) [leaf 2000000000, leaf 200000000, leaf (-150000000)]).map (addEls .i32 (leaf 100)) =
      some (.int ⟨none, 0⟩, 1) ∧
    (reduceTree (addEls .i32) [leaf 5]).map (addEls .i32 (leaf 40)) = some (leaf 45) := by decide

/-- Example 06-2: the tile's header. -/
theorem test_example_06_2 :
    (TileHdr.ofNat (natOfBytes (bytes [2, 1, 0x40, 0x40, 0, 0xB0, 4, 0, 0xC0, 6, 0, 0, 0, 0, 0, 0]))).map
      (fun h => (nums (bytesOfNat 16 h.toNat)).take 10) = some [2, 1, 0x40, 0x40, 0, 0xB0, 4, 0, 0xC0, 6] ∧
    tileBytes .i8 1 64 64 1200 = 0x6C0 ∧ tileBytes .i8 0 64 64 1200 = 4112 := by decide

/-- Example 07-1: VLOG of 8 is 8,517 and VRSQRT of 8 is 11,585, or 11,586 in 3 of 16 draws. -/
theorem test_example_07_1 :
    let y (v : Option Q) (T : Int) (round word : Nat) : Option Code :=
      v.map fun v => (narrowOne .i16 false round word (some (v.toLegend ⟨.i16, T, 32768, 0, false, 0⟩))).1
    y (logValue 8 0 32768) (-12) 0 0 = some (some 8517) ∧ y (rsqrtValue 8 0 32768) (-15) 0 0 = some (some 11585) ∧
    y (rsqrtValue 8 0 32768) (-15) 1 2 = some (some 11586) ∧ y (rsqrtValue 8 0 32768) (-15) 1 3 = some (some 11585) := by decide

/-- Example 08-1: the directory module of page 0x10 is 227, and the words of the two entries. -/
theorem test_example_08_1 : dirModule 256 0x10 = 227 ∧
    (XEntry.mk .pool true false false false false 0 12 0 false).toNat = 0xB00000000000000C ∧
    (XEntry.mk .local true false false false false 0x2A31 0 0 false).toNat = 0x9000000000002A31 := by decide

/-- A module of an 8×8×4 machine that knows some modules dead. -/
def at09 (x y z : Nat) (dead : List Nat) : State :=
  { State.reset with fab := { Fab.reset with pos := some ⟨8, 8, 4, x, y, z⟩, dead := dead } }

/-- Example 09-1: the first ports on the primary route, with module 35 in bypass, and the hops with module 4 in bypass. -/
theorem test_example_09_1 : (at09 5 0 0 []).modNo = 5 ∧ (at09 5 0 0 []).route 227 = some 1 ∧ (at09 3 0 0 []).route 227 = some 2 ∧
    (at09 3 4 0 []).route 227 = some 5 ∧ (at09 5 0 0 [35]).route 227 = some 5 ∧ (at09 5 0 3 [35]).route 227 = some 1 ∧
    (at09 5 0 0 [4]).hops (5, 0, 0) 0 5 3 false = 1 ∧ (at09 5 0 0 [4]).hops (5, 0, 0) 0 5 3 true = 6 := by decide

/-- Example 09-2: the nodes of six leaves, and their tree. -/
theorem test_example_09_2 : isNode 0 2 6 = true ∧ isNode 2 2 6 = true ∧ isNode 4 2 6 = true ∧ isNode 0 4 6 = true ∧
    isNode 0 3 6 = false ∧
    reduceTree (fun a b => [9] ++ a ++ b) [[0], [1], [2], [3], [4], [5]] = some [9, 9, 9, 0, 1, 9, 2, 3, 9, 4, 5] := by decide

/-- Example 10-3: two choices are dropped, and EXTENT is (0, 2, 4). -/
theorem test_example_10_3 :
    let r : SurReq := { SurReq.of [] with kind := 1, hops := 2, count := 3, experts := 2, capacity := 2 }
    let d := dispatch r [1, 0, 0, 1, 1, 1] [0, 0, 0, 0, 0, 0]
    d.2 = (2, 0) ∧ (d.1.getD 2 none).map nums = some [0, 0, 0, 0, 2, 0, 0, 0, 4, 0, 0, 0] := by decide

/-- Example 12-2: the addresses of the rows of both components. -/
theorem test_example_12_2 : rowsPerPage 136 = 481 ∧ rowAddr 0 136 45776 = 0x5F2B08 ∧ rowAddr 0 136 24187 = 0x3248C8 := by decide

/-- Example 13-1: a known answer of the generator. -/
theorem test_example_13_1 : philox 0 0 0 0 0 0 = [0x6627E8D5, 0xE169C58D, 0xBC57AC4C, 0x9B00DBD8] := by decide

/-- Example 13-2: the weights of the tokens and the draw among them. -/
theorem test_example_13_2 :
    let l : Legend := ⟨.i32, -16, 32768, 0, false, 0⟩
    sampleWeight l 4096 0 = 2 ^ 32 ∧ sampleWeight l 4096 (-45426) = 2 ^ 31 ∧ sampleWeight l 4096 (-90852) = 2 ^ 30 ∧
    topPrefix (58982 * (11 * 2 ^ 30)) 0 [⟨0, 2 ^ 32⟩, ⟨2, 2 ^ 32⟩, ⟨1, 2 ^ 31⟩, ⟨3, 2 ^ 30⟩] =
      [⟨0, 2 ^ 32⟩, ⟨2, 2 ^ 32⟩, ⟨1, 2 ^ 31⟩] ∧
    drawn 8724152320 0 [⟨0, 2 ^ 32⟩, ⟨2, 2 ^ 32⟩, ⟨1, 2 ^ 31⟩] = some ⟨1, 2 ^ 31⟩ := by decide

/-- The ledger of Example 15-1: register 0x40 has been written 999,999 times. -/
def worn : State := { served with reeve := { Reeve.reset with ledger := { Ledger.reset with wear := [(0x40, 999999)] } } }

/-- Example 15-1: the write that reaches the limit, the same again, and one refused. -/
theorem test_example_15_1 :
    let a := ran .ledgerWriteDurable (asked (.ledgerWrite · 0x40 0x12345678) worn)
    a.wearWord 0x40 = 0x1F4240 ∧ a.ledger 0x40 = 0x12345678 ∧ replies a = [(0, 0, 0, 0)] ∧
    replies (asked (.ledgerWrite · 0x40 0x12345678) a) = [(0, 0, 0, 0)] ∧
    replies (asked (.ledgerWrite · 0x40 0x12345679) a) = [(0x11, 0, 0, 0)] ∧
    (asked (.ledgerWrite · 0x40 0x12345679) a).ledger 0x40 = 0x12345678 := by decide

/-- Example 16-1: holders and parity pages of the ten pages of member 3, and the rebuilt word. -/
theorem test_example_16_1 :
    (List.range 10).map (fun k => (stripeOf 8 3 k % 8, stripeOf 8 3 k / 8)) =
      [(0, 0), (1, 0), (2, 0), (4, 0), (5, 0), (6, 0), (7, 0), (0, 1), (1, 1), (2, 1)] ∧
    nums (subWords (bytesOfNat 8 5) (bytesOfNat 8 9)) = [0xFC, 0xFF, 0xFF, 0xFF, 0xFF, 0xFF, 0xFF, 0xFF] := by decide

/-- Codes of a row as its bytes. -/
def rowBytes (w : Nat) (l : List Int) : List Byte := l.flatMap fun x => bytesOfNat w (lowBits (8 * w) x)

/-- Example 11-2: the momentum update of row 5. -/
theorem test_example_11_2 :
    updateRow { Upd.of [] with kind := 1, elems := 4, lrQ := 1, lrT := -10, b1 := 58982 }
      ⟨⟨.i16, -14, 32768, 0, true, 0⟩, ⟨.i32, -20, 32768, 0, false, 0⟩, some ⟨.i16, -12, 32768, 0, true, 0⟩, none⟩ ⟨0, 0, 0, 0⟩
      ⟨0, 0, 0, 0, 5, 5⟩ (rowBytes 2 [8192, -4096, 100, 0]) (rowBytes 2 [4096, 0, -2048, 0]) []
      (rowBytes 4 [1048576, 524288, 0, 0]) =
    .new (rowBytes 2 [8162, -4104, 107, 0]) (rowBytes 2 [7782, 2048, -1843, 0]) [] := by decide

/-- Example 04-1: a V instruction of a detoured task that names context 1 goes to context 3, translated once (R113). -/
theorem test_detoured_context :
    let t : TaskCtx := ⟨0, 0, 0x4000, 912, 0, some detour04, []⟩
    let i : TaskInst := ⟨t, 0x25, 0, 0, false, ⟨0x20000, 0, 0, 1, 0x81, 0, 912, 0⟩, ⟨0, 0, 0, 0, 0⟩, .eligible, 0⟩
    i.context = some 3 ∧ (enqueueAll 0 0 { thread with task := t, vctx := i.context } ⟨none, none, none, none, some (1, 0), none, 6⟩
      Core.reset).queue 2 = ⟨[.vec 3 (vInstrOf 0 { thread with task := t, vctx := i.context } (1, 0))], none⟩ := by decide

/-! # Single commands -/

theorem test_add_wraps : sOf (ran (.add 0 0 3 1 2) (busy thread)) 3 = some 2 := by decide
theorem test_sub_order : sOf (ran (.sub 0 0 3 1 2) (busy thread)) 3 = some 8 := by decide
theorem test_div_floor : pendOf (ran (.div 0 0 3 1 2) (busy thread)) = some [⟨.s 3, -2, 17⟩] := by decide
theorem test_mod_sign : pendOf (ran (.mod 0 0 3 1 2) (busy thread)) = some [⟨.s 3, -1, 17⟩] := by decide
theorem test_div_by_zero : pendOf (ran (.div 0 0 3 1 9) (busy thread)) = some [⟨.s 3, 0, 17⟩] := by decide
theorem test_mulh_signed : pendOf (ran (.mulh 0 0 3 1 2) (busy thread)) = some [⟨.s 3, -1, 3⟩] := by decide
theorem test_slt_sltu : sOf (ran (.slt 0 0 3 2 1) (busy thread)) 3 = some 1 ∧ sOf (ran (.sltu 0 0 3 2 1) (busy thread)) 3 = some 0 := by
  decide
theorem test_sra_rounds_down : sOf (ran (.srai 0 0 3 2 1) (busy thread)) 3 = some (-2) := by decide
theorem test_shift_amount_is_low_bits : sOf (ran (.shli 0 0 3 1 65) (busy thread)) 3 = some 10 := by decide
theorem test_li_sign : sOf (ran (.li 0 0 3 0x8000) (busy thread)) 3 = some (-32768) := by decide
theorem test_lis_appends : sOf (ran (.lis 0 0 1 0xABCD) (busy thread)) 1 = some 0x5ABCD := by decide
theorem test_andi_zero_extends : sOf (ran (.andi 0 0 3 2 0xFFFF) (busy thread)) 3 = some 0xFFFD := by decide
theorem test_blt_signed : pcOf (ran (.blt 0 0 2 1 0xFFFE) (busy thread)) = some 0x1FFFC ∧
    pcOf (ran (.bltu 0 0 2 1 0xFFFE) (busy thread)) = some 0x20006 := by decide
theorem test_jr_clears_bit0 : pcOf (ran (.jr 0 0 1) (busy thread)) = some 4 := by decide

/-- The local store around task offset 64 of the task: bytes 0x80, 0x81, 0x82, 0x83. -/
def stocked : State := with0 { Core.reset with threads := [(0, thread)], ls := Memory.writeBytes [] 0x140 (bytes [0x80, 0x81, 0x82, 0x83]) }

theorem test_ld8s_sign : pendOf (ran (.ld8s 0 0 1 4 0) stocked) = some [⟨.s 4, -128, 3⟩] := by decide
theorem test_ld16u_little_endian : pendOf (ran (.ld16u 0 0 1 4 1) stocked) = some [⟨.s 4, 0x8281, 3⟩] := by decide
theorem test_st16_bytes : ((ran (.st16 0 0 1 2 2) stocked).core 0).ls.readBytes 0x13F 6 = bytes [0, 0x80, 0x81, 0xFD, 0xFF, 0] := by
  decide
theorem test_stw_holds : (thr (ran (.stw 0 0 3 0 1) (busy thread))).map (fun t => t.held.isSome) = some true ∧
    ((ran (.descriptorWriteEffect 0 0) (ran (.stw 0 0 3 0 1) (busy thread))).core 0).desc 3 = { Desc.zero with base := 5 } := by decide
theorem test_loopi_opens : (thr (ran (.loopi 0 0 3 6) (busy thread))).map Thread.loops = some [⟨0x20006, 0x2000C, 3, 3⟩] := by decide
theorem test_end_frees : thr (ran (.end_ 0 0) (busy thread)) = none := by decide
theorem test_addc_wraps : ((ran (.addc 0 0 5 0xFFFF) (ran (.setc 0 0 5 1) (busy thread))).core 0).counter 5 = 4 := by decide
theorem test_waitc_holds : pcOf (ran (.waitc 0 0 5 1 false 1) (busy thread)) = some 0x20000 ∧
    pcOf (ran (.waitc 0 0 5 2 false 1) (busy thread)) = some 0x20000 ∧
    pcOf (ran (.waitc 0 0 5 2 false 0) (busy thread)) = some 0x20006 := by decide

/-- COND 0b11 of WAITC, field 9 of STW and images of STLD past st15 raise ILLEGAL_OP, and the bundle does nothing else (R128, R133,
R140). -/
theorem test_illegal_fields :
    let stops (i : Instr) : Prop := (thr (ran i (busy thread))).map (fun t => (t.stopped, t.pc, t.held)) = some (true, 0x20000, none)
    stops (.waitc 0 0 5 3 false 1) ∧ stops (.stw 0 0 3 9 1) ∧ stops (.stld 0 0 15 1 1 0) ∧ ¬ stops (.stw 0 0 3 8 1) := by decide

/-- A tick moves FRAME_NO, modulo 2^48. -/
theorem test_tick : (ran .bellTick State.reset).bel.frame = 1 ∧
    (ran .bellTick { State.reset with bel := { Bel.reset with frame := 2 ^ 48 - 1 } }).bel.frame = 0 := by decide +kernel
/-- BROWN_OUT acts below 38.0 V only (R494). -/
theorem test_brown_out : (ran (.brownOut 38000) State.reset).pwr.domain = .running ∧
    (ran (.brownOut 37999) State.reset).pwr.domain = .standby := by decide
/-- A trip holds until 48 V has been away (R497). -/
theorem test_trip : (ran (.coldStart true [] []) (ran (.thermTrip ⟨48000, 0, 0, 0, 105, 0, 0, 0⟩) State.reset)).pwr.domain = .standby ∧
    (ran (.coldStart false [] []) (ran (.standbyLoss 0) (ran (.thermTrip ⟨48000, 0, 0, 0, 105, 0, 0, 0⟩) State.reset))).pwr.domain = .standby ∧
    (ran (.coldStart true [] []) (ran (.standbyLoss 0) (ran (.thermTrip ⟨48000, 0, 0, 0, 105, 0, 0, 0⟩) State.reset))).pwr.cause = 2 := by
  decide
/-- A command that needs a session answers INVALID_PARAM without one (R435). -/
theorem test_session : replies (asked (.stepStatus ·) State.reset) =
    [(0x15, 0, 0, 0)] ∧ (replies (asked (.stepStatus ·) served)).map Prod.fst = [0] := by decide
/-- BUDGET_SET takes 1 to 256 (R61). -/
theorem test_budget_set : (replies (asked (.budgetSet · 0 0) served)).map Prod.fst = [0x15] ∧
    (replies (asked (.budgetSet · 0 256) served)).map Prod.fst = [0] ∧
    (replies (asked (.budgetSet · 0 257) served)).map Prod.fst = [0x15] := by decide
/-- UNIT_ENABLE with PARITY and without SMITHY is refused (R13). -/
theorem test_unit_enable : replies (asked (.ledgerWrite · 0x10 0x10) served) = [(0x15, 0, 0, 0)] ∧
    (asked (.ledgerWrite · 0x10 0x14) served).ledger 0x10 = 0x14 := by decide
/-- A fourth start-up failure in a row is DEAD (R404). -/
theorem test_entropy_dead :
    let f (s : State) : State := ran (.entropyStartupTestEnd (List.replicate 128 0)) s
    (f (f (f State.reset))).rng.est = 2 ∧ (f (f (f (f State.reset)))).rng.est = 3 ∧
    (ran (.entropyStartupTestEnd (List.replicate 128 0x55)) (f State.reset)).rng.est = 1 := by decide +kernel
/-- After a warm reset its STATE reads 0, and it still yields nothing (R404, Table 13-6). -/
theorem test_entropy_stays_dead :
    let s := ran (.warmReset true) { State.reset with
      rng := { Rng.reset with est := 3, dead := true }, pwr := { Pwr.reset with up := true } }
    s.rng.est = 0 ∧ (ran (.entropyStartupTestEnd (List.replicate 128 0x55)) s).rng.est = 0 := by decide +kernel
/-- CRC-32C of "123456789" is 0xE3069283, the check value of the polynomial that R511 names. -/
theorem test_crc : crc32c (bytes [0x31, 0x32, 0x33, 0x34, 0x35, 0x36, 0x37, 0x38, 0x39]) = 0xE3069283 := by decide +kernel
/-- A packet that spells another command, or the same with another parameter, runs no other (R429, R437). -/
theorem test_spelling : replies (ran (.budgetSet (spelt (.budgetSet · 0 256)) 0 255) (offered (.budgetSet · 0 256) served)) = [] ∧
    replies (ran (.stepStatus (spelt (.nop · 0 0 0))) (offered (.nop · 0 0 0) served)) = [] := by decide
/-- Above 40 equal samples in a row, and above 791 of 1,024 equal to the first, a health test fails (R402). -/
theorem test_health :
    let pass (l : List Bool) : Bool := (l.foldl Health.sample (Health.fresh, true)).2
    pass (List.replicate 40 true) = true ∧ pass (List.replicate 41 true) = false ∧
    pass ((List.replicate 131 ((List.replicate 6 true) ++ [false])).flatten ++ [true, true, true, true, true, false]) = true ∧
    pass ((List.replicate 131 ((List.replicate 6 true) ++ [false])).flatten ++ [true, true, true, true, true, true]) = false := by decide +kernel
/-- VADD overflows to OVF and counts it; OVF propagates uncounted (R213, R44). -/
theorem test_vadd_ovf : elemWord 0x01 0x7FFFFFFF 1 = some (0x80000000, ⟨0, 1⟩) ∧
    elemWord 0x01 0x80000000 1 = some (0x80000000, ⟨0, 0⟩) := by decide
/-- JTAG without its scope acts as BYPASS on a private code (R454). -/
theorem test_jtag_private : (ran (.jtagInstruction 0x20 true) State.reset).pwr.jtag = some (0x20, true) := by decide

/-! # States and operands that meet the hypotheses of the statements -/

/-! ## The queue, memories and the scalar slots -/

/-- A command in front of another, and no command. -/
theorem witness_StepRunsFrontCommand :
    (∃ c rest, ({ State.reset with pending := [.bellLock, .bellLost] } : State).pending = c :: rest) ∧ State.reset.pending = [] :=
  ⟨⟨_, _, rfl⟩, rfl⟩

theorem witness_QueueIsFirstInFirstOut :
    ∃ t, Host.Core.run Sys2Proof.core 2 { State.reset with pending := [.bellLock, .bellLost, .stop] } = .next t := ⟨_, rfl⟩

theorem witness_StepKeepsReadySound :
    State.reset.ReadySound ∧ ∃ t, Sys2Proof.Machine.step { State.reset with pending := [.bellLock] } = .next t :=
  ⟨fun h => (by cases h), _, rfl⟩

theorem witness_ReadyIsExactAfterCommand : ∃ t, exec .bellLock State.reset = .next t := ⟨_, rfl⟩

theorem witness_MemoryReadsWhatWasWritten : Memory.wf [(5, 1)] ∧ 1 < (bytes [1, 2]).length ∧ (4 < 5 ∨ 5 + (bytes [1, 2]).length ≤ 4) := by
  decide

/-- A thread that may issue, whatever its loops, with any further core state. -/
theorem issuing (k : Core) (th : Thread) (hk : k.threads = [(0, th)]) (h1 : th.stopped = false) (h2 : th.held = none)
    (h3 : th.pend = []) : Issuing (with0 k) 0 0 th := by
  refine ⟨?_, rfl, h1, h2, fun _ => h3⟩
  show mapFind k.threads 0 = some th
  rw [hk]; rfl

theorem witness_ScalarRegisterResults : Issuing (busy thread) 0 0 thread := issuing _ _ rfl rfl rfl rfl
theorem witness_ScalarImmediateResults : Issuing (busy thread) 0 0 thread := issuing _ _ rfl rfl rfl rfl
theorem witness_AddressResults : Issuing (busy thread) 0 0 thread := issuing _ _ rfl rfl rfl rfl
theorem witness_EndFreesThread : Issuing (busy thread) 0 0 thread := issuing _ _ rfl rfl rfl rfl

/-- A result of latency 3 issued while an earlier one of the same register is still on its way, at its first bundle and before. -/
theorem witness_ResultsVisibleAfterLatency :
    let th : Thread := { thread with pend := [⟨.s 3, 7, 1⟩] }
    let new : List PendReg := [⟨.s 3, 9, 3⟩]
    ⟨.s 3, 9, 3⟩ ∈ th.pend ++ new ∧ (∀ p ∈ th.pend ++ new, p.dest = .s 3 → p.left ≤ 2 + 1 → p = ⟨.s 3, 9, 3⟩ ∨ max 1 p.left < 3) ∧
    ⟨.s 3, 7, 1⟩ ∈ th.pend ++ new ∧ (∀ p ∈ th.pend ++ new, p.dest = .s 3 → p.left ≤ 1 + 1 → p = ⟨.s 3, 7, 1⟩ ∨ max 1 p.left < 1) ∧
    (∀ p ∈ th.pend ++ new, p.dest = .a 3 → 0 + 1 < p.left) := by decide

theorem witness_DivisionIsFloor : (1 : W64) ≠ 0 := by decide

/-- Comparisons that hold and that fail, and conditions that hold and that fail at the boundary of GE. -/
theorem witness_BranchesAndCounters : Issuing (busy thread) 0 0 thread ∧ thread.getS 1 ≠ thread.getS 2 ∧
    (thread.getS 2).toInt < (thread.getS 1).toInt ∧ (thread.getS 1).toNat < (thread.getS 2).toNat ∧
    thread.getS 3 = thread.getS 4 ∧ ((2 : BitVec 2) = 2 ∧ ((0x7FFF : BitVec 16) - 0).toNat < 2 ^ 15) ∧
    ¬ ((2 : BitVec 2) = 0 ∨ ((2 : BitVec 2) = 1 ∧ (0x8000 : BitVec 16) = 0) ∨
      ((2 : BitVec 2) = 2 ∧ ((0x8000 : BitVec 16) - 0).toNat < 2 ^ 15)) :=
  ⟨issuing _ _ rfl rfl rfl rfl, by decide⟩

/-- A level that ends where a new one may end, and the bundle at that end. -/
def looped : Thread := { thread with loops := [⟨0x20000, 0x20006, 4, 2⟩] }
def deep : Thread := { thread with loops := List.replicate 4 ⟨0x20000, 0x20100, 4, 2⟩ }

/-- Ends at the first and last address allowed and one beyond each, counts 0 and 1, three and four open levels. -/
theorem witness_LoopsOpenRepeatAndClose :
    Issuing (busy looped) 0 0 looped ∧ looped.pc.toNat + 6 ≤ (looped.pc + 2 * (3 : BitVec 12).zeroExtend 64).toNat ∧
    (∀ l, looped.loops.head? = some l → (looped.pc + 2 * (3 : BitVec 12).zeroExtend 64).toNat ≤ l.stop.toNat) ∧
    looped.loops.length < 4 ∧ mapFind Core.reset.heads 0x20006 = none ∧ 1 ≤ (1 : BitVec 14).toNat ∧ (0 : BitVec 14).toNat = 0 ∧
    mapFind ({ Core.reset with threads := [(0, looped)], code := [(0x20006, [1, 0])] } : Core).code 0x20006 = some [1, 0] ∧
    mapFind ({ Core.reset with threads := [(0, looped)], heads := [(0x20006, 6)] } : Core).code 0x20006 = none ∧
    mapFind ({ Core.reset with threads := [(0, looped)], heads := [(0x20006, 6)] } : Core).heads 0x20006 = some 6 ∧
    (looped.pc + 2 * (2 : BitVec 12).zeroExtend 64).toNat < looped.pc.toNat + 6 ∧
    (∃ l, looped.loops.head? = some l ∧ l.stop.toNat < (looped.pc + 2 * (4 : BitVec 12).zeroExtend 64).toNat) ∧
    Issuing (busy deep) 0 0 deep ∧ 4 ≤ deep.loops.length ∧
    (∀ l, deep.loops.head? = some l → (deep.pc + 2 * (3 : BitVec 12).zeroExtend 64).toNat ≤ l.stop.toNat) ∧ (1 : Nat) < 2 ∧ (1 : Nat) ≤ 1 :=
  ⟨issuing _ _ rfl rfl rfl rfl, by decide, by simp [looped, thread], by decide, by decide, by decide, by decide, by decide, by decide, by decide, by decide,
    ⟨_, rfl, by decide⟩, issuing _ _ rfl rfl rfl rfl, by decide, by simp [deep, thread], by decide, by decide⟩

/-- A thread whose a1 points at the last eight bytes of the local store, and one byte further. -/
def edge : Thread := { thread with a := [(1, 0x17FEF8)] }
def past : Thread := { thread with a := [(1, 0x17FEF9)] }

theorem witness_LoadResults : Issuing (busy edge) 0 0 edge ∧
    edge.task.lsAddr (edge.getA 1 + (0 : BitVec 13).signExtend 64).toNat 8 = some 0x17FFF8 ∧
    edge.task.lsAddr (edge.getA 1 + (4 : BitVec 13).signExtend 64).toNat 4 = some 0x17FFFC ∧
    edge.task.lsAddr (edge.getA 1 + (7 : BitVec 13).signExtend 64).toNat 1 = some 0x17FFFF :=
  ⟨issuing _ _ rfl rfl rfl rfl, by decide⟩

theorem witness_StoresAndTheirRange : Issuing (busy past) 0 0 past ∧ Issuing (busy edge) 0 0 edge ∧
    edge.task.lsAddr (edge.getA 1 + (0 : BitVec 13).signExtend 64).toNat 8 = some 0x17FFF8 ∧
    past.task.lsAddr (past.getA 1 + (0 : BitVec 13).signExtend 64).toNat 8 = none ∧
    past.task.lsAddr (past.getA 1 + (7 : BitVec 13).signExtend 64).toNat 1 = none ∧
    past.task.lsAddr (past.getA 1 + (0 : BitVec 13).signExtend 64).toNat (32 * ((0 : BitVec 4).toNat + 1)) = none :=
  ⟨issuing _ _ rfl rfl rfl rfl, issuing _ _ rfl rfl rfl rfl, by decide⟩

/-- A thread with a held write of descriptor 3. -/
def holding : Thread := { thread with held := some ⟨.field 3 0 5, 1⟩ }
/-- A queued XCOPY that names descriptors 3 and 4. -/
def queued : EngCmd := { slot := .x, op := 1, tgt := 0, wait := ⟨0, 0, 0⟩, sctr := 1, sinc := 1, d1 := 3, d2 := 4, param := 0,
                         mode := 0, bank := false, task := task, seq := 0 }

theorem witness_DescriptorWrites : Issuing (busy thread) 0 0 thread ∧
    thread.task.lsAddr (thread.getA 1 + (0 : BitVec 13).signExtend 64).toNat (32 * ((15 : BitVec 4).toNat + 1)) = some 0x140 ∧
    thr (busy holding) = some holding ∧ ((busy holding).core 0).heldBlocked holding.task ⟨.field 3 0 5, 1⟩ = false ∧
    (({ Core.reset with threads := [(0, holding)], queues := [(3, ⟨[.eng queued], none⟩)] } : Core).heldBlocked holding.task
      ⟨.field 3 0 5, 1⟩ = true) ∧ (busy holding |>.core 0).endedWrite 0 = none ∧
    ({ Core.reset with ended := [(0, (task, ⟨.field 3 0 5, 1⟩))] } : Core).endedWrite 0 = some (0, (task, ⟨.field 3 0 5, 1⟩)) ∧
    (8 : BitVec 4).toNat ≤ 8 ∧ 8 < (9 : BitVec 4).toNat ∧ (15 : StReg).toNat + (0 : BitVec 4).toNat ≤ 15 ∧
    15 < (15 : StReg).toNat + (1 : BitVec 4).toNat ∧
    aDescWrite thread (aBytes Core.reset thread (.stw 3 0 1)) (.stw 3 0 1) = some (.field 3 0 (thread.getS 1)) :=
  ⟨issuing _ _ rfl rfl rfl rfl, by decide⟩

/-- Page 2 in frame 9 of the HBM, and the bundle B8 of Example 05-2 at its start. -/
def local9 : XEntry := ⟨.local, true, false, false, false, false, 9, 0, 0, false⟩
def fetching : State := { busy thread with tier := { Tier.reset with
  xlate := [(2, local9)], hbm := Memory.writeBytes [] (9 * 65536) (bytes [1, 0, 0x0C, 0x40, 0, 0xC4]) } }
/-- The same bundle in the code buffer. -/
def ready : State := with0 { Core.reset with threads := [(0, thread)], code := [(0x20000, bytes [1, 0, 0x0C, 0x40, 0, 0xC4])] }

/-- A loop of count 0 that ends six bytes after its bundle, whose own bundle alone is in the code buffer. -/
def skipping : State := { with0 { Core.reset with threads := [(0, thread)], code := [(0x20000, bytes [1, 0, 6, 0, 0, 0xC4])] } with
  tier := { Tier.reset with xlate := [(2, local9)] } }

/-- How work ends: 0 done, 1 done with reads missing, 2 waiting, 3 and more a fault. -/
def ending {α : Type} (m : EM α) (w : EWork) : Nat := match m.run w with
  | .ok _ w => if w.missing then 1 else 0
  | .error .wait _ => 2
  | .error (.fault c) _ => 3 + c

theorem witness_BundlesFetchAndIssue : (fetching.core 0).thread 0 = some thread ∧ thread.stopped = false ∧
    (0x20000 : W64) ∈ fetchWanted (fetching.core 0) thread ∧ mapFind (fetching.core 0).code 0x20000 = none ∧
    ending (fetchBytes 0x20000) (.start fetching 0 64 thread.task) = 0 ∧
    (0x2000C : W64) ∈ fetchWanted (skipping.core 0) thread ∧ (0x2000C : W64) ≠ thread.pc ∧
    mapFind (skipping.core 0).code 0x2000C = none ∧ mapFind (skipping.core 0).heads 0x2000C = none ∧
    ending (vaRead 0x2000C 2) (.start skipping 0 64 thread.task) = 0 ∧ readyAt skipping (skipping.core 0) 0 = false ∧
    (issueOrder (ready.core 0)).find? (readyAt ready (ready.core 0)) = some 0 ∧
    mapFind (ready.core 0).code 0x20000 = some (bytes [1, 0, 0x0C, 0x40, 0, 0xC4]) ∧
    (decodeBundle (bytes [1, 0, 0x0C, 0x40, 0, 0xC4])).map (fun b => ((issueFault ready (ready.core 0) thread b).isNone,
      (nextBundle b thread (ready.core 0).lenAt).isSome)) = some (true, true) := by decide

/-- ADD s3, s1, s2 in audit mode, with results in flight. -/
def addBundle : List Byte := bytes [1, 0, 0, 0x10, 0x61, 4]
def audited (p : List PendReg) : State := { with0 { Core.reset with
  threads := [(0, { thread with pend := p })], code := [(0x20000, addBundle)] } with audit := true }
def addOnly : Bundle := ⟨some (.alu .add 3 1 2), none, none, none, none, none, 6⟩

/-- A tagged source, a result due together with the bundle's own, and neither (R162). -/
theorem witness_BundlesFetchAndIssue_audit :
    let th (p : List PendReg) : Thread := { thread with pend := p }
    let read : List PendReg := [⟨.s 1, 9, 2⟩]
    let both : List PendReg := [⟨.s 3, 9, 1⟩]
    (audited read).audit = true ∧ decodeBundle addBundle = some addOnly ∧
    issueFault { audited read with audit := false } ((audited read).core 0) (th read) addOnly = none ∧
    RegRef.s 1 ∈ addOnly.reads ∧ (addOnly.reads.all fun r => both.all fun p => p.dest != r) = true ∧
    ((bundleResults ((audited both).core 0) (th both) addOnly).map fun p => (p.dest, p.left)) = [(.s 3, 1)] ∧
    (audited read).rec0.stopped = false ∧ ((audited read).core 0).thread 0 = some (th read) ∧
    (issueOrder ((audited read).core 0)).find? (readyAt (audited read) ((audited read).core 0)) = some 0 ∧
    mapFind ((audited read).core 0).code 0x20000 = some addBundle ∧
    issueFault (audited read) ((audited read).core 0) (th read) addOnly = some (.hazard 0 (.s 1)) ∧
    issueFault (audited both) ((audited both).core 0) (th both) addOnly = some (.hazard 2 (.s 3)) := by decide

/-! ## Engines -/

/-- A started command of that slot, opcode and TGT, with its two descriptors and parameter word. -/
def runOf (slot : Slot) (op : BitVec 6) (tgt : BitVec 4) (d1 d2 : Desc) (param : W64) : Run :=
  ⟨{ queued with slot := slot, op := op, tgt := tgt }, ⟨task, d1, d2, param, 0, false⟩, false, 0, false, 0, false⟩
/-- Core 0 with that command started in queue `q`, on any further state. -/
def running (s : State) (q : Nat) (r : Run) : State := s.setCore 0 { Core.reset with queues := [(q, ⟨[], some r⟩)] }
/-- How the work of that started command ends. -/
def endOf (work : EArgs → EM Unit) (s : State) (q : Nat) (r : Run) : Nat :=
  ending (work r.args) (workFrom (running s q r) 0 q r)

theorem runs (s : State) (q : Nat) (slot : Slot) (op : BitVec 6) (tgt : BitVec 4) (d1 d2 : Desc) (param : W64) :
    Runs (running s q (runOf slot op tgt d1 d2 param)) 0 q slot op tgt (runOf slot op tgt d1 d2 param) := by
  refine ⟨?_, rfl, rfl, rfl, rfl, rfl⟩
  have h : (running s q (runOf slot op tgt d1 d2 param)).core 0 =
      { Core.reset with queues := [(q, ⟨[], some (runOf slot op tgt d1 d2 param)⟩)] } := mapGet_mapPut_same ..
  rw [h]
  simp [Core.queue, mapGet]

/-- A descriptor of one access of 64 bytes at the start of page `p`. -/
def pageDesc (p : Nat) : Desc := { oneAccess (p * 65536) 64 with space := 0 }
/-- The module with page 2 in frame 9. -/
def mapped : State := { State.reset with tier := { Tier.reset with xlate := [(2, local9)] } }

/-- The module with page 2 in the host. -/
def hosted : State := { State.reset with tier := { Tier.reset with xlate := [(2, ⟨.host, true, false, false, false, false, 0, 0, 9, false⟩)] } }

/-- Core 0 with a command of a frame that still runs, and core 1 with one of the same unit whose frame is over. -/
def contended (q : Nat) (r : Run) : State :=
  let now (f : Nat) : Run := { r with args := { r.args with task := { task with frame := f } } }
  let s : State := { State.reset with bel := { Bel.reset with frame := 1 } }
  (s.setCore 0 { Core.reset with queues := [(q, ⟨[], some (now 1)⟩)] }).setCore 1
    { Core.reset with queues := [(q, ⟨[], some (now 0)⟩)] }

/-- The started command of a queue of core 0. -/
def startedOf (s : State) (q : Nat) : Run := (((s.core 0).queue q).run).getD (runOf .x 0 0 Desc.zero Desc.zero 0)

/-- A collective command and a survey that leave their unit to owed work, and commands that need not. -/
theorem witness_yields :
    (contended 3 (runOf .x 4 0 Desc.zero Desc.zero 0)).yields 0 (startedOf (contended 3 (runOf .x 4 0 Desc.zero Desc.zero 0)) 3) = true ∧
    (contended 4 (runOf .x 2 1 Desc.zero Desc.zero 0)).yields 0 (startedOf (contended 4 (runOf .x 2 1 Desc.zero Desc.zero 0)) 4) = true ∧
    (running State.reset 3 (runOf .x 4 0 Desc.zero Desc.zero 0)).yields 0 (runOf .x 4 0 Desc.zero Desc.zero 0) = false ∧
    (running State.reset 4 (runOf .x 2 1 Desc.zero Desc.zero 0)).yields 0 (runOf .x 2 1 Desc.zero Desc.zero 0) = false := by decide

/-- Every command can be the started one; work completes, waits for data, and faults. -/
theorem witness_EngineCommandsDoTheirWork :
    (∀ op : BitVec 6, Runs (running mapped 0 (runOf .g op 0 Desc.zero Desc.zero 0)) 0 0 .g op 0 (runOf .g op 0 Desc.zero Desc.zero 0)) ∧
    (∀ op : BitVec 6, Runs (running mapped 1 (runOf .m op 0 Desc.zero Desc.zero 0)) 0 1 .m op 0 (runOf .m op 0 Desc.zero Desc.zero 0)) ∧
    (∀ op : BitVec 6, Runs (running mapped 3 (runOf .x op 0 Desc.zero Desc.zero 0)) 0 3 .x op 0 (runOf .x op 0 Desc.zero Desc.zero 0)) ∧
    endOf mclearWork mapped 1 (runOf .m 2 0 Desc.zero Desc.zero 0) = 0 ∧
    endOf xcopyWork mapped 3 (runOf .x 1 0 (pageDesc 2) (oneAccess 0 64) 0) = 0 ∧
    endOf xcopyWork hosted 3 (runOf .x 1 0 (pageDesc 2) (oneAccess 0 64) 0) = 2 ∧
    endOf xcopyWork mapped 3 (runOf .x 1 0 (oneAccess 0x17FF01 64) (oneAccess 0 64) 0) = 3 + cLsRange :=
  ⟨fun _ => runs .., fun _ => runs .., fun _ => runs .., by decide⟩

theorem witness_UnitRequestsDoTheirWork : [1, 2, 3, 6, 8].map (fun tgt => tgtQueue State.reset.unitsEff tgt) =
      [some 4, some 5, some 6, some 9, some 11] ∧
    (∀ (q : Nat) (tgt : BitVec 4), Runs (running State.reset q (runOf .x 2 tgt Desc.zero Desc.zero 0)) 0 q .x 2 tgt
      (runOf .x 2 tgt Desc.zero Desc.zero 0)) := ⟨by decide, fun _ _ => runs ..⟩

theorem witness_QueueNumbers : (1 : Nat) ≤ 8 ∧ tgtQueue 0x1F 8 = some 11 ∧ tgtQueue 0 1 = none ∧
    tgtQueue 0x1F 1 = some 4 ∧ tgtQueue 0x1F 0 = some 3 ∧ (0 : Nat) < 1 := by decide

/-- Longest accesses at the end of the local store's range for the task. -/
theorem witness_EngineEffectsInFull :
    Runs (running State.reset 1 (runOf .m 2 0 Desc.zero Desc.zero 0)) 0 1 .m 2 0 (runOf .m 2 0 Desc.zero Desc.zero 0) ∧
    Runs (running State.reset 3 (runOf .x 1 0 (oneAccess 0x17F700 2048) (oneAccess 0 2048) 0)) 0 3 .x 1 0
      (runOf .x 1 0 (oneAccess 0x17F700 2048) (oneAccess 0 2048) 0) ∧
    Runs (running State.reset 0 (runOf .g 7 0 Desc.zero (oneAccess 0x17F700 2048) 0)) 0 0 .g 7 0
      (runOf .g 7 0 Desc.zero (oneAccess 0x17F700 2048) 0) ∧
    task.lsAddr 0x17F700 2048 = some 0x17F800 ∧ task.lsAddr 0 2048 = some 0x100 ∧ task.lsAddr (GParam.of 0).ls 2048 = some 0x100 ∧
    (GParam.of 0).rsvd = 0 ∧ (GParam.of 0).kpSel = 0 ∧ (GParam.of 0).thresh = 0 ∧ (GParam.of 0).struct = 0 ∧
    Core.reset.errors.ls = [] := ⟨runs .., runs .., runs .., by decide⟩

/-- The module with an almanac whose one legend, at byte 64, is I32 with T = 0 and m = 32768 (Table 02-2). -/
def legended : State := { State.reset with run := { State.reset.run with
  active := ⟨[(32, 64), (40, 1), (64, 4), (67, 0x80)], 80⟩ } }

/-- A tile, and the core with `n` of them in its tile queue and `d` formed. -/
def tile0 : Tile := ⟨[], legUnused, 0⟩
def tiled (n d : Nat) : Core := { Core.reset with tileQ := List.replicate n tile0, drained := List.replicate d tile0 }

/-- One and two formed tiles, seven and eight queued; a drain of a cleared bank. -/
theorem witness_DrainsFillTileQueueInOrder :
    Runs (running State.reset 1 (runOf .m 3 0 Desc.zero Desc.zero 0)) 0 1 .m 3 0 (runOf .m 3 0 Desc.zero Desc.zero 0) ∧
    Runs (running State.reset 1 (runOf .m 4 0 Desc.zero Desc.zero 0)) 0 1 .m 4 0 (runOf .m 4 0 Desc.zero Desc.zero 0) ∧
    endOf (mdrainWork false) legended 1 (runOf .m 3 0 Desc.zero Desc.zero 0) = 0 ∧
    endOf (mdrainWork true) legended 1 (runOf .m 4 0 Desc.zero Desc.zero 0) = 0 ∧
    endOf (mdrainWork false) State.reset 1 (runOf .m 3 0 Desc.zero Desc.zero 0) = 3 + cLegendInvalid ∧
    endOf (mdrainWork true) State.reset 1 (runOf .m 4 0 Desc.zero Desc.zero 0) = 3 + cLegendInvalid ∧
    (tiled 7 1).drained = tile0 :: [] ∧ (tiled 7 2).drained = tile0 :: [tile0] ∧ (tiled 7 2).tileQ.length < 8 ∧
    8 ≤ (tiled 8 0).tileQ.length ∧ (∀ n, n < 64 → (List.replicate 64 A48.zero).length = 64) :=
  ⟨runs .., runs .., by decide⟩

/-- Queue 1 of core 0 with a waiting command and a mill meter of `n`. -/
def awaiting (n : Int) : Core :=
  { Core.reset with queues := [(1, ⟨[.eng { queued with slot := .m, op := 2 }], none⟩)], meters := ⟨n, 0, 0, []⟩ }

theorem witness_EngineCommandStarts : ((awaiting 1).queue 1).waiting = [.eng { queued with slot := .m, op := 2 }] ∧
    ((awaiting 1).queue 1).run = none ∧ State.reset.rec0.stopped = false ∧
    condHolds queued.wait.cond ((awaiting 1).counter queued.wait.ctr) queued.wait.value = true ∧ 0 < (awaiting 1).meters.mill ∧
    1 ∉ (awaiting 1).errors.cmd ∧ ¬ 0 < (awaiting 0).meters.mill ∧
    1 ∈ ({ awaiting 1 with errors := ⟨[], [1], [], []⟩ } : Core).errors.cmd := by decide

/-- Module 5 of Example 09-1, page 2 local, and an XSEND to module 227 that waits in queue 3. -/
def sending (fabric hbm : Int) : State :=
  let s : State := { at09 5 0 0 [] with tier := { Tier.reset with xlate := [(2, local9)] },
                                        bud := { Bud.reset with fabric := [(1, fabric)], hbm := [(0, hbm)] } }
  s.setCore 0 { Core.reset with st := [(3, pageDesc 2)],
                                queues := [(3, ⟨[.eng { queued with op := 3, param := BitVec.ofNat 64 (227 * 2 ^ 52) }], none⟩)] }

/-- Meters of a transfer above zero and at zero; a list of 17 segments. -/
theorem witness_transfers_start :
    let c : EngCmd := { queued with op := 3, param := BitVec.ofNat 64 (227 * 2 ^ 52) }
    let s := sending 1 1
    let l : State := with0 { Core.reset with
      ls := Memory.writeBytes [] 0x100 (bytes [17]), queues := [(0, ⟨[], some (runOf .g 1 0 (oneAccess 0 64) Desc.zero 0)⟩)] }
    (((s.core 0).queue 3).waiting = [.eng c] ∧ s.portOf (s.core 0) c = some 1 ∧ 0 < mapGet 0 s.bud.fabric 1 ∧
      s.descOpen false ((s.core 0).desc c.d1) = true ∧ s.descOpen true ((s.core 0).desc c.d2) = true) ∧
    ¬ 0 < mapGet 0 (sending 0 1).bud.fabric 1 ∧ (sending 1 0).descOpen false (((sending 1 0).core 0).desc c.d1) = false ∧
    (s.readsFirst (s.core 0) c = true ∧ s.writesSecond (s.core 0) c = false ∧ s.writesSecond (s.core 0) { c with op := 1 } = true) ∧
    ¬ (c.slot = .x ∧ c.op = 2 ∧ (c.tgt = 3 ∨ c.tgt = 4 ∨ c.tgt = 7)) ∧ (l.core 0).lanes = [] ∧
    peekSegments l 0 task (oneAccess 0 64) = some 17 ∧ (1 : Nat) < 16 := by decide

theorem witness_CommandsRetireAndSignal :
    let r := runOf .x 1 0 Desc.zero Desc.zero 0
    (((running State.reset 3 { r with done := true }).core 0).queue 3).run = some { r with done := true } ∧ r.failed = false ∧
    r.acks = 0 ∧ r.done = false ∧ ({ r with acks := 1 } : Run).acks ≠ 0 := by decide

/-- Neighbours of lane 0 that tie and that do not, and a lane that holds a task. -/
theorem witness_LaneStealing :
    let k (a b : Nat) : Core := { Core.reset with lanes := [(1, ⟨some ⟨1, 1⟩, List.replicate a ⟨1, 0⟩⟩),
      (15, ⟨some ⟨1, 15⟩, List.replicate b ⟨1, 0⟩⟩)] }
    let at_ (k : Core) (n : Nat) : List LaneTask := (mapGet Lane.idle k.lanes n).queue
    at_ (k 2 2) 0 = [] ∧ at_ (k 2 2) 1 = [⟨1, 0⟩] ++ [⟨1, 0⟩] ∧ (at_ (k 2 2) 15).length ≤ (at_ (k 2 2) 1).length ∧
    at_ (k 0 2) 15 = [⟨1, 0⟩] ++ [⟨1, 0⟩] ∧ (at_ (k 0 2) 1).length < (at_ (k 0 2) 15).length ∧ at_ (k 1 0) 1 ≠ [] := by decide

/-! ## The vector engine -/

/-- A V instruction of that opcode and those fields. -/
def vInstr (op : Nat) (bits : BitVec 25) : VInstr := ⟨BitVec.ofNat 7 op, bits, ⟨task, 0, 0x20000, [], [], []⟩⟩
/-- Core 0 with that instruction at the head of context 0's buffer, a tile in its queue, and a conversion entry of its KIND (Table
07-2) at MOD 0. -/
def vCore (v : VInstr) : Core :=
  { Core.reset with
    ctxs := [(0, { VContext.reset with buf := [v] })], meters := ⟨0, 1, 0, []⟩, tileQ := [⟨List.replicate 1024 7, legUnused, 0⟩],
    ls := Memory.writeBytes [] 0x100 [BitVec.ofNat 8 (if v.op ∈ [0x20, 0x21, 0x22] then 1 else if v.op = 0x58 then 2
      else if v.op ∈ [0x38, 0x39] then 3 else if v.op ∈ [0x3A, 0x3B] then 4 else 0)] }
/-- The module with that core and the almanac of one legend. -/
def vState (v : VInstr) : State := legended.setCore 0 (vCore v)

/-- Whether it issues all its quarters without a fault. -/
def vRuns (op : Nat) (bits : BitVec 25) : Bool :=
  let v := vInstr op bits
  match vEnvOf (vState v) (vCore v) v with
  | .ok e => vCanIssue (vCore v) v && (vQuarters v.op (vState v) 0 0 v [] e).bad.isNone
  | .error _ => false

theorem witness_VectorInstructionsIssue :
    (∀ v, ((vCore v).vcontext 0).buf = [v] ∧ ((vCore v).vcontext 0).stopped = false) ∧
    [0x01, 0x02, 0x03, 0x04, 0x05, 0x06, 0x07, 0x08, 0x09, 0x0A, 0x0B, 0x0C, 0x0D, 0x10, 0x11, 0x12, 0x18, 0x19, 0x20, 0x21, 0x22, 0x28,
      0x29, 0x2A, 0x30, 0x31, 0x38, 0x39, 0x3A, 0x3B, 0x40, 0x41, 0x48, 0x58, 0x60].all (fun op => vRuns op 0x400) = true :=
  ⟨fun _ => ⟨rfl, rfl⟩, by decide +kernel⟩

/-- The opcodes with a conversion entry and its KIND. -/
def convKinds : List (Nat × Nat) := [(0x18, 0), (0x19, 0), (0x20, 1), (0x21, 1), (0x22, 1), (0x58, 2), (0x38, 3), (0x39, 3), (0x3A, 4), (0x3B, 4)]
/-- The bytes of an entry of that KIND, with that LEG_D and that SREG. -/
def convBytes (kind leg sreg : Nat) : List Byte := bytes ([kind, 0, 0, 0, 0, 0, 0, 0, leg, 0, 0, 0, 0, 0, sreg, 0] ++ List.replicate 16 0)
/-- A task whose local store begins 16 bytes below the limit. -/
def highTask : TaskCtx := ⟨0, 7, 0x17FFF0, 0, 0, none, []⟩

/-- For every entry: one that the local store's limit cuts, a KIND that is not the opcode's, a legend above the last, and a scalar index in
flight in audit mode; and a VLD and a VST beyond the limit. -/
theorem witness_VectorInstructionsIssue_faults :
    (convKinds.all fun c => match convUse c.1 with
      | some u =>
        let e (kind leg sreg : Nat) : Conv := Conv.ofBytes (convBytes kind leg sreg)
        convInvalid u (e (c.2 + 1) 0 0) && !convInvalid u (e c.2 1 0) && decide (legended.legendCount ≤ (e c.2 1 0).legIndex 3) &&
          (legsRead c.1 (e c.2 1 0)).contains 3 && !convInvalid u (e c.2 0 0x83) && (convLegs legended c.1 (e c.2 0 0x83)).isSome &&
          decide (128 ≤ (e c.2 0 0x83).sreg % 256 ∧ (e c.2 0 0x83).sreg % 32 = 3)
      | none => false) = true ∧
    highTask.lsAddr (32 * (VR.ofBits 0x400).mod.toNat) 32 = none ∧ task.lsAddr (32 * (VR.ofBits 0x400).mod.toNat) 32 = some 0x100 ∧
    (vCore (vInstr 0x18 0x400)).errors.lsBad 0x100 32 = false ∧ ({ legended with audit := true } : State).audit = true ∧
    (3 : Nat) ∈ ([3] : List Nat) ∧ 1 ∈ quartersOf (vQsel 0x400) ∧ vCanIssue (vCore (vInstr 0x40 0x400)) (vInstr 0x40 0x400) = true ∧
    highTask.lsAddr (vmOffset (VM.ofBits 0x400) ⟨highTask, 0, 0x20000, [], [], []⟩ 1) (256 * widthBytes (VM.ofBits 0x400).width) = none :=
  by decide +kernel

/-- The first and last code, OVF, a word of zero; 256 words of each width. -/
theorem witness_VectorWordResults : isCode 0x7FFFFFFF 2147483647 ∧ isCode 0x80000001 (-2147483647) ∧ ¬ isCode 0x80000000 0 ∧
    (ovfWord = ovfWord) ∧ vRuns 0x40 0x1000 = true ∧ vRuns 0x41 0x1000 = true ∧ quartersOf (vQsel 0x1000) = [0, 1, 2, 3] ∧
    (VContext.reset.quarter 0 3).length = 256 ∧ VContext.reset.pend = [] ∧ (List.replicate 256 (7 : W32)).length = 256 ∧ ((4 : Nat) = 1 ∨ (4 : Nat) = 2 ∨ (4 : Nat) = 4) :=
  ⟨⟨by decide, by decide⟩, ⟨by decide, by decide⟩, fun h => h.1 rfl, rfl, by decide +kernel, by decide +kernel, by decide, by decide +kernel, rfl, List.length_replicate, by decide⟩

theorem witness_ExpandUndoesCompress : ([1, 2] : List W32).length = ([0, 1] : List W32).length ∧
    (let sns : List Snap := (List.range 4).map fun q => ⟨q, List.replicate 256 7, List.replicate 256 1, [], [], [], [], [], [], []⟩
     (sns.flatMap Snap.ta).length = 1024 ∧ (sns.flatMap Snap.tb).length = 1024) := ⟨rfl, by decide +kernel⟩

/-- VWAIT GE at the boundary, above it, and VSIGNAL. -/
theorem witness_VectorWaitAndSignal :
    let w (x : BitVec 16) : VInstr := vInstr 0x50 ((2 : BitVec 25) <<< 17 ||| x.zeroExtend 25)
    let k (x : BitVec 16) : Core := { vCore (w x) with sc := [(0, 0x7FFF)] }
    (∀ x, ((k x).vcontext 0).buf = [w x] ∧ ((k x).vcontext 0).stopped = false ∧ 0 < (k x).meters.vector) ∧
    condHolds (VC.ofBits (w 0).bits).cond ((k 0).counter ((w 0).cap.task.ctr (VC.ofBits (w 0).bits).ctr)) (VC.ofBits (w 0).bits).value = true ∧
    condHolds (VC.ofBits (w 0x8000).bits).cond ((k 0x8000).counter ((w 0x8000).cap.task.ctr (VC.ofBits (w 0x8000).bits).ctr))
      (VC.ofBits (w 0x8000).bits).value = false ∧ (w 0).op = 0x50 ∧ (vInstr 0x51 0).op = 0x51 :=
  ⟨fun _ => ⟨rfl, rfl, (by decide : (0 : Int) < 1)⟩, by decide, by decide, by decide, by decide⟩

/-- A buffer of fifteen, and a plain instruction, a signal as the oldest and a younger signal that wait to retire. -/
theorem witness_VectorBufferAndRetire :
    let x : VContext := { VContext.reset with buf := List.replicate 15 (vInstr 1 0),
                                              unret := [⟨0x51, task, some (3, 1)⟩, ⟨1, task, none⟩, ⟨0x51, task, some (3, 1)⟩] }
    let k : Core := { Core.reset with ctxs := [(0, x)], queues := [(2, ⟨[.vec 0 (vInstr 1 0)], none⟩)] }
    (k.queue 2).waiting = [.vec 0 (vInstr 1 0)] ∧ (k.vcontext 0).buf.length < 16 ∧ 2 ∉ k.errors.cmd ∧
    (k.vcontext 0).unret[(0 : BitVec 8).toNat]?.map (fun u => u.signal.isSome) = some true ∧
    (k.vcontext 0).unret[(1 : BitVec 8).toNat]?.map (fun u => u.signal.isNone) = some true ∧
    (k.vcontext 0).unret[(2 : BitVec 8).toNat]?.map (fun u => u.signal.isSome) = some true := by decide

/-! ## The bell and the steps -/

/-- The module after reset with another bell. -/
def belled (b : Bel) : State := { State.reset with bel := b }

theorem witness_TickAdvancesFrame : ({ Bel.reset with root := true } : Bel).root = true ∧ Bel.reset.root = false := by decide

theorem witness_BellStates :
    let b (st : BelState) (l m h : Nat) : Bel := { Bel.reset with state := st, lockCount := l, markless := m, holdFrames := h }
    ((b .acquire 64 0 0).state = .acquire ∧ 64 ≤ (b .acquire 64 0 0).lockCount ∧ (b .acquire 64 0 0).root = false) ∧
    ({ Bel.reset with root := true } : Bel).root = true ∧
    (b .acquire 63 0 0).lockCount < 64 ∧ (4 ≤ (b .locked 0 4 0).markless ∧ (b .locked 0 4 0).state = .locked) ∧
    (b .locked 0 3 0).markless < 4 ∧ ((b .holdover 0 0 2048).state = .holdover ∧ (b .holdover 0 0 2048).holdFrames = 2048) ∧
    (b .locked 0 0 0).state ≠ .holdover := by decide

/-- A block whose CRC holds, one whose CRC fails at a port in BYPASS and at one out of it, and a module that follows port 0 while
free and while locked. -/
theorem witness_MarksDriveTheBell : markGood (State.reset.markBlock 0 0) = true ∧ markGood (List.replicate 32 1) = false ∧
    ((linked State.reset).port (0 : Port).val).bypass = false ∧ (State.reset.port (0 : Port).val).bypass = true ∧
    (let b (st : BelState) : Bel := { Bel.reset with upPort := 0, state := st }
     (b .free).root = false ∧ (b .free).upPort = (0 : Port).val ∧ (b .free).state = .free ∧ (b .locked).state = .locked) := by
  decide +kernel

/-- A port that is up and one in BYPASS, the last cycle of the window and one beyond, the last frame number. -/
theorem witness_MarkIsSentOncePerFrame :
    let x : PortReg := { PortReg.reset with state := .up, bypass := false }
    let fab : Fab := { Fab.reset with ports := [(0, x)] }
    mapFind fab.ports (0 : Port).val = some x ∧ x.state = .up ∧ x.bypass = false ∧ (0 : Port).val ∉ Bel.reset.sent ∧
    ({ Bel.reset with cycle := 256 } : Bel).cycle ≤ 256 ∧ 256 < ({ Bel.reset with cycle := 257 } : Bel).cycle ∧
    ({ x with bypass := true } : PortReg).bypass = true ∧ ({ Bel.reset with frame := 2 ^ 48 - 1 } : Bel).frame < 2 ^ 48 := by decide

/-- The module running, in reset and in standby; the frame at which each timer ends and the one before it; full pace with and without a
cause. -/
theorem witness_CapturePaceAndEconomyTimers :
    let b (f : Nat) : Bel := { Bel.reset with root := true, half := true, frame := f, lastReq := some 10 }
    let h (f : Nat) : Bel := { Bel.reset with frame := f, halfSince := some 10, overrunOff := true }
    let w (d : PowerDomain) (r : Bool) : Pwr := { Pwr.reset with domain := d, dieReset := r }
    (((w .running false).domain = .running ∧ (w .running false).dieReset = false) ∧ (w .standby false).domain ≠ .running ∧
      (w .running true).dieReset = true) ∧
    let p (f cy : Nat) (c : Bool) : Bel :=
      { Bel.reset with frame := f, cycle := cy, half := true, annPace := some (false, 10), supplyCause := c }
    ((b 13).lastReq = some 10 ∧ (b 13).annPace = none ∧ (b 13).request = false ∧ 10 + 3 ≤ (b 13).frame) ∧ (b 12).frame < 10 + 3 ∧
    ((h 522).halfSince = some 10 ∧ (h 522).overrunOff = true ∧ 10 + 512 ≤ (h 522).frame) ∧ (h 521).frame < 10 + 512 ∧
    ((p 9 0 false).annPace = some (false, 10) ∧ (p 9 0 false).frame ≠ 10) ∧ (p 10 1 false).cycle ≠ 0 ∧
    ((p 10 0 false).frame = 10 ∧ (p 10 0 false).cycle = 0) ∧
    ((p 10 0 false).supplyCause = false ∧ (p 10 0 false).thermalCause = false) ∧ (p 10 0 true).supplyCause = true := by decide

/-- An almanac frame that began at frame 10 and ended a frame ago, with and without a core that owes work of it. -/
def frame10 : OpenFrame := ⟨10, 1, 0, false, false, false, [], [], false⟩
def owing (own : Bool) : State :=
  let s := { State.reset with bel := { Bel.reset with frame := 12 }, run := { RunCtl.reset with openFrames := [frame10] } }
  if own then s.setCore 0 { Core.reset with threads := [(0, { thread with task := { task with frame := 10 } })] } else s

theorem witness_OverrunSlipAndMeters : (owing true).run.openFrames = frame10 :: [] ∧ frame10.recorded = false ∧
    (∀ g ∈ ([] : List OpenFrame), g.first ≠ frame10.first) ∧ frame10.first + frame10.bells + 1 ≤ (owing true).bel.frame ∧
    ((owing true).core 0).owes frame10.first = true ∧ (0 : CoreId).toNat ∉ frame10.overrun ∧ (owing true).bel.overrunOff = false ∧
    (owing true).rec0.stopped = false ∧ ({ (owing true).bel with overrunOff := true } : Bel).overrunOff = true ∧
    (owing true).slipsOf frame10 ≠ [] ∧ (owing false).slipsOf frame10 = [] ∧ (0 : Int) ≤ 0 ∧ (-1 : Int) < 0 ∧
    (let s := { owing false with fab := { (owing false).fab with staging := [⟨⟨1, 0, 0, 32⟩, some 1, [], some 10⟩] } }
     (∃ p ∈ s.fab.staging, p.owed = some frame10.first) ∧ (0 : CoreId).toNat = s.firstCore) ∧
    (3 : Nat) ≠ 5 ∧ Bel.reset.econ = false ∧ (0 : Nat) ≤ 1 ∧ Bel.reset.half = false ∧ State.reset.portsBusy = true ∧
    ((List.range 6).foldl (fun s i => s.setPort i { s.port i with bypass := false, state := .up }) State.reset).portsBusy = false := by decide

/-- A step may begin at a tick of a locked bell, and not in the middle of a frame. -/
def mayStep (cycle : Nat) : State :=
  { belled { Bel.reset with state := .locked, cycle := cycle } with
    run := { RunCtl.reset with state := .running, active := ⟨[], 64⟩ } }
/-- Step 4 has committed, step 5 is next, and the switch is armed for it. -/
def armed5 : State := { State.reset with run := { RunCtl.reset with
  state := .running, armed := some 5, nextStep := 5, committed := 4, anyCommit := true } }

/-- The step that a saved SECTION context resumes at its second section, its rows staged. -/
def resuming : State := { mayStep 0 with
  run := { (mayStep 0).run with resumePos := some 1 }, smithy := { (mayStep 0).smithy with phase := 1 } }

theorem witness_StepBeginsAndAlmanacSwitches : StepMayBegin (mayStep 0) ∧ ¬ StepMayBegin (mayStep 1) ∧ StepMayBegin resuming ∧
    (mayStep 0).run.resumePos = none ∧ resuming.run.resumePos.isSome = true ∧ armed5.bel.cycle = 0 ∧
    ({ armed5.bel with cycle := 1 } : Bel).cycle ≠ 0 ∧
    armed5.run.armed = some armed5.run.nextStep ∧ armed5.run.anyCommit = true ∧ armed5.run.committed + 1 = armed5.run.nextStep ∧
    armed5.run.inStep = false ∧ armed5.run.bounded = false ∧ armed5.run.interludeDue = false ∧ armed5.run.frameLive = false ∧
    armed5.smithy.phase = 0 ∧ armed5.anyWork = false ∧ armed5.rec0.stopping = false ∧ State.reset.run.armed = none :=
  ⟨by unfold StepMayBegin; exact ⟨by decide, by decide, by decide, by decide, by decide, by decide, by decide, by decide, by decide, by decide,
      by decide, by decide, by decide, by decide, by decide, by decide, by decide, .inr (by decide)⟩,
    fun h => absurd h.2.2.1 (by decide),
    by unfold StepMayBegin; exact ⟨by decide, by decide, by decide, by decide, by decide, by decide, by decide, by decide, by decide, by decide,
      by decide, by decide, by decide, by decide, by decide, by decide, by decide, .inr (by decide)⟩, by decide⟩

/-- A task of two threads that is to start, with that gate condition. -/
def inst (stage : TaskStage) (cond : Nat) : TaskInst :=
  ⟨task, 0, 0, 0, false, ⟨0x20000, 64, 0x100, 2, 0x80, 0, 7, 0⟩, ⟨0, cond, 0, 1, 9⟩, stage, 0⟩
/-- The module with it on core 0, and granary slot 9 dropped. -/
def placed (t : TaskInst) : State := (with0 { Core.reset with tasks := [t] }).setSlot 9 ⟨.dropped, 0, 0⟩

theorem picks (t : TaskInst) (h : ((placed t).core 0).tasks.filter TaskInst.unstarted = [t]) (h1 : t.ctx.frame = 0)
    (h2 : (placed t).pickTask 0 [] [0] = some t) :
    (placed t).pickTask 0 [] ((((((placed t).core 0).tasks.filter TaskInst.unstarted).map fun t => t.ctx.frame).eraseDups).mergeSort
      fun a b => decide (a ≤ b)) = some t := by
  rw [h]
  have e : ([t].map fun t => t.ctx.frame).eraseDups = [0] := by rw [List.map_singleton, h1]; rfl
  rw [e, List.mergeSort_singleton]
  exact h2

theorem witness_TasksStartOnTheirThreads :
    (placed (inst .eligible 0)).rec0.stopped = false ∧ (placed (inst .eligible 0)).run.saving = false ∧
    ((placed (inst .eligible 0)).pickTask 0 [] ((((((placed (inst .eligible 0)).core 0).tasks.filter TaskInst.unstarted).map
      fun t => t.ctx.frame).eraseDups).mergeSort fun a b => decide (a ≤ b)) = some (inst .eligible 0)) ∧
    (placed (inst .eligible 0)).gateOf 0 (inst .eligible 0) ≠ .skip ∧ (inst .eligible 0).stage ≠ .invalid ∧
    ((placed (inst .invalid 0)).pickTask 0 [] ((((((placed (inst .invalid 0)).core 0).tasks.filter TaskInst.unstarted).map
      fun t => t.ctx.frame).eraseDups).mergeSort fun a b => decide (a ≤ b)) = some (inst .invalid 0)) ∧
    ((placed (inst .eligible 2)).pickTask 0 [] ((((((placed (inst .eligible 2)).core 0).tasks.filter TaskInst.unstarted).map
      fun t => t.ctx.frame).eraseDups).mergeSort fun a b => decide (a ≤ b)) = some (inst .eligible 2)) ∧
    (placed (inst .eligible 2)).gateOf 0 (inst .eligible 2) = .skip ∧
    (inst .eligible 0).trec.threads ≤ Core.reset.freeThreads.length ∧ 1 < (inst .eligible 0).trec.threads ∧
    Core.reset.freeThreads[1]? = some 1 :=
  ⟨by decide, by decide, picks _ (by decide +kernel) rfl (by decide +kernel), by decide, by decide, picks _ (by decide +kernel) rfl (by decide +kernel),
    picks _ (by decide +kernel) rfl (by decide +kernel), by decide, by decide +kernel, by decide, by decide +kernel⟩

/-! ## The granary, the smithy and the commit -/

/-- An almanac of one section, COMMIT of one frame, which declares slot 9 as KEPT of at most 64 bytes with its home in page 2. -/
def commitAlmanac : AlmSlot :=
  ⟨[(22, 1), (24, 0x60), (48, 0xE0), (56, 1), (0x60, 5), (0x64, 1), (0x78, 0xA0), (0xA0, 1), (0xA8, 9), (0xB0, 64), (0xB4, 64),
    (0xBA, 2)], 0x100⟩
/-- The module in the only frame of that section, with page 2 in frame 9. -/
def committing : State := { mapped with run := { RunCtl.reset with state := .running, inStep := true, step := 5, active := commitAlmanac } }
/-- A parity configuration of groups of two. -/
def cfg2 : ParityCfg := ⟨2, 0x100000, 4, 0x200000, 0x300000, 16, 1⟩
/-- Module 0 of a machine of two with that configuration; both are as far as the commit of step 5, and G and DMAX agree. -/
def paired : State := { committing with fab := { Fab.reset with
  pos := some ⟨2, 1, 1, 0, 0, 0⟩, parity := some cfg2, memberCfg := [(0, (2, 1, 0x100000, 4)), (1, (2, 1, 0x100000, 4))],
  ready := [(0, 5), (1, 5)] } }
/-- The same before the other member has told that it is as far. -/
def early : State := { paired with fab := { paired.fab with ready := [] } }
/-- The same with the smithies in a phase. -/
def inPhase (s : State) (n : Nat) : State := { s with smithy := { s.smithy with phase := n } }
/-- A request of a commit, its STS and STD fields 0, that waits in queue `q` of core 0. -/
def request (tgt : BitVec 4) : EngCmd := { queued with slot := .x, op := 2, tgt := tgt, d1 := 0, d2 := 0 }
def waiting (s : State) (q : Nat) (tgt : BitVec 4) : State :=
  s.setCore 0 { Core.reset with queues := [(q, ⟨[.eng (request tgt)], none⟩)] }
/-- The same with the smithies' marks of the step. -/
def marked (applied reduced : Bool) (s : State) : State :=
  { s with smithy := { s.smithy with applyStarted := applied, parityStarted := reduced } }
/-- A started request of that TGT with its STS and STD fields 0. -/
def reqRun (tgt : BitVec 4) (d1 : Desc) (param : W64) : Run :=
  let r := runOf .x 2 tgt d1 Desc.zero param
  { r with cmd := { r.cmd with d1 := 0, d2 := 0 } }

theorem reqRuns (s : State) (q : Nat) (tgt : BitVec 4) (d1 : Desc) (param : W64) :
    Runs (running s q (reqRun tgt d1 param)) 0 q .x 2 tgt (reqRun tgt d1 param) := by
  refine ⟨?_, rfl, rfl, rfl, rfl, rfl⟩
  have h : (running s q (reqRun tgt d1 param)).core 0 =
      { Core.reset with queues := [(q, ⟨[], some (reqRun tgt d1 param)⟩)] } := mapGet_mapPut_same ..
  rw [h]
  simp [Core.queue, mapGet]

/-- A STASH of 32 bytes into slot 9 completes; slot 9 used, slot 8 undeclared. Parity absent and present. APPLY of a committed and of
an open step. A quiet COMMIT section and one that has not ended. -/
theorem witness_GranaryAndCommitRequests :
    (let r := reqRun 5 (oneAccess 0 32) ((9 : W64) <<< 48)
     let x : SlotEntry := ⟨0, false, false, false, 0, 0, 64, 64, 0x20000⟩
     let s := running committing 8 r
     tgtQueue committing.unitsEff 5 = some 8 ∧ field r.args.param.toNat 63 48 = 9 ∧ committing.run.active.slotEntry 9 = some x ∧
     mapFind committing.granary.slots 9 = none ∧
     ending (stashWork 9 x r.args) (workFrom (s.setSlot 9 ⟨.pending, ownerOf 0 8, 0⟩) 0 8 r) = 0 ∧
     committing.run.active.slotEntry 8 = none ∧
     mapFind (committing.setSlot 9 ⟨.kept, 0x20000, 32⟩).granary.slots 9 = some ⟨.kept, 0x20000, 32⟩) ∧
    (tgtQueue committing.unitsEff 7 = some 10 ∧ committing.parityRuns = false ∧ paired.parityRuns = true) ∧
    (let r := reqRun 7 Desc.zero 0
     let a := (running paired 10 r).sendTrained
     a.smithy.phase < 2 ∧ a.inboundWaiting = false ∧
     ending (sendDeltas r.args) (workFrom { a with smithy := { a.smithy with phase := 2 } } 0 10 r) = 0 ∧
     2 ≤ (inPhase (running paired 10 r) 2).sendTrained.smithy.phase) ∧
    (tgtQueue committing.unitsEff 4 = some 7 ∧ (reqRun 4 Desc.zero 0).args.task.step = 0 ∧
     (reqRun 4 Desc.zero 0).cmd.task.detour = none ∧ committing.run.anyCommit = false ∧ committing.smithy.phase = 0 ∧
     armed5.run.anyCommit = true ∧ (reqRun 4 Desc.zero 0).args.task.step ≤ armed5.run.committed ∧ armed5.smithy.phase = 0) ∧
    committing.commitQuiet = true ∧ committing.smithy.applyStarted = false ∧ committing.rec0.stopping = false ∧
    State.reset.commitQuiet = false ∧ committing.tables.entries = [] ∧ committing.run.inStep = true := by decide +kernel

/-- The automatic apply: the other member not as far; no parity; Phase A over; Phase A open. -/
theorem witness_GranaryAndCommitRequests_auto :
    (early.commitQuiet = true ∧ early.smithy.applyStarted = false ∧ early.rec0.stopping = false ∧ early.tellReady.commitOpen = false) ∧
    (committing.tellReady.commitOpen = true ∧ committing.tellReady.parityRuns = false) ∧
    ((inPhase paired 2).commitQuiet = true ∧ (inPhase paired 2).tellReady.commitOpen = true ∧ (inPhase paired 2).tellReady.parityRuns = true ∧
      2 ≤ (inPhase paired 2).tellReady.smithy.phase) ∧
    (paired.commitQuiet = true ∧ paired.tellReady.commitOpen = true ∧ paired.tellReady.smithy.phase ≤ 1 ∧
      ({ paired.tellReady with smithy := { paired.tellReady.smithy with parityStarted := true } }).sendTrained.inboundWaiting = false) := by
  decide +kernel

/-- A staging request, a parity reduction and an APPLY at the front of their queues; before and after the reduction and an APPLY. -/
theorem witness_GranaryAndCommitRequests_starts :
    ([3, 7, 4].map fun tgt => tgtQueue paired.unitsEff (request tgt).tgt.toNat) = [some 6, some 10, some 7] ∧
    (∀ x ∈ ([(6, 3), (10, 7), (7, 4)] : List (Nat × BitVec 4)),
      (((waiting paired x.1 x.2).core 0).queue x.1).waiting = .eng (request x.2) :: [] ∧
      (((waiting paired x.1 x.2).core 0).queue x.1).run = none ∧ (waiting paired x.1 x.2).tellReady.commitOpen = true ∧
      (waiting early x.1 x.2).tellReady.commitOpen = false ∧ (waiting paired x.1 x.2).tellReady.rec0.stopped = false ∧
      condHolds (request x.2).wait.cond (((waiting paired x.1 x.2).core 0).counter (request x.2).wait.ctr) (request x.2).wait.value = true ∧
      x.1 ∉ ((waiting paired x.1 x.2).core 0).errors.cmd) ∧
    ((waiting paired 6 3).tellReady.smithy.applyStarted = false ∧ (waiting paired 6 3).tellReady.smithy.parityStarted = false) ∧
    (waiting (marked true false paired) 6 3).tellReady.smithy.applyStarted = true ∧
    (waiting (marked false true paired) 6 3).tellReady.smithy.parityStarted = true ∧
    (request 4).task.detour = none ∧ (startArgs ((waiting paired 7 4).core 0) (request 4)).param = 0 ∧
    (waiting (marked true false paired) 7 4).tellReady.smithy.applyStarted = true := by decide +kernel

theorem witness_GranaryAndCommitRequests_runs :
    Runs (running committing 8 (reqRun 5 (oneAccess 0 32) ((9 : W64) <<< 48))) 0 8 .x 2 5 (reqRun 5 (oneAccess 0 32) ((9 : W64) <<< 48)) ∧
    Runs (running paired 10 (reqRun 7 Desc.zero 0)) 0 10 .x 2 7 (reqRun 7 Desc.zero 0) ∧
    Runs (running committing 7 (reqRun 4 Desc.zero 0)) 0 7 .x 2 4 (reqRun 4 Desc.zero 0) := ⟨reqRuns .., reqRuns .., reqRuns ..⟩

/-- The holder of stripe 0 (member 0 holds even stripes), a page of 65,536 bytes and a short one, Phase B at its end. -/
theorem witness_CommitPhases :
    paired.fab.parity = some cfg2 ∧ paired.rec0.q = none ∧ paired.rec0.stopped = false ∧ paired.parityRuns = true ∧
    0 % paired.groupSize = paired.memberIdx ∧ (List.replicate 65536 (0 : Byte)).length = pageBytes ∧ committing.parityRuns = false ∧
    paired.fab.bSent = false ∧ paired.deltasOut = false ∧ (5 : W64).toNat = paired.run.step ∧ (4 : W64).toNat ≠ paired.run.step ∧
    ({ paired with fab := { paired.fab with bDone := [0, 1] } } : State).allDone = true ∧ paired.allDone = false ∧
    paired.run.inStep = true ∧ paired.fab.degraded = false ∧ paired.smithy.phase ≠ 3 ∧ (inPhase paired 2).smithy.phase = 2 ∧
    (inPhase paired 3).smithy.phase = 3 ∧ (marked true false paired).smithy.applyStarted = true ∧
    ({ paired.rec0 with q := some 4, stopped := true } : Rec).q.isSome = true ∧
    (∀ p, paired.fab.parity = some p → paired.fab.degraded = true ∨ mapFind paired.fab.ready paired.modNo ≠ some (5 : W64).toNat ∨
      (p.g = (2 : BitVec 4).toNat ∧ p.dmax = (1 : W32).toNat)) ∧
    (mapFind paired.fab.ready paired.modNo = some (5 : W64).toNat ∧ cfg2.dmax ≠ (2 : W32).toNat) ∧
    paired.maintOpen 8 = false ∧ ({ paired with bud := { paired.bud with maint := [(8, 1)] } } : State).maintOpen 8 = true ∧
    paired.fab.built = false ∧ ({ paired.fab with built := true } : Fab).built = true :=
  ⟨rfl, rfl, rfl, by decide, by decide, List.length_replicate, by decide⟩

/-- Local pages 2 and 3 in frames 9 and 10, the first word of page 2 poisoned. -/
def twoPages : State := { State.reset with tier := { Tier.reset with xlate := [(2, ⟨.local, true, false, false, false, false, 9, 0, 0, false⟩),
  (3, ⟨.local, true, false, false, false, false, 10, 0, 0, false⟩)], poison := [9 * 2048] } }

/-- A sum that reads a poisoned word, and one that reads none; the HBM meter of stack 0 open and closed; a group that builds its parity; the
end of a commit with the record's meter open. -/
theorem witness_CommitPhases_meters :
    (0x1000 ∈ twoPages.poisonIn 0x20000 32 ∧ twoPages.wordHere (0x30000 / 32 + 0x1000 - 0x20000 / 32) = some (10 * 2048) ∧
      twoPages.poisonIn 0x30000 32 = []) ∧
    (let s : State := { inPhase paired 2 with bud := { paired.bud with hbm := [(0, 1)] },
                                              fab := { paired.fab with bDone := [0, 1], bSent := true } }
     s.parityRuns = true ∧ s.allDone = true ∧ s.rec0.stopping = false ∧ s.run.inStep = true ∧ s.fab.bSent = true ∧
      0 < mapGet 0 s.bud.hbm 0 ∧ mapGet 0 State.reset.bud.hbm 0 ≤ 0) ∧
    (let s : State := { paired with fab := { paired.fab with building := true, built := true }, bud := { paired.bud with maint := [(8, 1)] } }
     s.fab.building = true ∧ s.maintOpen 8 = true ∧ s.fab.parity = some cfg2 ∧ paired.fab.building = false) ∧
    (({ Rec.reset with stopped := true } : Rec).stopped = true ∧ cfg2.g ≠ (3 : BitVec 4).toNat) := by decide +kernel

/-- A record of step 5 reads back from its 64 bytes, and none from bytes of zeros. -/
theorem test_commit_record : CommitRec.of (CommitRec.image ⟨5, 9, 1, 2, 7⟩) = some ⟨5, 9, 1, 2, 7⟩ ∧
    CommitRec.of (List.replicate 64 0) = none := by decide +kernel

/-! ## The tiers -/

/-- The module with those tiers. -/
def tiers (t : Tier) : State := { State.reset with tier := t }
/-- Page 2 in frame 9, page 3 of another module behind a signpost, page 5 staged from module 1 in frame 7. -/
def three : Tier := { Tier.reset with
  xlate := [(2, local9), (3, ⟨.pool, true, false, false, false, false, 0, 1, 0, false⟩), (5, ⟨.staged, false, false, false, true, false, 7, 1, 0, false⟩)],
  signposts := [(3, ⟨1, none, 4⟩)], staged := [(5, ⟨7, 1, [0], 3⟩)] }
/-- Whether a read of a frame gives bytes, is poisoned, or something else. -/
def kindOf : PRead → Nat
  | .ok _ _ => 0
  | .fault _ _ => 1
  | _ => 2
/-- A SUBSTITUTE row read of queue 0 for frame 10, a plain read of queue 3, and a host read. -/
def rows10 : ReadOut := ⟨.engine 0 0, 3 * 65536, 4, none, true, 10, false, none⟩
def plain10 : ReadOut := ⟨.engine 0 3, 4 * 65536, 4, none, false, 10, false, none⟩
def fromHost : ReadOut := ⟨.engine 0 3, 5 * 65536, 4, some 4096, false, 10, false, none⟩

/-- Core 0 with a command of queue 3 that reads. -/
def reader : Run := runOf .x 1 0 Desc.zero Desc.zero 0
/-- The module in its tier with a write to page 2 that NOT_HOME sends again. -/
def again2 : WriteOut := ⟨8, .engine 0 3, 2 * 65536, bytes [1], true, none⟩

/-- The last byte of the home page, the whole of it, a poisoned word, a signpost and a page unknown; a read that one answer fits; a late
one; one cycle before and at the guard band; a row of NOT_HOME with the directory elsewhere and here; a read of a queue that fails; the
scrub's meter open and closed; the last word of the HBM and the first beyond. -/
theorem witness_ReadsFindTheirHome :
    (2 = (2 * 65536 + 65535 : Nat) / pageBytes ∧ (tiers three).standing 2 = .home local9 ∧ local9.tier = .local ∧
      kindOf ((((tiers three).lendTo 2 0 local9 false).addHeat 2 1).readFrame 9 65535 1) = 0 ∧
      kindOf ((((tiers { three with poison := [9 * 2048] }).lendTo 2 0 local9 false).addHeat 2 1).readFrame 9 31 1) = 1 ∧
      (at09 5 0 0 []).route (227 : ModId).toNat = some 1 ∧ (tiers three).standing 3 = .signpost 1 ∧ (tiers three).standing 4 = .stranger) ∧
    ([rows10, plain10, fromHost].filter fun r => r.va == 3 * 65536 && r.len == (bytes [1, 2, 3, 4]).length && r.host.isNone) = [rows10] ∧
    ((4 : Nat) = (match (some 4 : Option (BitVec 17)) with | some k => k.toNat | none => (bytes []).length)) ∧ rows10.row = none ∧
    mapFind Tier.reset.xlate 3 = none ∧
    ([rows10, plain10, fromHost].filter fun r => r.host == some (4096 : W64).toNat && r.len == (bytes [1, 2, 3, 4]).length) = [fromHost] ∧
    ({ rows10 with late := true } : ReadOut).late = true ∧ rows10.late = false ∧
    (rows10.who = .engine 0 0 ∧ rows10.sub = true ∧ plain10.sub = false) ∧
    (10 + 1 - 1 = 10 ∧ 15360 ≤ 15360 ∧ ¬ (15360 ≤ 15359)) ∧
    ((tiers three).dirAt 2 = (tiers three).modNo ∧ (at09 5 0 0 []).dirAt 2 ≠ (at09 5 0 0 []).modNo ∧ 
      (∀ q ∈ (at09 5 0 0 []).tier.queries, q.1 ≠ 2)) ∧
    (let s : State := { at09 5 0 0 [] with tier := { Tier.reset with reads := [{ plain10 with va := 131072 }] } }
     s.hif.aper = [] ∧ (∀ e, mapFind s.tier.xlate 2 = some e → e.tier = .pool ∨ e.tier = .staged) ∧
     (s.route (s.dirAt 2)).isSome = true ∧ (s.tier.reads.filter fun r => r.va == 131072 && r.host.isNone) = [{ plain10 with va := 131072 }] ∧
     ∀ w ∈ s.tier.writesOut, w.tag ≠ 8) ∧
    (let s := tiers { Tier.reset with dir := [(2, ⟨0, 1, false, false, false, true, false, false, 0⟩)], writesOut := [again2] }
     s.dirAt 2 = s.modNo ∧ mapFind s.tier.dir 2 = some ⟨0, 1, false, false, false, true, false, false, 0⟩ ∧ s.tier.writesOut = [again2] ∧
     again2.tag = 8 ∧ again2.va / pageBytes = 2 ∧ again2.bytes ≠ [] ∧ s.tier.reads = []) ∧
    Tier.reset.writesOut = [] ∧ (State.reset.hif.aper = []) ∧ (0 : Nat) ≠ (at09 5 0 0 []).modNo ∧
    ((((running State.reset 3 reader).core 0).queue 3).run = some reader ∧ reader.done = false ∧ reader.failed = false) ∧
    (State.reset.maintOpen 0 = true ∧ committing.maintOpen 0 = false) ∧
    (32 * (0x4FFFFFFFF : BitVec 35).toNat < hbmBytes ∧ hbmBytes ≤ 32 * (0x500000000 : BitVec 35).toNat ∧ 5 ∉ Tier.reset.poison) := by
  decide

/-- A write of a remote module that one holder keeps back. -/
def keptBack : HeldWriteAt := ⟨.remote 4 8, 2 * 65536, bytes [1], [1]⟩

theorem witness_WritesReachTheirHome :
    ({ tiers three with rec0 := { Rec.reset with stopped := true } } : State).standing 2 = .home local9 ∧ State.reset.rec0.stopped = false ∧
    ((tiers three).standing 2 = .home local9 ∧ mapGet [] three.holders 2 = [] ∧
      mapGet [] ({ three with holders := [(2, [1])] } : Tier).holders 2 = [1] ∧ (tiers three).standing 3 = .signpost 1 ∧
      (tiers three).standing 4 = .stranger ∧ mapFind three.movesIn 4 = none) ∧ local9.tier = .local ∧
    (([⟨8, .engine 0 3, 3 * 65536, bytes [1], false, none⟩] : List WriteOut).find? (fun x => x.tag == (8 : W32).toNat)).isSome = true ∧
    mapFind three.movesOut 2 = none ∧
    mapFind Tier.reset.xlate 3 = none ∧ (Tier.reset.writesOut.find? fun x => x.tag == (8 : W32).toNat) = none ∧
    (let t : Tier := { three with holders := [(2, [1])], writes := [keptBack] }
     mapGet [] t.holders 2 = [1] ∧ mapFind t.xlate 2 = some local9 ∧ (2 * 65536 : Nat) / pageBytes = 2 ∧ t.writes = [keptBack]) ∧
    (mapFind three.staged 5 = some ⟨7, 1, [0], 3⟩ ∧
      mapFind three.xlate 5 = some ⟨.staged, false, false, false, true, false, 7, 1, 0, false⟩ ∧ mapFind three.staged 6 = none) := by decide

/-- A directory entry that may move since frame 1,024 and may not before. -/
def dirEntry : DEntry := ⟨0, 0, false, false, false, true, false, false, 0⟩
/-- The module at the tick of frame `f` with those tiers. -/
def atFrame (f : Nat) (t : Tier) : State := { tiers t with bel := { Bel.reset with frame := f } }
/-- A move of page 2 to module 1 granted in frame 7 with that many pieces acknowledged by frame 8. -/
def outgoing (n : Nat) : MoveOut := ⟨1, false, 0, 7, 0, true, List.range n, 0, 9⟩
/-- An inbound move of page 2 granted in frame 7, of attributes W and STAGE. -/
def incoming (host : Option Nat) : MoveIn := ⟨1, 9, 7, 0, host, 5⟩

theorem witness_PagesMove :
    ((atFrame 1024 { three with dir := [(2, dirEntry)] }).dirAt 2 = (atFrame 1024 three).modNo ∧
      ((atFrame 1024 three).moveAllowed dirEntry &&
        (atFrame 1024 three).destAccepts dirEntry.owner 1 false true) = true ∧ ((atFrame 1023 three).moveAllowed dirEntry &&
        (atFrame 1023 three).destAccepts dirEntry.owner 1 false true) = false ∧ (1 : ModId).toNat ≠ State.reset.modNo) ∧
    ((bytes (List.replicate 2048 0)).length = 2048 ∧ mapFind ([(2, incoming none)] : List (Nat × MoveIn)) 2 = some (incoming none) ∧
      (incoming none).host = none ∧ (incoming (some 4)).host = some 4 ∧ (incoming none).source = (1 : ModId).toNat) ∧
    ((atFrame 9 three).moveReady 2 (outgoing 31) = false ∧ (atFrame 8 three).moveReady 2 (outgoing 32) = false ∧
      (atFrame 9 three).moveReady 2 (outgoing 32) = true ∧ (outgoing 32).dest ≠ State.reset.modNo) ∧
    (mapFind three.signposts 3 = some ⟨1, none, 4⟩ ∧ 4 < (atFrame 5 three).bel.frame ∧ (atFrame 4 three).bel.frame ≤ 4) ∧
    (mapFind three.movesOut 2 = none ∧ (atFrame 8 three).bel.cycle = 0 ∧ (incoming none).grant < (atFrame 8 three).bel.frame ∧
      (atFrame 7 three).bel.frame ≤ (incoming none).grant ∧ (atFrame 70 three).bel.frame < (incoming none).grant + 64 ∧
      (incoming none).grant + 64 ≤ (atFrame 71 three).bel.frame ∧
      mapFind (atFrame 8 { three with movesIn := [(2, incoming none)] }).tier.movesIn 2 = some (incoming none) ∧ ({ Bel.reset with cycle := 1 } : Bel).cycle ≠ 0) ∧
    ((tiers { three with grants := [(2, (1, 7))] }).grantTick 2 = some 7 ∧ 70 < 7 + 64 ∧ 7 + 64 ≤ 71) ∧
    (64 % 2 ^ Tier.reset.regs.epoch = 0 ∧ 65 % 2 ^ Tier.reset.regs.epoch ≠ 0 ∧ ({ Bel.reset with econ := true } : Bel).econ = true) ∧
    (let s := tiers { three with quota := [(0, 9)] }
     s.quotaUse 0 ≤ s.quotaLimit 0 ∧ s.quotaUse 4 = s.quotaLimit 4 + 1 ∧ s.oldestStage = some 5 ∧
       ∀ c, c < 4 → (s.yieldStage 5).quotaUse c ≤ (s.yieldStage 5).quotaLimit c) ∧
    (State.reset.quotaUse 0 ≤ State.reset.quotaLimit 0 ∧ ∀ c, c ≤ 4 → State.reset.quotaUse c ≤ State.reset.quotaLimit c) ∧
    ((0x9FFFFF : BitVec 24).toNat < 8 * framesPerStack ∧ 8 * framesPerStack ≤ (0xA00000 : BitVec 24).toNat ∧
      16 ≤ ((atFrame 9 { three with corr := [(9, List.replicate 16 8)] }).corrOf 9).length ∧
      ((atFrame 9 { three with corr := [(9, List.replicate 15 8)] }).corrOf 9).length < 16) := by decide +kernel

/-- One local page against a limit of none, with module 1 as target. -/
def crowded : State := tiers { Tier.reset with xlate := [(2, local9)], quota := [(0, 0)], targets := [1], dir := [(2, dirEntry)] }

theorem witness_PagesMove_excess : crowded.quotaLimit 0 < crowded.quotaUse 0 - crowded.leaving 0 ∧ crowded.tier.staged = [] ∧ crowded.bel.econ = false ∧
    crowded.excessMove [(1, false)] 0 = some (2, 1, false) ∧
    ∀ c, c < 4 → (crowded.requestMove 2 1 false).quotaUse (c + 1) ≤ (crowded.requestMove 2 1 false).quotaLimit (c + 1) := by decide +kernel

/-! ## The fabric -/

/-- A cell to module `dest` with that number, and an idle block that acknowledges cell 5, with their CRCs. -/
def cellTo (dest seq : Nat) : List Byte :=
  let b := bytes ([2, 0] ++ nums (bytesOfNat 2 dest) ++ [0, 0, 0, 0] ++ nums (bytesOfNat 2 seq) ++ List.replicate 274 0)
  b ++ bytesOfNat 4 (crc32c b)
def idleOf (nak : Nat) : List Byte := let b := bytes ([0, nak, 5] ++ List.replicate 25 0); b ++ bytesOfNat 4 (crc32c b)
def idle5 : List Byte := idleOf 0
/-- The module at position (x, 0, 0) of a 4×2×1 machine, with port 0. -/
def ported (x : Nat) (p : PortReg) : State :=
  { State.reset with fab := { Fab.reset with pos := some ⟨4, 2, 1, x, 0, 0⟩, ports := [(0, p)] } }
/-- A port that serves, expecting number 7, toward module `peer`. -/
def serving (peer : Nat) : PortReg := { PortReg.reset with state := .up, bypass := false, nextRecv := 7, peer := peer }

/-- The position of module (x, y, 0) of that machine as FAB_POSITION holds it. -/
def posReg (x y : Nat) : W64 := BitVec.ofNat 64 (4 * 2 ^ 40 + 2 * 2 ^ 32 + 2 ^ 24 + x * 2 ^ 16 + y * 2 ^ 8)

theorem crcShift_lt (k : Nat) : ∀ c, c < 2 ^ 32 → crcShift k c < 2 ^ 32 := by
  induction k with
  | zero => exact fun c h => h
  | succ k ih =>
    intro c h
    unfold crcShift
    apply ih
    split
    · exact Nat.xor_lt_two_pow (by omega) (by decide)
    · omega

theorem crcFold_lt (b : List Byte) :
    ∀ c, c < 2 ^ 32 → b.foldl (fun c b => crcShift 8 (c ^^^ b.toNat)) c < 2 ^ 32 := by
  induction b with
  | nil => exact fun c h => h
  | cons x t ih => exact fun c h => ih _ (crcShift_lt 8 _ (Nat.xor_lt_two_pow h (by omega)))

/-- 284 bytes that begin a cell and their CRC are a good cell. -/
theorem cellGood_crc (b : List Byte) (h : b.length = 284) (h0 : blkNat (b ++ bytesOfNat 4 (crc32c b)) 0 1 = 2) :
    cellGood (b ++ bytesOfNat 4 (crc32c b)) = true := by
  have hc : crc32c b < 2 ^ 32 := Nat.xor_lt_two_pow (crcFold_lt b _ (by decide)) (by decide)
  have hb : blkNat (b ++ bytesOfNat 4 (crc32c b)) 284 4 = crc32c b := by
    unfold blkNat
    rw [List.drop_left' h]
    simp only [bytesOfNat, List.take, natOfBytes, BitVec.toNat_ofNat]
    omega
  have ht : (b ++ bytesOfNat 4 (crc32c b)).take 284 = b := List.take_left' h
  have hl : (b ++ bytesOfNat 4 (crc32c b)).length = 288 := by rw [List.length_append, h]; rfl
  simp only [cellGood, hb, ht, h0, hl, BEq.rfl, Bool.and_self]

/-- The head of a BULK cell for module 0, which waits behind another one. -/
def bulkCell : List Byte := bytes ([2, 2] ++ List.replicate 286 0)

theorem witness_LinksCarryCellsInOrder_waits : (ported 0 (serving 1)).bulkWaits (serving 1).recv (cellTo 0 7) = false ∧
    (ported 0 (serving 1)).bulkWaits [bulkCell] bulkCell = true ∧ (ported 0 (serving 1)).bulkWaits [] bulkCell = false := by
  decide +kernel

theorem witness_LinksCarryCellsInOrder_cell : cellGood (cellTo 0 7) = true := cellGood_crc _ (by decide +kernel) (by decide +kernel)

/-- A port whose replay buffer holds cells 5 and 6, the oldest sent again 14 times. -/
def replaying : PortReg := { serving 1 with replay := [(5, []), (6, [])], resent := 14 }
/-- The module with six ports that serve their links. -/
def allUp (s : State) : State :=
  { s with fab := { s.fab with ports := (List.range 6).map fun p => (p, { s.port p with bypass := false, state := .up }) } }

/-- A route and none; the stop that a loss of modules ends and another; a place and none in the receive buffer; ports in BYPASS and in training; a NAK of cell 5; messages of the module's own with a route,
in and out of BYPASS, one that charges and one that does not. -/
theorem witness_LinksCarryCellsInOrder_ports :
    ((allUp (at09 5 0 0 [227])).route 227 = none ∧ (allUp (at09 5 0 0 [227])).inBypass = false ∧ 227 ≠ (at09 5 0 0 []).modNo ∧
      (allUp (at09 5 0 0 [227])).outbox = [] ∧ (allUp (at09 5 0 0 [227])).evLog.length < 256 ∧
      (allUp (at09 5 0 0 [227])).destsOf (.dirQuery 227 2) = [227] ∧ Msg.dirQuery 227 2 ≠ .stop) ∧
    (Rec.reset.modules = [] ∧ ({ Rec.reset with modules := [1] } : Rec).modules ≠ []) ∧
    (serving 1).recv.length < 455 ∧ 455 ≤ ({ serving 1 with recv := List.replicate 455 [] } : PortReg).recv.length ∧
    (State.reset.port (0 : Port).val).bypass = true ∧
    (let p := { serving 1 with state := .train }
     ((ported 0 p).port (0 : Port).val).bypass = false ∧ ((ported 0 p).port (0 : Port).val).state ≠ .up ∧ p.state = .train) ∧
    (let r := (replaying.credit (creditsOf (blkNat (idleOf 1) 4 8))).ackTo ((blkNat (idleOf 1) 2 2 % 4096 + 4095) % 4096)
     bit (blkNat (idleOf 1) 1 1) 0 = true ∧ blkNat (idleOf 1) 28 4 = crc32c ((idleOf 1).take 28) ∧ r.replay ≠ [] ∧ r.resent < 15) ∧
    (blkNat (List.replicate 32 1) 0 1 ≠ 0) ∧ ((ported 0 { serving 1 with state := .unused }).port 0).state = .unused ∧
    ((ported 0 (serving 1)).port 0).state ≠ .miswired ∧
    (let m : Msg := .dirQuery 227 2
     let k : Option MsgKind := m.kind
     (k.map fun k => decide (k.ack = false ∧ k.cls ≠ 3)) = some true ∧ (at09 5 0 0 []).destsOf m = [227] ∧
     (at09 5 0 0 []).route 227 = some 1 ∧ (at09 5 0 0 []).inBypass = true ∧ (allUp (at09 5 0 0 [])).inBypass = false ∧
     (allUp (at09 5 0 0 [])).route 227 = some 1) ∧
    ((Msg.bulkAck 1 2).kind.map MsgKind.ack) = some true := by decide +kernel

theorem witness_LinksCarryCellsInOrder :
    Serving (ported 0 (serving 1)) (0 : Port).val ∧ cellSeq (cellTo 0 7) = (serving 1).nextRecv ∧
    cellDest (cellTo 0 7) = (ported 0 (serving 1)).modNo ∧ cellDest (cellTo 1 7) ≠ (ported 0 (serving 1)).modNo ∧
    cellSeq (cellTo 0 8) ≠ (serving 1).nextRecv ∧ cellGood (List.replicate 288 0) = false ∧ ¬ Serving State.reset (0 : Port).val ∧
    (idle5.length = 32 ∧ blkNat idle5 0 1 = 0 ∧ blkNat idle5 28 4 = crc32c (idle5.take 28) ∧ bit (blkNat idle5 1 1) 0 = false) ∧
    ([(4, []), (5, []), (6, [])] : List (Nat × List Byte)) = [(4, [])] ++ (5, []) :: [(6, [])] ∧
    ((ported 0 (serving 1)).port 0).state ≠ .unused ∧
    (let q := Position.ofReg (posReg 1 0).toNat
     q.shapeX = 4 ∧ q.shapeY = 2 ∧ q.shapeZ = 1 ∧
       ∀ e, e < 3 → (coordOf (0, 0, 0) e = coordOf (q.x, q.y, q.z) e ↔ e ≠ (0 : Port).val / 2)) ∧
    (let q := Position.ofReg (posReg 0 1).toNat; coordOf (0, 0, 0) 0 = coordOf (q.x, q.y, q.z) 0) ∧
    (let d : State := ported 1 { serving 0 with state := .down }
     (d.port 0).state = .down ∧ d.isLive (d.port 0).peer = true ∧ (d.port 0).peer < d.modNo) ∧
    (let d : State := ported 0 { serving 1 with state := .down }
     d.isLive (d.port 0).peer = true ∧ d.modNo ≤ (d.port 0).peer) := by unfold Serving; decide +kernel

/-- The last module of the machine and the first beyond it; modules 0 and 1 as root; keepers in BYPASS with marks carrying RUN = 0
and with none for 64 frames; the last byte of a local page; staging that a partial fills. -/
theorem witness_MembershipAndArrivingData :
    ((ported 0 (serving 1)).modCount ≤ (8 : ModId).toNat ∧ (7 : ModId).toNat < (ported 0 (serving 1)).modCount) ∧
    (1, 1) ∈ (ported 0 (serving 1)).ringOf (3 : ModId).toNat (0 : Fin 3).val ∧ 1 ≠ (ported 0 (serving 1)).modNo ∧
    ((∀ m, m < (ported 0 (serving 1)).modNo → (ported 0 (serving 1)).isLive m = false) ∧ (ported 0 (serving 1)).isLive 0 = true) ∧
    (0 < (ported 1 (serving 0)).modNo ∧ (ported 1 (serving 0)).isLive 0 = true ∧ ∀ k, k < 0 → (ported 1 (serving 0)).isLive k = false) ∧
    ((ported 0 (serving 1)).setsAgree = false ∧
      ({ ported 0 (serving 1) with fab := { (ported 0 (serving 1)).fab with heard := [0, 1] } } : State).setsAgree = true) ∧
    (State.reset.inBypass = true ∧ State.reset.reeve.mode ≠ .recovery ∧ ({ State.reset.reeve with mode := .recovery } : Reeve).mode = .recovery ∧
      State.reset.pwr.up = false ∧ ({ State.reset.pwr with up := true } : Pwr).up = true ∧ State.reset.pwr.dieReset = false ∧ State.reset.pwr.failed = false ∧
      State.reset.pwr.domain = .running ∧ State.reset.rec0.stopping = false ∧ 64 ≤ ({ Bel.reset with markless := 64 } : Bel).markless) ∧
    (({ Bel.reset with state := .acquire } : Bel).state ≠ .free ∧ Bel.reset.peerRun = false) ∧
    ((ported 0 (serving 1)).inBypass = false ∧ ({ Bel.reset with peerRun := true, markless := 63 } : Bel).markless < 64) ∧
    ((1 : ModId).toNat ≠ (tiers three).modNo ∧ 2 = (0x2FFFF : VA).toNat / pageBytes ∧ (0x2FFFF : VA).toNat % pageBytes + (bytes [1]).length ≤ pageBytes ∧ bytes [1] ≠ [] ∧
      mapFind three.xlate 2 = some local9 ∧ local9.w = true ∧ 2 ∉ three.codePages ∧ mapGet [] three.holders 2 = [] ∧
      three.writes = [] ∧ three.writesOut = [] ∧ three.bulks = [] ∧
      mapGet [] ({ three with holders := [(2, [1])] } : Tier).holders 2 ≠ []) ∧
    State.reset.stagedBytes + (bytes [1]).length ≤ 2 ^ 28 ∧ State.reset.rec0.stopped = false ∧
    ({ State.reset.rec0 with stopped := true } : Rec).stopped = true := by decide +kernel

/-- A partial of one byte more than 256 MiB finds no room. -/
theorem witness_MembershipAndArrivingData_full : 2 ^ 28 < State.reset.stagedBytes + (List.replicate (2 ^ 28 + 1) (0 : Byte)).length := by
  rw [List.length_replicate]; exact Nat.lt_of_lt_of_le (Nat.lt_succ_self _) (Nat.le_add_left _ _)

/-! ## Tables -/

/-- A table with the bytes of its directory entry given by offset (LOAD_LIMIT 10, two hot slots, STRIDE 64), TRAINED or not; version 1
is CURRENT with its base at page 2, version 2 becomes current at frame 10. -/
def tableOf (trained : Nat) : Table :=
  { image := (List.range 128).map fun i => BitVec.ofNat 8 (mapGet 0 [(3, trained), (16, 64), (20, 2), (36, 10)] i),
    versions := [(0, ⟨1, .current, false, 0x20000, 0, 1⟩), (1, ⟨2, .pending, false, 0x30000, 10, 1⟩)],
    load := 0, frameLoad := 0, frameMax := 0, lastLoad := 3, lastFrameMax := 0, cands := [], lastCands := [], hot := [],
    redirects := [], moves := [], signposts := [], added := [], addSeq := 0, destroy := none, gone := [] }
/-- Row 5 of version 1. -/
def key5 : Nat := rowKey 1 5
/-- Hot slot 0 reserved for it. -/
def slot5 : HotSlot := ⟨5, 1, false, 0, 0, false⟩
/-- The module with table 3 and those tiers. -/
def tabled (t : Table) (x : Tier) : State := { tiers x with tables := { Tables.reset with entries := [(3, t)] } }

/-- The base slot here, a row away, a row behind a signpost; a version a frame before and at its tick; a load that fits exactly and one
above; a move whose copy has come, one frame before and at its abandoning; a step committed and open. -/
theorem witness_TableRowsMoveAndAdd :
    (tabled (tableOf 0) three).table (3 : BitVec 12).toNat = some (tableOf 0) ∧ (tabled (tableOf 0) three).rec0.stopped = false ∧
    ({ tabled (tableOf 0) three with rec0 := { Rec.reset with stopped := true } } : State).table 3 = some (tableOf 0) ∧
    key5 = rowKey (1 : W32).toNat (5 : W32).toNat ∧ key5 = rowKey (tableOf 0).addVersion (5 : W32).toNat ∧
    (tabled (tableOf 0) three).rowAt (tableOf 0) key5 = .base ∧
    (tabled (tableOf 0) three).rowAt { tableOf 0 with redirects := [(key5, ⟨1, 0, none, 0, 0, 0, false, (0, 0)⟩)] } key5 = .away 1 ∧
    ((tabled (tableOf 0) Tier.reset).rowAt (tableOf 0) key5 = .unknown ∧
      mapFind ({ tableOf 0 with signposts := [(key5, (1, 4))] } : Table).signposts key5 = some (1, 4)) ∧
    (∀ x ∈ (tableOf 0).versions, x.2.state = .pending → (atFrame 9 three).bel.frame < x.2.from_) ∧
    (((tableOf 0).versions.filter fun x => x.2.state == .pending && decide (x.2.from_ ≤ (atFrame 10 three).bel.frame)).length = 1 ∧
      ∀ x ∈ (tableOf 0).versions, x.2.version ≤ 2) ∧
    ((tabled (tableOf 0) Tier.reset).homesVa ((tableOf 0).baseAddr key5) = false ∧ (tableOf 0).freeSlot = some 0 ∧
      (tableOf 0).lastLoad + 7 ≤ (tableOf 0).loadLimit ∧ (tableOf 0).loadLimit < (tableOf 0).lastLoad + 8 ∧
      (tableOf 0).hotAt key5 = none ∧ (tableOf 0).reserved key5 = none ∧ Bel.reset.econ = false) ∧
    ((tableOf 0).trained = false ∧ (tableOf 1).trained = true ∧
      ({ tableOf 0 with hot := [(0, slot5)] } : Table).reserved key5 = some (0, slot5) ∧
      mapFind (tableOf 0).moves key5 = none ∧ ({ slot5 with copied := true } : HotSlot).copied = true ∧ slot5.flip < (atFrame 9 three).bel.frame) ∧
    (let m : RowMove := ⟨1, 0, false, 7, 4, true, true, 9⟩
     mapFind ({ tableOf 0 with moves := [(key5, m)] } : Table).moves key5 = some m ∧ m.copied = true ∧
       mapFind (tableOf 0).redirects key5 = none ∧ (tableOf 0).reserved key5 = none ∧
       (atFrame 9 three).bel.cycle = 0 ∧ m.grant < (atFrame 9 three).bel.frame ∧ m.flipFrom ≤ (atFrame 9 three).bel.frame ∧
       (atFrame 9 three).fab.lastFrame < (atFrame 9 three).bel.frame ∧ m.grant + 64 ≤ (atFrame 71 three).bel.frame ∧
       (atFrame 70 three).bel.frame < m.grant + 64 ∧ armed5.run.anyCommit = true ∧ m.step ≤ armed5.run.committed ∧
       armed5.smithy.phase = 0 ∧ RunCtl.reset.committed < m.step) ∧
    (let p : Nat × Nat := (1, 4); p.2 < (atFrame 5 three).bel.frame ∧ (atFrame 4 three).bel.frame ≤ p.2) := by decide +kernel

/-- Rows away from the module with and without a signpost; a TRAINED row's slot whose copy the step still awaits. -/
theorem witness_TableRowsMoveAndAdd_away :
    mapFind ({ tableOf 0 with redirects := [(key5, ⟨1, 0, none, 0, 0, 0, false, (0, 0)⟩)] } : Table).signposts key5 = none ∧
    ((tabled { tableOf 0 with redirects := [(key5, ⟨1, 0, none, 0, 0, 0, false, (0, 0)⟩)], signposts := [(key5, (1, 4))] } three).rowAt
      { tableOf 0 with redirects := [(key5, ⟨1, 0, none, 0, 0, 0, false, (0, 0)⟩)], signposts := [(key5, (1, 4))] } key5 = .away 1) ∧
    (tabled { tableOf 1 with hot := [(0, slot5)] } three).inboundWaiting = true ∧ State.reset.bel.econ = false ∧
    ({ Bel.reset with econ := true } : Bel).econ = true := by decide +kernel

/-- A parity reduction, and a parity step whose first one waits for that copy. -/
theorem witness_GranaryAndCommitRequests_inbound :
    let s : State := { running paired 10 (reqRun 7 Desc.zero 0) with
      tables := { Tables.reset with entries := [(3, { tableOf 1 with hot := [(0, { slot5 with step := 5 })] })] } }
    s.parityRuns = true ∧ s.sendTrained.smithy.phase < 2 ∧ s.sendTrained.inboundWaiting = true := by decide +kernel

/-! ## Recovery -/

/-- The module with that recovery state. -/
def recovering (r : Rec) : State := { State.reset with rec0 := r }
/-- A stopped module that has tried the step `n` times. -/
def tried (n : Nat) : State := { recovering { Rec.reset with stopping := true, stopped := true } with
  run := { RunCtl.reset with tries := [(0, n)] } }
/-- A module that replays, nothing left to rebuild, at cycle `c`. -/
def replayAt (c : Nat) : State := { recovering { Rec.reset with q := some 5, stopped := true } with
  run := { RunCtl.reset with state := .replaying }, bel := { Bel.reset with cycle := c } }
/-- Module 0 of two, module 1 lost, replaying. -/
def bereft (p : Option ParityCfg) : State := { State.reset with
  fab := { Fab.reset with pos := some ⟨2, 1, 1, 0, 0, 0⟩, dead := [1], parity := p },
  rec0 := { Rec.reset with q := some 5, modules := [1], stopped := true } }
/-- Page 0x10 of a protected range in frame 9, of which word 9 × 2,048 is poisoned. -/
def poisoned10 : State := { tiers { Tier.reset with xlate := [(16, local9)], poison := [9 * 2048] } with
  fab := { Fab.reset with pos := some ⟨2, 1, 1, 0, 0, 0⟩, parity := some cfg2, valid := true } }
/-- A module at the boundary of step 4, which leaves or joins there. -/
def leaving : State := { armed5 with fab := { Fab.reset with leave := some 4, join := some 4 } }

/-- Every class; a second and a third try; a page to rebuild, a poisoned word of a group whose parity is valid. -/
theorem witness_RecoveryRows :
    (let s := recovering { Rec.reset with stopping := true, stopAt := 1 }
     s.rec0.stopping = true ∧ s.rec0.stopped = false ∧ s.bel.cycle = 0 ∧ s.bel.frame ≠ s.rec0.stopAt ∧
      s.bel.frame = ({ Rec.reset with stopping := true } : Rec).stopAt ∧ Rec.reset.q = none ∧ (replayAt 0).rec0.q.isSome = true) ∧
    (Rec.reset.again = false ∧ ({ Rec.reset with again := true } : Rec).again = true) ∧
    (Rec.reset.stopping = false ∧ ({ Rec.reset with stopping := true } : Rec).stopping = true ∧ Rec.reset.stopped = false) ∧
    (State.reset.smithy.phase ≤ 2 ∧ State.reset.fab.bSent = false ∧ ({ Fab.reset with bSent := true } : Fab).bSent = true) ∧
    ((tried 1).rec0.stopped = true ∧ (tried 1).rec0.q = none ∧ (tried 1).bel.root = false ∧ (tried 1).smithy.phase = 0 ∧
      (tried 1).rec0.faults = [] ∧ (tried 1).rec0.ueNow = [] ∧ mapGet 0 (tried 1).run.tries (tried 1).run.nextStep < 2 ∧
      2 ≤ mapGet 0 (tried 2).run.tries (tried 2).run.nextStep) ∧
    ((replayAt 0).run.state = .replaying ∧ (replayAt 0).rec0.q.isSome = true ∧ (replayAt 0).rec0.rebuild = [] ∧
      (replayAt 0).bel.cycle = 0 ∧ (replayAt 1).bel.cycle ≠ 0) ∧
    (let fault (spared : List Nat) : State := recovering { Rec.reset with faults := [⟨9, 0x0121, 2, 1, 3, 0, 0⟩], spared := spared }
     (fault []).rec0.faults = [⟨9, 0x0121, 2, 1, 3, 0, 0⟩] ∧ 3 ∉ (fault []).rec0.spared ∧ 3 ∈ (fault [3]).rec0.spared) ∧
    (16 ∈ (recovering { Rec.reset with rebuild := [16] }).rec0.rebuild ∧ 16 ∉ Rec.reset.rebuild) ∧
    (poisoned10.pageOfWord (BitVec.ofNat 35 (9 * 2048)).toNat = some 16 ∧ 9 * 2048 ∈ poisoned10.tier.poison ∧
      poisoned10.rebuildable 16 = true ∧ poisoned10.run.inStep = false ∧ poisoned10.smithy.phase = 0 ∧ poisoned10.rec0.stopping = false ∧
      9 * 2048 + 1 ∉ poisoned10.tier.poison) := by decide +kernel

/-- A lost module in the directory, with a group and without; the boundary and a module that is not there; a root that admits module
1. -/
theorem witness_RecoveryRows_modules :
    ((bereft none).isLive (0 : ModId).toNat = true ∧ (bereft none).isLive (1 : ModId).toNat = false ∧
      (1 : ModId).toNat < (bereft none).modCount ∧ (bereft none).deputy 1 = (bereft none).modNo ∧ (bereft none).tier.xlate = [] ∧
      dirModule (bereft none).modCount 1 = 1 ∧ mapFind (bereft none).tier.dir 1 = none) ∧
    ((bereft none).rec0.q.isSome = true ∧ 1 ∈ (bereft none).rec0.modules ∧ 0 ∉ (bereft none).rec0.modules ∧
      (bereft (some cfg2)).fab.parity.isSome = true ∧ (bereft (some cfg2)).sameGroup (bereft (some cfg2)).groupG 1 0 = true ∧ (bereft none).rec0.holdIdle = none ∧
      ({ (bereft none).rec0 with holdIdle := some 0 } : Rec).holdIdle.isSome = true ∧ 1 ∉ (bereft none).fab.left ∧ (bereft (some cfg2)).fab.valid = false ∧
      (bereft none).fab.parity = none ∧
      (((bereft none).returnRows 1 []).forget 1 []).2.rec0.modules = [1]) ∧
    (leaving.fab.leave = some 4 ∧ leaving.atBoundary 4 = true ∧ leaving.atBoundary 5 = false ∧ leaving.fab.parity = none ∧
      leaving.rec0.faults = [] ∧ leaving.rec0.stopped = false ∧ leaving.rec0.stopping = false ∧
      leaving.fab.join = some (4 : W64).toNat ∧ (0 : ModId).toNat = leaving.modNo ∧
      armed5.fab.join ≠ some (4 : W64).toNat ∧ armed5.atBoundary (4 : W64).toNat = true ∧ armed5.bel.root = false ∧
      (allUp State.reset).inBypass = false ∧ State.reset.run.state = .idle ∧ State.reset.dirAt (16 : BitVec 36).toNat = State.reset.modNo) ∧
    (mapFind State.reset.tier.xlate 16 = none ∧ dirEntry.home = State.reset.modNo ∧ (State.reset.takeFrame 16).isSome = true ∧
      State.reset.acceptsPage dirEntry.owner false = true ∧ State.reset.fab.parity = none) ∧
    (let s : State := { bereft none with bel := { Bel.reset with root := true }, rec0 := Rec.reset, run := armed5.run }
     (1 : ModId).toNat ≠ s.modNo ∧ s.atBoundary (4 : W64).toNat = true ∧ s.fab.join ≠ some (4 : W64).toNat ∧ s.bel.root = true ∧ s.isLive 1 = false ∧
       (1 : ModId).toNat < s.modCount ∧ s.rec0.stopping = false ∧ (0 : ModId).toNat = s.modNo) := by decide +kernel

/-- A page of bytes. -/
theorem witness_RecoveryRows_page : (List.replicate pageBytes (0 : Byte)).length = pageBytes := List.length_replicate

/-! ## Damtin commands, maintenance and contexts -/

/-- Every command of that packet may start in a state whose host interface is `served`'s. -/
theorem starts (s : State) (op : Nat) (h : s.hif = served.hif) : Starts s op pkt := by
  refine ⟨?_, .inr rfl, .inr (by unfold State.sessionFor; rw [h]; rfl)⟩
  unfold State.mayStart State.pairOf
  rw [h]
  decide

/-- A packet spells its command, and is the one that waits. -/
theorem witness_Spells : Spells (.maintStart (spelt fun h => .maintStart h 1 3 100) 1 3 100) (spelt fun h => .maintStart h 1 3 100) ∧
    Starts (offered (fun h => .maintStart h 1 3 100) opened) 0x0601 (spelt fun h => .maintStart h 1 3 100) ∧
    Spells (.contextSave (spelt fun h => .contextSave h 0 1 1 0x1000 112) 0 1 1 0x1000 112) (spelt fun h => .contextSave h 0 1 1 0x1000 112) ∧
    pkt.says 0x0005 [] = true ∧ pkt.says 0x0006 [] = false := by
  unfold Spells Starts; decide +kernel

theorem witness_RepliesAndStarting :
    (pkt ∈ pair.progress ∧ (∀ p ∈ pair.progress, p.op.toNat ∈ knownOpcodes) ∧ served.hif.gone = [] ∧ pair.started = [] ∧
      (asking 0 []).op.toNat ∉ knownOpcodes ∧ State.reset.sessionFor pkt = false) ∧
    mapFind served.hif.queues pkt.queue.toNat = some pair ∧ mapFind Hif.reset.queues pkt.queue.toNat = none ∧ Starts served 0x0203 pkt ∧
    ({ served with hif := { served.hif with queues := [(0, { pair with progress := [{ pkt with flags := 0xFFFF }, pkt] })] } } : State).mayStart
      pkt = false ∧ ({ pkt with queue := 1 } : PktHdr).queue ≠ 0 ∧ (0x0100 : Nat) ≤ 0x0203 ∧ opened.hif.session = true ∧
    ({ served with hif := { served.hif with queues := [(0, { pair with progress := [{ pkt with flags := 0xFFFF }, pkt], started := [{ pkt with flags := 0xFFFF }] })] } } : State).mayStart
      pkt = true ∧ ({ served with unitsEff := 0 } : State).unitOff 0x0410 = true ∧ served.unitOff 0x0410 = false ∧
    State.reset.hif.session = false ∧ pair.progress = [] ++ pkt :: [] ∧ pkt ∉ ([] : List PktHdr) :=
  ⟨by decide, by decide, by decide, starts _ _ rfl, by decide⟩

/-- An activity of core 3 (act 1), of handle 9, in that state; one of a stack that takes two frames (act 0x20). -/
def act9 (st : MaintState) (parts : Nat) : MaintAct := ⟨9, 1, 3, 100, st, 0, parts, false, 0, false⟩
def long9 (st : MaintState) (parts : Nat) : MaintAct := ⟨9, 0x20, 3, 100, st, 0, parts, false, 0, false⟩
/-- The served module with those activities. -/
def maintained (l : List MaintAct) : State := { served with maint := { Maint.reset with acts := l, next := 10 } }
/-- It with core 3 retired. -/
def retired3 (l : List MaintAct) : State := (maintained l).setCore 3 { Core.reset with regs := { CoreRegs.reset with retired := true } }

/-- The last target and one beyond, the deadline at the open step, a unit that is off; one open activity of the same target, none;
too few fallow frames and, for a retired core, enough. -/
theorem witness_MaintenanceRows : Starts served 0x0601 pkt ∧ Starts (maintained [act9 .done 1]) 0x0602 pkt ∧
    Starts (retired3 []) 0x0621 pkt ∧
    (maintKind 0x99 = none ∧ maintKind 1 = some ⟨0, 256, none, .core 1, 1⟩ ∧ (256 : Nat) ≤ (256 : BitVec 16).toNat ∧
      (255 : BitVec 16).toNat < 256 ∧ served.openStep ≤ (0 : W64).toNat ∧ (4 : W64).toNat < ({ served with run := { RunCtl.reset with
        nextStep := 5 } } : State).openStep) ∧
    (maintKind 0x10 = some ⟨1, 16, some 0, .module 0, 1⟩ ∧ served.unitOn 0 = true ∧
      ({ served with unitsEff := 0 } : State).unitOn 0 = false) ∧
    ((∃ a ∈ (maintained [act9 .queued 0]).openActs, a.act = (1 : BitVec 16).toNat ∧ a.target = (3 : BitVec 16).toNat) ∧
      (maintained [act9 .done 1]).openActs.length < 64 ∧
      ∀ a ∈ (maintained [act9 .done 1]).openActs, a.act = (1 : BitVec 16).toNat → a.target ≠ (3 : BitVec 16).toNat) ∧
    (conflicts [⟨8, 2, 3, 100, .waiting, 0, 0, false, 0, false⟩] 0 3 = true ∧ conflicts [] 0 3 = false) ∧
    (served.tooFew ⟨0, 256, none, .core 1, 1⟩ 3 (served.fallowAhead ⟨0, 256, none, .core 1, 1⟩ 3 0) = true ∧
      (retired3 []).tooFew ⟨0, 256, none, .core 1, 1⟩ 3 ((retired3 []).fallowAhead ⟨0, 256, none, .core 1, 1⟩ 3 0) = false) :=
  ⟨starts _ _ rfl, starts _ _ rfl, starts _ _ rfl, by decide +kernel⟩

/-- A handle in every state, one that none has; a part of a retired core at a tick and not; parts before the last and the last. -/
theorem witness_MaintenanceRows_parts :
    ((maintained [act9 .done 1]).actOf (9 : W32).toNat = some (act9 .done 1) ∧ (act9 .done 1).final = true ∧
      (maintained [act9 .running 0]).actOf (9 : W32).toNat = some (act9 .running 0) ∧ (act9 .waiting 0).state = .waiting ∧
      (maintained []).actOf (9 : W32).toNat = none) ∧
    ((retired3 [act9 .waiting 0]).partMayStart ⟨0, 256, none, .core 1, 1⟩ (act9 .waiting 0) = true ∧
      (maintained [act9 .waiting 0]).partMayStart ⟨0, 256, none, .core 1, 1⟩ (act9 .waiting 0) = false) ∧
    (maintKind (long9 .running 0).act = some ⟨2, 8, none, .hbm, 2⟩ ∧ (⟨2, 8, none, .hbm, 2⟩ : MaintKind).exclusive = true ∧
      2 ≤ (long9 .running 1).parts + 1 ∧ (long9 .running 0).parts + 1 < 2 ∧ (long9 .running 0).cancel = false ∧
      served.rec0.stopped = false ∧ (act9 .waiting 0).state ≠ .running ∧ served.maint.suspended = false ∧
      ({ Maint.reset with suspended := true } : Maint).suspended = true) ∧
    (({ served with bel := { Bel.reset with cycle := 15360 } } : State).partLate (act9 .running 0) = false ∧
      ({ served with bel := { Bel.reset with cycle := 15361 } } : State).partLate (act9 .running 0) = true ∧
      (maintKind 0x23).map MaintKind.exclusive = some false ∧ ({ act9 .running 0 with cancel := true } : MaintAct).cancel = true) ∧
    (({ Rec.reset with stopping := true } : Rec).stopping = true ∧ (retired3 [act9 .queued 0]).maint.acts = [act9 .queued 0] ∧
      (retired3 [act9 .queued 0]).tooFew ⟨0, 256, none, .core 1, 1⟩ 3
        ((retired3 [act9 .queued 0]).fallowAhead ⟨0, 256, none, .core 1, 1⟩ 3 100) = false) ∧
    ((3 : CoreId).toNat ∈ (retired3 []).retiredCores ∧ (2 : CoreId).toNat ∉ (retired3 []).retiredCores ∧
      (retired3 []).returnPending 3 = false ∧ ({ retired3 [] with maint := { Maint.reset with deferred := [3] } } : State).returnPending 3 = true ∧
      (retired3 []).bel.econ = false ∧ ({ Bel.reset with econ := true } : Bel).econ = true) := by decide +kernel

/-- A save of a STEP context that falls due at step 4, and of a SECTION context of step 4 at the first tick of its second section. -/
def saving4 (kind : Nat) : SaveReq := ⟨kind, false, true, 0x1000, 16777216, some pkt, 4, none, false⟩
def atSection : State := { served with
  run := { RunCtl.reset with inStep := true, step := 4, frameLive := true, save := some (saving4 1),
                             openFrames := [{ frame10 with first := 0 }] } }
/-- The module at the boundary of step 4 with a STEP save due. -/
def atBoundary4 : State := { served with run := { RunCtl.reset with anyCommit := true, committed := 4, save := some (saving4 0) } }

/-- The shortest length and one less; a section tick, a boundary and neither; every state of a run that decides a restore; a context
that passes the checks and one that does not. -/
theorem witness_ContextRows : Starts served 0x0910 pkt ∧ Starts served 0x0911 pkt ∧
    ((111 : W64).toNat < 112 ∧ 112 ≤ (112 : W64).toNat ∧ (0 : Byte).toNat ≤ 1 ∧ (1 : Byte).toNat ≤ 1 ∧ served.run.save = none) ∧
    (atSection.run.save = some (saving4 1) ∧ atSection.rec0.stopping = false ∧ (saving4 1).written = false ∧ (saving4 1).host = true ∧
      atSection.hostOutOpen = true ∧ ({ atSection with run := { atSection.run with state := .running } } : State).hostOutOpen = false ∧
      (saving4 1).begun = none ∧ ({ saving4 1 with begun := some (1, 0) } : SaveReq).begun = some (1, 0) ∧
      ({ saving4 1 with halt := true } : SaveReq).halt = true ∧ atSection.sectionTick (saving4 1) = true ∧ atSection.badCores = []) ∧
    (atBoundary4.sectionTick (saving4 0) = false ∧ atBoundary4.saveBoundary (saving4 0) = true ∧
      served.saveBoundary (saving4 0) = false ∧ (saving4 0).halt = false ∧ (saving4 0).hdr = some pkt) ∧
    (served.run.state = .idle ∧ ({ RunCtl.reset with state := .held, halted := true } : RunCtl).halted = true ∧
      (served.chargeIn 112).contextCheck [] 112 ≠ 0) := ⟨starts _ _ rfl, starts _ _ rfl, by decide +kernel⟩

/-- A module with an almanac staged finds nothing wrong in the STEP context of one that runs it. -/
theorem witness_ContextRows_check :
    let s : State := { served with run := { RunCtl.reset with active := commitAlmanac, staged := commitAlmanac } }
    (s.chargeIn 112).contextCheck (Memory.writeBytes [] 0 s.stepContext) 112 = 0 := by decide +kernel

/-! ## The function, the queues and the registers -/

/-- Queue 0 with one packet that waits (its bytes in host memory) and one reply that waits; opcode `op`. -/
def ringing (op : Nat) : State := { served with
  pwr := { State.reset.pwr with up := true },
  hostMem := Memory.writeBytes [] 0x1000 (bytesOfNat 2 op),
  hif := { served.hif with ready := true, mse := true, queues := [(0, { pair with tail := 1, replies := [⟨9, 0, false, false, 1, 2, 3⟩] })] } }

/-- A known and an unknown opcode; a queue with a waiting packet; a reply and a full ring; the last tail that the ring holds, and one
that it does not. -/
theorem witness_QueueRows :
    (State.reset.engineFetches = false ∧ (ringing 0x0203).engineFetches = true ∧
      ((ringing 0x0203).nextQueue.map Prod.fst) = some 0) ∧
    (natOfBytes (((ringing 0x0203).hostMem.readBytes 0x1000 64).take 2) ∈ knownOpcodes ∧
      natOfBytes (((ringing 0x0999).hostMem.readBytes 0x1000 64).take 2) ∉ knownOpcodes) ∧
    (let b := (ringing 0x0999).hostMem.readBytes 0x1000 64
     (∀ x ∈ pair.progress ++ [packetOf 0 0 ((ringing 0x0203).hostMem.readBytes 0x1000 64)], x.op.toNat ∈ knownOpcodes) ∧
      ({ pair with progress := [] } : QPair).progress = [] ∧ (packetOf 0 0 b).op.toNat ∉ knownOpcodes) ∧
    ((0x1008 : Nat) % 0x1000 ≠ 0 ∧ (0x1008 : Nat) % 0x1000 ≠ 4) ∧
    (((mapFind (ringing 0x0203).hif.queues 0).map fun q => (q.rqFull, q.replies.length)) = some (false, 1) ∧
      ({ pair with rqNext := 3 } : QPair).rqFull = false ∧ ({ pair with rqNext := 15 } : QPair).rqFull = true) ∧
    (State.reset.barOpen = false ∧ (ringing 0x0203).barOpen = true ∧ (15 : W32).toNat % 4096 = 15 ∧ 15 < 2 ^ pair.sqLog ∧
      (15 + 2 ^ pair.sqLog - pair.head) % 2 ^ pair.sqLog ≤ 4095 ∧ 2 ^ pair.sqLog ≤ 16 ∧ 15 < 2 ^ pair.rqLog ∧ 2 ^ pair.rqLog ≤ 16 ∧
      mapFind (ringing 0x0203).hif.queues (1 : Byte).toNat = none) := by decide +kernel

/-- The function answering with its aperture on page 2, which may be written or not. -/
def windowed (w : Bool) : State := { ringing 0x0203 with
  tier := { Tier.reset with xlate := [(2, { local9 with w := w })] },
  hif := { (ringing 0x0203).hif with aperOn := true } }

/-- Queue-0 registers that are valid (16 entries each) and not, ENABLE 0 and 1, a read-only register of 64 bits, the last byte of the
aperture page. -/
theorem witness_FunctionRows :
    (let s : State := { windowed true with reeve := { State.reset.reeve with debug := true } }
     s.barOpen = true ∧ s.reeve.debug = true ∧ mapFind s.reeve.overrides 0x20000 = none ∧ State.reset.reeve.overrides = [] ∧
      ((3 : BitVec 13) ≠ 4 ∧ (3 : BitVec 13) ≠ 8) ∧ (0xC : BitVec 26).toNat % (8 : BitVec 13).toNat ≠ 0 ∧ (State.reset.core 0).detour = none) ∧
    (served.hif.closing = none ∧ (∀ x ∈ served.hif.queues, x.2.deleting = none) ∧ mapFind served.hif.queues 0 = some pair ∧
      pkt ∈ pair.progress) ∧
    (State.reset.barOpen = false ∧ (windowed true).barOpen = true ∧ (windowed true).hif.enable = false ∧ (windowed true).queueZero = none ∧
      ({ windowed true with hif := { (windowed true).hif with aqSq := 0x1004, aqRq := 0x2004 } } : State).queueZero.isSome = true ∧
      ({ Hif.reset with enable := true } : Hif).enable = true) ∧
    ((windowed true).reeve.debug = false ∧ (0x8 : BitVec 26).toNat % 8 = 0 ∧ regMask 0x8 ≠ 0 ∧ w1cMask 0x8 = 0 ∧
      ¬ (0x10000 ≤ 0x8 ∧ 0x8 < 0x20000) ∧ (1 : W64).toNat % 2 = 1) ∧
    ((windowed true).apertureOpen (0x2FFFF : BitVec 40).toNat (1 : BitVec 13).toNat = true ∧
      (windowed true).hif.aperBase * 2 ^ 36 + (0x2FFFF : BitVec 40).toNat = 0x2FFFF ∧ 0x2FFFF / pageBytes = 2 ∧
      mapFind (windowed true).tier.xlate 2 = some local9 ∧ local9.tier = .local ∧ (1 : Nat) ≤ (1 : BitVec 13).toNat ∧
      0x2FFFF % pageBytes + (1 : BitVec 13).toNat ≤ pageBytes ∧
      kindOf ((({ (windowed true).chargeHostOut 1 with freeCtr := (windowed true).freeCtr + 1 } : State).addHeat 2 1).readFrame 9 65535 1) = 0 ∧ local9.w = true ∧
      2 ∉ (windowed true).tier.codePages ∧ mapGet [] (windowed true).tier.holders 2 = [] ∧ (bytes [1]).length = (1 : BitVec 13).toNat ∧
      ({ local9 with w := false } : XEntry).w = false) := by decide +kernel

/-! ## The Damtin commands -/

theorem witness_SessionAndStepCommands : Starts served 0x0001 pkt ∧ Starts served 0x0201 pkt ∧ Starts served 0x0901 pkt ∧
    (served.hif.session = true ∧ State.reset.hif.session = false ∧ served.hif.closing = none) ∧
    ((63 : Byte).toNat ≤ 63 ∧ 63 < (64 : Byte).toNat ∧ (1 : Byte) ≠ 0 ∧ ringOk 0x1000 1 = true ∧ ringOk 0x1000 12 = true ∧
      12 < (13 : Byte).toNat ∧ (0x1001 : W64).toNat % 4096 ≠ 0 ∧ (64 : Byte).toNat ≤ 64 ∧ 64 < (65 : Byte).toNat ∧
      mapFind served.hif.queues 1 = none ∧ (mapFind served.hif.queues 0).isSome = true ∧
      mapFind ([(1, pair)] : List (Nat × QPair)) 1 = some pair ∧ pair.closing = false) ∧
    ((2 : Byte) ≠ 1 ∧ served.pwr.dieReset = false ∧ served.run.armed = none ∧ armed5.run.armed.isSome = true ∧
      served.hostInOpen = true) := ⟨starts _ _ rfl, starts _ _ rfl, starts _ _ rfl, by decide⟩

/-- A served module whose run is `r`. -/
def servedRun (r : RunCtl) : State := { served with run := r }

/-- A switch one step too soon and soon enough, armed and not; every state of a run; boundaries that have passed and that have not; the
last ceiling and class and one beyond; a core that may retire, one whose sections have no rule for it, one that is retired; the least
snapshot. -/
theorem witness_SessionAndStepCommands_steps :
    (let r : RunCtl := { RunCtl.reset with step := 4, staged := commitAlmanac }
     (5 : W64).toNat < r.step + 2 ∧ r.step + 2 ≤ (6 : W64).toNat ∧ r.staged.loaded = true ∧ RunCtl.reset.staged.loaded = false ∧
       r.armed = none ∧ r.step + 1 < 6 ∧ 5 ≤ r.step + 1) ∧
    (pkt.raddr = 0 ∧ ({ pkt with raddr := 8 } : PktHdr).raddr ≠ 0 ∧ (servedRun { RunCtl.reset with state := .running }).almanacRuns = true ∧
      served.almanacRuns = false ∧ served.run.state = .idle ∧ ({ RunCtl.reset with state := .held } : RunCtl).state = .held) ∧
    ((4 : W64) ≠ 0 ∧ (4 : W64).toNat < (servedRun { RunCtl.reset with nextStep := 5 }).openStep ∧
      (servedRun { RunCtl.reset with nextStep := 5 }).openStep ≤ (5 : W64).toNat) ∧
    (7 < (8 : Byte).toNat ∧ (7 : Byte).toNat ≤ 7 ∧ (256 : BitVec 16).toNat ≤ 256 ∧ 256 < (257 : BitVec 16).toNat ∧ (1 : BitVec 16) ≠ 0) ∧
    ((3 : CoreId).toNat ∈ (retired3 []).goingCores ∧ (2 : CoreId).toNat ∉ (retired3 []).goingCores ∧
      served.detoursHold [2] = true ∧ (servedRun { RunCtl.reset with state := .running, active := commitAlmanac }).detoursHold [2] = false) ∧
    (1 < (2 : Byte).toNat ∧ (1 : Byte).toNat ≤ 1 ∧ (18615 : W32).toNat < 18616 ∧ 18616 ≤ (18616 : W32).toNat) ∧
    (served.hostOutOpen = true ∧ (servedRun { RunCtl.reset with state := .running }).hostInOpen = false ∧ (servedRun { RunCtl.reset with state := .running }).hostOutOpen = false ∧
      ({ Hif.reset with snapshots := [⟨some pkt, 0, 1, [], false⟩] } : Hif).snapshots = [⟨some pkt, 0, 1, [], false⟩] ∧
      ({ Hif.reset with snapshots := [⟨some pkt, 0, 1, [7], false⟩] } : Hif).snapshots = [⟨some pkt, 0, 1, [7], false⟩] ∧ ([7] : List Byte) ≠ [] ∧
      mapFind served.hif.queues pkt.queue.toNat = some pair ∧ pkt ∈ pair.progress ∧ pkt ∉ pair.started ∧
      1 ≤ ({ Bel.reset with frame := 1 } : Bel).frame ∧ Bel.reset.frame < 1) ∧
    (served.rec0.stopping = false ∧ served.rec0.holdIdle = none ∧ ({ Rec.reset with stopping := true } : Rec).stopping = true ∧
      ({ Rec.reset with holdIdle := some 0 } : Rec).holdIdle.isSome = true) := by decide +kernel

/-- A snapshot that waits to be written or for its reply, with the HOST meter open, and closed once it is written. -/
def snapped (w : Bool) : State := { served with hif := { served.hif with snapshots := [⟨some pkt, 0, 1, [7], w⟩] } }
def snappedDear : State := { snapped false with bud := { served.bud with hostOut := 1 }, run := { RunCtl.reset with state := .running } }

theorem witness_SessionAndStepCommands_snapshot :
    ((snapped false).hif.snapshots = [⟨some pkt, 0, 1, [7], false⟩] ∧ (snapped true).hif.snapshots = [⟨some pkt, 0, 1, [7], true⟩] ∧
      (snapped false).hostOutOpen = true) ∧
    (let u : State := (({ snapped false with hif := { (snapped false).hif with snapshots := [] } } : State).chargeOut 18616).hostWrite 0 [7]
     u.hostOutOpen = true) ∧
    (let u : State := (({ snappedDear with hif := { snappedDear.hif with snapshots := [] } } : State).chargeOut 18616).hostWrite 0 [7]
     snappedDear.hostOutOpen = true ∧ u.hostOutOpen = false) ∧
    (∀ p ∈ pair.progress, p.op.toNat ∈ knownOpcodes) := by decide +kernel

/-- A served module with pages 2 (PIN) and 3 local, and quotas of nine pages. -/
def paged : State := { served with tier := { Tier.reset with
  xlate := [(2, { local9 with pin := true }), (3, { local9 with frame := 10, pin := true })], dir := [(2, dirEntry), (3, dirEntry)], owners := [(2, 0), (3, 0)],
  quota := [(0, 9), (2, 9), (3, 9)], poolPages := 4 } }
/-- A directory entry image of one I32 element, STRIDE 64, one row. -/
def image1 : Table := Table.fresh ((List.range 128).map fun i => BitVec.ofNat 8 (mapGet 0 [(4, 1), (8, 1), (16, 64), (64, 4), (67, 0x80)] i))

/-- A frame can be taken whatever its number. -/
theorem witness_MemoryTableAndFabricCommands_frame :
    (∃ f u, State.reset.takeFrame 4 = some (f, u)) ∧ (∃ t, State.reset.createLocal 4 1 1 = some t) ∧
    State.reset.dirAt 4 = State.reset.modNo := ⟨⟨_, _, rfl⟩, ⟨_, rfl⟩, by decide⟩

theorem witness_MemoryTableAndFabricCommands : Starts paged 0x0401 pkt ∧ Starts paged 0x0301 pkt ∧ Starts paged 0x0504 pkt ∧
    (rangeOk 0x40000 1 = true ∧ rangeOk 0x40001 1 = false ∧ rangeOk (2 ^ 52 - 65536) 1 = true ∧ rangeOk (2 ^ 52 - 65536) 2 = false ∧
      2 < (3 : Byte).toNat ∧ pagesAll 4 1 (fun p => !paged.pageMapped [] p) = true ∧ paged.quotaRoom 0 7 = true ∧ paged.quotaRoom 0 8 = false ∧
      (at09 5 0 0 []).modNo ≠ 4 ∧ 4 < (at09 5 0 0 []).modCount ∧ paged.quotaRoom 2 9 = true ∧ paged.quotaRoom 3 4 = true ∧
      4 ≤ paged.poolFree.length) ∧
    (pagesAll 2 2 (paged.pageMapped []) = true ∧ pagesAll 2 3 (paged.pageMapped []) = false ∧
      mapFind paged.tier.xlate 2 = some { local9 with pin := true } ∧ paged.dirAt 2 = paged.modNo ∧ mapFind paged.tier.dir 2 = some dirEntry) ∧
    (4 < (5 : Byte).toNat ∧ 2 ^ 31 ≤ (0x80000000 : W32).toNat ∧ (10354688 : W32).toNat ≤ 10354688 ∧ paged.poolUsed = [] ∧
      (10 : W64).toNat % 16 ≤ 10) := ⟨starts _ _ rfl, starts _ _ rfl, starts _ _ rfl, by decide +kernel⟩

/-- A table image that the checks pass, one of reserved fields, a table that is there, a version above all and pages it may take, records
free and full; ranges of a smithy, a granary, a group at their boundaries; a commit in progress. -/
theorem witness_MemoryTableAndFabricCommands_tables :
    (image1.fieldsOk = true ∧ paged.componentsOk image1 = true ∧ paged.areasOk image1 = true ∧ paged.table (image1.nat 0 2) = none ∧
      (Table.fresh []).fieldsOk = false) ∧
    ((tabled (tableOf 0) Tier.reset).table (3 : BitVec 16).toNat = some (tableOf 0) ∧ (tableOf 0).destroy = none ∧
      (∀ x ∈ (tableOf 0).versions, x.2.version < (3 : W32).toNat) ∧ (tableOf 0).trained = false ∧
      (0x40000 : W64).toNat % pageBytes = 0 ∧ (0x40000 : W64).toNat < 2 ^ 52 ∧
      pagesAll 4 1 ((tiers { Tier.reset with xlate := [(4, { local9 with w := false, pin := true })] }).versionPageOk (tableOf 0) []) = true ∧
      (tableOf 0).freeRecord = some 2 ∧
      ({ tableOf 0 with versions := [0, 1, 2, 3].map fun i => (i, ⟨i, .current, false, 0x20000, 0, 1⟩) } : Table).freeRecord = none) ∧
    (paged.unitOn 2 = true ∧ ({ paged with unitsEff := 0 } : State).unitOn 2 = false ∧ paged.fab.parity = none ∧
      (1 : W64).toNat ≤ (1 : W64).toNat ∧ 0x20000 + 1 * pageBytes ≤ 0x30000 ∧ paged.pagesPin 0x20000 1 = true ∧
      paged.pagesPin 0x30000 1 = true ∧ paged.commitBusy = false ∧ committing.commitBusy = true ∧
      paged.heldInStep = false ∧ ({ resuming with run := { resuming.run with state := .held } } : State).heldInStep = true) ∧
    (paged.unitOn 3 = true ∧ (63 : W64).toNat % 64 ≠ 0 ∧ (0x10000 : W64).toNat % 64 = 0 ∧ pageBytes ≤ (0x10000 : W64).toNat ∧
      0x10000 + (2 ^ 52 - 0x10000) ≤ 2 ^ 52) ∧
    ((1 : W64).toNat < RunCtl.reset.step + 2 ∧ RunCtl.reset.step + 2 ≤ (2 : W64).toNat ∧ leaving.fab.join.isSome = true ∧
      paged.fab.join = none ∧ paged.fab.leave = none) ∧
    (paired.unitOn 4 = true ∧ (1 : Byte).toNat < 2 ∧ 8 < (9 : Byte).toNat ∧ paired.position.shapeX % 2 ≠ 1 ∧
      State.reset.position.shapeX % (2 : Byte).toNat = 1 ∧ (1 : W32).toNat ≤ 1 ∧ 1 ≤ 1 * (paired.groupOf 2 - 1) ∧
      (let s : State := { paged with fab := paired.fab }
       s.unitOn 4 = true ∧ s.position.shapeX % 2 ≠ 1 ∧ s.pagesPin 0x20000 1 = true ∧ s.pagesPin 0x30000 1 = true ∧
         s.openStep ≤ (0 : W64).toNat ∧ s.commitBusy = false)) := by decide +kernel

/-! ## The reeve -/

/-- The served module with that reeve. -/
def reeved (r : Reeve) : State := { served with reeve := r }

/-- Each update path, an activation under way and none; each slot as the one that runs; a slot that is empty and one that is not; every
mode; a ledger value refused, equal, exhausted and new; a trial to commit; a component that may be installed and one that may not. -/
theorem witness_ReeveAndLedgerRows : Starts served 0x0801 pkt ∧ Starts served 0x0702 pkt ∧ Starts served 0x0820 pkt ∧
    ({ Reeve.reset with path := .pldm } : Reeve).path = .pldm ∧ Reeve.reset.path ≠ .pldm ∧ Reeve.reset.act = none ∧
    served.hostInOpen = true ∧ (0 : Byte) = (if false then 1 else 0) ∧ Reeve.reset.slotB = false ∧ (Reeve.reset.slot true).size = 0 ∧
    (({ Reeve.reset with b := ⟨[], 1⟩ } : Reeve).slot true).size ≠ 0 ∧ ({ Reeve.reset with mode := .boot } : Reeve).mode = .boot ∧
    Reeve.reset.mode = .running ∧ Reeve.reset.mode ≠ .boot ∧ Reeve.reset.mode ≠ .trial ∧
    (let r : Reeve := { Reeve.reset with mode := .trial, act := some ⟨some pkt, true, false, .asked⟩, b := ⟨[], 1⟩ }
     r.mode = .trial ∧ (r.slot true).comp 1 = [] ∧ r.diePending = none ∧
       1 = max (reeved r).svnMin (r.slot true).svnFloor * 2 ^ 32 + bnat true ∧ (reeved r).ledger 0x02 ≠ 1 ∧ (reeved r).full 0x02 = false ∧
       (reeved { r with ledger := { Ledger.reset with vals := [(2, 1)] } }).ledger 0x02 = 1) ∧
    ((∀ p ∈ served.staging, p = pkt) ∧ served.staging = [] ∧ served.reeveServes = false ∧ (served.begun pkt).reeveServes = false ∧
      (let s : State := { served with hif := { served.hif with queues := [(0, { pair with
          progress := [spelt fun h => .fwStage h 0 64, pkt], started := [spelt fun h => .fwStage h 0 64] })] } }
       (∃ p ∈ s.staging, p ≠ pkt) ∧ s.staging ≠ [] ∧ s.reeveServes = true) ∧
      (⟨some pkt, true, false, .back⟩ : Activation).stage = .back ∧ (⟨some pkt, true, false, .asked⟩ : Activation).stage = .asked ∧
      Reeve.reset.dieLoaded = true ∧ ({ Reeve.reset with dieLoaded := false } : Reeve).dieLoaded = false ∧
      ({ Reeve.reset with mode := .recovery } : Reeve).mode = .recovery ∧
      (reeved { Reeve.reset with mode := .trial, b := ⟨[], 1⟩, ledger := { Ledger.reset with wear := [(2, 1000000)] } }).full 0x02 = true) ∧
    (let r : Reeve := { Reeve.reset with diePending := some ([], true, 4) }
     (reeved r).mayInstall = true ∧ ({ reeved r with run := { RunCtl.reset with state := .running } } : State).mayInstall = false) :=
  ⟨starts _ _ rfl, starts _ _ rfl, starts _ _ rfl, by decide⟩

theorem witness_ReeveAndLedgerRows_ledger :
    (served.ledgerBad 0x10 0x10 = true ∧ served.ledgerBad 0x10 0x1F = false ∧ served.ledger 0x10 = 0x1F ∧ served.ledgerBad 0x40 1 = false ∧
      served.ledger 0x40 ≠ 1 ∧ served.full 0x40 = false ∧
      (reeved { Reeve.reset with ledger := { Ledger.reset with wear := [(0x40, 1000000)] } }).full 0x40 = true ∧
      (reeved { Reeve.reset with ledger := { Ledger.reset with wear := [(0x40, 999999)] } }).full 0x40 = false) ∧
    (let w : LedgerWrite := ⟨0x40, 1, some pkt, 0⟩
     ({ Ledger.reset with waiting := [w] } : Ledger).waiting = w :: [] ∧ w.scope = 0 ∧ w.hdr = some pkt ∧ served.ledgerOpen = true ∧
       (reeved { Reeve.reset with mode := .boot }).ledgerOpen = false ∧ Ledger.reset.waiting = []) := by decide

/-- Samples that the health tests pass, and equal ones that they do not. -/
theorem witness_EntropyAttestationAndLogRows_samples :
    (Health.fresh.over (List.replicate 128 0xAA)).2 = true ∧ (Health.fresh.over (List.replicate 128 0)).2 = false ∧
    (Rng.reset.health.over (List.replicate 192 0xAA)).2 = true ∧ (Rng.reset.health.over (List.replicate 192 0)).2 = false ∧
    (List.replicate 128 (0xAA : Byte)).length = 128 ∧ (List.replicate 192 (0xAA : Byte)).length = 192 := by decide +kernel

/-- Every state of the entropy source, a fourth failure in a row, 1,536 samples; a reeve that is up and one that restarts; a block of
entropy and none; a buffered event. -/
theorem witness_EntropyAttestationAndLogRows : Starts served 0x0830 pkt ∧ Rng.reset.est = 0 ∧
    ({ Rng.reset with est := 1 } : Rng).est = 1 ∧ ({ Rng.reset with est := 3 } : Rng).est = 3 ∧ 3 ≤ ({ Rng.reset with failsInRow := 3 } : Rng).failsInRow ∧
    (List.replicate 192 (0 : Byte)).length = 192 ∧ Rng.reset.est ≠ 1 ∧ Rng.reset.fresh = [] ∧
    ({ Rng.reset with fresh := [bytes [1]] } : Rng).fresh = bytes [1] :: [] ∧ served.reeveUp = true ∧
    (reeved { Reeve.reset with mode := .boot }).reeveUp = false ∧ (1 : Byte) ≠ 0 ∧ 1 ≤ (7 : Byte).toNat ∧ (7 : Byte).toNat ≤ 7 ∧
    ({ served with evLog := [⟨0, 0x0180, 0, 0, 0, 0, 0⟩] } : State).evLog = ⟨0, 0x0180, 0, 0, 0, 0, 0⟩ :: [] ∧
    Reeve.reset.log.length < 1048576 ∧ served.evLog = [] ∧ Rng.reset.est ≠ 3 ∧
    Rng.reset.dead = false ∧ ({ Rng.reset with dead := true } : Rng).dead = true := ⟨starts _ _ rfl, by decide +kernel⟩

/-! ## Power -/

/-- The module with that supply state. -/
def powered (p : Pwr) : State := { State.reset with pwr := p }
/-- Readings of those temperatures and power. -/
def sense (junction hbm power : Nat) : Sense := ⟨48000, 0, BitVec.ofNat 16 power, 0, BitVec.ofNat 8 junction, BitVec.ofNat 8 hbm, 0, 0⟩

/-- Every limit at its last value on each side; every domain; each reset held and not; each address and instruction. -/
theorem witness_PowerAndResetRows :
    (State.reset.pwr.domain ≠ .off ∧ (41500 : BitVec 16).toNat + (41500 : BitVec 16).toNat + (41500 : BitVec 16).toNat + (41499 : BitVec 16).toNat < 4 * 41500 ∧
      4 * 41500 ≤ 4 * (41500 : BitVec 16).toNat) ∧
    (43000 < (43001 : BitVec 16).toNat ∧ (43000 : BitVec 16).toNat ≤ 43000 ∧ State.reset.pwr.domain = .running ∧
      38000 ≤ (38000 : BitVec 16).toNat ∧ (37999 : BitVec 16).toNat < 38000 ∧ 30000 ≤ (30000 : BitVec 16).toNat ∧
      (29999 : BitVec 16).toNat < 30000) ∧
    (97 ≤ (sense 97 0 0).junction.toNat ∧ 90 ≤ (sense 0 90 0).hbm.toNat ∧ 1500 < (sense 0 0 1501).power.toNat ∧
      1200 < (sense 0 0 1201).power.toNat ∧ (sense 96 89 1200).junction.toNat < 97 ∧ (sense 96 89 1200).hbm.toNat < 90 ∧
      (sense 96 89 1200).power.toNat ≤ 1200 ∧ (sense 91 84 1100).junction.toNat < 92 ∧ (sense 91 84 1100).hbm.toNat < 85 ∧
      (sense 91 84 1100).power.toNat ≤ 1100 ∧ 92 ≤ (sense 92 0 0).junction.toNat ∧ 105 ≤ (sense 105 0 0).junction.toNat ∧
      95 ≤ (sense 0 95 0).hbm.toNat ∧ (sense 104 94 0).junction.toNat < 105 ∧ (sense 104 94 0).hbm.toNat < 95) ∧
    (State.reset.pwr.tripped = false ∧ ({ State.reset.pwr with domain := .off } : Pwr).domain = .off ∧
      ({ State.reset.pwr with tripped := true } : Pwr).tripped = true) ∧
    (State.reset.pwr.dieReset = false ∧ State.reset.pwr.modReset = false ∧ ({ State.reset.pwr with modReset := true } : Pwr).modReset = true) ∧
    (let p : Pwr := { State.reset.pwr with dieReset := true, perst := true }
     p.domain = .running ∧ p.dieReset = true ∧ p.hold = false ∧ p.perst = true) ∧
    (let p : Pwr := { State.reset.pwr with up := false }
     p.up = false ∧ p.dieReset = false ∧ p.failed = false ∧ p.domain = .running ∧ (powered p).reeveUp = true) ∧
    (({ State.reset.pwr with i3c := some 9 } : Pwr).i3c = some 9 ∧ ({ State.reset.pwr with i3c := some 9 } : Pwr).i3c ≠ some 8 ∧
      (0x3A : BitVec 7) ≠ 0x3B ∧ State.reset.pwr.i3c = none ∧ State.reset.pwr.alertLow = false ∧
      ({ State.reset.pwr with warnSeen := true } : Pwr).alertLow = true ∧ State.reset.reeve.mode ≠ .off ∧
      ({ State.reset.reeve with mode := .off } : Reeve).mode = .off ∧ State.reset.pwr.cause ≤ 2 ∧ State.reset.pwr.up = false ∧
      2 < ({ State.reset.pwr with cause := 3 } : Pwr).cause ∧ State.reset.reeve.dieLoaded = true ∧ ({ State.reset.pwr with domain := .standby } : Pwr).domain ≠ .running) := by decide

/-! ## Engine commands in full -/

/-- Whether a check or a read passes, asking for nothing still to come, and `f` holds of what it gives. -/
def gives {α : Type} (m : EM α) (w : EWork) (f : α → EWork → Bool) : Bool := match m.run w with
  | .ok x w1 => !w1.missing && f x w1
  | .error _ _ => false

theorem gives_sound {α : Type} (m : EM α) (w : EWork) (f : α → EWork → Bool) (h : gives m w f = true) :
    ∃ x w1, Gives m w x w1 ∧ f x w1 = true := by
  unfold gives at h
  split at h
  · next x w1 e => exact ⟨x, w1, ⟨e, by cases hm : w1.missing <;> simp [hm] at h ⊢⟩, by cases hm : w1.missing <;> simp [hm] at h ⊢; exact h⟩
  · cases h

/-- An almanac of three legends with T = 0 and m = 32768: I32, I8 and I16. -/
def threeLegends : AlmSlot :=
  ⟨[(32, 64), (40, 3), (64, 4), (67, 0x80), (80, 2), (83, 0x80), (96, 3), (99, 0x80)], 112⟩
/-- Core 0 with a started command of queue `q` and that local store, the legends, page 2 and open HBM meters. -/
def engaged (ls : Memory) (s : State) (q : Nat) (r : Run) : State :=
  { s with run := { s.run with active := threeLegends }, tier := { s.tier with xlate := [(2, local9)] },
           bud := { s.bud with hbm := [(0, 9)] } }.setCore 0 { Core.reset with ls := ls, queues := [(q, ⟨[], some r⟩)] }
/-- A list of one segment of one entry, row 0, at offset 0, and a row of two I32 codes at 0x200. -/
def listed : Memory := Memory.writeBytes (Memory.writeBytes [] 0x100 (bytes [1, 0, 0, 0, 1, 0, 0, 0, 0, 1])) 0x300 (bytes [1, 0, 0, 0, 2])
/-- The parameter word of a result at 0x400, with that LEG_LS. -/
def toLs (leg : Nat) : W64 := BitVec.ofNat 64 (0x10 * 2 ^ 49 + leg * 2 ^ 25)
/-- A started command over that list and the row table of its one row. -/
def overList (op : BitVec 6) (param : W64) : Run := runOf .g op 0 (oneAccess 0 40) (oneAccess 0x200 8) param
def work (s : State) (q : Nat) (r : Run) : EWork := workFrom s 0 q r

/-- GATHER, GMERGE and GCOMPACT (into I8) of that row: the checks pass, the row is read, and the result has its place. -/
theorem witness_EngineCommandsComplete_gather :
    (let r := overList 1 (toLs 0)
     gives (gPrepare r.args false false legendsOk) (work (engaged listed State.reset 0 r) 0 r) fun g w1 =>
       gives (entryRows true g g.csr.idx) w1 fun rows w2 => match rows with
         | [b] => (w2.task.lsAddr g.p.ls ((convertRow g.tab g.ls g.key g.n g.csr.row0 b).1.bytes g.ls.fmt).length).isSome
         | _ => false) = true ∧
    ([(2, false, 0), (3, true, 1)].all fun c : BitVec 6 × Bool × Nat =>
      let r := overList c.1 (toLs c.2.2)
      gives (gPrepare r.args c.2.1 false (mergeOk 0)) (work (engaged listed State.reset 0 r) 0 r) fun g w1 =>
        (mergeLegend State.reset 0 g.tab g.csr).isSome && g.csr.segs == 1 &&
        gives (entryRows true g g.csr.idx) w1 fun rows w2 =>
          let x := mergeRow g 0 ⟨0, 32768⟩ g.csr.row0 ((g.csr.entries 0).map fun i => ((rows.map (decodeSrc g.tab.fmt g.n)).getD i [], none))
          (w2.task.lsAddr g.p.ls (if c.2.1 then (tilesOf g.ls.fmt (kpOf g.p.kpSel) g.n true g.p.struct g.p.thresh [x.1]).flatMap Prod.fst
            else x.1.bytes g.ls.fmt).length).isSome) = true := by decide +kernel

/-- SCATTER and SCATTER_ADD of a row at 0x400 to the one row at 0x200. -/
theorem witness_EngineCommandsComplete_scatter :
    (let r := overList 4 (toLs 0)
     gives (gPrepare r.args false false legendsOk) (work (engaged listed State.reset 0 r) 0 r) fun g w1 =>
       gives (readSide g false) w1 fun src w2 => match src with
         | [(els, y)] => targets g == [(0, [0])] && g.csr.segOf 0 == 0 && g.str.isLs &&
             (w2.task.lsAddr (g.str.access 0) ((scatterRow g g.csr.row0 els y).1.bytes g.tab.fmt).length).isSome
         | _ => false) = true ∧
    (let r := overList 5 (toLs 0)
     (State.reset.addTable r.args.d2).isNone &&
     gives (gPrepare r.args false false addLegendsOk) (work (engaged listed State.reset 0 r) 0 r) fun g w1 =>
       gives (readSide g false) w1 fun src w2 => targets g == [(0, [0])] &&
         gives (spaceRead g.str (g.str.access 0) g.str.size.toNat) (gathered w2 1) fun b w3 =>
           (w3.task.lsAddr (g.str.access 0) ((elsOut ((addedRow g src [0] b).map Prod.fst)).bytes g.tab.fmt).length).isSome) = true := by
  decide +kernel

/-- Table 3 of one I32 element at page 2, and as components of table 4. -/
def rowTable (layout : Nat) : Table := { Table.fresh ((List.range 128).map fun i =>
    BitVec.ofNat 8 (mapGet 0 [(2, layout), (4, 1), (8, 1), (16, 64), (32, 3), (34, 3), (64, 4), (67, 0x80)] i)) with
  versions := [(0, ⟨1, .current, false, 0x20000, 0, 1⟩)] }
/-- A started command over that list that names table `tn`, its task bound to version 1 of table 3. -/
def overTable (op : BitVec 6) (tn : Nat) : Run :=
  let r := runOf .g op 0 (oneAccess 0 40) (oneAccess 0x200 8) (BitVec.ofNat 64 (0x10 * 2 ^ 49 + tn * 2 ^ 37 + (if op = 8 then 0x20 * 2 ^ 10 else 0)))
  { r with args := { r.args with task := { task with versions := [(3, 1)] } } }
/-- The machine with both tables. -/
def tables34 : State := { State.reset with tables := { Tables.reset with entries := [(3, rowTable 0), (4, rowTable 2)] } }

theorem witness_EngineCommandsComplete_lookup :
    (let r := overTable 6 3
     gives (lookupPrepare r.args) (work (engaged listed tables34 0 r) 0 r) fun x w1 =>
       gives (entryRowsBy x.1 (readVersionRow x.1.p.legTab x.2.1) x.2.2 x.1.csr.idx) w1 fun rows w2 => match rows with
         | [b] => (w2.task.lsAddr x.1.p.ls
             ((convertRow x.1.tab x.1.ls x.1.key x.1.n x.1.csr.row0 b).1.bytes x.1.ls.fmt).length).isSome
         | _ => false) = true ∧
    (let r := overTable 8 4
     gives (compRead r.args) (work (engaged listed tables34 0 r) 0 r) fun y w1 => y.rowsA.length == 1 && y.rowsB.length == 1 &&
       (w1.task.lsAddr y.a.p.ls 4).isSome && (w1.task.lsAddr y.b.p.ls 4).isSome && y.a.ls.fmt == .i32 && y.a.n == 1) = true := by
  decide +kernel

/-- A tree of one node without children. -/
def leafList : Memory := Memory.writeBytes (Memory.writeBytes [] 0x100 (bytes [1, 0, 0, 0, 0, 0, 0, 0, 0, 0])) 0x300 (bytes [1, 0, 0, 0, 2])

theorem witness_EngineCommandsComplete_path :
    (let r := overList 9 (toLs 0)
     gives (pathPrepare r.args) (work (engaged leafList State.reset 0 r) 0 r) fun x w1 =>
       gives (entryRows false x.1 (x.2.map some)) w1 fun rows w2 => match pathRows x.1 0 (x.2.zip rows) with
         | ([y], _) => (w2.task.lsAddr x.1.p.ls (y.1.bytes x.1.ls.fmt).length).isSome
         | _ => false) = true := by decide +kernel

/-- Two DENSE I8 tiles of one row of 64 codes, at offsets 0 and 0x80. -/
def tiles2 : Memory :=
  let hdr := bytes [2, 0, 1, 64, 0, 0, 0, 0, 80]
  Memory.writeBytes (Memory.writeBytes [] 0x100 hdr) 0x180 hdr

theorem witness_EngineCommandsComplete_mill :
    (let r := runOf .m 1 0 (oneAccess 0 80) (oneAccess 0x80 80) (BitVec.ofNat 64 (2 ^ 48))
     let s := engaged tiles2 State.reset 1 r
     r.args.param.toNat / 2 ^ 48 = 1 ∧ r.args.d1.ok = true ∧ r.args.d2.ok = true ∧ 1 ≤ r.args.d1.count ∧ 1 ≤ r.args.d2.count ∧
       gives (passTiles r.args 0) (work s 1 r) (fun _ w1 => w1 == work s 1 r) = true ∧ (s.core 0).errors.mill = []) ∧
    (let r := runOf .m 3 0 Desc.zero Desc.zero 0
     let s := engaged [] State.reset 1 r
     (s.core 0).drained = [] ∧ (s.legend 0).isSome = true ∧ (s.legend 0).map (fun l => decide (-112 ≤ l.T + l.T ∧ l.T + l.T ≤ 127)) = some true ∧
       (s.core 0).bankWrong false = false) ∧
    (let d := { oneAccess 0 2048 with stride0 := 2048, count0 := 18 }
     let r := runOf .m 6 0 d d 0
     let s := engaged [] State.reset 1 r
     d.ok = true ∧ d.total = 36864 ∧ gives (descReadAll d) (work s 1 r) (fun _ _ => true) = true ∧ 0 + 36864 < 2 ^ 52 ∧
       r.args.task.lsAddr 0 36864 = some 0x100 ∧ (s.core 0).bankWrong r.args.bank = false ∧
       ∀ n, n < 64 → ((s.core 0).bankRow r.args.bank n).length = 64) := by decide +kernel

/-- One collective of two leaves and four I32 elements, whose first step sends the local whole to module 227. -/
def collAlmanac : AlmSlot := ⟨[(24, 0x80), (72, 0x80), (73, 1), (0xA1, 1), (0x100, 1), (0x108, 0x10), (0x109, 1), (0x111, 4), (0x114, 1),
  (0x118, 0x40), (0x119, 1), (0x141, 1), (0x142, 227), (0x14C, 2), (0x188, 0xA0), (0x189, 1), (0x1A0, 2), (0x1A8, 4)], 0x300⟩

theorem witness_EngineCommandsComplete_transfer :
    (let r := runOf .x 3 0 (oneAccess 0 64) Desc.zero (BitVec.ofNat 64 (227 * 2 ^ 52))
     let s := engaged [] (at09 5 0 0 []) 3 r
     s.yields 0 r = false ∧ r.args.d1.ok = true ∧ 227 = r.args.param.toNat / 2 ^ 52 ∧ 227 ≠ s.modNo ∧ s.route 227 = some 1 ∧
       gives (descReadSoon r.args.d1) (work s 3 r) (fun _ w1 => (w1.s.route 227).isSome) = true) ∧
    (let r := runOf .x 4 0 (oneAccess 0 16) Desc.zero 0
     let s0 := engaged [] (at09 5 0 0 []) 3 r
     let s : State := { s0 with run := { s0.run with active := collAlmanac } }
     s.yields 0 r = false ∧ r.args.d1.ok = true ∧ gives (descReadSoon r.args.d1) (work s 3 r) (fun _ w1 => (w1.s.route 227).isSome && w1.s.modNo != 227) = true ∧
       (s.collOf (s.core 0) r.args.task 0).map (fun x => (x.op, isNode x.lo x.n x.leaves, x.local_, x.partBytes, x.peer)) =
         some (0, true, true, 16, 227)) := by decide +kernel

/-- A dispatch of one token with one choice among one expert, both at the start of page 2, which names no expert. -/
def dispatchReq : List Byte := bytes ([1, 1] ++ List.replicate 10 0 ++ [2, 0, 0, 0, 0, 0, 2, 0, 0, 0, 0, 0, 0, 0, 2, 0, 0, 0, 0, 0, 1, 0, 0, 0, 0, 0, 0, 0, 1])
/-- A sample of one row of a vocabulary of one under the I16 legend, its logits at the start of page 2. -/
def sampleReq : List Byte := bytes ([2, 0, 0, 0, 1] ++ List.replicate 25 0 ++ [1, 0, 0, 0, 2, 0, 0, 0, 0, 0, 2])
/-- A started request of that unit whose 64 bytes are at offset 0. -/
def requested (tgt : BitVec 4) (n : Nat) : Run := runOf .x 2 tgt (oneAccess 0 64) (oneAccess 0x400 n) 0
/-- The machine that works on it, two bytes of 0xFF at the start of page 2. -/
def askedFor (req : List Byte) (q : Nat) (r : Run) : State :=
  engaged (Memory.writeBytes [] 0x100 req) { State.reset with tier := { Tier.reset with hbm := Memory.writeBytes [] (9 * 65536) (bytes [0xFF, 0xFF]) } } q r

/-- The request that those bytes spell, and its dispatch. -/
def dispatch1 : SurReq := ⟨1, 1, 0, 0, 0, 0, 2, 0, 0x20000, 0x20000, 1, 0, 1, 0⟩
def sent1 : List (Option (List Byte)) × Nat × Nat := dispatch dispatch1 [0xFFFF] [0xFFFF]

/-- With no choice to sort, the dispatch is two empty blocks and its offsets, and its gazetteer 320 bytes long. -/
theorem sent1_eq : sent1 = ([some (csrBlock true 0 0 0 [] [] none), some (csrBlock false 0 2 1 [0, 0] [] (some [])),
    some (bytes [0, 0, 0, 0, 0, 0, 0, 0]), some []], 0, 0) := by
  simp [sent1, dispatch, dispatch1, tokenChoices, List.range, List.range.loop, offsetsOf]
  decide
theorem sent1_length : (gazetteer dispatch1 0 sent1.2.1 [sent1.1]).length = 320 := by rw [sent1_eq]; decide +kernel

theorem witness_EngineCommandsComplete_survey :
    (let r := requested 1 512
     let s := askedFor dispatchReq 4 r
     s.yields 0 r = false ∧ r.args.d2.isLs = true ∧ r.args.task.step = 0 ∧
     gives (surveyPrepare r.args) (work s 4 r) (fun x w1 => x.1 == dispatch1 &&
       gives (vaRead x.1.source (2 * (x.1.count * x.1.hops))) w1 fun cb w2 =>
         gives (vaRead x.1.seeds (2 * (x.1.count * x.1.hops))) w2 fun gb w3 =>
           natsOf 2 (x.1.count * x.1.hops) cb == [0xFFFF] && natsOf 2 (x.1.count * x.1.hops) gb == [0xFFFF] &&
             (w3.task.lsAddr x.2.2 320).isSome) = true) := by
  decide +kernel

theorem tokenRec_length (t : TokenRec) : t.bytes.length = 32 := rfl

theorem witness_EngineCommandsComplete_sample :
    let r := requested 2 32
    let s := askedFor sampleReq 5 r
    s.yields 0 r = false ∧ r.args.d2.isLs = true ∧
    gives (samplePrepare r.args) (work s 5 r) (fun x w1 => x.1.rows == 1 && x.2.2.2.length == 1 &&
      gives (vaRead x.1.logits (x.2.1.fmt.rowBytes x.1.vocab)) w1 fun _ w2 => (w2.task.lsAddr x.2.2.1 32).isSome) = true := by decide +kernel

/-- An update without states of one row of one I16 parameter at page 2, its gradient under I16 at page 3. -/
def updReq : List Byte := bytes ([0, 0, 1, 0, 2, 0, 2, 0, 0, 0, 0, 0, 1, 0, 0, 0, 0, 0, 2, 0, 0, 0, 0, 0, 0, 0, 3] ++ List.replicate 29 0 ++
  [8, 0, 0, 0, 8, 0, 0, 0])
/-- The machine that stages it into page 4; page 3 holds OVF or 0. -/
def staging (ovf : Bool) (r : Run) : State :=
  let s := engaged (Memory.writeBytes [] 0x100 updReq) State.reset 6 r
  { s with
    tier := { s.tier with
      xlate := [(2, local9), (3, { local9 with frame := 10 }), (4, { local9 with frame := 11 })]
      hbm := if ovf then [(10 * 65536 + 1, 0x80)] else [] }
    smithy := { s.smithy with cfg := some ⟨0x20000, 1, 0x40000, 1⟩ } }

theorem witness_EngineCommandsComplete_smithy :
    [(true, true), (false, false)].all (fun c : Bool × Bool =>
      let r := reqRun 3 (oneAccess 0 128) 1
      let s := staging c.1 r
      !s.yields 0 r && gives (smithyPrepare r.args) (work s 6 r) fun x w1 => x.rows.length == 1 && !x.u.masked &&
        x.rows.all fun row => gives (readUpd x.u x.l row) w1 fun d w2 =>
          match updateRow x.u x.l (s.randKey r.args.task 0 0) d.row d.w d.m d.v d.g with
          | .skipGrad => c.2
          | .new n m v => !c.2 && !n.isEmpty && m.isEmpty && v.isEmpty && w2.metered && decide (w2.paid ≤ w2.seen) &&
              !w2.unknown ((w2.s.stageAddr d.row.w).getD d.row.w) &&
                w2.s.metersOpen true w2.hostToo ((w2.s.stageAddr d.row.w).getD d.row.w, pad8 n.length)
          | .skipOther => false) = true := by decide +kernel

/-- UNSTASH of the 32 bytes that slot 9 keeps at page 2; the parity-rebuild request. -/
theorem witness_EngineCommandsComplete_unstash :
    (let r := { reqRun 6 Desc.zero ((9 : W64) <<< 48) with args := { (reqRun 6 Desc.zero ((9 : W64) <<< 48)).args with d2 := oneAccess 0 64 } }
     let s := (running committing 9 r).setSlot 9 ⟨.kept, 0x20000, 64⟩
     gives (unstashPrepare r.args) (work s 9 r) (fun x w1 => (!x.1.tiles || !bit r.args.param.toNat 47) &&
       gives (vaReadSoon x.2.addr x.2.size) w1 fun b w2 => b.length == r.args.d2.size.toNat && !b.isEmpty && r.args.d2.isLs &&
         match r.args.d2.accesses.take 1 with
         | [a] => (w2.task.lsAddr a b.length).isSome
         | _ => false) = true) ∧
    (running State.reset 11 (runOf .x 2 8 Desc.zero Desc.zero 0)).yields 0 (runOf .x 2 8 Desc.zero Desc.zero 0) = false ∧
    tgtQueue (askedFor [] 4 (requested 1 512)).unitsEff 3 = some 6 := by decide +kernel

end Sys2Proof.Tests
end

section
/-! SUPPORT. Queue numbers of the enable set (R105), by the number of queues that the units below a unit take. -/

namespace Sys2Proof.Machine

/-- Queues that a unit of an enable set takes (R105). -/
def unitQueues (units u : Nat) : Nat := if bit units u then (if u ≤ 1 then 1 else 2) else 0

/-- The four queues that are always there, and those of the units below `u`: the number of the first queue of unit `u`. -/
def queuesBelow (units u : Nat) : Nat := (List.range u).foldl (fun n v => n + unitQueues units v) 4

@[simp] theorem queuesBelow_zero (units : Nat) : queuesBelow units 0 = 4 := rfl

theorem queuesBelow_succ (units u : Nat) : queuesBelow units (u + 1) = queuesBelow units u + unitQueues units u := by
  simp [queuesBelow, List.range_succ]

theorem queuesBelow_mono (units : Nat) : Monotone (queuesBelow units) :=
  monotone_nat_of_le_succ fun u => by rw [queuesBelow_succ]; exact Nat.le_add_right ..

theorem bit_eq_testBit (v i : Nat) : bit v i = v.testBit i := by
  rw [bit, Nat.testBit_eq_decide_div_mod_eq]; rfl

theorem queueCount_eq_queuesBelow (units : Nat) : queueCount units = queuesBelow units 5 := by
  simp [queueCount, queuesBelow_succ, unitQueues, bnat]

/-- Which of its unit's queues a TGT names: 0 the first, 1 the second (Table 05-7). -/
def tgtSecond (tgt : Nat) : Nat := if tgt = 4 ∨ tgt = 6 ∨ tgt = 8 then 1 else 0

theorem tgtQueue_eq_some_iff {units tgt q : Nat} (h : tgt ≠ 0) :
    tgtQueue units tgt = some q ↔ bit units (tgtUnit tgt) = true ∧ queuesBelow units (tgtUnit tgt) + tgtSecond tgt = q := by
  unfold tgtQueue
  rw [if_neg h]
  split
  · next hb => simp [hb, queuesBelow, unitQueues, tgtSecond]
  · next hb => simp [hb]

theorem tgtQueue_eq_none_iff {units tgt : Nat} (h : tgt ≠ 0) :
    tgtQueue units tgt = none ↔ bit units (tgtUnit tgt) = false := by
  simp [tgtQueue, h]

theorem four_le_of_tgtQueue {units tgt q : Nat} (h : tgt ≠ 0) (hq : tgtQueue units tgt = some q) : 4 ≤ q := by
  obtain ⟨-, rfl⟩ := (tgtQueue_eq_some_iff h).1 hq
  have : queuesBelow units 0 ≤ queuesBelow units (tgtUnit tgt) := queuesBelow_mono units (Nat.zero_le _)
  exact Nat.le_add_right_of_le this

/-- A unit of two queues is one whose second queue a TGT names (Tables 05-7 and 01-4). -/
theorem tgtSecond_lt_unitQueues {units tgt : Nat} (h : tgt ≠ 0) (ht : tgt ≤ 8) (hb : bit units (tgtUnit tgt) = true) :
    tgtSecond tgt < unitQueues units (tgtUnit tgt) := by
  rw [unitQueues, if_pos hb]
  have table : ∀ t < 9, t ≠ 0 → tgtSecond t < if tgtUnit t ≤ 1 then 1 else 2 := by decide
  exact table tgt (by omega) h

/-- The queue of a TGT lies below those of the units after its own. -/
theorem lt_queuesBelow_of_tgtQueue {units tgt q u : Nat} (h : tgt ≠ 0) (ht : tgt ≤ 8) (hq : tgtQueue units tgt = some q)
    (hu : tgtUnit tgt < u) : q < queuesBelow units u := by
  obtain ⟨hb, rfl⟩ := (tgtQueue_eq_some_iff h).1 hq
  calc queuesBelow units (tgtUnit tgt) + tgtSecond tgt
      < queuesBelow units (tgtUnit tgt) + unitQueues units (tgtUnit tgt) :=
        Nat.add_lt_add_left (tgtSecond_lt_unitQueues h ht hb) _
    _ = queuesBelow units (tgtUnit tgt + 1) := (queuesBelow_succ ..).symm
    _ ≤ queuesBelow units u := queuesBelow_mono units hu

theorem tgtUnit_lt_five (tgt : Nat) : tgtUnit tgt < 5 := by unfold tgtUnit; split <;> decide

/-- A higher TGT names a later unit, or the second queue of the same one (Table 05-7). -/
theorem tgtUnit_lt_or_second {a b : Nat} (ha : a ≠ 0) (hab : a < b) (hb : b ≤ 8) :
    tgtUnit a < tgtUnit b ∨ (tgtUnit a = tgtUnit b ∧ tgtSecond a < tgtSecond b) := by
  have table : ∀ b < 9, ∀ a < b, a ≠ 0 → tgtUnit a < tgtUnit b ∨ (tgtUnit a = tgtUnit b ∧ tgtSecond a < tgtSecond b) := by
    decide
  exact table b (by omega) a hab ha

/-- Queue numbers rise with the TGT (R105). -/
theorem tgtQueue_strictMono {units a b p q : Nat} (hab : a < b) (hb : b ≤ 8) (hp : tgtQueue units a = some p)
    (hq : tgtQueue units b = some q) : p < q := by
  have hb0 : b ≠ 0 := Nat.ne_zero_of_lt hab
  by_cases ha : a = 0
  · subst ha
    obtain rfl : 3 = p := Option.some.inj hp
    exact four_le_of_tgtQueue hb0 hq
  · obtain hu | ⟨hu, h2⟩ := tgtUnit_lt_or_second ha hab hb
    · have := lt_queuesBelow_of_tgtQueue ha (by omega) hp hu
      obtain ⟨-, rfl⟩ := (tgtQueue_eq_some_iff hb0).1 hq
      exact Nat.lt_add_right _ this
    · obtain ⟨-, rfl⟩ := (tgtQueue_eq_some_iff ha).1 hp
      obtain ⟨-, rfl⟩ := (tgtQueue_eq_some_iff hb0).1 hq
      rw [hu]
      exact Nat.add_lt_add_left h2 _

/-- Settles O22: the queue of a TGT is the first of its unit's, or the one after it, and the units' queues follow one another. -/
theorem queueNumbers : Obligations.QueueNumbers := by
  refine ⟨fun _ => rfl, fun units tgt h1 _ => tgtQueue_eq_none_iff (by omega), ?_, ?_, ?_, ?_, fun _ => rfl,
    by decide, by decide, by decide, by decide⟩
  · intro units tgt q hq ht
    rw [queueCount_eq_queuesBelow]
    by_cases h : tgt = 0
    · subst h
      obtain rfl : 3 = q := Option.some.inj hq
      exact queuesBelow_mono units (Nat.zero_le 5)
    · exact lt_queuesBelow_of_tgtQueue h ht hq (tgtUnit_lt_five tgt)
  · exact fun units tgt q h1 _ hq => four_le_of_tgtQueue (by omega) hq
  · exact fun units a b p q hab hb hp hq => tgtQueue_strictMono hab hb hp hq
  · intro units
    simp [queueCount_eq_queuesBelow, queuesBelow_succ, unitQueues, bit_eq_testBit]

end Sys2Proof.Machine
end

section
/-! SUPPORT. What the start of an engine's head command does, said once (R98, R106, R108). -/

namespace Sys2Proof.Machine
open Sys2Proof.Claims

/-! ## Queues -/

@[simp] theorem Core.queue_setQueue_same (k : Core) (q : Nat) (x : Queue) : (k.setQueue q x).queue q = x := by
  simp [Core.queue, Core.setQueue]

/-! ## Lane tasks (R108, R173) -/

/-- Dividing a command into lane tasks changes the lanes of its core at most. -/
theorem fillLanes_frame (c : CoreId) (s : State) :
    fillLanes c s = s ∨ ∃ l, fillLanes c s = s.setCore c { s.core c with lanes := l } := by
  unfold fillLanes
  dsimp only
  split
  · split
    · exact .inl rfl
    · split
      · exact .inr ⟨_, rfl⟩
      · exact .inl rfl
  · exact .inl rfl

@[simp] theorem queue_fillLanes (c : CoreId) (q : Nat) (s : State) :
    ((fillLanes c s).core c).queue q = (s.core c).queue q := by
  obtain h | ⟨l, h⟩ := fillLanes_frame c s <;> rw [h]
  rw [State.core_setCore_same]; rfl

/-- A started command of queue 0 whose list can be read is divided: its lanes are filled with one task per 16 segments. -/
theorem lanes_fillLanes {c : CoreId} {s : State} {r : Run} {n : Nat} (hr : ((s.core c).queue 0).run = some r)
    (hd : r.done = false) (hop : r.cmd.op ≠ 7) (hl : (s.core c).lanes = [])
    (hn : peekSegments s c r.args.task r.args.d1 = some n) :
    ((fillLanes c s).core c).lanes = laneFill r.cmd.seq n [] := by
  simp only [fillLanes, hr, hn]
  rw [if_neg (by rw [hd, hl]; simpa using hop), State.core_setCore_same, hl]

/-- Lane `l` with one more task: in progress where nothing is, else behind those that wait. -/
def addLaneTask (seq : Nat) (lanes : List (Nat × Lane)) (i : Nat) : List (Nat × Lane) :=
  let x := mapGet Lane.idle lanes (i % 16)
  mapPut lanes (i % 16) (if x.now.isNone then { x with now := some ⟨seq, i⟩ } else { x with queue := x.queue ++ [⟨seq, i⟩] })

theorem laneFill_eq_foldl (seq n : Nat) (lanes : List (Nat × Lane)) :
    laneFill seq n lanes = (List.range ((n + 15) / 16)).foldl (addLaneTask seq) lanes := rfl

/-- The tasks of a lane, the one in progress first. -/
def Lane.tasks (x : Lane) : List LaneTask := x.now.toList ++ x.queue

/-- A lane with nothing in progress has nothing that waits. -/
def Lane.wf (x : Lane) : Prop := x.now = none → x.queue = []

theorem Lane.wf_idle : Lane.idle.wf := fun _ => rfl

/-- The lane with number `i % 16` gets the task last, and it stays well-formed; other lanes stand as they were. -/
theorem addLaneTask_tasks (seq i l : Nat) {lanes : List (Nat × Lane)} (hw : (mapGet Lane.idle lanes l).wf) :
    (mapGet Lane.idle (addLaneTask seq lanes i) l).wf ∧
    (mapGet Lane.idle (addLaneTask seq lanes i) l).tasks =
      (mapGet Lane.idle lanes l).tasks ++ if i % 16 = l then [⟨seq, i⟩] else [] := by
  by_cases h : i % 16 = l
  · subst h
    generalize hx : mapGet Lane.idle lanes (i % 16) = x at hw
    simp only [addLaneTask, hx, mapGet_mapPut_same, if_true]
    obtain ⟨now, queue⟩ := x
    cases now with
    | none =>
      obtain rfl : queue = [] := hw rfl
      exact ⟨nofun, rfl⟩
    | some t => exact ⟨nofun, rfl⟩
  · simpa only [addLaneTask, mapGet_mapPut_other _ _ _ h, if_neg h, List.append_nil, and_true] using hw

/-- Lane `l` gets, in order, the tasks whose number is `l` modulo 16 (R108, R173). -/
theorem foldl_addLaneTask_tasks (seq l : Nat) (is : List Nat) {lanes : List (Nat × Lane)} (hw : (mapGet Lane.idle lanes l).wf) :
    (mapGet Lane.idle (is.foldl (addLaneTask seq) lanes) l).tasks =
      (mapGet Lane.idle lanes l).tasks ++ (is.filter fun i => i % 16 == l).map fun i => ⟨seq, i⟩ := by
  induction is generalizing lanes with
  | nil => simp
  | cons i is ih =>
    obtain ⟨hw1, h1⟩ := addLaneTask_tasks seq i l hw
    rw [List.foldl_cons, ih hw1, h1, List.filter_cons]
    by_cases h : i % 16 = l <;> simp [h]

theorem laneFill_tasks (seq n l : Nat) :
    (mapGet Lane.idle (laneFill seq n []) l).tasks =
      ((List.range ((n + 15) / 16)).filter fun i => i % 16 == l).map fun i => ⟨seq, i⟩ := by
  exact foldl_addLaneTask_tasks seq l _ (lanes := []) Lane.wf_idle

/-! ## Whether the head command may start (R60, R106) -/

/-- The meters of a command's classes are above zero (R60, R106; DEDUCED, log 49). -/
theorem meterOpen_iff (s : State) (k : Core) (q : Nat) (cmd : EngCmd) : meterOpen s k q cmd = true ↔
    (q = 0 → 0 < k.meters.gather) ∧ (q = 1 → 0 < k.meters.mill) ∧
    (q ≠ 0 → q ≠ 1 → cmd.slot = .x ∧ cmd.tgt = 0 → (∀ p, s.portOf k cmd = some p → 0 < mapGet 0 s.bud.fabric p) ∧
      (s.readsFirst k cmd = true → s.descOpen false (k.desc cmd.d1) = true) ∧
      (s.writesSecond k cmd = true → s.descOpen true (k.desc cmd.d2) = true)) := by
  have imp (a b : Bool) : (!a || b) = true ↔ (a = true → b = true) := by cases a <;> simp
  unfold meterOpen
  by_cases h0 : q = 0
  · simp [h0]
  by_cases h1 : q = 1
  · simp [h1]
  by_cases hx : cmd.slot = .x ∧ cmd.tgt = 0
  · rw [if_neg h0, if_neg h1, if_pos hx, Bool.and_eq_true, Bool.and_eq_true, imp, imp, and_assoc]
    cases hp : s.portOf k cmd <;> simp [h0, h1, hx]
  · rw [if_neg h0, if_neg h1, if_neg hx]
    exact ⟨fun _ => ⟨fun h => absurd h h0, fun h => absurd h h1, fun _ _ h => absurd h hx⟩, fun _ => rfl⟩

/-- Whether a command's wait holds and its meters are above zero (R106). -/
def State.mayStartHead (s : State) (k : Core) (q : Nat) (cmd : EngCmd) : Prop :=
  condHolds cmd.wait.cond (k.counter cmd.wait.ctr) cmd.wait.value = true ∧ meterOpen s k q cmd = true

/-- The head command of queue `q` has left it and read its descriptors: it is the started command (R98, R106). -/
def State.headStarted (s : State) (c : CoreId) (q : Nat) (cmd : EngCmd) (rest : List QCmd) : State :=
  s.setCore c ((s.core c).setQueue q ⟨rest, some ⟨cmd, startArgs (s.core c) cmd, false, 0, false, 0, false⟩⟩)

section
variable {s : State} {c : CoreId} {q : Nat} {cmd : EngCmd} {rest : List QCmd}

theorem State.run_headStarted : (((s.headStarted c q cmd rest).core c).queue q).run =
    some ⟨cmd, startArgs (s.core c) cmd, false, 0, false, 0, false⟩ := by
  simp [State.headStarted]

variable (hw : ((s.core c).queue q).waiting = .eng cmd :: rest) (hr : ((s.core c).queue q).run = none)
  (hs : s.rec0.stopped = false)
include hw hr

/-- A stopped module starts no command, and nothing starts while its wait or a meter does not allow it (R106, R468). -/
theorem engineStart_waits (h : s.rec0.stopped = true ∨ ¬ s.mayStartHead (s.core c) q cmd) : engineStart c q s = s := by
  simp only [engineStart, hw, hr]
  obtain h | h := h
  · simp [h]
  · simp only [State.mayStartHead, ← Bool.and_eq_true] at h
    simp [h]

include hs

/-- A command word with an uncorrectable error raises CORE_UE (R519). -/
theorem engineStart_error (hm : s.mayStartHead (s.core c) q cmd) (he : q ∈ (s.core c).errors.cmd) :
    engineStart c q s = raise cCoreUe 1 c.toNat cmd.task.taskId.toNat
      (s.setCore c { s.core c with errors := { (s.core c).errors with cmd := (s.core c).errors.cmd.erase q } }) := by
  simp only [engineStart, hw, hr]
  simp [hs, hm.1, hm.2, he, raiseCore]

theorem engineStart_starts (hm : s.mayStartHead (s.core c) q cmd) (he : q ∉ (s.core c).errors.cmd) :
    engineStart c q s = if q = 0 then fillLanes c (s.headStarted c q cmd rest) else s.headStarted c q cmd rest := by
  simp only [engineStart, hw, hr]
  simp [hs, hm.1, hm.2, he, State.headStarted]

omit hs

/-- A command that is not one of a commit has not started: nothing more happens. -/
theorem commandStart_of_idle (hc : cmd.commits = false) (hi : (((engineStart c q s).core c).queue q).run = none) :
    commandStart c q s = engineStart c q s := by
  simp [commandStart, hw, hr, hc, hi]

/-- A command that is not one of a commit has started: a STASH takes its slot (R344). -/
theorem commandStart_of_started {r : Run} (hc : cmd.commits = false) (hi : (((engineStart c q s).core c).queue q).run = some r) :
    commandStart c q s = if cmd.slot = .x ∧ cmd.op = 2 ∧ cmd.tgt = 5 then (engineStart c q s).stashStarted c q r.args
      else engineStart c q s := by
  simp [commandStart, hw, hr, hc, hi]

end

theorem EngCmd.commits_iff (cmd : EngCmd) :
    cmd.commits = true ↔ cmd.slot = .x ∧ cmd.op = 2 ∧ (cmd.tgt = 3 ∨ cmd.tgt = 4 ∨ cmd.tgt = 7) := by
  simp [EngCmd.commits, and_assoc, or_assoc]

theorem takesSlot_eq_stashStarted (c : CoreId) (q : Nat) (cmd : EngCmd) (a : EArgs) (s : State) :
    takesSlot c q cmd a s = if cmd.slot = .x ∧ cmd.op = 2 ∧ cmd.tgt = 5 then s.stashStarted c q a else s := by
  have hf : field a.param.toNat 63 48 = a.param.toNat / 2 ^ 48 :=
    Nat.mod_eq_of_lt (Nat.div_lt_of_lt_mul a.param.isLt)
  dsimp only [takesSlot, State.stashStarted]
  rw [hf]
  rfl

theorem exec_engineCommandStart (c : CoreId) (q : BitVec 4) (s : State) :
    exec (.engineCommandStart c q) s = .next (s.settle (commandStart c q.toNat s)) := rfl

/-- Settles O25: the start of a head command by its wait and its meters, and the division of a command of queue 0 into lane tasks. -/
theorem engineCommandStarts : Obligations.EngineCommandStarts := by
  refine ⟨?_, ?_⟩
  · intro s c q cmd rest k transfer hw hr hs hc open_ u
    have hcom : cmd.commits = false := by rw [← Bool.not_eq_true, EngCmd.commits_iff]; exact hc
    have h0 : q.toNat = 0 ↔ q = 0 := BitVec.toNat_inj (y := 0#4)
    have h1 : q.toNat = 1 ↔ q = 1 := BitVec.toNat_inj (y := 1#4)
    have hopen : open_ ↔ s.mayStartHead k q.toNat cmd := by
      simp only [open_, transfer, State.mayStartHead, meterOpen_iff, ne_eq, h0, h1]
    rw [exec_engineCommandStart, hopen]
    refine ⟨fun hm he => ?_, fun hm => ?_, fun hm he => ?_⟩
    · have hst := engineStart_starts hw hr hs hm he
      have hrun : (((engineStart c q.toNat s).core c).queue q.toNat).run =
          some ⟨cmd, startArgs (s.core c) cmd, false, 0, false, 0, false⟩ := by
        rw [hst]; split <;> simp [State.run_headStarted]
      rw [commandStart_of_started hw hr hcom hrun, hst, takesSlot_eq_stashStarted]
      simp only [h0]
      rfl
    · have hst := engineStart_waits hw hr (.inr hm)
      rw [commandStart_of_idle hw hr hcom (by rw [hst, hr]), hst]
    · have hst := engineStart_error hw hr hs hm he
      rw [commandStart_of_idle hw hr hcom (by rw [hst, raise_core, State.core_setCore_same]; exact hr), hst]
      rfl
  · intro s c r n l hr hd hop hl hn _
    rw [lanes_fillLanes hr hd hop hl hn]
    exact laneFill_tasks r.cmd.seq n l

end Sys2Proof.Machine
end

section
/-! SUPPORT. How an engine's work ends, and what the requests of a commit do (R10, R301, R344, R361, R362). -/

namespace Sys2Proof.Machine
open Sys2Proof.Claims

/-! ## Rows -/

theorem exec_stash (c : CoreId) (s : State) : exec (.stash c) s = .next (s.settle (stashRow c s)) := rfl

theorem exec_parityReduction (c : CoreId) (s : State) :
    exec (.parityReduction c) s = .next (s.settle (parityReduction c s)) := rfl

theorem exec_apply (c : CoreId) (s : State) : exec (.apply c) s = .next (s.settle (applyRow c s)) := rfl

theorem exec_autoApply (s : State) : exec .autoApply s = .next (s.settle (autoApply s)) := rfl

/-! ## How an engine's work ends (R183) -/

section
variable {s : State} {c : CoreId} {q : Nat} {r : Run}

theorem startedAs_of_runs {slot : Slot} {op : BitVec 6} {tgt : BitVec 4} (h : Runs s c q slot op tgt r) :
    startedAs (s.core c) q slot op tgt = some r := by
  obtain ⟨hr, hslot, hop, htgt, hd, hf⟩ := h
  simp only [startedAs, hr]
  exact if_pos ⟨hslot, hop, htgt, hd, hf⟩

/-- Work of a queue other than the gather engine's begins on the state as it stands. -/
theorem workFrom_eq_work (hq : q ≠ 0) : workFrom s c q r = r.work s c q := by
  simp only [workFrom, workState, if_neg hq]; rfl

theorem runWork_completes {work : EM Unit} {w : EWork} (hq : q ≠ 0) (h : Completes work s c q r w) :
    runWork c q r work s = finished c q w := by
  obtain ⟨hw, hm⟩ := h
  rw [workFrom_eq_work hq] at hw
  simp only [runWork, hw, hm]
  rfl

theorem runWork_nothing (hq : q ≠ 0) : runWork c q r (pure ()) s = finished c q (workFrom s c q r) :=
  runWork_completes hq ⟨rfl, rfl⟩

theorem runWork_fault (code : Nat) : runWork c q r (efault code) s =
    raise code 1 c.toNat r.args.task.taskId.toNat
      { (s.modCore c fun k => k.markFailed q) with tier := s.tier.forget (.engine c q) } := rfl

end

/-! ## STASH (R344, R345) -/

section
variable {s : State} {c : CoreId} {q : Nat} {r : Run} (hq : tgtQueue s.unitsEff 5 = some q) (hr : Runs s c q .x 2 5 r)
include hq hr

/-- The slot is declared, and EMPTY or PENDING for this request. -/
theorem stashRow_works {x : SlotEntry} (hx : s.run.active.slotEntry (field r.args.param.toNat 63 48) = some x)
    (hg : mapFind s.granary.slots (field r.args.param.toNat 63 48) = none ∨
      ∃ g, mapFind s.granary.slots (field r.args.param.toNat 63 48) = some g ∧ g.state = .pending ∧ g.addr = ownerOf c q) :
    stashRow c s = runWork c q r (stashWork (field r.args.param.toNat 63 48) x r.args) s := by
  simp only [stashRow, hq, startedAs_of_runs hr, hx]
  obtain hg | ⟨g, hg, hp⟩ := hg
  · simp only [hg]
  · simp only [hg, if_pos hp]

/-- The slot is undeclared (DEDUCED, log 78) or used. -/
theorem stashRow_fault (hg : s.run.active.slotEntry (field r.args.param.toNat 63 48) = none ∨
      ∃ g, mapFind s.granary.slots (field r.args.param.toNat 63 48) = some g ∧ ¬ (g.state = .pending ∧ g.addr = ownerOf c q)) :
    stashRow c s = runWork c q r (efault cStashInvalid) s := by
  simp only [stashRow, hq, startedAs_of_runs hr]
  cases hx : s.run.active.slotEntry (field r.args.param.toNat 63 48) with
  | none => rfl
  | some x =>
    obtain hg | ⟨g, hg, hp⟩ := hg
    · simp [hx] at hg
    · simp only [hg, if_neg hp]

end

/-! ## Parity reduction (R301, R361, R389) -/

section
variable {s : State} {c : CoreId} {q : Nat} {r : Run} (hq : tgtQueue s.unitsEff 7 = some q) (hr : Runs s c q .x 2 7 r)
include hq hr

theorem parityReduction_of_no_parity (hp : s.parityRuns = false) : parityReduction c s = runWork c q r (pure ()) s := by
  simp only [parityReduction, hq, startedAs_of_runs hr]
  simp [hp]

theorem parityReduction_of_later (hp : s.parityRuns = true) (h2 : 2 ≤ s.sendTrained.smithy.phase) :
    parityReduction c s = runWork c q r (pure ()) s.sendTrained := by
  simp only [parityReduction, hq, startedAs_of_runs hr]
  simp [hp, h2]

theorem parityReduction_of_waiting (hp : s.parityRuns = true) (h2 : s.sendTrained.smithy.phase < 2)
    (hw : s.sendTrained.inboundWaiting = true) : parityReduction c s = s.sendTrained := by
  simp only [parityReduction, hq, startedAs_of_runs hr]
  simp [hp, Nat.not_le.2 h2, hw]

theorem parityReduction_of_first (hp : s.parityRuns = true) (h2 : s.sendTrained.smithy.phase < 2)
    (hw : s.sendTrained.inboundWaiting = false) : parityReduction c s = (runWork c q r (sendDeltas r.args)
      { s.sendTrained with smithy := { s.sendTrained.smithy with phase := 2 } }).tryBDone := by
  simp only [parityReduction, hq, startedAs_of_runs hr]
  simp [hp, Nat.not_le.2 h2, hw]

end

/-! ## APPLY (R362, R364) -/

/-- The step of the request is committed and its deltas are applied. -/
def State.applied (s : State) (step : Nat) : Prop := s.run.anyCommit = true ∧ step ≤ s.run.committed ∧ s.smithy.phase = 0

/-- An APPLY without STS, STD and PARAM retires once its step's commit is applied; until then it does what it can. -/
theorem applyRow_eq {s : State} {c : CoreId} {q : Nat} {r : Run} (hq : tgtQueue s.unitsEff 4 = some q)
    (hr : Runs s c q .x 2 4 r) (hd : r.cmd.task.detour = none) (h1 : r.cmd.d1 = 0) (h2 : r.cmd.d2 = 0) (hp : r.args.param = 0) :
    (s.applied r.args.task.step → applyRow c s = runWork c q r (pure ()) s) ∧
    (¬ s.applied r.args.task.step → applyRow c s = s.applyNow) := by
  simp only [applyRow, hq, startedAs_of_runs hr, hd, h1, h2, hp, State.applied]
  constructor
  · rintro ⟨hc, hs, hph⟩
    simp [hc, hs, hph]
  · intro h
    rw [if_neg (by simp), if_neg (by simp), if_neg]
    simpa [and_assoc] using h

theorem sendTrained_of_no_tables {s : State} (h : s.tables.entries = []) : s.sendTrained = s := by
  simp [State.sendTrained, h]

theorem inboundWaiting_of_no_tables {s : State} (h : s.tables.entries = []) : s.inboundWaiting = false := by
  simp [State.inboundWaiting, h]

theorem State.mayRecord_iff (s : State) : s.mayRecord = true ↔
    s.rec0.stopping = false ∧ s.run.inStep = true ∧ s.smithy.phase ≤ 2 ∧ 0 < mapGet 0 s.bud.hbm 0 := by
  simp [State.mayRecord, and_assoc]

/-- Under parity the commit record is not APPLY's to write (R362). -/
theorem applyNow_of_parity {s : State} (h : s.parityRuns = true) : s.applyNow = s := by simp [State.applyNow, h]

theorem applyNow_writes {s : State} (h : s.parityRuns = false) (ht : s.tables.entries = []) (hm : s.mayRecord = true) :
    s.applyNow = s.writeRecord.sweepVersions := by
  simp [State.applyNow, h, sendTrained_of_no_tables ht, inboundWaiting_of_no_tables ht, hm]

/-! ## What the units of a commit leave of the smithies' marks -/

/-- A fold leaves what each of its steps leaves. -/
theorem foldl_keeps {σ α β : Type} {f : σ → α → σ} (g : σ → β) (h : ∀ s a, g (f s a) = g s) (l : List α) (s : σ) :
    g (l.foldl f s) = g s := by
  induction l generalizing s with
  | nil => rfl
  | cons a l ih => rw [List.foldl_cons, ih, h]

@[simp] theorem State.countPoison_smithy (s : State) (vws : List Nat) : (s.countPoison vws).smithy = s.smithy :=
  foldl_keeps State.smithy (by intros; rfl) _ s

@[simp] theorem State.meetPoison_smithy (s : State) (va n : Nat) : (s.meetPoison va n).smithy = s.smithy := by
  unfold State.meetPoison
  split
  · rfl
  · rw [raise_smithy, State.countPoison_smithy]

@[simp] theorem State.chargeLocal_smithy (s : State) (va n : Nat) : (s.chargeLocal va n).smithy = s.smithy := by
  refine foldl_keeps State.smithy (fun s p => ?_) _ s
  split
  · split <;> rfl
  · rfl

theorem State.foldl_send_smithy {α : Type} (f : State → α → Msg) (l : List α) (s : State) :
    (l.foldl (fun s a => s.send (f s a)) s).smithy = s.smithy := foldl_keeps State.smithy (by intros; rfl) l s

theorem State.foldl_send_cores {α : Type} (f : State → α → Msg) (l : List α) (s : State) :
    (l.foldl (fun s a => s.send (f s a)) s).cores = s.cores := foldl_keeps State.cores (by intros; rfl) l s

theorem State.foldl_send_fab {α : Type} (f : State → α → Msg) (l : List α) (s : State) :
    (l.foldl (fun s a => s.send (f s a)) s).fab = s.fab := foldl_keeps State.fab (by intros; rfl) l s

@[simp] theorem State.tryBDone_smithy (s : State) : s.tryBDone.smithy = s.smithy := by
  unfold State.tryBDone
  split
  · exact State.foldl_send_smithy _ _ _
  · rfl

/-! ## The module's own commit (R362; DESIGN CHOICE, log 41) -/

/-- An APPLY has started: that of a command, or the module's own. -/
def State.applyBegun (s : State) : State := { s with smithy := { s.smithy with applyStarted := true } }

theorem autoApply_of_not_due {s : State} (h : s.commitQuiet = false ∨ s.smithy.applyStarted = true ∨ s.rec0.stopping = true) :
    autoApply s = s := by
  unfold autoApply
  rw [if_pos]
  obtain h | h | h := h <;> simp [h]

section
variable {s : State} (hq : s.commitQuiet = true) (ha : s.smithy.applyStarted = false) (hs : s.rec0.stopping = false)
include hq ha hs

theorem autoApply_of_closed (ho : s.tellReady.commitOpen = false) : autoApply s = s.tellReady := by
  simp [autoApply, hq, ha, hs, ho]

variable (ho : s.tellReady.commitOpen = true)
include ho

/-- Without a Phase A to end, the module's own commit is that of an APPLY that starts now. -/
theorem autoApply_of_applies (hp : s.tellReady.parityRuns = false ∨ 2 ≤ s.tellReady.smithy.phase) :
    autoApply s = s.tellReady.applyBegun.applyNow := by
  have : (s.tellReady.parityRuns && decide (s.tellReady.smithy.phase ≤ 1)) = false := by
    obtain hp | hp := hp
    · simp [hp]
    · simp [Nat.not_le.2 hp]
  simp [autoApply, hq, ha, hs, ho, this, State.applyBegun]

/-- A member of a group ends Phase A: its deltas go out, PHASE is 2 and the APPLY has started. -/
theorem autoApply_of_phaseA (hp : s.tellReady.parityRuns = true) (h1 : s.tellReady.smithy.phase ≤ 1)
    (hi : ({ s.tellReady with smithy := { s.tellReady.smithy with parityStarted := true } }).sendTrained.inboundWaiting = false) :
    (autoApply s).smithy.phase = 2 ∧ (autoApply s).smithy.applyStarted = true := by
  unfold autoApply
  rw [if_neg (by simp [hq, ha, hs])]
  dsimp only
  rw [if_neg (by simp [ho]), if_pos (by simp [hp, h1]), if_neg (by simp [hi]), State.tryBDone_smithy, foldl_keeps State.smithy]
  · exact ⟨rfl, rfl⟩
  · intro t v
    split
    · simp
    · rfl

end

/-! ## Start of a command of a commit (R10, R361, R362, R517) -/

/-- Telling the group's other members leaves the cores and the module's part of the parity. -/
theorem State.tellReady_keeps (s : State) : s.tellReady.cores = s.cores ∧ s.tellReady.fab.parity = s.fab.parity := by
  unfold State.tellReady
  split
  · exact ⟨rfl, rfl⟩
  · dsimp only
    split
    · exact ⟨rfl, rfl⟩
    · split
      · rw [raise_cores, raise_fab (c := cParityMismatch), State.foldl_send_cores, State.foldl_send_fab]
        exact ⟨rfl, rfl⟩
      · rw [State.foldl_send_cores, State.foldl_send_fab]
        exact ⟨rfl, rfl⟩

@[simp] theorem State.core_tellReady (s : State) (c : CoreId) : s.tellReady.core c = s.core c := by
  simp only [State.core, s.tellReady_keeps.1]

theorem State.parity_tellReady (s : State) : s.tellReady.fab.parity = s.fab.parity := s.tellReady_keeps.2

/-- The commands of a commit belong to no class of a meter (R364). -/
theorem meterOpen_of_commits {s : State} {k : Core} {q : Nat} {cmd : EngCmd} (hq : 4 ≤ q) (ht : cmd.tgt ≠ 0) :
    meterOpen s k q cmd = true :=
  (meterOpen_iff s k q cmd).2 ⟨fun h => by omega, fun h => by omega, fun _ _ h => absurd h.2 ht⟩

section
variable {s : State} {c : CoreId} {q : Nat} {cmd : EngCmd} {rest : List QCmd}
  (hw : ((s.core c).queue q).waiting = .eng cmd :: rest) (hr : ((s.core c).queue q).run = none) (hc : cmd.commits = true)
include hw hr hc

/-- A command of a commit waits until the commit may begin (R10). -/
theorem commandStart_of_closed (ho : s.tellReady.commitOpen = false) : commandStart c q s = s.tellReady := by
  simp [commandStart, hw, hr, hc, ho]

/-- A command of a commit starts like any other once the commit may begin. -/
theorem commandStart_of_open (ho : s.tellReady.commitOpen = true) (hs : s.tellReady.rec0.stopped = false) (hq : 4 ≤ q)
    (ht : cmd.tgt ≠ 0) (hcond : condHolds cmd.wait.cond ((s.core c).counter cmd.wait.ctr) cmd.wait.value = true)
    (he : q ∉ (s.core c).errors.cmd) : commandStart c q s =
      (s.tellReady.headStarted c q cmd rest).commitStarted c q cmd (startArgs (s.core c) cmd) := by
  have hcore := s.core_tellReady c
  have hst : engineStart c q s.tellReady = s.tellReady.headStarted c q cmd rest := by
    rw [engineStart_starts (rest := rest) (by rw [hcore, hw]) (by rw [hcore, hr]) hs
      (by rw [hcore]; exact ⟨hcond, meterOpen_of_commits hq ht⟩) (by rwa [hcore]), if_neg (by omega)]
  simp only [commandStart, hw, hr, hc, ho, hst, State.run_headStarted, hcore]
  rfl

end

section
variable {u : State} {c : CoreId} {q : Nat} {cmd : EngCmd} {a : EArgs}

/-- The first staging request is a start point of the commit (R517). -/
theorem commitStarted_of_stage (ht : cmd.tgt = 3) (ha : u.smithy.applyStarted = false) (hp : u.smithy.parityStarted = false) :
    u.commitStarted c q cmd a = { u with smithy := { u.smithy with phase := max u.smithy.phase 1 } } := by
  simp only [State.commitStarted, ha, hp]
  exact if_pos ht

/-- A staging request after the parity reduction or an APPLY raises SMITHY_ORDER (R361, R362). -/
theorem commitStarted_of_late_stage {r : Run} (ht : cmd.tgt = 3)
    (h : u.smithy.applyStarted = true ∨ u.smithy.parityStarted = true) (hr : ((u.core c).queue q).run = some r)
    (hf : r.failed = false) : u.commitStarted c q cmd a = raise cSmithyOrder 1 c.toNat r.args.task.taskId.toNat
      { (u.modCore c fun k => k.markFailed q) with tier := u.tier.forget (.engine c q) } := by
  have ho : (u.smithy.applyStarted || u.smithy.parityStarted) = true := by simpa using h
  simp only [State.commitStarted, ho, if_pos ht, if_true, faultStarted, hr, hf]
  rfl

/-- The parity reduction of a group's member ends Phase A (R361). -/
theorem commitStarted_of_reduction (ht : cmd.tgt = 7) : u.commitStarted c q cmd a =
    { u with smithy := { u.smithy with parityStarted := u.smithy.parityStarted || u.fab.parity.isSome } } := by
  simp only [State.commitStarted, ht]
  rfl

/-- An APPLY after the first is done at its start (R362). -/
theorem commitStarted_of_apply (ht : cmd.tgt = 4) (hd : cmd.task.detour = none) (h1 : cmd.d1 = 0) (h2 : cmd.d2 = 0)
    (hp : a.param = 0) : u.commitStarted c q cmd a = if u.smithy.applyStarted = true then u.modCore c fun k => k.markDone q 0
      else { u with smithy := { u.smithy with applyStarted := true } } := by
  simp only [State.commitStarted, ht, hd, h1, h2, hp]
  rfl

end

/-- Settles O41: STASH, parity reduction, APPLY, the module's own commit and the start of the commands of a commit, each by the cases of
its row. -/
theorem granaryAndCommitRequests : Obligations.GranaryAndCommitRequests := by
  intro s c r q
  refine ⟨?_, ?_, ?_, ?_, ?_, ?_, ?_⟩
  · rintro hq hr slot rfl
    have h0 : q ≠ 0 := Nat.ne_zero_of_lt (four_le_of_tgtQueue (by decide) hq)
    rw [exec_stash]
    refine ⟨fun x hx hg w hw => ?_, fun hg => ?_⟩
    · rw [stashRow_works hq hr hx hg, runWork_completes h0 hw]
    · rw [stashRow_fault hq hr hg, runWork_fault]
      rfl
  · intro hq hr
    have h0 : q ≠ 0 := Nat.ne_zero_of_lt (four_le_of_tgtQueue (by decide) hq)
    rw [exec_parityReduction]
    refine ⟨fun hp => ?_, ?_⟩
    · rw [parityReduction_of_no_parity hq hr hp, runWork_nothing h0]
    · rintro hp a rfl
      refine ⟨fun w h2 hi hw => ?_, fun h2 hi => ?_, fun h2 => ?_⟩
      · rw [parityReduction_of_first hq hr hp h2 hi, runWork_completes h0 hw]
      · rw [parityReduction_of_waiting hq hr hp h2 hi]
      · rw [parityReduction_of_later hq hr hp h2, runWork_nothing h0]
  · intro hq hr hd h1 h2 hp
    have h0 : q ≠ 0 := Nat.ne_zero_of_lt (four_le_of_tgtQueue (by decide) hq)
    obtain ⟨hdone, hnow⟩ := applyRow_eq hq hr hd h1 h2 hp
    rw [exec_apply]
    refine ⟨fun hc hs hph => ?_, fun h => ?_⟩
    · rw [hdone ⟨hc, hs, hph⟩, runWork_nothing h0]
    · rw [hnow]
      rintro ⟨hc, hs, hph⟩
      obtain h | h | h := h
      · simp [h] at hc
      · exact Nat.not_le.2 h hs
      · exact h hph
  · rintro hq ha hs t rfl
    rw [exec_autoApply]
    refine ⟨fun ho => ?_, fun ho hp => ?_, fun ho hp h2 => ?_, fun ho hp h1 hi => ⟨_, rfl, ?_⟩⟩
    · rw [autoApply_of_closed hq ha hs ho]
    · rw [autoApply_of_applies hq ha hs ho (.inl hp)]; rfl
    · rw [autoApply_of_applies hq ha hs ho (.inr h2), applyNow_of_parity (s := s.tellReady.applyBegun) hp]; rfl
    · rw [State.settle_smithy]
      exact autoApply_of_phaseA hq ha hs ho hp h1 hi
  · intro h
    rw [exec_autoApply, autoApply_of_not_due h]
  · exact fun hp ht hs hi hph hb => applyNow_writes hp ht ((State.mayRecord_iff s).2 ⟨hs, hi, hph, hb⟩)
  · rintro n cmd rest hw hr hq hslot hop htgt t rfl
    have hc : cmd.commits = true := (EngCmd.commits_iff cmd).2 ⟨hslot, hop, by tauto⟩
    have ht : cmd.tgt ≠ 0 := by obtain h | h | h := htgt <;> rw [h] <;> decide
    have h4 : 4 ≤ n.toNat := four_le_of_tgtQueue (fun h => ht (BitVec.eq_of_toNat_eq h)) hq
    rw [exec_engineCommandStart]
    refine ⟨fun ho => by rw [commandStart_of_closed hw hr hc ho], ?_⟩
    rintro ho hs hcond he a u rfl hu
    have hstart : s.tellReady.headStarted c n.toNat cmd rest = u := by rw [hu, State.headStarted, State.core_tellReady]
    have hrun : ((u.core c).queue n.toNat).run = some ⟨cmd, startArgs (s.core c) cmd, false, 0, false, 0, false⟩ := by
      rw [← hstart, State.run_headStarted, State.core_tellReady]
    have hsmithy : u.smithy = s.tellReady.smithy := by rw [hu]; rfl
    have hparity : u.fab.parity = s.fab.parity := by rw [hu]; exact s.parity_tellReady
    rw [commandStart_of_open hw hr hc ho hs h4 ht hcond he, hstart, ← hsmithy, ← hparity]
    refine ⟨fun h3 ha hp => ?_, fun h3 h => ?_, fun h7 => ?_, fun h4 hd h1 h2 hp => ?_⟩
    · rw [commitStarted_of_stage h3 ha hp]
    · rw [commitStarted_of_late_stage h3 h hrun rfl]
      rfl
    · rw [commitStarted_of_reduction h7]
    · rw [commitStarted_of_apply h4 hd h1 h2 hp]

end Sys2Proof.Machine
end

section
/-! SUPPORT. The bell: lock, holdover and loss, marks, capture, pace and the economy timers (R48, R52, R54, R57, R58, R65, R67, R281). -/

namespace Sys2Proof.Machine

/-! ## Rows -/

theorem exec_bellLock (s : State) : exec .bellLock s = .next (s.settle (bellLock s)) := rfl

theorem exec_bellHoldover (s : State) : exec .bellHoldover s = .next (s.settle (bellHoldover s)) := rfl

theorem exec_bellLost (s : State) : exec .bellLost s = .next (s.settle (bellLost s)) := rfl

theorem exec_mark (p : Port) (block : List Byte) (count : W32) (off : Int) (s : State) :
    exec (.mark p block count off) s = .next (s.settle (mark p block count.toNat off s)) := rfl

theorem exec_tickInCapture (s : State) : exec .tickInCapture s = .next (s.settle (tickInCapture s)) := rfl

theorem exec_econRequestTimeout (s : State) : exec .econRequestTimeout s = .next (s.settle (econTimeout s)) := rfl

theorem exec_overrunCheckResume (s : State) : exec .overrunCheckResume s = .next (s.settle (overrunResume s)) := rfl

theorem exec_paceChange (s : State) : exec .paceChange s = .next (s.settle (paceChange s)) := rfl

/-! ## Lock, holdover and loss (R52, R54) -/

theorem bellLock_locks {s : State} (h : s.bel.state = .acquire ∧ 64 ≤ s.bel.lockCount ∧ s.bel.root = false) :
    bellLock s = { s with bel := { s.bel with state := .locked } } := if_pos h

theorem bellLock_waits {s : State} (h : ¬ (s.bel.state = .acquire ∧ 64 ≤ s.bel.lockCount ∧ s.bel.root = false)) :
    bellLock s = s := if_neg h

theorem bellHoldover_enters {s : State}
    (h : s.bel.root = false ∧ 4 ≤ s.bel.markless ∧ (s.bel.state = .locked ∨ s.bel.state = .acquire)) :
    bellHoldover s = { s with bel := { s.bel with state := .holdover, holdFrames := 0 } } := if_pos h

theorem bellHoldover_waits {s : State}
    (h : ¬ (s.bel.root = false ∧ 4 ≤ s.bel.markless ∧ (s.bel.state = .locked ∨ s.bel.state = .acquire))) :
    bellHoldover s = s := if_neg h

/-- Settles O34: each of the three rows by its condition. -/
theorem bellStates : Obligations.BellStates := by
  intro s
  rw [exec_bellLock, exec_bellHoldover, exec_bellLost]
  refine ⟨fun h => ?_, fun ha hc hr => ?_, fun h => ?_, fun hr hm hs => ?_, fun h => ?_, fun hs hf => ?_, fun h => ?_⟩
  · rw [bellLock_waits (by simp [h])]
  · rw [bellLock_locks ⟨ha, hc, hr⟩]
  · rw [bellLock_waits fun ⟨ha, hc, _⟩ => h.elim (· ha) (fun h => Nat.not_le.2 h hc)]
  · rw [bellHoldover_enters ⟨hr, hm, hs⟩]
  · rw [bellHoldover_waits]
    rintro ⟨hr, hm, hs⟩
    obtain h | h | h | h := h
    · simp [hr] at h
    · omega
    · simp [h] at hs
    · simp [h] at hs
  · rw [bellLost, if_pos ⟨hs, hf⟩]
    rfl
  · rw [bellLost, if_neg fun ⟨hs, hf⟩ => h.elim (· hs) (· hf)]

end Sys2Proof.Machine
end

section
/-! SUPPORT. Marks, TICK_IN capture, pace changes and the economy timers (R52, R57, R58, R65, R67, R281, R282). -/

namespace Sys2Proof.Machine

/-! ## The bell under events (R283) -/

@[simp] theorem State.logEvent_bel (s : State) (e : EventRec) : (s.logEvent e).bel = s.bel := by
  obtain ⟨_, _, _, _, h⟩ := State.logEvent_frame s e
  rw [h]

/-- A module that is not root keeps its bell when it leaves its rings. -/
theorem State.leaveRings_bel {s : State} (h : s.bel.root = false) : s.leaveRings.bel = s.bel := by
  unfold State.leaveRings
  dsimp only
  rw [foldl_keeps State.bel (by intros; rfl), h]
  rfl

/-- An event changes the bell only where the fault takes the module out of its rings. -/
theorem raise_bel_eq (c u i d : Nat) (s : State) :
    (raise c u i d s).bel = (if ownModuleFault c then s.leaveRings else s).bel := by
  unfold raise
  dsimp only
  generalize (if ownModuleFault c then s.leaveRings else s) = s0
  split
  · exact State.logEvent_bel _ _
  · exact State.logEvent_bel _ _

/-- No event changes the bell of a module that is not root. -/
theorem raise_bel_of_not_root {s : State} (h : s.bel.root = false) (c u i d : Nat) : (raise c u i d s).bel = s.bel := by
  rw [raise_bel_eq]
  split
  · exact State.leaveRings_bel h
  · rfl

theorem State.rootAnnounce_of_not_root {s : State} (h : s.bel.root = false) : s.rootAnnounce = s := by
  simp [State.rootAnnounce, h]

/-! ## Marks (R52, R281, R282) -/

/-- A keeper in BYPASS passes the block on to the opposite port (R282). -/
def State.passMark (s : State) (p : Port) (block : List Byte) : State :=
  if (s.port p.val).bypass then s.send (.mark (p.val + 1 - 2 * (p.val % 2)) block) else s

theorem State.passMark_keeps {β : Type} (g : State → β) (hs : ∀ (s : State) m, g (s.send m) = g s) (s : State) (p : Port)
    (block : List Byte) : g (s.passMark p block) = g s := by
  unfold State.passMark
  split
  · exact hs s _
  · rfl

theorem mark_bad {p : Port} {block : List Byte} (h : markGood block = false) (count : Nat) (off : Int) (s : State) :
    mark p block count off s = s.passMark p block := by
  unfold mark
  rw [h]
  rfl

/-- The bell with a mark's stamp, and its request where it carries one (R65, R281). -/
def Bel.stamped (b : Bel) (p : Nat) (block : List Byte) (count : Nat) : Bel :=
  { b with ports := mapPut b.ports p (markNat block 16 4, count % 2 ^ 32),
           lastReq := if bit (markNat block 1 1) 2 then some b.frame else b.lastReq }

/-- The state after a good mark of the upstream port, before BELL_LOST (R52, R281). -/
def State.marked (s : State) (p : Port) (block : List Byte) (count : Nat) (off : Int) : State :=
  { s.passMark p block with bel := (s.bel.stamped p.val block count).onMark block count off }

section
variable {s : State} {p : Port} {block : List Byte} {count : Nat} {off : Int} (hg : markGood block = true)
  (hr : s.bel.root = false) (hp : s.bel.upPort = p.val ∨ s.bel.upPort = 7)
include hg hr hp

/-- A good mark of the upstream port drives the bell, and raises BELL_LOST where the tick of a settled bell is more than 64 cycles off
(R52, R54, R281). -/
theorem mark_upstream : mark p block count off s = s.marked p block count off ∨
    mark p block count off s = raise cBellLost 0 0 0 (s.marked p block count off) := by
  have hup : (!s.bel.root && (s.bel.upPort == p.val || s.bel.upPort == 7)) = true := by simpa [hr] using hp
  have heq : mark p block count off s =
      (if (true && (s.bel.state == .locked || s.bel.state == .holdover) && decide (128 < off.natAbs)) = true then
        raise cBellLost 0 0 0 (s.marked p block count off) else s.marked p block count off).rootAnnounce := by
    unfold mark
    rw [if_neg (by simp [hg])]
    dsimp only
    rw [show (if (s.port p.val).bypass = true then s.send (.mark (p.val + 1 - 2 * (p.val % 2)) block) else s) =
        s.passMark p block from rfl, s.passMark_keeps State.bel (fun _ _ => rfl) p block, hup]
    rfl
  have hroot : (s.marked p block count off).bel.root = false := hr
  rw [heq]
  split
  · exact .inr (State.rootAnnounce_of_not_root (by rw [raise_bel_of_not_root hroot, hroot]))
  · exact .inl (State.rootAnnounce_of_not_root hroot)

theorem mark_upstream_bel : (mark p block count off s).bel = (s.bel.stamped p.val block count).onMark block count off := by
  obtain h | h := mark_upstream (count := count) (off := off) hg hr hp
  · rw [h]; rfl
  · have hroot : (s.marked p block count off).bel.root = false := hr
    rw [h, raise_bel_of_not_root hroot]; rfl

theorem mark_upstream_tier : (mark p block count off s).tier = s.tier := by
  have := s.passMark_keeps State.tier (fun _ _ => rfl) p block
  obtain h | h := mark_upstream (count := count) (off := off) hg hr hp
  · rw [h]; exact this
  · rw [h, raise_tier]; exact this

theorem mark_upstream_cores : (mark p block count off s).cores = s.cores := by
  have := s.passMark_keeps State.cores (fun _ _ => rfl) p block
  obtain h | h := mark_upstream (count := count) (off := off) hg hr hp
  · rw [h]; exact this
  · rw [h, raise_cores]; exact this

end

/-- Settles O35: a bad block by the keeper alone, a good one of the upstream port by what it does to the bell. -/
theorem marksDriveTheBell : Obligations.MarksDriveTheBell := by
  intro s p block count off
  rw [exec_mark]
  refine ⟨fun hg hb => ?_, fun hg hb => ?_, fun hg hr hp => ⟨_, rfl, ?_⟩⟩
  · rw [mark_bad hg, State.passMark, if_neg (by simp [hb])]
  · have hport : p.val + 1 - 2 * (p.val % 2) = if p.val % 2 = 0 then p.val + 1 else p.val - 1 := by
      split <;> omega
    rw [mark_bad hg, State.passMark, if_pos hb, hport]
    rfl
  · rw [State.settle_bel, State.settle_tier, State.settle_cores, mark_upstream_bel hg hr hp, mark_upstream_tier hg hr hp,
      mark_upstream_cores hg hr hp]
    refine ⟨rfl, rfl, rfl, rfl, fun h => ?_, fun h => ?_, fun h => ?_, rfl, rfl⟩
    · obtain h | h := h <;> simp [Bel.onMark, Bel.stamped, h]
    · simp [Bel.onMark, Bel.stamped, h]
    · obtain h | h := h <;> simp [Bel.onMark, Bel.stamped, h]

/-! ## Pace (R58, R65, R67, R68) -/

/-- Filling meters anew at a pace change touches the cores and the budgets alone. -/
theorem State.repace_keeps {β : Type} (g : State → β) (hc : ∀ (s : State) c k, g (s.setCore c k) = g s)
    (hb : ∀ (s : State) b, g { s with bud := b } = g s) (before after : State) : g (before.repace after) = g after := by
  unfold State.repace
  rw [hb, foldl_keeps g]
  intro s c
  dsimp only
  split
  · rfl
  · exact hc s _ _

/-- The bell after the announced pace change. -/
def Bel.repaced (b : Bel) (half : Bool) : Bel :=
  { b with half := half, annPace := b.annNext, annNext := none,
           halfSince := if half && b.overrunOff then some b.frame else b.halfSince,
           econ := if half || (b.supplyCause || b.thermalCause) then b.econ else false,
           econSupply := if half || (b.supplyCause || b.thermalCause) then b.econSupply else false,
           econThermal := if half || (b.supplyCause || b.thermalCause) then b.econThermal else false }

/-- The frames that begin at the tick of a pace change take the new pace (R58). -/
def State.framesRepaced (s : State) (half : Bool) : List OpenFrame :=
  s.run.openFrames.map fun f =>
    if f.first = s.bel.frame then { f with bells := if half then 2 else 1, half := half, econ := (s.bel.repaced half).econ } else f

section
variable {s : State} {half : Bool} {n : Nat} (ha : s.bel.annPace = some (half, n))
include ha

theorem paceChange_waits (h : s.bel.frame ≠ n ∨ s.bel.cycle ≠ 0) : paceChange s = s := by
  simp only [paceChange, ha, if_pos h]

theorem paceChange_at_tick (hf : s.bel.frame = n) (hc : s.bel.cycle = 0) :
    (paceChange s).bel = s.bel.repaced half ∧ (paceChange s).run = { s.run with openFrames := s.framesRepaced half } ∧
    (paceChange s).tier = s.tier ∧ (paceChange s).fab = s.fab ∧ (paceChange s).outbox = s.outbox := by
  have hn : ¬ (s.bel.frame ≠ n ∨ s.bel.cycle ≠ 0) := by simp [hf, hc]
  let u : State := { s with bel := s.bel.repaced half, run := { s.run with openFrames := s.framesRepaced half } }
  have h : paceChange s = s.repace u ∨ paceChange s = u := by
    simp only [paceChange, ha, if_neg hn]
    exact ite_eq_or_eq _ _ _
  obtain h | h := h <;> rw [h]
  · exact ⟨State.repace_keeps State.bel (by intros; rfl) (by intros; rfl) s u,
      State.repace_keeps State.run (by intros; rfl) (by intros; rfl) s u,
      State.repace_keeps State.tier (by intros; rfl) (by intros; rfl) s u,
      State.repace_keeps State.fab (by intros; rfl) (by intros; rfl) s u,
      State.repace_keeps State.outbox (by intros; rfl) (by intros; rfl) s u⟩
  · exact ⟨rfl, rfl, rfl, rfl, rfl⟩

end

/-- Settles O37: each row by its condition, the pace change by what it leaves. -/
theorem capturePaceAndEconomyTimers : Obligations.CapturePaceAndEconomyTimers := by
  refine ⟨fun s => ?_, fun s half n ha => ?_⟩
  · rw [exec_tickInCapture, exec_econRequestTimeout, exec_overrunCheckResume]
    refine ⟨fun hd hr => ?_, fun h => ?_, fun f hl hr hh ha hq hf => ?_, fun f hl hf => ?_, fun t ht ho hf => ?_,
      fun t ht hf => ?_⟩
    · rw [tickInCapture, if_neg (by simp [hd, hr])]
    · rw [tickInCapture, if_pos h]
    · simp only [econTimeout, hl]
      rw [if_pos (by simp [hr, hh, ha, hq, hf])]
    · simp only [econTimeout, hl]
      rw [if_neg (by simp; omega)]
    · simp only [overrunResume, ht]
      rw [if_pos (by simp [ho, hf])]
    · simp only [overrunResume, ht]
      rw [if_neg (by simp; omega)]
  · rw [exec_paceChange]
    refine ⟨fun h => by rw [paceChange_waits ha h], fun hf hc => ⟨_, rfl, ?_⟩⟩
    obtain ⟨hbel, hrun, htier, hfab, hout⟩ := paceChange_at_tick ha hf hc
    rw [State.settle_bel, State.settle_run, State.settle_tier, hbel, hrun, htier]
    refine ⟨rfl, rfl, rfl, rfl, rfl, fun hh hs ht => ?_, fun h => ?_, ?_, rfl, ?_⟩
    · simp [Bel.repaced, hh, hs, ht]
    · exact if_pos (by simpa using h)
    · rw [← hf]; rfl
    · rw [State.settle_quiet hout]; exact hfab

end Sys2Proof.Machine
end

section
/-! SUPPORT. FRAME_OVERRUN, the slip ring and the meters (R51, R59-R61, R67, R80, R81, R295, R467). -/

namespace Sys2Proof.Machine

/-! ## Rows -/

theorem exec_frameOverrun (c : CoreId) (s : State) : exec (.frameOverrun c) s = .next (s.settle (frameOverrun c s)) := rfl

theorem exec_slipRecordWrite (s : State) : exec .slipRecordWrite s = .next (s.settle (slipRecordWrite s)) := rfl

/-! ## Who owes (R50, R295) -/

theorem State.coreOwes_iff (s : State) (c : CoreId) (f : Nat) : s.coreOwes c.toNat f = true ↔
    (s.core c).owes f = true ∨ ((∃ p ∈ s.fab.staging, p.owed = some f) ∧ c.toNat = s.firstCore) := by
  simp [State.coreOwes, State.stagedOwes]

/-- Where no later frame began at the same bell, only the oldest is changed. -/
theorem map_oldest {f : OpenFrame} {rest : List OpenFrame} (h : ∀ g ∈ rest, g.first ≠ f.first) (u : OpenFrame → OpenFrame) :
    ((f :: rest).map fun g => if g.first = f.first then u g else g) = u f :: rest := by
  rw [List.map_cons, if_pos rfl]
  exact congrArg (u f :: ·) ((List.map_congr_left fun g hg => if_neg (h g hg)).trans (List.map_id rest))

/-! ## FRAME_OVERRUN (R51, R67, R467) -/

/-- While the check is suspended or the module is stopped no FRAME_OVERRUN is raised. -/
theorem frameOverrun_of_suspended {s : State} (h : s.bel.overrunOff = true ∨ s.rec0.stopped = true) (c : CoreId) :
    frameOverrun c s = s := by
  unfold frameOverrun
  split
  · exact if_pos (by simpa using h)
  · rfl

/-- A core that owes work of a frame one full frame after its end raises FRAME_OVERRUN for it. -/
theorem frameOverrun_raises {s : State} {c : CoreId} {f : OpenFrame} {rest : List OpenFrame}
    (hf : s.run.openFrames = f :: rest) (hn : f.recorded = false) (hrest : ∀ g ∈ rest, g.first ≠ f.first)
    (ht : f.first + f.bells + 1 ≤ s.bel.frame) (ho : s.coreOwes c.toNat f.first = true) (hc : c.toNat ∉ f.overrun)
    (hoff : s.bel.overrunOff = false) (hs : s.rec0.stopped = false) : frameOverrun c s = raise cFrameOverrun 1 c.toNat 0
      { s with run := { s.run with openFrames := { f with overrun := f.overrun ++ [c.toNat] } :: rest },
               rec0 := { s.rec0 with spared := if s.portsBusy then s.rec0.spared ++ [c.toNat] else s.rec0.spared } } := by
  have hfind : (s.run.openFrames.find? fun f =>
      decide (f.first + f.bells + 1 ≤ s.bel.frame) && s.coreOwes c.toNat f.first && !f.overrun.contains c.toNat) = some f := by
    rw [hf, List.find?_cons_of_pos (by simp [ht, ho, hc])]
  have hmap := map_oldest hrest fun g => { g with overrun := g.overrun ++ [c.toNat] }
  rw [← hf] at hmap
  simp only [frameOverrun, hfind, hn, hoff, hs, hmap]
  rfl

theorem State.portsBusy_iff (s : State) : s.portsBusy = true ↔
    s.bel.frame < s.rec0.portBusy ∨ ∃ i, i < 6 ∧ ((s.port i).state = .down ∨ (s.port i).state = .train) := by
  simp [State.portsBusy]

/-! ## The slip ring (R80, R81) -/

/-- One full frame after the end of the oldest frame its slip is recorded: a record enters the ring where a core slipped. -/
theorem slipRecordWrite_oldest {s : State} {f : OpenFrame} {rest : List OpenFrame} (hf : s.run.openFrames = f :: rest)
    (hn : f.recorded = false) (ht : f.first + f.bells + 1 ≤ s.bel.frame) (hrest : ∀ g ∈ rest, g.first ≠ f.first) :
    slipRecordWrite s =
      let u : State := { s with run := { s.run with openFrames := { f with recorded := true } :: rest } }
      if (s.slipsOf f).isEmpty then u
      else { u with bud := { s.bud with ring := mapSet 0 s.bud.ring s.bud.slipNext (slipWord f (s.slipsOf f)),
                                        slipNext := (s.bud.slipNext + 1) % 1024, slipTotal := satAdd 32 s.bud.slipTotal 1 } } := by
  have hfind : (s.run.openFrames.find? fun f => !f.recorded && decide (f.first + f.bells + 1 ≤ s.bel.frame)) = some f := by
    rw [hf, List.find?_cons_of_pos (by simp [ht, hn])]
  have hmap := map_oldest hrest fun g => { g with recorded := true }
  rw [← hf] at hmap
  simp only [slipRecordWrite, hfind, hmap]

/-! ## Meters (R59-R61) -/

theorem refill_of_nonneg {m : Int} (h : 0 ≤ m) (a : Nat) : refill m a = a := by
  rw [refill, if_neg (Int.not_lt.2 h), Int.zero_add]

theorem refill_of_neg {m : Int} (h : m < 0) (a : Nat) : refill m a = m + a := by
  rw [refill, if_pos h]

/-- What of an allowance a class can use at full pace (Table 03-5). -/
theorem classLimit_eq (cls a : Nat) : classLimit cls a = if cls = 5 then a else
    min a (if cls = 2 then 65535 else if cls = 3 then 61740 else if cls = 4 then 6625 else if cls = 6 then 18218 else 16384) := by
  unfold classLimit
  split <;> simp_all

theorem State.allow_eq (s : State) (cls a : Nat) : s.allow cls a = (if cls = 5 then a else
      min a (if cls = 2 then 65535 else if cls = 3 then 61740 else if cls = 4 then 6625 else if cls = 6 then 18218 else 16384)) *
    min (mapGet 256 s.bud.ceil cls)
      ((if s.bel.econ = true ∧ cls ≤ 1 then 128 else 256) * (if s.bel.half = true then 2 else 1)) / 256 := by
  have hforce : s.inForce cls = if s.bel.econ = true ∧ cls ≤ 1 then 128 else 256 := by simp [State.inForce]
  rw [State.allow, classLimit_eq, hforce]
  rfl

/-- Settles O38: FRAME_OVERRUN and the slip record of the oldest frame, and a meter at a refill. -/
theorem overrunSlipAndMeters : Obligations.OverrunSlipAndMeters := by
  refine ⟨fun s c f rest hf hn hrest => ?_, fun s f rest hf hn ht hrest => ?_, fun s cls a m => ?_⟩
  · rw [exec_frameOverrun]
    refine ⟨fun ht ho hc hoff hs => ?_, s.portsBusy_iff, fun h => by rw [frameOverrun_of_suspended h]⟩
    rw [frameOverrun_raises hf hn hrest ht ((s.coreOwes_iff c f.first).2 ho) hc hoff hs]
    rfl
  · rw [exec_slipRecordWrite, slipRecordWrite_oldest hf hn ht hrest]
    exact ⟨fun h => by rw [if_neg (by simpa using h)]; rfl, fun h => by rw [if_pos (by simp [h])]⟩
  · exact ⟨fun h => refill_of_nonneg h _, fun h => refill_of_neg h _, s.allow_eq cls a⟩

end Sys2Proof.Machine
end

section
/-! SUPPORT. The rows of the engines and the optional units do the work of the started command (R50, R105, R106, R132, R183). -/

namespace Sys2Proof.Machine
open Sys2Proof.Claims

section
variable {s : State} {c : CoreId} {q : Nat} {r : Run} {slot : Slot} {op : BitVec 6} {tgt : BitVec 4} {work : EArgs → EM Unit}
  (hr : Runs s c q slot op tgt r)
include hr

/-- A unit that has owed work of another source to do first does not begin the command (R50). -/
theorem engineRow_yields (hy : s.yields c r = true) : engineRow c q slot op tgt work s = s := by
  simp only [engineRow, startedAs_of_runs hr, hy]
  rfl

theorem engineRow_works (hy : s.yields c r = false) :
    engineRow c q slot op tgt work s = runWork c q r (work r.args) (workState s c q) := by
  simp only [engineRow, startedAs_of_runs hr, hy]
  rfl

/-- An engine row does its command's work, however the work ends (R183). -/
theorem doesWork_of_engineRow {i : Instr} (hi : exec i s = .next (s.settle (engineRow c q slot op tgt work s))) :
    DoesWork i (work r.args) s c q r := by
  refine ⟨fun hy => by rw [hi, engineRow_yields hr hy], fun hy => ?_⟩
  rw [hi, engineRow_works hr hy]
  have hfrom : r.work (workState s c q) c q = workFrom s c q r := rfl
  simp only [runWork, hfrom]
  refine ⟨fun w ⟨hw, hm⟩ => ?_, fun w hw hm => ?_, fun w hw => ?_, fun w code hw => ?_⟩
  · simp only [hw, hm]
    rfl
  · simp only [hw, hm]
    rfl
  · simp only [hw]
  · simp only [hw]
    rfl

omit hr

/-- The row of an optional unit's command does its work in the queue of the unit's TGT (R105). -/
theorem doesWork_of_unitRow {i : Instr} (hq : tgtQueue s.unitsEff tgt.toNat = some q) (hr : Runs s c q .x 2 tgt r)
    (hi : exec i s = .next (s.settle (unitRow c tgt work s))) : DoesWork i (work r.args) s c q r := by
  refine doesWork_of_engineRow hr (hi.trans ?_)
  simp only [unitRow, hq]

end

/-- Settles O20: each of the sixteen commands has an engine row. -/
theorem engineCommandsDoTheirWork : Obligations.EngineCommandsDoTheirWork := by
  intro s c r
  exact ⟨(doesWork_of_engineRow · rfl), (doesWork_of_engineRow · rfl), (doesWork_of_engineRow · rfl),
    (doesWork_of_engineRow · rfl), (doesWork_of_engineRow · rfl), (doesWork_of_engineRow · rfl),
    (doesWork_of_engineRow · rfl), (doesWork_of_engineRow · rfl), (doesWork_of_engineRow · rfl),
    (doesWork_of_engineRow · rfl), (doesWork_of_engineRow · rfl), (doesWork_of_engineRow · rfl),
    (doesWork_of_engineRow · rfl), (doesWork_of_engineRow · rfl), (doesWork_of_engineRow · rfl),
    (doesWork_of_engineRow · rfl)⟩

/-- Settles O21: each of the five requests has the row of an optional unit. -/
theorem unitRequestsDoTheirWork : Obligations.UnitRequestsDoTheirWork := by
  intro s c r q
  exact ⟨(doesWork_of_unitRow · · rfl), (doesWork_of_unitRow · · rfl), (doesWork_of_unitRow · · rfl),
    (doesWork_of_unitRow · · rfl), (doesWork_of_unitRow (work := fun _ => pure ()) · · rfl)⟩

end Sys2Proof.Machine
end

section
/-! SUPPORT. The retirement of an engine's command: its signal, its lanes and the slip of its frame (R50, R101, R289). -/

namespace Sys2Proof.Machine
open Sys2Proof.Claims

theorem exec_commandRetire (c : CoreId) (q : BitVec 4) (s : State) :
    exec (.commandRetire c q) s = .next (s.settle (engineRetire c q.toNat s).sweepVersions) := rfl

/-! ## Counters (R99, R101) -/

@[simp] theorem Core.counter_addCounter_same (k : Core) (i : ScReg) (v : BitVec 16) :
    (k.addCounter i v).counter i = k.counter i + v := by
  simp [Core.addCounter, Core.setCounter, Core.counter]

theorem Core.counter_addCounter_other (k : Core) {i n : ScReg} (v : BitVec 16) (h : n ≠ i) :
    (k.addCounter i v).counter n = k.counter n := by
  have : i.toNat ≠ n.toNat := fun e => h (BitVec.eq_of_toNat_eq e).symm
  simp only [Core.addCounter, Core.setCounter, Core.counter, mapGet_mapSet_other _ _ this]

/-- A signal whose increment is 0 changes no counter (R101). -/
theorem Core.counter_signal (k : Core) (i n : ScReg) {w : Nat} (v : BitVec w) :
    (if v = 0 then k else k.addCounter i (v.zeroExtend 16)).counter n =
      if n = i then k.counter i + v.zeroExtend 16 else k.counter n := by
  by_cases hn : n = i
  · subst hn
    by_cases hv : v = 0
    · simp [hv]
    · rw [if_neg hv, if_pos rfl, k.counter_addCounter_same]
  · rw [if_neg hn]
    split
    · rfl
    · exact k.counter_addCounter_other _ hn

/-! ## Retirement (R101, R289) -/

/-- The core after the retirement of a command of queue `q`. -/
def Core.retired (k : Core) (q : Nat) (r : Run) : Core :=
  let k1 := k.setQueue q { k.queue q with run := none }
  let k2 := if r.cmd.sinc = 0 then k1 else k1.addCounter r.cmd.sctr (r.cmd.sinc.zeroExtend 16)
  if q = 0 then { k2 with lanes := [] } else k2

section
variable (k : Core) (q : Nat) (r : Run)

theorem Core.queue_retired : (k.retired q r).queue q = { k.queue q with run := none } := by
  have h : (k.retired q r).queues = (k.setQueue q { k.queue q with run := none }).queues := by
    unfold Core.retired
    dsimp only
    split <;> split <;> rfl
  rw [Core.queue, h]
  exact Core.queue_setQueue_same _ _ _

theorem Core.counter_retired (n : ScReg) : (k.retired q r).counter n =
    if n = r.cmd.sctr then k.counter r.cmd.sctr + r.cmd.sinc.zeroExtend 16 else k.counter n := by
  have h := (k.setQueue q { k.queue q with run := none }).counter_signal r.cmd.sctr n r.cmd.sinc
  unfold Core.retired
  dsimp only
  split
  · exact h
  · exact h

theorem Core.lanes_retired : (k.retired q r).lanes = if q = 0 then [] else k.lanes := by
  unfold Core.retired
  dsimp only
  split
  · rfl
  · split <;> rfl

theorem Core.ls_retired : (k.retired q r).ls = k.ls := by
  unfold Core.retired
  dsimp only
  split <;> split <;> rfl

end

section
variable {s : State} {c : CoreId} {q : Nat} {r : Run} (hr : ((s.core c).queue q).run = some r)
include hr

/-- A command that is done and awaits nothing retires. -/
theorem engineRetire_retires (hd : r.done = true) (hf : r.failed = false) (ha : r.acks = 0) :
    engineRetire c q s = (s.setCore c ((s.core c).retired q r)).noteRetire c r.cmd.task.frame := by
  simp only [engineRetire, hr, hd, hf, ha]
  rfl

theorem engineRetire_waits (h : r.done = false ∨ r.failed = true ∨ r.acks ≠ 0) : engineRetire c q s = s := by
  simp only [engineRetire, hr]
  refine if_neg ?_
  obtain h | h | h := h <;> simp [h]

end

/-- Settles O26: the command retires, or the row changes nothing but versions that may go. -/
theorem commandsRetireAndSignal : Obligations.CommandsRetireAndSignal := by
  intro s c q r hr
  rw [exec_commandRetire]
  refine ⟨fun hd hf ha => ⟨_, rfl, ?_⟩, fun h => by rw [engineRetire_waits hr h]⟩
  have h0 : q.toNat = 0 ↔ q = 0 := BitVec.toNat_inj (y := 0#4)
  have hcore : (engineRetire c q.toNat s).core c = (s.core c).retired q.toNat r := by
    rw [engineRetire_retires hr hd hf ha]
    exact State.core_setCore_same s c _
  rw [hcore, Core.queue_retired, Core.lanes_retired, Core.ls_retired, engineRetire_retires hr hd hf ha]
  refine ⟨rfl, rfl, ?_, fun n hn => ?_, by simp only [h0], ?_, rfl, rfl, rfl⟩
  · rw [Core.counter_retired, if_pos rfl]
  · rw [Core.counter_retired, if_neg hn]
  · refine List.map_congr_left fun f _ => ?_
    have hslip : (s.setCore c ((s.core c).retired q.toNat r)).slipNow f = s.slipNow f := rfl
    simp only [hslip, Bool.and_eq_true, beq_iff_eq, bne_iff_ne]

end Sys2Proof.Machine
end

section
/-! SUPPORT. What the begin of an almanac frame, of a section and of a step leave as it stood (R49, R60, R87, R95, R115, R440). -/

namespace Sys2Proof.Machine

/-! ## Sparse maps -/

theorem mem_mapPut {β : Type} {m : List (Nat × β)} {a : Nat} {x : β} {p : Nat × β} (h : p ∈ mapPut m a x) :
    p = (a, x) ∨ p ∈ m := by
  induction m with
  | nil => simpa [mapPut] using h
  | cons e t ih =>
    obtain ⟨k, v⟩ := e
    simp only [mapPut] at h
    split at h
    · simpa using h
    · split at h
      · simp only [List.mem_cons] at h ⊢
        tauto
      · simp only [List.mem_cons] at h ⊢
        obtain h | h := h
        · exact .inr (.inl h)
        · exact (ih h).imp_right .inr

theorem mapGet_eq_or_mem {β : Type} (d : β) (m : List (Nat × β)) (a : Nat) : mapGet d m a = d ∨ (a, mapGet d m a) ∈ m := by
  induction m with
  | nil => exact .inl rfl
  | cons e t ih =>
    obtain ⟨k, v⟩ := e
    simp only [mapGet]
    split
    · next h => subst h; exact .inr List.mem_cons_self
    · exact ih.imp_right (List.mem_cons_of_mem _)

/-- A map over the values of a sparse map, read at a key that may not be listed. -/
theorem mapGet_map {β : Type} {d : β} {f : β → β} (hd : f d = d) (m : List (Nat × β)) (a : Nat) :
    mapGet d (m.map fun e => (e.1, f e.2)) a = f (mapGet d m a) := by
  induction m with
  | nil => exact hd.symm
  | cons e t ih =>
    obtain ⟨k, v⟩ := e
    simp only [List.map_cons, mapGet]
    split
    · rfl
    · exact ih

/-! ## Cores in service (R111, R116) -/

/-- No core is retired. -/
def State.InService (s : State) : Prop := ∀ p ∈ s.cores, p.2.regs.retired = false

theorem State.inService_iff (s : State) : s.InService ↔ s.retiredCores = [] := by
  simp [State.InService, State.retiredCores]

theorem State.InService.core {s : State} (h : s.InService) (c : CoreId) : (s.core c).regs.retired = false := by
  obtain he | he := mapGet_eq_or_mem Core.reset s.cores c.toNat
  · rw [State.core, he]; rfl
  · exact h _ he

theorem State.InService.setCore {s : State} (h : s.InService) (c : CoreId) {k : Core}
    (hk : k.regs.retired = (s.core c).regs.retired) : (s.setCore c k).InService := by
  intro p hp
  obtain rfl | hp := mem_mapPut hp
  · exact hk.trans (h.core c)
  · exact h p hp

theorem State.InService.map {s t : State} (h : s.InService) {f : Core → Core} (hf : ∀ k, (f k).regs.retired = k.regs.retired)
    (ht : t.cores = s.cores.map fun c => (c.1, f c.2)) : t.InService := by
  intro p hp
  rw [ht] at hp
  obtain ⟨e, he, rfl⟩ := List.mem_map.1 hp
  exact (hf e.2).trans (h e he)

/-! ## What leaves the bell and the service of the cores -/

/-- The bell stands as it was, and no core has left service where none was out of it. -/
structure State.Quiet (s t : State) : Prop where
  bel : t.bel = s.bel
  serving : s.InService → t.InService

theorem State.Quiet.refl (s : State) : State.Quiet s s := ⟨rfl, id⟩

theorem State.Quiet.trans {s t u : State} (h : State.Quiet s t) (g : State.Quiet t u) : State.Quiet s u :=
  ⟨g.bel.trans h.bel, g.serving ∘ h.serving⟩

theorem State.Quiet.foldl {α : Type} {f : State → α → State} (hf : ∀ s a, State.Quiet s (f s a)) (l : List α) (s : State) :
    State.Quiet s (l.foldl f s) := by
  induction l generalizing s with
  | nil => exact .refl s
  | cons a l ih => exact (hf s a).trans (ih _)

theorem State.Quiet.of_cores {s t : State} (hb : t.bel = s.bel) (hc : t.cores = s.cores) : State.Quiet s t :=
  ⟨hb, fun h p hp => h p (hc ▸ hp)⟩

theorem State.Quiet.setCore (s : State) (c : CoreId) {k : Core} (h : k.regs.retired = (s.core c).regs.retired) :
    State.Quiet s (s.setCore c k) := ⟨rfl, fun hs => hs.setCore c h⟩

theorem State.Quiet.bud (s : State) (b : Bud) : State.Quiet s { s with bud := b } := .of_cores rfl rfl

theorem State.Quiet.run (s : State) (r : RunCtl) : State.Quiet s { s with run := r } := .of_cores rfl rfl

/-! ## What leaves the step that runs -/

/-- Two cores with the same counters, descriptors and fetched code. -/
structure Core.SameFile (k k' : Core) : Prop where
  sc : k'.sc = k.sc := by rfl
  st : k'.st = k.st := by rfl
  code : k'.code = k.code := by rfl

/-- The step, its section and frame, its granary and smithies, and every core's counters, descriptors and code stand as they were. -/
structure State.SameStep (s t : State) : Prop where
  frame : t.bel.frame = s.bel.frame := by rfl
  step : t.run.step = s.run.step := by rfl
  inStep : t.run.inStep = s.run.inStep := by rfl
  interlude : t.run.interlude = s.run.interlude := by rfl
  pos : t.run.pos = s.run.pos := by rfl
  frameIdx : t.run.frameIdx = s.run.frameIdx := by rfl
  startAt : t.run.startAt = s.run.startAt := by rfl
  ran : t.run.ranSinceReset = s.run.ranSinceReset := by rfl
  resumePos : t.run.resumePos = s.run.resumePos := by rfl
  state : t.run.state = s.run.state := by rfl
  committed : t.run.committed = s.run.committed := by rfl
  smithy : t.smithy = s.smithy := by rfl
  granary : t.granary = s.granary := by rfl
  files : ∀ c, (s.core c).SameFile (t.core c) := by exact fun _ => {}

theorem State.SameStep.refl (s : State) : State.SameStep s s := {}

theorem State.SameStep.trans {s t u : State} (h : State.SameStep s t) (g : State.SameStep t u) : State.SameStep s u where
  frame := g.frame.trans h.frame
  step := g.step.trans h.step
  inStep := g.inStep.trans h.inStep
  interlude := g.interlude.trans h.interlude
  pos := g.pos.trans h.pos
  frameIdx := g.frameIdx.trans h.frameIdx
  startAt := g.startAt.trans h.startAt
  ran := g.ran.trans h.ran
  resumePos := g.resumePos.trans h.resumePos
  state := g.state.trans h.state
  committed := g.committed.trans h.committed
  smithy := g.smithy.trans h.smithy
  granary := g.granary.trans h.granary
  files c := ⟨(g.files c).sc.trans (h.files c).sc, (g.files c).st.trans (h.files c).st, (g.files c).code.trans (h.files c).code⟩

theorem State.SameStep.foldl {α : Type} {f : State → α → State} (hf : ∀ s a, State.SameStep s (f s a)) (l : List α) (s : State) :
    State.SameStep s (l.foldl f s) := by
  induction l generalizing s with
  | nil => exact .refl s
  | cons a l ih => exact (hf s a).trans (ih _)

theorem State.SameStep.setCore (s : State) (c : CoreId) {k : Core} (h : (s.core c).SameFile k) :
    State.SameStep s (s.setCore c k) where
  files d := by
    by_cases hd : c = d
    · subst hd; rwa [State.core_setCore_same]
    · rw [State.core_setCore_other s k hd]; exact {}

@[simp] theorem State.leaveRings_frameNo (s : State) : s.leaveRings.bel.frame = s.bel.frame := by
  obtain ⟨_, _, _, _, _, h⟩ := s.leaveRings_frame
  rw [h]

/-- An event changes nothing of the step that runs. -/
theorem State.SameStep.raise (c u i d : Nat) (s : State) : State.SameStep s (raise c u i d s) := by
  obtain ⟨_, _, _, _, _, _, _, _, _, _, _, h⟩ := raise_frame c u i d s
  rw [h]
  exact {}

theorem State.SameStep.bud (s : State) (b : Bud) : State.SameStep s { s with bud := b } := {}

/-! ## Meters (R60) -/

section
variable (s : State)

theorem State.quiet_refillCore (c : Nat) : State.Quiet s (s.refillCore c) := by
  unfold State.refillCore
  dsimp only
  split
  · exact .refl s
  · exact .setCore s _ rfl

theorem State.sameStep_refillCore (c : Nat) : State.SameStep s (s.refillCore c) := by
  unfold State.refillCore
  dsimp only
  split
  · exact .refl s
  · exact .setCore s _ {}

theorem State.refillCore_run (c : Nat) : (s.refillCore c).run = s.run := by
  unfold State.refillCore
  dsimp only
  split <;> rfl

theorem State.refillAll_eq : ∃ (l : List Nat) (b : Bud), s.refillAll = { l.foldl State.refillCore s with bud := b } := by
  unfold State.refillAll
  exact ⟨_, _, rfl⟩

theorem State.quiet_refillAll : State.Quiet s s.refillAll := by
  obtain ⟨l, b, h⟩ := s.refillAll_eq
  rw [h]
  exact (State.Quiet.foldl State.quiet_refillCore _ s).trans (.bud _ b)

theorem State.sameStep_refillAll : State.SameStep s s.refillAll := by
  obtain ⟨l, b, h⟩ := s.refillAll_eq
  rw [h]
  exact (State.SameStep.foldl State.sameStep_refillCore _ s).trans (.bud _ b)

theorem State.refillAll_run : s.refillAll.run = s.run := by
  obtain ⟨l, b, h⟩ := s.refillAll_eq
  rw [h]
  exact foldl_keeps State.run State.refillCore_run _ s

/-! ## The tasks of a frame (R49, R87, R113) -/

theorem State.placeTasks_eq (src : Nat) (det : Option Detour) : s.placeTasks src det = s ∨
    ∃ c ts n, s.placeTasks src det =
      { s.setCore c { s.core c with tasks := (s.core c).tasks ++ ts } with run := { s.run with uidNext := n } } := by
  unfold State.placeTasks
  dsimp only
  split
  · exact .inl rfl
  · exact .inr ⟨_, _, _, rfl⟩

theorem State.quiet_placeTasks (src : Nat) (det : Option Detour) : State.Quiet s (s.placeTasks src det) := by
  obtain h | ⟨c, ts, n, h⟩ := s.placeTasks_eq src det <;> rw [h]
  · exact .refl s
  · exact (State.Quiet.setCore s c (by rfl)).trans (.run _ _)

theorem State.sameStep_placeTasks (src : Nat) (det : Option Detour) : State.SameStep s (s.placeTasks src det) := by
  obtain h | ⟨c, ts, n, h⟩ := s.placeTasks_eq src det <;> rw [h]
  · exact .refl s
  · have hc : State.SameStep s (s.setCore c { s.core c with tasks := (s.core c).tasks ++ ts }) := .setCore s c {}
    exact hc.trans {}

/-- The tasks of a retired core go to its host core. -/
def State.placeDetoured (s : State) (c : Nat) : State := match (s.core (BitVec.ofNat 8 c)).detour with
  | some d => s.placeTasks c (some d)
  | none => s

theorem State.quiet_placeDetoured (c : Nat) : State.Quiet s (s.placeDetoured c) := by
  unfold State.placeDetoured
  split
  · exact s.quiet_placeTasks _ _
  · exact .refl s

theorem State.sameStep_placeDetoured (c : Nat) : State.SameStep s (s.placeDetoured c) := by
  unfold State.placeDetoured
  split
  · exact s.sameStep_placeTasks _ _
  · exact .refl s

/-- The tasks of the frame that begins, each on its core. -/
def State.placeAll (s : State) (own : List Nat) : State :=
  s.retiredCores.foldl State.placeDetoured (own.foldl (fun s c => s.placeTasks c none) s)

theorem State.openFrame_eq : ∃ own l, s.openFrame =
    ({ s.placeAll own with run := { (s.placeAll own).run with openFrames := l, frameLive := true } }).refillAll := by
  unfold State.openFrame
  exact ⟨_, _, rfl⟩

theorem State.quiet_placeAll (own : List Nat) : State.Quiet s (s.placeAll own) :=
  (State.Quiet.foldl (fun s c => s.quiet_placeTasks c none) _ s).trans (.foldl State.quiet_placeDetoured _ _)

theorem State.sameStep_placeAll (own : List Nat) : State.SameStep s (s.placeAll own) :=
  (State.SameStep.foldl (fun s c => s.sameStep_placeTasks c none) _ s).trans (.foldl State.sameStep_placeDetoured _ _)

theorem State.quiet_openFrame : State.Quiet s s.openFrame := by
  obtain ⟨own, l, h⟩ := s.openFrame_eq
  rw [h]
  exact (s.quiet_placeAll own).trans ((State.Quiet.run _ _).trans (State.quiet_refillAll _))

theorem State.sameStep_openFrame : State.SameStep s s.openFrame := by
  obtain ⟨own, l, h⟩ := s.openFrame_eq
  rw [h]
  have hp := s.sameStep_placeAll own
  generalize s.placeAll own = u at hp ⊢
  have hl : State.SameStep u { u with run := { u.run with openFrames := l, frameLive := true } } := {}
  exact (hp.trans hl).trans (State.sameStep_refillAll _)

theorem State.openFrame_frameLive : s.openFrame.run.frameLive = true := by
  obtain ⟨own, l, h⟩ := s.openFrame_eq
  rw [h, State.refillAll_run]

/-! ## The first tick of a section (R115, R117) -/

/-- DETOUR of the retired cores. -/
def State.setDetours (s : State) (rules : List (Nat × Option Detour)) : State :=
  rules.foldl (fun s r => s.modCore (BitVec.ofNat 8 r.1) fun k => { k with detour := r.2 }) s

/-- HOSTING of a core. -/
def State.setHosting (subs : List Nat) (s : State) (c : Nat) : State :=
  if (s.core (BitVec.ofNat 8 c)).regs.hosting = subs.contains c then s
  else s.setCore (BitVec.ofNat 8 c)
    { s.core (BitVec.ofNat 8 c) with regs := { (s.core (BitVec.ofNat 8 c)).regs with hosting := subs.contains c } }

/-- A retired core that no rule serves raises DETOUR_EXHAUSTED. -/
def State.exhaust (s : State) (r : Nat × Option Detour) : State := if r.2.isNone then raise cDetourExhausted 1 r.1 0 s else s

theorem State.beginSection_eq : ∃ (subs l : List Nat), s.beginSection =
    (s.retiredCores.map fun c => (c, s.detourOf c s.curSect)).foldl State.exhaust
      (l.foldl (State.setHosting subs) (s.setDetours (s.retiredCores.map fun c => (c, s.detourOf c s.curSect)))) := by
  unfold State.beginSection
  exact ⟨_, _, rfl⟩

theorem State.quiet_setDetours (rules : List (Nat × Option Detour)) : State.Quiet s (s.setDetours rules) :=
  .foldl (fun s _ => .setCore s _ (by rfl)) rules s

theorem State.sameStep_setDetours (rules : List (Nat × Option Detour)) : State.SameStep s (s.setDetours rules) :=
  .foldl (fun s _ => .setCore s _ (by exact {})) rules s

theorem State.quiet_setHosting (subs : List Nat) (c : Nat) : State.Quiet s (State.setHosting subs s c) := by
  unfold State.setHosting
  split
  · exact .refl s
  · exact .setCore s _ rfl

theorem State.sameStep_setHosting (subs : List Nat) (c : Nat) : State.SameStep s (State.setHosting subs s c) := by
  unfold State.setHosting
  split
  · exact .refl s
  · exact .setCore s _ {}

theorem State.sameStep_beginSection : State.SameStep s s.beginSection := by
  obtain ⟨subs, l, h⟩ := s.beginSection_eq
  rw [h]
  refine ((s.sameStep_setDetours _).trans (.foldl (fun s c => s.sameStep_setHosting subs c) l _)).trans
    (.foldl (fun s r => ?_) _ _)
  unfold State.exhaust
  split
  · exact .raise _ _ _ _ s
  · exact .refl s

/-- With every core in service a section begins without DETOUR_EXHAUSTED. -/
theorem State.quiet_beginSection (hs : s.InService) : State.Quiet s s.beginSection := by
  obtain ⟨subs, l, h⟩ := s.beginSection_eq
  rw [h, s.inService_iff.1 hs]
  exact .foldl (fun s c => s.quiet_setHosting subs c) l s

/-! ## Seeds (R397, R398) -/

theorem State.quiet_takeSeed (n : Nat) : State.Quiet s (s.takeSeed n) := by
  unfold State.takeSeed
  split
  · dsimp only
    split <;> split <;> exact .of_cores rfl rfl
  · dsimp only
    split <;> exact .of_cores rfl rfl

theorem State.sameStep_takeSeed (n : Nat) : State.SameStep s (s.takeSeed n) := by
  unfold State.takeSeed
  split
  · dsimp only
    split <;> split <;> exact {}
  · dsimp only
    split <;> exact {}

end

end Sys2Proof.Machine
end

section
/-! SUPPORT. What an access to memory may change of the module: the budgets, the tiers, the next tag, host memory and what is sent. -/

namespace Sys2Proof.Machine

/-- `t` is `s` but for what an access to memory may change. -/
def State.Accessed (s t : State) : Prop := ∃ b x n m o c,
  t = { s with bud := b, tier := x, fab := { s.fab with tagNext := n }, hostMem := m, outbox := o, freeCtr := c }

theorem State.Accessed.refl (s : State) : State.Accessed s s := ⟨s.bud, s.tier, s.fab.tagNext, s.hostMem, s.outbox, s.freeCtr, rfl⟩

theorem State.Accessed.trans {s t u : State} (h : State.Accessed s t) (g : State.Accessed t u) : State.Accessed s u := by
  obtain ⟨b, x, n, m, o, c, rfl⟩ := h
  obtain ⟨b', x', n', m', o', c', rfl⟩ := g
  exact ⟨b', x', n', m', o', c', rfl⟩

theorem State.Accessed.foldl {α : Type} {f : State → α → State} (hf : ∀ s a, State.Accessed s (f s a)) (l : List α) (s : State) :
    State.Accessed s (l.foldl f s) := by
  induction l generalizing s with
  | nil => exact .refl s
  | cons a l ih => exact (hf s a).trans (ih _)

/-- Whatever an access cannot change stands as it was. -/
theorem State.Accessed.keeps {s t : State} (h : State.Accessed s t) {β : Type} (g : State → β)
    (hg : ∀ b x n m o c,
      g { s with bud := b, tier := x, fab := { s.fab with tagNext := n }, hostMem := m, outbox := o, freeCtr := c } = g s) : g t = g s := by
  obtain ⟨b, x, n, m, o, c, rfl⟩ := h
  exact hg b x n m o c

section
variable (s : State)

theorem State.accessed_modTier (f : Tier → Tier) : State.Accessed s (s.modTier f) :=
  ⟨s.bud, f s.tier, s.fab.tagNext, s.hostMem, s.outbox, s.freeCtr, rfl⟩

theorem State.accessed_send (m : Msg) : State.Accessed s (s.send m) :=
  ⟨s.bud, s.tier, s.fab.tagNext, s.hostMem, s.outbox ++ [m], s.freeCtr, rfl⟩

theorem State.accessed_bud (b : Bud) : State.Accessed s { s with bud := b } :=
  ⟨b, s.tier, s.fab.tagNext, s.hostMem, s.outbox, s.freeCtr, rfl⟩

theorem State.accessed_addHeat (p n : Nat) : State.Accessed s (s.addHeat p n) := by
  unfold State.addHeat
  dsimp only
  split
  · exact .refl s
  · exact s.accessed_modTier fun t => { t with heat := _ }

theorem State.accessed_writeFrame (f off : Nat) (b : List Byte) : State.Accessed s (s.writeFrame f off b) :=
  ⟨_, _, s.fab.tagNext, s.hostMem, s.outbox, s.freeCtr, rfl⟩

theorem State.accessed_invalHolders (p : Nat) : State.Accessed s (s.invalHolders p) := by
  unfold State.invalHolders
  dsimp only
  split
  · exact .refl s
  · exact ⟨s.bud, _, s.fab.tagNext, s.hostMem, _, s.freeCtr, rfl⟩

theorem State.accessed_holdWrite (who : Requester) (va : Nat) (b : List Byte) : State.Accessed s (s.holdWrite who va b) :=
  (s.accessed_invalHolders _).trans (State.accessed_modTier _ fun t => { t with writes := _ })

/-- The bytes of a write at the home, in its HBM or its host memory. -/
def State.storeBytes (e : XEntry) (va : Nat) (bytes : List Byte) : State := match e.tier with
  | .host => { s.chargeHostOut bytes.length with hostMem := s.hostMem.writeBytes (e.host * pageBytes + va % pageBytes) bytes }
  | _ => s.writeFrame e.frame (va % pageBytes) bytes

theorem State.accessed_storeBytes (e : XEntry) (va : Nat) (b : List Byte) : State.Accessed s (s.storeBytes e va b) := by
  unfold State.storeBytes
  split
  · exact ⟨_, s.tier, s.fab.tagNext, _, s.outbox, s.freeCtr, rfl⟩
  · exact s.accessed_writeFrame _ _ _

/-- A write is forwarded while a move of its page to another module is granted (Table 08-6). -/
def State.forwardWrite (va : Nat) (bytes : List Byte) : State := match mapFind s.tier.movesOut (va / pageBytes) with
  | some m =>
    if m.dest = s.modNo then s else
    { s with tier := { s.tier with movesOut := mapPut s.tier.movesOut (va / pageBytes) { m with writes := m.writes + 1 },
                                   writesOut := s.tier.writesOut ++ [⟨s.fab.tagNext, .own (va / pageBytes), va, bytes, false, none⟩] },
             fab := { s.fab with tagNext := s.fab.tagNext + 1 },
             outbox := s.outbox ++ [Msg.write m.dest s.modNo va bytes s.fab.tagNext] }
  | none => s

theorem State.accessed_forwardWrite (va : Nat) (b : List Byte) : State.Accessed s (s.forwardWrite va b) := by
  unfold State.forwardWrite
  split
  · split
    · exact .refl s
    · exact ⟨s.bud, _, _, s.hostMem, _, s.freeCtr, rfl⟩
  · exact .refl s

theorem State.applyAtHome_eq (e : XEntry) (va : Nat) (b : List Byte) : s.applyAtHome e va b =
    ((s.addHeat (va / pageBytes) b.length).storeBytes e va b).forwardWrite va b := rfl

theorem State.accessed_applyAtHome (e : XEntry) (va : Nat) (b : List Byte) : State.Accessed s (s.applyAtHome e va b) := by
  rw [State.applyAtHome_eq]
  exact ((s.accessed_addHeat _ _).trans (State.accessed_storeBytes _ e va b)).trans (State.accessed_forwardWrite _ va b)

end

theorem State.accessed_pokeFor (s : State) (who : Requester) (va : Nat) (bytes : List Byte) :
    State.Accessed s (s.pokeFor who va bytes).2 := by
  have key : ∀ (l : List (Nat × Nat)) (a : (Nat × State) × List Byte), State.Accessed a.1.2
      (l.foldl (fun (a : (Nat × State) × List Byte) p =>
        (match mapFind a.1.2.tier.xlate (p.1 / pageBytes) with
          | some e =>
            if e.tier ≠ .local then a.1
            else if (mapGet [] a.1.2.tier.holders (p.1 / pageBytes)).isEmpty then (a.1.1, a.1.2.applyAtHome e p.1 (a.2.take p.2))
            else (a.1.1 + 1, a.1.2.holdWrite who p.1 (a.2.take p.2))
          | none => a.1, a.2.drop p.2)) a).1.2 := by
    intro l
    induction l with
    | nil => exact fun a => .refl a.1.2
    | cons p l ih =>
      intro a
      rw [List.foldl_cons]
      refine State.Accessed.trans ?_ (ih _)
      dsimp only
      split
      · split
        · exact .refl _
        · split
          · exact State.accessed_applyAtHome _ _ _ _
          · exact State.accessed_holdWrite _ _ _ _
      · exact .refl _
  exact key _ ((0, s), bytes)

theorem State.accessed_pokeLocal (s : State) (va : Nat) (bytes : List Byte) : State.Accessed s (s.pokeLocal va bytes) :=
  s.accessed_pokeFor _ va bytes

theorem State.Accessed.quiet {s t : State} (h : State.Accessed s t) : State.Quiet s t :=
  .of_cores (h.keeps State.bel fun _ _ _ _ _ _ => rfl) (h.keeps State.cores fun _ _ _ _ _ _ => rfl)

theorem State.Accessed.sameStep {s t : State} (h : State.Accessed s t) : State.SameStep s t := by
  obtain ⟨b, x, n, m, o, c, rfl⟩ := h
  exact {}

end Sys2Proof.Machine
end

section
/-! SUPPORT. The begin of a step and the almanac switch (R72, R77, R95, R99, R344, R440). -/

namespace Sys2Proof.Machine
open Sys2Proof.Claims

theorem exec_stepBegin (s : State) : exec .stepBegin s = .next (s.settle (stepBegin s)) := rfl

theorem exec_almanacSwitchEffect (s : State) :
    exec .almanacSwitchEffect s = .next (s.settle (almanacSwitchEffect s)) := rfl

/-! ## When a step may begin -/

theorem State.almanacRuns_iff (s : State) :
    s.almanacRuns = true ↔ (s.run.state = .running ∨ s.run.state = .replaying) ∧ s.rec0.modules = [] := by
  simp [State.almanacRuns]

theorem State.mayBegin_iff (s : State) : s.mayBegin = true ↔ StepMayBegin s := by
  have hstart : (match s.run.startAt with
      | some t => decide (t ≤ s.bel.frame) && s.bel.state == .locked
      | none => (s.bel.state == .locked || s.bel.state == .holdover) && !s.holdDue) = true ↔
      (∃ t, s.run.startAt = some t ∧ t ≤ s.bel.frame ∧ s.bel.state = .locked) ∨
      (s.run.startAt = none ∧ (s.bel.state = .locked ∨ s.bel.state = .holdover) ∧ s.holdDue = false) := by
    cases s.run.startAt <;> simp
  unfold State.mayBegin
  rw [Bool.and_eq_true]
  refine (and_congr_right fun _ => hstart).trans ?_
  simp only [Bool.and_eq_true, State.almanacRuns_iff, Bool.not_eq_true', Bool.or_eq_true, beq_iff_eq, bne_iff_ne,
    List.isEmpty_iff, Option.isNone_iff_eq_none, StepMayBegin, and_assoc]
  constructor
  · rintro ⟨hst, hmod, hin, hb, hdue, hint, hlive, hph, harm, hsave, hdie, hstop, hreb, hhold, hload, hcyc, hev, hat⟩
    exact ⟨hst, hload, hcyc, hin, hb, hdue, hint, hlive, hph, harm, hsave, hdie, hev, hstop, hreb, hmod, hhold, hat⟩
  · rintro ⟨hst, hload, hcyc, hin, hb, hdue, hint, hlive, hph, harm, hsave, hdie, hev, hstop, hreb, hmod, hhold, hat⟩
    exact ⟨hst, hmod, hin, hb, hdue, hint, hlive, hph, harm, hsave, hdie, hstop, hreb, hhold, hload, hcyc, hev, hat⟩

/-! ## What is due at the first tick of a step (R111, R115, R161, R372, R381, R488) -/

section
variable (s : State)

theorem State.sameStep_ledgerOwn (n v : Nat) : State.SameStep s (s.ledgerOwn n v) := by
  unfold State.ledgerOwn
  split
  · exact .refl s
  · split
    · have h : State.SameStep s (s.ledgerEffect n v) := {}
      exact h.trans (.raise _ _ _ _ _)
    · exact {}

theorem State.sameStep_retireCore (c cause : Nat) : State.SameStep s (s.retireCore c cause) := by
  unfold State.retireCore
  split
  · exact .refl s
  · exact State.SameStep.trans (.setCore s _ (by exact {})) (State.sameStep_ledgerOwn _ _ _)

theorem State.sameStep_returnCore (c : Nat) : State.SameStep s (s.returnCore c) := by
  have h : State.SameStep s (s.modCore (BitVec.ofNat 8 c) fun k =>
    { k with regs := { k.regs with retired := false, retireCause := 0 }, detour := none }) := .setCore s _ {}
  unfold State.returnCore
  dsimp only
  split
  · exact h.trans (State.sameStep_ledgerOwn _ _ _)
  · exact h

theorem State.sameStep_takeRetirements (n : Nat) : State.SameStep s (s.takeRetirements n) := by
  have h (r : List (Nat × Option Nat)) (l : List (Nat × Nat)) :
      State.SameStep s { s with maint := { s.maint with returns := r }, run := { s.run with retireNext := l } } := {}
  unfold State.takeRetirements
  exact ((h _ _).trans (.foldl (fun s (r : Nat × Option Nat) => s.sameStep_returnCore r.1) _ _)).trans
    (.foldl (fun s (r : Nat × Nat) => s.sameStep_retireCore r.1 1) _ _)

/-- A change of every core that leaves its files alone. -/
theorem State.SameStep.mapCores {f : Core → Core} (hf : ∀ k : Core, k.SameFile (f k))
    (hr : f Core.reset = Core.reset) : State.SameStep s { s with cores := s.cores.map fun c => (c.1, f c.2) } where
  files c := by
    have : State.core { s with cores := s.cores.map fun c => (c.1, f c.2) } c = f (s.core c) := mapGet_map hr _ _
    rw [this]
    exact hf _

theorem State.sameStep_takeAudit (n : Nat) : State.SameStep s (s.takeAudit n) := by
  unfold State.takeAudit
  split
  · split
    · have h : State.SameStep s { s with cores := s.cores.map fun c =>
          (c.1, { c.2 with regs := { c.2.regs with hazard := 0, hazardAddr := 0 } }) } :=
        .mapCores s (f := fun k => { k with regs := { k.regs with hazard := 0, hazardAddr := 0 } }) (fun _ => {}) rfl
      exact h.trans {}
    · exact .refl s
  · exact .refl s

theorem State.sameStep_bindStep (n : Nat) : State.SameStep s (s.bindStep n) := by
  unfold State.bindStep
  split
  · exact .refl s
  · exact {}

theorem State.sameStep_resetHalves (n : Nat) : State.SameStep s (s.resetHalves n) := by
  refine .foldl (fun s e => ?_) _ s
  have h : State.Accessed s ((e.2.added.filter fun a => a.2 == n % 2).foldl
      (fun s a => s.pokeLocal (e.2.gradHere (n % 2) a.1) e.2.zeroGrad) s) := .foldl (fun s a => s.accessed_pokeLocal _ _) _ s
  exact h.sameStep.trans {}

end

/-! ## The begin of a step (R72, R95, R99, R344, R440) -/

/-- The run of steps at the first tick of a step. -/
def RunCtl.begun (r : RunCtl) : RunCtl :=
  { r with step := r.nextStep, inStep := true, interlude := false, pos := r.resumePos.getD 0, frameIdx := 0, startAt := none,
           resumePos := none, ranSinceReset := true, state := if r.state == .replaying then .replaying else .running }

/-- The state in which a step begins, before what is due at its first tick: one that resumes a SECTION context finds all as it was. -/
def State.stepOpened (s : State) : State :=
  let s1 : State := { s with run := s.run.begun, maint := { s.maint with suspended := false } }
  if s.run.resumePos.isSome then s1
  else ({ s1 with fab := { s1.fab with phase := .none, bDone := [], bSent := false, deltas := [] } }).clearCores.beginServices
    s.run.nextStep

theorem stepBegin_of_not {s : State} (h : ¬ StepMayBegin s) : stepBegin s = s := by
  rw [stepBegin, if_pos (by simpa [← State.mayBegin_iff] using h)]

theorem stepBegin_eq {s : State} (h : StepMayBegin s) : stepBegin s =
    ((((s.stepOpened.takeSeed s.run.nextStep).takeRetirements s.run.nextStep).takeAudit s.run.nextStep).bindStep
      s.run.nextStep).beginSection.openFrame := by
  rw [stepBegin, if_neg (by simpa [← State.mayBegin_iff] using h)]
  rfl

/-- What is due at the first tick changes nothing of the step. -/
theorem sameStep_stepBegin {s : State} (h : StepMayBegin s) : State.SameStep s.stepOpened (stepBegin s) := by
  rw [stepBegin_eq h]
  exact (((((s.stepOpened.sameStep_takeSeed _).trans (State.sameStep_takeRetirements _ _)).trans
    (State.sameStep_takeAudit _ _)).trans (State.sameStep_bindStep _ _)).trans (State.sameStep_beginSection _)).trans
    (State.sameStep_openFrame _)

/-- Before what is due, a step that does not resume has cleared the cores, the granary and the smithies. -/
theorem stepOpened_clears {s : State} (h : s.run.resumePos = none) :
    ∃ u : State, State.SameStep u s.stepOpened ∧ u.run = s.run.begun ∧ u.bel = s.bel ∧
      u.smithy.touched = [] ∧ u.smithy.phase = 0 ∧ u.granary.slots = [] ∧ u.granary.cursor = 0 ∧
      ∀ c, (u.core c).sc = [] ∧ (u.core c).st = [] ∧ (u.core c).code = [] := by
  rw [State.stepOpened, h]
  refine ⟨_, State.sameStep_resetHalves _ s.run.nextStep, rfl, rfl, rfl, rfl, rfl, rfl, fun c => ?_⟩
  have : mapGet Core.reset (s.cores.map fun c => (c.1, c.2.stepClear)) c.toNat = (s.core c).stepClear := mapGet_map rfl _ _
  simp only [State.core, State.clearCores, this]
  exact ⟨rfl, rfl, rfl⟩

theorem stepOpened_resumes {s : State} (h : s.run.resumePos.isSome = true) :
    s.stepOpened = { s with run := s.run.begun, maint := { s.maint with suspended := false } } := if_pos h

theorem stepOpened_run (s : State) : ∃ u : State, State.SameStep u s.stepOpened ∧ u.run = s.run.begun ∧ u.bel = s.bel := by
  by_cases h : s.run.resumePos.isSome = true
  · rw [stepOpened_resumes h]
    exact ⟨_, .refl _, rfl, rfl⟩
  · obtain ⟨u, hu, hr, hb, -⟩ := stepOpened_clears (Option.not_isSome_iff_eq_none.1 h)
    exact ⟨u, hu, hr, hb⟩

/-! ## The almanac switch (R77) -/

theorem almanacSwitchEffect_waits {s : State}
    (h : s.run.armed ≠ some s.run.nextStep ∨ s.anyWork = true ∨ s.run.inStep = true ∨ s.bel.cycle ≠ 0) :
    almanacSwitchEffect s = s := by
  rw [almanacSwitchEffect, if_neg]
  rintro ⟨ha, -, -, hc, hi, -, -, -, -, hw, -⟩
  obtain h | h | h | h := h
  · exact h ha
  · simp [hw] at h
  · simp [hi] at h
  · exact h hc

/-- Settles O39: the begin of a step by what it sets and what it leaves, the switch by its condition. -/
theorem stepBeginsAndAlmanacSwitches : Obligations.StepBeginsAndAlmanacSwitches := by
  refine ⟨fun s => ?_, fun s => ?_⟩
  · rw [exec_stepBegin]
    refine ⟨fun h => by rw [stepBegin_of_not h], fun h => ⟨_, rfl, ?_⟩⟩
    have hk := sameStep_stepBegin h
    obtain ⟨u, hu, hrun, hbel⟩ := stepOpened_run s
    have hs := hu.trans hk
    have hlive : (stepBegin s).run.frameLive = true := by rw [stepBegin_eq h]; exact State.openFrame_frameLive _
    have hstate : s.run.begun.state = s.run.state := by
      obtain ⟨hst, -⟩ := h
      obtain hst | hst := hst <;> simp [RunCtl.begun, hst]
    simp only [State.settle_run, State.settle_smithy, State.settle_granary, State.settle_bel, State.core_settle]
    rw [hs.step, hs.inStep, hs.interlude, hs.pos, hs.frameIdx, hs.startAt, hs.ran, hs.resumePos, hs.state, hs.committed,
      hs.frame, hrun, hbel, hstate]
    refine ⟨rfl, rfl, rfl, rfl, rfl, hlive, rfl, rfl, rfl, rfl, rfl, rfl, fun hn => ?_, fun hr => ?_⟩
    · obtain ⟨u, hu, -, -, ht, hp, hsl, hc, hcores⟩ := stepOpened_clears hn
      have hs := hu.trans hk
      rw [hs.smithy, hs.granary]
      refine ⟨ht, hp, hsl, hc, fun c => ?_⟩
      rw [(hs.files c).sc, (hs.files c).st, (hs.files c).code]
      exact hcores c
    · rw [stepOpened_resumes hr] at hk
      rw [hk.smithy, hk.granary]
      exact ⟨rfl, rfl, fun c => ⟨(hk.files c).sc, (hk.files c).st⟩⟩
  · rw [exec_almanacSwitchEffect]
    refine ⟨fun h1 h2 h3 h4 h5 h6 h7 h8 h9 h10 h11 => ?_, fun h => by rw [almanacSwitchEffect_waits h]⟩
    rw [almanacSwitchEffect, if_pos ⟨h1, h2, h3, h4, h5, h6, h7, h8, h9, h10, h11⟩]
    rfl

end Sys2Proof.Machine
end

section
/-! SUPPORT. What a frame tick does to the bell: FRAME_NO, CYCLE and the marks to send; and that only a core out of service can take the
module out of its rings at a tick (R48, R52, R115, R281). -/

namespace Sys2Proof.Machine

theorem exec_bellTick (s : State) : exec .bellTick s = .next (s.settle (bellTickAll s).takeImages) := rfl

/-! ## What leaves the bell alone at a tick -/

/-- An event leaves the bell and the service of the cores, unless the fault takes the module out of its rings. -/
theorem State.Quiet.raise (s : State) (c u i d : Nat) (h : ownModuleFault c = false) :
    State.Quiet s (raise c u i d s) := .of_cores (raise_bel c u i d s h) (raise_cores c u i d s)

theorem State.Quiet.raised {s t : State} (g : State.Quiet s t) (c u i d : Nat) (h : ownModuleFault c = false) :
    State.Quiet s (Machine.raise c u i d t) := g.trans (.raise t c u i d h)

/-- The same after a change of what is neither the bell nor a core. -/
theorem State.Quiet.andThen {s t u : State} (g : State.Quiet s t) (hb : u.bel = t.bel)
    (hc : u.cores = t.cores) : State.Quiet s u := g.trans (.of_cores hb hc)

theorem State.quiet_send (s : State) (m : Msg) : State.Quiet s (s.send m) := .of_cores rfl rfl

theorem State.quiet_modTier (s : State) (f : Tier → Tier) : State.Quiet s (s.modTier f) := .of_cores rfl rfl

theorem State.quiet_sendAll {α : Type} (f : State → α → Msg) (l : List α) (s : State) :
    State.Quiet s (l.foldl (fun s a => s.send (f s a)) s) := .foldl (fun s a => s.quiet_send (f s a)) l s

theorem State.Quiet.modCore (s : State) (c : CoreId) {f : Core → Core} (h : ∀ k, (f k).regs.retired = k.regs.retired) :
    State.Quiet s (s.modCore c f) := .setCore s c (h _)

section
variable (s : State)

theorem State.quiet_freeVersion (tn r : Nat) (v : TabVersion) : State.Quiet s (s.freeVersion tn r v) := by
  unfold State.freeVersion
  split
  · exact .refl s
  · dsimp only
    split
    · exact .of_cores rfl rfl
    · exact .of_cores rfl rfl

theorem State.quiet_sweepVersions : State.Quiet s s.sweepVersions := by
  refine .foldl (fun s e => ?_) _ s
  have h : State.Quiet s (e.2.versions.foldl (fun s v => match s.table e.1 with
      | some t => if v.2.state = .retiring ∧ s.refs e.1 t v.2 = 0 then s.freeVersion e.1 v.1 v.2 else s
      | none => s) s) := by
    refine .foldl (fun s v => ?_) _ s
    split
    · split
      · exact s.quiet_freeVersion _ _ _
      · exact .refl s
    · exact .refl s
  dsimp only
  split
  · split
    · exact h.andThen rfl rfl
    · exact h
  · exact h

theorem State.quiet_countFrames : State.Quiet s s.countFrames := by
  unfold State.countFrames
  dsimp only
  split <;> exact .of_cores rfl rfl

/-! ### Pages that are freed (R249, R264) -/

theorem State.quiet_faultStarted (c : CoreId) (q code : Nat) (h : ownModuleFault code = false) :
    State.Quiet s (faultStarted c q code s) := by
  unfold faultStarted
  split
  · split
    · exact .refl s
    · have hm : State.Quiet s (s.modCore c fun k => k.markFailed q) := .modCore s c fun _ => rfl
      refine State.Quiet.raised ?_ _ _ _ _ h
      exact hm.andThen rfl rfl
  · exact .refl s

theorem State.quiet_aperFail (tag : Nat) : State.Quiet s (s.aperFail tag) := by
  unfold State.aperFail
  split
  · exact .of_cores rfl rfl
  · exact .refl s

theorem State.quiet_writeFailed (who : Requester) (va : Nat) : State.Quiet s (s.writeFailed who va) := by
  cases who with
  | engine c q => exact s.quiet_faultStarted c q cXlateInvalid rfl
  | remote m tag => exact s.quiet_send _
  | aperture tag => exact s.quiet_aperFail tag
  | bulk m tag =>
    unfold State.writeFailed
    dsimp only
    split
    · split
      · split
        · exact ((s.quiet_modTier _).trans (State.quiet_modTier _ _)).trans (State.quiet_faultStarted _ _ _ _ rfl)
        · exact s.quiet_modTier _
      · exact s.quiet_modTier _
    · exact (s.quiet_modTier _).trans (State.quiet_send _ _)
  | _ => exact .refl s

theorem State.accessed_tellDest (p : Nat) : State.Accessed s (s.tellDest p) := by
  unfold State.tellDest
  split
  · split
    · exact .refl s
    · exact s.accessed_send _
  · exact .refl s

theorem State.quiet_dropPage (p : Nat) : State.Quiet s (s.dropPage p) := by
  have h : State.Quiet s ((s.invalHolders p).tellDest p) :=
    ((s.accessed_invalHolders p).trans (State.accessed_tellDest _ p)).quiet
  exact (h.trans (State.quiet_modTier _ _)).trans (.foldl (fun s (w : HeldWriteAt) => s.quiet_writeFailed w.who w.va) _ _)

theorem State.quiet_freePage (p : Nat) : State.Quiet s (s.freePage p) :=
  (s.quiet_dropPage p).trans (State.quiet_sendAll _ _ _)

theorem State.accessed_setAttrs (p : Nat) (w pin stage late : Bool) : State.Accessed s (s.setAttrs p w pin stage late) := by
  unfold State.setAttrs
  dsimp only
  split
  · split
    · exact s.accessed_modTier _
    · exact (s.accessed_modTier _).trans (State.accessed_send _ _)
  · exact s.accessed_modTier _

theorem State.quiet_attrPage (p : Nat) (w pin stage late : Bool) : State.Quiet s (s.attrPage p w pin stage late) :=
  (s.accessed_setAttrs p w pin stage late).quiet.trans (State.quiet_sendAll _ _ _)

theorem State.Quiet.overPages {f : Nat → State → State} (hf : ∀ v s, State.Quiet s (f v s)) (v n : Nat) (s : State) :
    State.Quiet s (overPages v n f s) := by
  induction n generalizing v s with
  | zero => exact .refl s
  | succ n ih => exact (hf v s).trans (ih (v + 1) (f v s))

/-! ### Latched changes and quotas (R62, R64) -/

theorem State.quiet_takeChange (l : Latched) : State.Quiet s (s.takeChange l) := by
  cases l with
  | memFree v n => exact .overPages (fun v s => s.quiet_freePage v) v n s
  | memAttr v n w p g l => exact .overPages (fun v s => s.quiet_attrPage v w p g l) v n s
  | _ => exact .of_cores rfl rfl

theorem State.quiet_quotaCheck : State.Quiet s s.quotaCheck := by
  refine .foldl (fun s c => ?_) _ s
  dsimp only
  split
  · exact (s.quiet_modTier _).raised _ _ _ _ rfl
  · split
    · exact .of_cores rfl rfl
    · exact .refl s

theorem State.quiet_takeLatched : State.Quiet s s.takeLatched := by
  unfold State.takeLatched
  exact ((State.Quiet.bud s _).trans (.foldl (fun s (l : Nat × Latched) => s.quiet_takeChange l.2) _ _)).trans
    (State.quiet_quotaCheck _)

/-! ### Moves, copies and snapshots (R248, R388, R442) -/

theorem State.accessed_chargePlace (e : XEntry) (out : Bool) : State.Accessed s (s.chargePlace e out) := by
  unfold State.chargePlace
  split
  · split <;> exact s.accessed_bud _
  · exact s.accessed_bud _

theorem State.accessed_sendPiece (p : Nat) (m : MoveOut) (e : XEntry) (i : Nat) : State.Accessed s (s.sendPiece p m e i) :=
  ⟨s.bud, _, _, s.hostMem, _, s.freeCtr, rfl⟩

theorem State.accessed_chargeMaint (u n : Nat) : State.Accessed s (s.chargeMaint u n) := s.accessed_bud _

/-- The old home pays for reading a page that it streams, and notes that its pieces go out (R248). -/
def State.payStream (p : Nat) (m : MoveOut) (e : XEntry) : State :=
  ((s.chargeMaint (p % 8) (Config.copyCycles pageBytes)).chargePlace e false).modTier fun t =>
    { t with movesOut := mapPut t.movesOut p { m with sent := true, flipFrom := s.tickFor } }

theorem State.accessed_payStream (p : Nat) (m : MoveOut) (e : XEntry) : State.Accessed s (s.payStream p m e) :=
  ((s.accessed_chargeMaint _ _).trans (State.accessed_chargePlace _ e false)).trans (State.accessed_modTier _ _)

theorem State.accessed_streamMove (p : Nat) : State.Accessed s (s.streamMove p) := by
  unfold State.streamMove
  split
  · next m e _ _ =>
    split
    · exact .refl s
    · refine State.Accessed.trans (s.accessed_payStream p m e) ?_
      dsimp only
      split
      · split
        · exact State.accessed_bud _ _
        · exact State.accessed_bud _ _
      · exact .foldl (fun s i => s.accessed_sendPiece _ _ _ i) _ _
  · exact .refl s

theorem State.accessed_streamMoves : State.Accessed s s.streamMoves := .foldl (fun s (m : Nat × MoveOut) => s.accessed_streamMove m.1) _ s

theorem State.accessed_chargeLocal (va n : Nat) : State.Accessed s (s.chargeLocal va n) := by
  refine .foldl (fun s p => ?_) _ s
  split
  · split
    · exact s.accessed_bud _
    · exact .refl s
  · exact .refl s

theorem State.quiet_countPoison (vws : List Nat) : State.Quiet s (s.countPoison vws) := by
  unfold State.countPoison
  exact (State.Quiet.foldl (fun s k => s.quiet_modTier _) _ s).andThen rfl rfl

theorem State.quiet_meetPoison (va n : Nat) : State.Quiet s (s.meetPoison va n) := by
  unfold State.meetPoison
  split
  · exact .refl s
  · exact (s.quiet_countPoison _).raised _ _ _ _ rfl

theorem State.quiet_readPart (a n : Nat) : State.Quiet s (s.readPart a n) := by
  have h (s : State) (a n m : Nat) : State.Quiet s ((s.meetPoison a n).chargeLocal a m) :=
    (s.quiet_meetPoison a n).trans (State.accessed_chargeLocal _ a m).quiet
  unfold State.readPart
  split
  · exact .refl s
  · refine (h s a (pad8 n) n).trans ?_
    dsimp only
    split
    · split
      · exact h _ _ _ _
      · exact .refl _
    · exact .refl _

theorem State.quiet_sendCopy (tn key : Nat) (m : RowMove) : State.Quiet s (s.sendCopy tn key m) := by
  unfold State.sendCopy
  split
  · exact .refl s
  · exact (((s.quiet_readPart _ _).trans (State.quiet_readPart _ _ _)).trans (State.quiet_readPart _ _ _)).andThen rfl rfl

theorem State.quiet_tryCopy (tn key : Nat) : State.Quiet s (s.tryCopy tn key) := by
  unfold State.tryCopy
  split
  · exact .refl s
  · split
    · dsimp only
      split
      · exact .refl s
      · exact (s.accessed_chargeMaint _ _).quiet.trans (State.quiet_sendCopy _ _ _ _)
    · exact .refl s

theorem State.quiet_sendCopies : State.Quiet s s.sendCopies :=
  .foldl (fun s (e : Nat × Table) => .foldl (fun s (m : Nat × RowMove) => s.quiet_tryCopy e.1 m.1) _ s) _ s

theorem State.quiet_tickTables : State.Quiet s s.tickTables := by
  unfold State.tickTables
  refine State.Quiet.trans ?_ (State.quiet_sweepVersions _)
  exact .of_cores rfl rfl

theorem State.quiet_tellReady : State.Quiet s s.tellReady := by
  unfold State.tellReady
  split
  · exact .refl s
  · dsimp only
    split
    · exact .refl s
    · split
      · refine State.Quiet.raised (State.Quiet.trans ?_ (State.quiet_sendAll _ _ _)) _ _ _ _ rfl
        exact .of_cores rfl rfl
      · refine State.Quiet.trans ?_ (State.quiet_sendAll _ _ _)
        exact .of_cores rfl rfl

theorem State.quiet_wake : State.Quiet s s.wake :=
  ⟨rfl, fun h => h.map (f := fun k => { k with queues := k.queues.map fun q =>
    (q.1, { q.2 with run := q.2.run.map fun r => { r with waited := false } }) }) (fun _ => rfl) rfl⟩

theorem State.quiet_takeImages : State.Quiet s s.takeImages := .of_cores rfl rfl

/-! ### The almanac's next frame, holds and settled frames (R58, R72, R440, R441) -/

theorem State.quiet_replyTo (h : Option PktHdr) (st r0 r1 r2 : Nat) : State.Quiet s (s.replyTo h st r0 r1 r2) := by
  obtain ⟨_, _, e⟩ := s.replyTo_frame h st r0 r1 r2
  rw [e]
  exact .of_cores rfl rfl

theorem State.quiet_takeHolds : State.Quiet s s.takeHolds := by
  unfold State.takeHolds
  split
  · have h := State.Quiet.foldl (fun t (h : Nat × Option PktHdr) => t.quiet_replyTo h.2 stOk s.run.committed 0 0) s.run.holds s
    exact h.andThen rfl rfl
  · exact .refl s

theorem State.quiet_owePartials : State.Quiet s s.owePartials := by
  unfold State.owePartials
  split
  · exact .of_cores rfl rfl
  · exact .refl s

end

/-! ## What may change of the bell at a tick -/

/-- The bell shows the same frame, cycle and pace; a module that is not root keeps its state, a root stays as it is or is root no more. -/
structure State.Rung (s t : State) : Prop where
  frame : t.bel.frame = s.bel.frame
  cycle : t.bel.cycle = s.bel.cycle
  sent : t.bel.sent = s.bel.sent
  half : t.bel.half = s.bel.half
  leaf : s.bel.root = false → t.bel.root = false ∧ t.bel.state = s.bel.state
  root : t.bel.root = true → s.bel.root = true ∧ t.bel.state = s.bel.state

theorem State.Rung.trans {s t u : State} (h : State.Rung s t) (g : State.Rung t u) : State.Rung s u where
  frame := g.frame.trans h.frame
  cycle := g.cycle.trans h.cycle
  sent := g.sent.trans h.sent
  half := g.half.trans h.half
  leaf hs := ⟨(g.leaf (h.leaf hs).1).1, (g.leaf (h.leaf hs).1).2.trans (h.leaf hs).2⟩
  root hu := ⟨(h.root (g.root hu).1).1, (g.root hu).2.trans (h.root (g.root hu).1).2⟩

/-- Another bell with the same numbers, the same part as root and the same state. -/
theorem State.Rung.of_bel {s t : State} (hf : t.bel.frame = s.bel.frame) (hc : t.bel.cycle = s.bel.cycle)
    (hs : t.bel.sent = s.bel.sent) (hh : t.bel.half = s.bel.half) (hr : t.bel.root = s.bel.root)
    (hst : t.bel.state = s.bel.state) : State.Rung s t :=
  ⟨hf, hc, hs, hh, fun h => ⟨hr.trans h, hst⟩, fun h => ⟨hr.symm.trans h, hst⟩⟩

theorem State.Rung.foldl {α : Type} {f : State → α → State} (hf : ∀ s a, State.Rung s (f s a)) (l : List α) (s : State) :
    State.Rung s (l.foldl f s) := by
  induction l generalizing s with
  | nil => exact .of_bel rfl rfl rfl rfl rfl rfl
  | cons a l ih => exact (hf s a).trans (ih _)

/-- What a tick leaves of the bell once FRAME_NO has gone on; with every core in service a root stays root. -/
structure State.Ticked (s t : State) : Prop extends State.Rung s t where
  serving : s.InService → t.InService ∧ t.bel.root = s.bel.root

theorem State.Ticked.trans {s t u : State} (h : State.Ticked s t) (g : State.Ticked t u) : State.Ticked s u where
  toRung := h.toRung.trans g.toRung
  serving hs := ⟨(g.serving (h.serving hs).1).1, (g.serving (h.serving hs).1).2.trans (h.serving hs).2⟩

/-- The same cores, and another bell with the same numbers, the same part as root and the same state. -/
theorem State.Ticked.of_bel {s t : State} (h : State.Rung s t) (hr : t.bel.root = s.bel.root)
    (hk : t.cores = s.cores) : State.Ticked s t := ⟨h, fun h => ⟨fun p hp => h p (hk ▸ hp), hr⟩⟩

theorem State.Ticked.ite {s t u : State} {p : Prop} [Decidable p] (h : State.Ticked s t) (g : State.Ticked s u) :
    State.Ticked s (if p then t else u) := by
  split
  · exact h
  · exact g

theorem State.Quiet.rung {s t : State} (h : State.Quiet s t) : State.Rung s t := by
  refine .of_bel ?_ ?_ ?_ ?_ ?_ ?_ <;> rw [h.bel]

theorem State.Quiet.ticked {s t : State} (h : State.Quiet s t) : State.Ticked s t := ⟨h.rung, fun hs => ⟨h.serving hs, by rw [h.bel]⟩⟩

/-- Outside its rings the module is not root, and its bell shows the same frame and pace. -/
theorem State.leaveRings_bel_frame (s : State) : ∃ st lc, s.leaveRings.bel = { s.bel with root := false, state := st, lockCount := lc } ∧
    (s.bel.root = false → st = s.bel.state) := by
  unfold State.leaveRings
  dsimp only
  rw [foldl_keeps State.bel (by intros; rfl)]
  split
  · next h => exact ⟨_, _, rfl, fun hr => absurd (hr.symm.trans h) (by decide)⟩
  · next h =>
    have hr : s.bel.root = false := by simpa using h
    exact ⟨s.bel.state, s.bel.lockCount, by rw [← hr], fun _ => rfl⟩

/-- An event leaves the bell, or takes a root out of its rings. -/
theorem State.rung_raise (s : State) (c u i d : Nat) : State.Rung s (raise c u i d s) := by
  have h := raise_bel_eq c u i d s
  split at h
  · obtain ⟨st, lc, hb, hst⟩ := s.leaveRings_bel_frame
    rw [hb] at h
    refine ⟨?_, ?_, ?_, ?_, fun hr => ?_, fun hr => ?_⟩ <;> rw [h]
    · exact ⟨rfl, hst hr⟩
    · rw [h] at hr
      exact absurd hr Bool.false_ne_true
  · refine .of_bel ?_ ?_ ?_ ?_ ?_ ?_ <;> rw [h]

section
variable (s : State)

/-- The first tick of a section: only where a core is out of service may it take the module out of its rings. -/
theorem State.ticked_beginSection : State.Ticked s s.beginSection := by
  by_cases hs : s.InService
  · exact (s.quiet_beginSection hs).ticked
  · refine ⟨?_, fun h => absurd h hs⟩
    obtain ⟨subs, l, h⟩ := s.beginSection_eq
    rw [h]
    refine ((s.quiet_setDetours _).trans (.foldl (fun s c => s.quiet_setHosting subs c) l _)).rung.trans
      (.foldl (fun s r => ?_) _ _)
    unfold State.exhaust
    split
    · exact s.rung_raise _ _ _ _
    · exact .of_bel rfl rfl rfl rfl rfl rfl

theorem State.ticked_advanceFrame : State.Ticked s s.advanceFrame := by
  have hopen (s t : State) (h : State.Ticked s t) : State.Ticked s t.beginSection.openFrame :=
    (h.trans t.ticked_beginSection).trans (State.quiet_openFrame _).ticked
  have hend (s t : State) (h : State.Quiet s t) : State.Ticked s t.refillAll.takeHolds :=
    ((h.trans t.quiet_refillAll).trans (State.quiet_takeHolds _)).ticked
  have hlist (u : State) (h : State.Quiet s u) (len : Nat) : State.Ticked s
      (if u.run.pos + 1 < len then
        ({ u with run := { u.run with pos := u.run.pos + 1, frameIdx := 0 } }).beginSection.openFrame
      else if u.run.interlude then
        ({ u with run := { u.run with frameLive := false, interlude := false, interludeDue := false } }).refillAll.takeHolds
      else ({ u with run := { u.run with frameLive := false } }).refillAll.takeHolds) :=
    .ite (hopen s _ (h.trans (.run u _)).ticked) (.ite (hend s _ (h.trans (.run u _))) (hend s _ (h.trans (.run u _))))
  unfold State.advanceFrame
  refine .ite s.quiet_refillAll.ticked (.ite (.ite (State.Quiet.refl s).ticked (.ite ?_ (hlist _ s.quiet_owePartials _)))
    (.ite ?_ s.quiet_refillAll.ticked))
  · exact ((State.Quiet.run s _).trans (State.quiet_openFrame _)).ticked
  · exact hopen s _ ((s.quiet_takeSeed _).trans (.run _ _)).ticked

theorem State.ticked_tickEconomy : State.Ticked s s.tickEconomy := by
  unfold State.tickEconomy
  dsimp only
  split
  · refine State.Ticked.trans ?_ (State.Quiet.raise _ _ _ _ _ rfl).ticked
    exact .of_bel (.of_bel rfl rfl rfl rfl rfl rfl) rfl rfl
  · exact .of_bel (.of_bel rfl rfl rfl rfl rfl rfl) rfl rfl

theorem State.ticked_resumeOverrun : State.Ticked s s.resumeOverrun := by
  unfold State.resumeOverrun
  split
  · exact .of_bel (.of_bel rfl rfl rfl rfl rfl rfl) rfl rfl
  · exact (State.Quiet.refl s).ticked

theorem State.quiet_settleFrames : State.Quiet s s.settleFrames := .run s _

/-- Announcing a pace changes the announcements alone. -/
theorem State.rootAnnounce_frame : ∃ a n, s.rootAnnounce = { s with bel := { s.bel with annPace := a, annNext := n } } := by
  have key (b : Bool) : ∃ a n, (if b then (match s.bel.annPace with
      | none => if s.bel.half then s else { s with bel := { s.bel with annPace := some (true, s.bel.frame + 3) } }
      | some (true, _) => s
      | some (false, t) =>
        if s.bel.annNext.isSome then s
        else if t < s.bel.frame + 3 then { s with bel := { s.bel with annNext := some (true, s.bel.frame + 3) } }
        else { s with bel := { s.bel with annPace := some (true, s.bel.frame + 3) } })
      else s) = { s with bel := { s.bel with annPace := a, annNext := n } } := by
    have same : ∃ a n, s = { s with bel := { s.bel with annPace := a, annNext := n } } :=
      ⟨s.bel.annPace, s.bel.annNext, rfl⟩
    cases b
    · exact same
    · rw [if_pos rfl]
      split
      · split
        · exact same
        · exact ⟨_, s.bel.annNext, rfl⟩
      · exact same
      · split
        · exact same
        · split
          · exact ⟨s.bel.annPace, _, rfl⟩
          · exact ⟨_, s.bel.annNext, rfl⟩
  exact key _

theorem State.ticked_rootAnnounce : State.Ticked s s.rootAnnounce := by
  obtain ⟨a, n, h⟩ := s.rootAnnounce_frame
  rw [h]
  exact .of_bel (.of_bel rfl rfl rfl rfl rfl rfl) rfl rfl

/-! ## The tick (R48) -/

/-- FRAME_NO has gone on by one, CYCLE is 0, no mark of the frame has gone out, and a root is LOCKED (R48, R52, R281). -/
def State.rung : State :=
  { s with bel := ({ s.bel with frame := (s.bel.frame + 1) % 2 ^ 48, cycle := 0, sent := [] } : Bel).tickState.dropPace }

theorem Bel.dropPace_frame (b : Bel) : ∃ a n, b.dropPace = { b with annPace := a, annNext := n } := by
  unfold Bel.dropPace
  split
  · exact ⟨_, _, rfl⟩
  · exact ⟨b.annPace, b.annNext, rfl⟩

/-- What the tick itself makes of the bell. -/
theorem State.rung_bel : s.rung.bel.frame = (s.bel.frame + 1) % 2 ^ 48 ∧ s.rung.bel.cycle = 0 ∧ s.rung.bel.sent = [] ∧
    s.rung.bel.half = s.bel.half ∧ s.rung.bel.root = s.bel.root ∧ (s.bel.root = true → s.rung.bel.state = .locked) ∧
    (s.bel.root = false → s.rung.bel.state = s.bel.state) := by
  unfold State.rung
  obtain ⟨a, n, h⟩ :=
    ({ s.bel with frame := (s.bel.frame + 1) % 2 ^ 48, cycle := 0, sent := [] } : Bel).tickState.dropPace_frame
  rw [h]
  cases hr : s.bel.root <;> simp [Bel.tickState, hr]

theorem State.ticked_bellTick : State.Ticked s.rung (bellTick s) :=
  ((((((State.quiet_countFrames _).ticked.trans (State.ticked_tickEconomy _)).trans (State.quiet_takeLatched _).ticked).trans
    (State.ticked_advanceFrame _)).trans (State.quiet_settleFrames _).ticked).trans (State.ticked_resumeOverrun _)).trans
    (State.ticked_rootAnnounce _)

/-- After the tick of the bell nothing more happens to it. -/
theorem State.quiet_bellTickAll : State.Quiet (bellTick s.sweepVersions) (bellTickAll s).takeImages :=
  (((((State.quiet_tickTables _).trans (State.accessed_streamMoves _).quiet).trans (State.quiet_sendCopies _)).trans
    (State.quiet_tellReady _)).trans (State.quiet_wake _)).trans (State.quiet_takeImages _)

end

/-- Settles O33: what the tick makes of the bell, and that all that follows leaves it but for a fault that takes a root out of its
rings. -/
theorem tickAdvancesFrame : Obligations.TickAdvancesFrame := by
  intro s
  rw [exec_bellTick]
  refine ⟨_, rfl, ?_⟩
  have hsweep := s.quiet_sweepVersions
  have htick := s.sweepVersions.ticked_bellTick.trans s.quiet_bellTickAll.ticked
  obtain ⟨hframe, hcycle, hsent, hhalf, hroot, hlocked, hleaf⟩ := s.sweepVersions.rung_bel
  rw [hsweep.bel] at hframe hhalf hroot hlocked hleaf
  rw [State.settle_bel]
  refine ⟨htick.frame.trans hframe, htick.cycle.trans hcycle, htick.sent.trans hsent, htick.half.trans hhalf, fun hs => ?_,
    fun ht => ?_, fun hr => ?_⟩
  · exact (htick.serving (hsweep.serving (s.inService_iff.2 hs))).2.trans hroot
  · obtain ⟨hr, hst⟩ := htick.root ht
    exact hst.trans (hlocked (hroot.symm.trans hr))
  · obtain ⟨hr', hst⟩ := htick.leaf (hroot.trans hr)
    exact ⟨hr', hst.trans (hleaf hr)⟩

end Sys2Proof.Machine
end

section
/-! SUPPORT. Reads between modules: what the home, a signpost and a stranger answer, where data goes, what NOT_HOME and the directory
bring, and what the ECC words of a read do (R241, R242, R257, R260 to R262). -/

namespace Sys2Proof.Machine
open Sys2Proof.Claims

/-! ## The rows -/

theorem exec_readReq_memory (src : ModId) (va : VA) (len : BitVec 17) (tag : W32) (stage : Bool) (s : State) :
    exec (.readReq src va len tag stage none) s = .next (s.settle (readReq src.toNat va.toNat len.toNat tag.toNat stage s)) := rfl

theorem exec_readData (home : ModId) (va : VA) (bytes : List Byte) (kind : DataKind) (s : State) :
    exec (.readData home va bytes kind) s =
      .next (s.settle (readData home.toNat va.toNat bytes kind.staged (kind.poison.map BitVec.toNat) s)) := rfl

theorem exec_hostMemoryReadComplete (a : W64) (bytes : List Byte) (s : State) :
    exec (.hostMemoryReadComplete a bytes) s = .next (s.settle (hostReadComplete a.toNat bytes s)) := rfl

theorem exec_readDeadline (c : CoreId) (s : State) : exec (.readDeadline c) s = .next (s.settle (readDeadline c s)) := rfl

theorem exec_notHome_memory (va : VA) (tag : W32) (home : Option ModId) (s : State) :
    exec (.notHome va tag home none) s = .next (s.settle (notHome va.toNat tag.toNat s)) := rfl

theorem exec_dirQuery (src : ModId) (p : BitVec 36) (s : State) :
    exec (.dirQuery src p) s = .next (s.settle (dirQuery src.toNat p.toNat s)) := rfl

theorem exec_dirReply (p : BitVec 36) (e : Option DEntry) (s : State) :
    exec (.dirReply p e) s = .next (s.settle (dirReply p.toNat e s)) := rfl

theorem exec_hbmReadComplete (w : BitVec 35) (o : BitVec 2) (r : HbmReader) (s : State) :
    exec (.hbmReadComplete w o r) s =
      s.settleOut (hbmReadComplete w.toNat o (r.who.map fun x => (x.1, x.2.toNat)) r.scrub s) := rfl

/-! ## Where a read is served (R241, R247) -/

theorem State.serveRead_ok {s u : State} {e : XEntry} {va n : Nat} {b : List Byte}
    (h : (s.addHeat (va / pageBytes) n).readFrame e.frame (va % pageBytes) n = .ok b u) (src tag : Nat) :
    s.serveRead e src va n tag = u.send (.readData src va b tag u.modNo) := by
  simp [State.serveRead, h]

theorem State.serveRead_fault {s u : State} {e : XEntry} {va n code : Nat}
    (h : (s.addHeat (va / pageBytes) n).readFrame e.frame (va % pageBytes) n = .fault code u) (src tag : Nat) :
    s.serveRead e src va n tag = u.send (.poisoned src va n tag) := by
  simp [State.serveRead, h]

/-- What a read of a frame gives is what the HBM holds there. -/
theorem State.readFrame_bytes {s u : State} {f off n : Nat} {b : List Byte} (h : s.readFrame f off n = .ok b u) :
    b = s.tier.hbm.readBytes (f * pageBytes + off) n := by
  unfold State.readFrame at h
  dsimp only at h
  split at h
  · cases h
  · cases h; rfl

theorem State.addHeat_hbm (s : State) (p n : Nat) : (s.addHeat p n).tier.hbm = s.tier.hbm := by
  unfold State.addHeat
  dsimp only
  split <;> rfl

theorem State.lendTo_hbm (s : State) (p src : Nat) (e : XEntry) (stage : Bool) : (s.lendTo p src e stage).tier.hbm = s.tier.hbm := by
  unfold State.lendTo
  dsimp only
  split <;> rfl

theorem readReq_home {s : State} {src va len tag : Nat} {stage : Bool} {e : XEntry} (h : s.standing (va / pageBytes) = .home e)
    (ht : e.tier = .local) :
    readReq src va len tag stage s = (s.lendTo (va / pageBytes) src e stage).serveRead e src va len tag := by
  simp [readReq, h, ht]

theorem readReq_signpost {s : State} {src va len tag m : Nat} {stage : Bool} (h : s.standing (va / pageBytes) = .signpost m) :
    readReq src va len tag stage s = s.send (.readReq m src va len tag false none) := by
  simp [readReq, h]

theorem readReq_stranger {s : State} {src va len tag : Nat} {stage : Bool} (h : s.standing (va / pageBytes) = .stranger) :
    readReq src va len tag stage s = s.send (.notHome src va tag none) := by
  simp [readReq, h]

/-! ## Where data goes (R251, R257, R261) -/

theorem State.deliver_forgets (s : State) {r : ReadOut} (bytes : List Byte) (bad : Bool) (h : ∀ t, r.who ≠ .aperture t) :
    r ∉ (s.deliver r bytes bad).tier.reads := by
  have gone : r ∉ s.tier.reads.filter fun x => !(x.who == r.who && x.va == r.va && x.len == r.len) := by simp
  unfold State.deliver
  dsimp only
  split
  · exact gone
  · split
    · split <;> exact gone
    · exact absurd ‹_› (h _)
    · exact gone

theorem State.deliver_late (s : State) {r : ReadOut} (bytes : List Byte) (bad : Bool) (h : r.late = true) :
    (s.deliver r bytes bad).tier.arrived = s.tier.arrived ∧ (s.deliver r bytes bad).outbox = s.outbox := by
  simp [State.deliver, h, State.modTier]

theorem State.deliver_engine (s : State) {r : ReadOut} (bytes : List Byte) (bad : Bool) {c : CoreId} {q : Nat} (h : r.late = false)
    (hw : r.who = .engine c q) :
    (s.deliver r bytes bad).tier.arrived = s.tier.arrived ++ [⟨r.who, r.va, bytes, bad⟩] ∧
      (s.deliver r bytes bad).outbox = s.outbox := by
  simp [State.deliver, h, State.modTier, hw]

/-- Data of one read that waits for it, of a page of which this module keeps no entry. -/
theorem readData_one {s : State} {home va n : Nat} {bytes : List Byte} {poison : Option Nat} {r : ReadOut}
    (hn : n = poison.getD bytes.length) (hr : (s.tier.reads.filter fun r => r.va == va && r.len == n && r.host.isNone) = [r])
    (hrow : r.row = none) (hx : mapFind s.tier.xlate (va / pageBytes) = none) :
    readData home va bytes false poison s =
      if poison.isSome = true then s.deliver r (List.replicate n 0) true else s.deliver r bytes := by
  simp [readData, ← hn, hr, hrow, hx]

theorem hostReadComplete_one {s : State} {a : Nat} {bytes : List Byte} {r : ReadOut}
    (hr : (s.tier.reads.filter fun r => r.host == some a && r.len == bytes.length) = [r]) :
    hostReadComplete a bytes s = State.deliver { s with hostMem := s.hostMem.writeBytes a bytes } r bytes := by
  simp [hostReadComplete, hr]

/-! ## The guard band (R255, R257) -/

/-- The test that READ_DEADLINE makes of a frame. -/
def State.guardDue (s : State) (f : Nat) : Bool :=
  s.run.openFrames.all fun o => o.first != f || decide (o.first + o.bells - 1 < s.bel.frame) ||
    (s.bel.frame == o.first + o.bells - 1 && decide (15360 ≤ s.bel.cycle))

theorem State.guardDue_iff (s : State) (f : Nat) : s.guardDue f = true ↔ guardBegun s f := by
  simp only [State.guardDue, guardBegun, List.all_eq_true, Bool.or_eq_true, Bool.and_eq_true, bne_iff_ne, decide_eq_true_eq, beq_iff_eq, ne_eq]
  exact forall₂_congr fun o _ => by rw [or_assoc, ← imp_iff_not_or]

/-- A read of core `c` as READ_DEADLINE leaves it. -/
def State.atDeadline (s : State) (c : CoreId) (r : ReadOut) : ReadOut :=
  match r.who with
  | .engine k _ => if k = c ∧ r.sub ∧ s.guardDue r.frame then { r with late := true } else r
  | _ => r

theorem readDeadline_eq (c : CoreId) (s : State) :
    readDeadline c s = s.modTier fun t => { t with reads := t.reads.map (s.atDeadline c) } := rfl

theorem State.atDeadline_late {s : State} {c : CoreId} {r : ReadOut} {q : Nat} (hw : r.who = .engine c q) (hs : r.sub = true)
    (hg : guardBegun s r.frame) : s.atDeadline c r = { r with late := true } := by
  simp [State.atDeadline, hw, hs, (s.guardDue_iff _).2 hg]

theorem State.atDeadline_other {s : State} {c : CoreId} {r : ReadOut}
    (h : r.sub = false ∨ ¬ guardBegun s r.frame ∨ ∀ q, r.who ≠ .engine c q) : s.atDeadline c r = r := by
  rw [← s.guardDue_iff] at h
  unfold State.atDeadline
  split
  · next k q hw =>
    rw [if_neg]
    rintro ⟨rfl, hs, hg⟩
    rcases h with h | h | h
    · simp [hs] at h
    · exact h hg
    · exact h q hw
  · rfl

theorem readDeadline_marks (c : CoreId) (s : State) : ∃ t, exec (.readDeadline c) s = .next t ∧ t.tier.xlate = s.tier.xlate ∧
    t.tier.hbm = s.tier.hbm ∧ t.tier.arrived = s.tier.arrived ∧ ∀ (i : Nat) (r : ReadOut), s.tier.reads[i]? = some r →
      t.tier.reads[i]? = some (s.atDeadline c r) := by
  refine ⟨s.settle (readDeadline c s), exec_readDeadline c s, ?_⟩
  rw [readDeadline_eq, State.settle_tier]
  exact ⟨rfl, rfl, rfl, fun i r h => by simp [State.modTier, h]⟩

/-! ## NOT_HOME and the directory (R237, R242) -/

theorem mapFind_mapErase_same {β : Type} (m : List (Nat × β)) (a : Nat) : mapFind (mapErase m a) a = none := by
  induction m with
  | nil => rfl
  | cons p t ih =>
    obtain ⟨k, v⟩ := p
    simp only [mapErase]
    split
    · exact ih
    · next hk => simp [mapFind, hk, ih]

theorem vpn_lt (va : VA) : va.toNat / pageBytes < 2 ^ 36 := by
  have := va.isLt
  unfold pageBytes
  omega

/-- A page that has no translation entry is looked for at its directory module. -/
theorem State.look_away {s : State} {p : Nat} (h0 : p ≠ 0) (hp : p < 2 ^ 36) (hx : mapFind s.tier.xlate p = none)
    (hd : s.dirAt p ≠ s.modNo) : s.look p = .query (s.dirAt p) := by
  unfold State.look
  rw [if_neg (by omega)]
  simp [hx, hd]

theorem State.look_here {s : State} {p : Nat} {e : DEntry} (h0 : p ≠ 0) (hp : p < 2 ^ 36) (hx : mapFind s.tier.xlate p = none)
    (hd : s.dirAt p = s.modNo) (he : mapFind s.tier.dir p = some e) : s.look p = .entry (xOfDir e) := by
  unfold State.look
  rw [if_neg (by omega)]
  simp [hx, hd, he]

theorem State.askDir_first {s : State} {who : Requester} {p d : Nat} (hq : ∀ q ∈ s.tier.queries, q.1 ≠ p)
    (hr : (s.route d).isSome = true) : s.askDir who p d =
      some (State.send { s with tier := { s.tier with queries := s.tier.queries ++ [(p, who)] } } (.dirQuery d p)) := by
  have hc : (p, who) ∉ s.tier.queries := fun h => hq _ h rfl
  have ha : (s.tier.queries.any fun q => q.1 == p) = false := by simpa using hq
  have hn : (s.route d).isNone = false := by simpa [Option.isSome_iff_ne_none] using hr
  simp [State.askDir, hc, ha, hn]

/-- A write as a NOT_HOME leaves it: the one that it names waits for the directory's answer. -/
def WriteOut.sentBack (va tag : Nat) (w : WriteOut) : WriteOut :=
  if w.tag == tag then { w with again := true, va := if w.bytes.isEmpty then va else w.va } else w

/-- What a NOT_HOME takes from the requester: the entry of the page, a staged copy and the reads; its writes wait for the directory. -/
def State.disowned (s : State) (va tag : Nat) : State :=
  (s.dropStage (va / pageBytes)).modTier fun t => { t with
    xlate := match mapFind t.xlate (va / pageBytes) with
      | some e => if e.tier = .pool then mapErase t.xlate (va / pageBytes) else t.xlate
      | none => t.xlate,
    reads := t.reads.filter fun r => !(r.va == va && r.host.isNone),
    writesOut := t.writesOut.map (WriteOut.sentBack va tag) }

/-- Whoever waits for the answer that the NOT_HOME is. -/
def State.askers (s : State) (va tag : Nat) : List Requester :=
  ((s.tier.reads.filter fun r => r.va == va && r.host.isNone).map ReadOut.who ++
    (s.tier.writesOut.filter fun w => w.tag == tag).map WriteOut.who).eraseDups

theorem notHome_query {s : State} {va tag d : Nat} (h : (s.disowned va tag).look (va / pageBytes) = .query d) :
    notHome va tag s =
      (s.askers va tag).foldl (fun s w => (s.askDir w (va / pageBytes) d).getD (s.noRoute w)) (s.disowned va tag) := by
  unfold notHome
  dsimp only
  split
  · next hd => cases hd.symm.trans h; rfl
  · next hd => cases hd.symm.trans h
  · next hd => cases hd.symm.trans h

theorem notHome_entry {s : State} {va tag : Nat} {e : XEntry} (h : (s.disowned va tag).look (va / pageBytes) = .entry e) :
    notHome va tag s = ((s.disowned va tag).resendWrites (va / pageBytes)).wake.retryAper := by
  unfold notHome
  dsimp only
  split
  · next hd => cases hd.symm.trans h
  · next hd => cases hd.symm.trans h; rfl
  · next hd => cases hd.symm.trans h

/-- Dropping a staged copy changes the entry and the copy alone. -/
theorem State.dropStage_frame (s : State) (p : Nat) : ∃ x f, s.dropStage p = { s with tier := { s.tier with xlate := x, staged := f } } := by
  unfold State.dropStage
  split
  · split
    · exact ⟨_, _, rfl⟩
    · exact ⟨_, _, rfl⟩
  · exact ⟨_, _, rfl⟩

theorem State.dropStage_xlate {s : State} {p : Nat} (h : ∀ e, mapFind s.tier.xlate p = some e → e.tier = .pool ∨ e.tier = .staged) :
    ∀ e, mapFind (s.dropStage p).tier.xlate p = some e → e.tier = .pool := by
  unfold State.dropStage
  split
  · next x hx =>
    split
    · intro e he
      rw [State.modTier, mapFind_mapPut_same] at he
      cases he; rfl
    · next hn =>
      intro e he
      rw [hx] at he
      cases he
      exact (h x hx).resolve_right hn
  · next hx => intro e he; rw [hx] at he; cases he

/-- The whole of what is taken, for a page that this module does not home. -/
theorem State.disowned_eq {s : State} {va tag : Nat}
    (h : ∀ e, mapFind s.tier.xlate (va / pageBytes) = some e → e.tier = .pool ∨ e.tier = .staged) :
    ∃ x f, mapFind x (va / pageBytes) = none ∧ s.disowned va tag = { s with tier := { s.tier with
      xlate := x, staged := f
      reads := s.tier.reads.filter fun r => !(r.va == va && r.host.isNone)
      writesOut := s.tier.writesOut.map (WriteOut.sentBack va tag) } } := by
  have hp := State.dropStage_xlate h
  obtain ⟨x, f, hd⟩ := s.dropStage_frame (va / pageBytes)
  rw [hd] at hp
  unfold State.disowned
  rw [hd]
  refine ⟨_, _, ?_, rfl⟩
  dsimp only
  split
  · next e he => rw [if_pos (hp e he)]; exact mapFind_mapErase_same _ _
  · next he => exact he

end Sys2Proof.Machine
end

section
/-! SUPPORT. What NOT_HOME, the directory's answers and the ECC words of a read bring (R237, R242, R260 to R262). -/

namespace Sys2Proof.Machine

/-- With one read out and no write of that tag, its requester asks the directory of the page (R242). -/
theorem notHome_asks {s : State} {va : VA} {tag p : Nat} {r : ReadOut} (hp : p = va.toNat / pageBytes) (h0 : p ≠ 0)
    (hx : ∀ e, mapFind s.tier.xlate p = some e → e.tier = .pool ∨ e.tier = .staged) (hd : s.dirAt p ≠ s.modNo)
    (hroute : (s.route (s.dirAt p)).isSome = true) (hq : ∀ q ∈ s.tier.queries, q.1 ≠ p)
    (hr : (s.tier.reads.filter fun r => r.va == va.toNat && r.host.isNone) = [r]) (hw : ∀ w ∈ s.tier.writesOut, w.tag ≠ tag) :
    ∃ u, notHome va.toNat tag s = u ∧ mapFind u.tier.xlate p = none ∧ r ∉ u.tier.reads ∧
      u.tier.queries = s.tier.queries ++ [(p, r.who)] ∧ u.outbox = s.outbox ++ [.dirQuery (s.dirAt p) p] := by
  subst hp
  obtain ⟨x, f, hx0, hs⟩ := State.disowned_eq (tag := tag) hx
  have hlook : (s.disowned va.toNat tag).look (va.toNat / pageBytes) = .query (s.dirAt (va.toNat / pageBytes)) := by
    rw [hs]
    exact State.look_away h0 (vpn_lt va) hx0 hd
  have hask : s.askers va.toNat tag = [r.who] := by
    have hnone : (s.tier.writesOut.filter fun w => w.tag == tag) = [] := by simpa using hw
    simp [State.askers, hr, hnone, List.eraseDups_cons]
  have hone : (s.disowned va.toNat tag).askDir r.who (va.toNat / pageBytes) (s.dirAt (va.toNat / pageBytes)) = some (State.send
      { s.disowned va.toNat tag with tier := { (s.disowned va.toNat tag).tier with
        queries := s.tier.queries ++ [(va.toNat / pageBytes, r.who)] } }
      (.dirQuery (s.dirAt (va.toNat / pageBytes)) (va.toNat / pageBytes))) := by
    rw [hs]
    exact State.askDir_first hq hroute
  refine ⟨_, notHome_query hlook, ?_⟩
  rw [hask, List.foldl_cons, List.foldl_nil, hone, Option.getD_some, hs]
  refine ⟨hx0, ?_, rfl, rfl⟩
  have hmem : r ∈ s.tier.reads.filter fun r => r.va == va.toNat && r.host.isNone := by simp [hr]
  have hmine := (List.mem_filter.1 hmem).2
  simp only [State.send, List.mem_filter, hmine, Bool.not_true, Bool.false_eq_true, and_false, not_false_eq_true]

theorem State.retryAper_none {s : State} (h : s.hif.aper = []) : s.retryAper = s := by simp [State.retryAper, h]

/-- The one write that waits for the directory's answer goes to the home that an entry of another module's page names. -/
theorem State.resendWrites_one {s : State} {p : Nat} {e : XEntry} {w : WriteOut} (hl : s.look p = .entry e) (ht : e.tier = .pool)
    (hs : s.tier.writesOut = [w]) (ha : w.again = true) (hp : w.va / pageBytes = p) (hb : w.bytes ≠ []) :
    s.resendWrites p = State.send { s with tier := { s.tier with writesOut := [{ w with again := false }] } }
      (.write e.mod s.modNo w.va w.bytes w.tag) := by
  have hb' : w.bytes.isEmpty = false := by simpa using hb
  have hmine : (s.tier.writesOut.filter fun w => w.waitsFor p) = [w] := by simp [hs, WriteOut.waitsFor, ha, hp]
  unfold State.resendWrites
  simp only [hl, hmine, List.foldl_cons, List.foldl_nil, hb']
  rw [if_neg (by simp), if_neg (by simp [ht])]
  simp [State.modTier, State.modNo, hs]

/-- A write that meets a NOT_HOME at the page's own directory module goes to the home that the entry names (R242). -/
theorem notHome_resends {s : State} {va : VA} {tag p : Nat} {w : WriteOut} {e : DEntry} (hp : p = va.toNat / pageBytes) (h0 : p ≠ 0)
    (haper : s.hif.aper = []) (hx : ∀ e, mapFind s.tier.xlate p = some e → e.tier = .pool ∨ e.tier = .staged)
    (hd : s.dirAt p = s.modNo) (he : mapFind s.tier.dir p = some e) (hs : s.tier.writesOut = [w]) (ht : w.tag = tag)
    (hw : w.va / pageBytes = p) (hb : w.bytes ≠ []) :
    ∃ u, notHome va.toNat tag s = u ∧ u.tier.writesOut = [{ w with again := false }] ∧
      u.outbox = s.outbox ++ [.write (xOfDir e).mod s.modNo w.va w.bytes w.tag] := by
  subst hp
  obtain ⟨x, f, hx0, hs1⟩ := State.disowned_eq (tag := tag) hx
  have hlook : (s.disowned va.toNat tag).look (va.toNat / pageBytes) = .entry (xOfDir e) := by
    rw [hs1]
    exact State.look_here h0 (vpn_lt va) hx0 hd he
  have hback : (s.disowned va.toNat tag).tier.writesOut = [{ w with again := true }] := by
    rw [hs1]
    simp [hs, WriteOut.sentBack, ht, hb]
  refine ⟨_, notHome_entry hlook, ?_⟩
  rw [State.resendWrites_one hlook rfl hback rfl hw hb, hs1, State.retryAper_none (by exact haper)]
  exact ⟨rfl, rfl⟩

/-! ## The directory's answer (R237) -/

/-- With no entry here, the attributes of a page reach what a move or the directory keeps of it, and nothing that translation needs. -/
theorem State.setAttrs_frame {s : State} {p : Nat} (hx : mapFind s.tier.xlate p = none) (w pin stage late : Bool) : ∃ d m o,
    s.setAttrs p w pin stage late = { s with tier := { s.tier with dir := d, movesIn := m }, outbox := o } := by
  unfold State.setAttrs
  simp only [State.modTier, hx]
  repeat' split
  all_goals exact ⟨_, _, _, rfl⟩

/-- What an entry, or that there is none, says to a module that keeps nothing of the page. -/
theorem State.noteEntry_away {s : State} {p : Nat} {e : Option DEntry} {d : DEntry} (he : e = some d) (hd : s.dirAt p ≠ s.modNo)
    (hx : mapFind s.tier.xlate p = none) (hh : d.home ≠ s.modNo) : s.noteEntry p e = s.setAttrs p d.w d.pin d.stage d.late := by
  unfold State.noteEntry
  rw [if_neg hd]
  dsimp only
  split
  · next h => cases hx.symm.trans h
  · cases he
    exact if_neg fun h => hh h.1
  · cases he
  · cases he

theorem State.noteEntry_none {s : State} {p : Nat} {e : Option DEntry} (he : e = none) (hd : s.dirAt p ≠ s.modNo)
    (hx : mapFind s.tier.xlate p = none) :
    s.noteEntry p e = s.modTier fun t => { t with movesIn := mapErase t.movesIn p, movesOut := mapErase t.movesOut p } := by
  unfold State.noteEntry
  rw [if_neg hd]
  dsimp only
  split
  · cases he
  · cases he
  · next h => cases hx.symm.trans h
  · rfl

theorem State.resendWrites_nil {s : State} (h : s.tier.writesOut = []) (p : Nat) : s.resendWrites p = s := by
  simp only [State.resendWrites, h, List.filter_nil, List.foldl_nil]
  split <;> rfl

theorem State.failWrites_nil {s : State} (h : s.tier.writesOut = []) (p : Nat) : s.failWrites p = s := by
  simp [State.failWrites, h]

theorem State.dirAnswer_some {s : State} {p : Nat} {d : DEntry} (hx : mapFind s.tier.xlate p = none) (hh : d.home ≠ s.modNo)
    (hw : s.tier.writesOut = []) (ha : s.hif.aper = []) : s.dirAnswer p (some d) = State.wake { s with tier := { s.tier with
      queries := s.tier.queries.filter fun q => q.1 != p
      xlate := mapPut s.tier.xlate p (xOfDir d) } } := by
  have hb : (d.home == s.modNo) = false := by simpa using hh
  unfold State.dirAnswer
  dsimp only
  rw [show mapFind (s.modTier fun t => { t with queries := t.queries.filter fun q => q.1 != p }).tier.xlate p = none from hx]
  dsimp only
  rw [show (d.home == (s.modTier fun t => { t with queries := t.queries.filter fun q => q.1 != p }).modNo) = false from hb, if_neg (by simp),
    State.resendWrites_nil (by exact hw), State.retryAper_none (by exact ha)]
  rfl

theorem State.dirAnswer_none {s : State} {p : Nat} (hw : s.tier.writesOut = []) (ha : s.hif.aper = []) :
    s.dirAnswer p none = State.wake { s with tier := { s.tier with
      queries := s.tier.queries.filter fun q => q.1 != p
      noEntry := s.tier.noEntry ++ s.tier.queries.filter fun q => q.1 == p } } := by
  unfold State.dirAnswer
  dsimp only
  rw [State.failWrites_nil (by exact hw), State.retryAper_none (by exact ha)]
  rfl

theorem dirReply_some {s : State} {p : BitVec 36} {d : DEntry} (hd : s.dirAt p.toNat ≠ s.modNo) (ha : s.hif.aper = [])
    (hw : s.tier.writesOut = []) (hx : mapFind s.tier.xlate p.toNat = none) (hh : d.home ≠ s.modNo) :
    ∃ t, exec (.dirReply p (some d)) s = .next t ∧ mapFind t.tier.xlate p.toNat = some (xOfDir d) ∧
      t.tier.queries = s.tier.queries.filter fun q => q.1 != p.toNat := by
  refine ⟨_, exec_dirReply p (some d) s, ?_⟩
  obtain ⟨dir, mv, o, hset⟩ := State.setAttrs_frame hx d.w d.pin d.stage d.late
  rw [State.settle_tier, dirReply, State.noteEntry_away rfl hd hx hh, hset,
    State.dirAnswer_some (by exact hx) (by exact hh) (by exact hw) (by exact ha)]
  exact ⟨mapFind_mapPut_same _ _ _, rfl⟩

theorem dirReply_none {s : State} {p : BitVec 36} (hd : s.dirAt p.toNat ≠ s.modNo) (ha : s.hif.aper = [])
    (hw : s.tier.writesOut = []) (hx : mapFind s.tier.xlate p.toNat = none) :
    ∃ t, exec (.dirReply p none) s = .next t ∧ t.tier.xlate = s.tier.xlate ∧
      t.tier.noEntry = s.tier.noEntry ++ s.tier.queries.filter (fun q => q.1 == p.toNat) ∧
      t.tier.queries = s.tier.queries.filter fun q => q.1 != p.toNat := by
  refine ⟨_, exec_dirReply p none s, ?_⟩
  rw [State.settle_tier, dirReply, State.noteEntry_none rfl hd hx, State.dirAnswer_none (by exact hw) (by exact ha)]
  exact ⟨rfl, rfl, rfl⟩

/-! ## ECC (R260 to R262) -/

theorem hbmReadComplete_absent {word : Nat} (h : hbmBytes ≤ 32 * word) (o : BitVec 2) (req : Option (CoreId × Nat)) (scrub : Bool)
    (s : State) : hbmReadComplete word o req scrub s = .fault (.noSuchHbm (32 * word)) := by
  simp [hbmReadComplete, h]

theorem hbmReadComplete_scrub {word : Nat} (h : 32 * word < hbmBytes) (o : BitVec 2) (req : Option (CoreId × Nat)) (s : State) :
    hbmReadComplete word o req true s = .next (if s.maintOpen (word / 2048 / framesPerStack) then
      ((s.eccOutcome word o).chargeHbm (word / 2048 / framesPerStack) 32).chargeMaint (word / 2048 / framesPerStack) (Config.copyCycles 32)
      else s) := by
  simp [hbmReadComplete, Nat.not_le.2 h]

/-- A word that is not poisoned after its ECC outcome stops nothing. -/
theorem hbmReadComplete_clean {word : Nat} {s : State} {o : BitVec 2} (h : 32 * word < hbmBytes)
    (hp : word ∉ (s.eccOutcome word o).tier.poison) (req : Option (CoreId × Nat)) :
    hbmReadComplete word o req false s = .next (s.eccOutcome word o) := by
  unfold hbmReadComplete
  rw [if_neg (by omega)]
  dsimp only
  rw [if_neg (by simp)]
  split
  · simp [hp]
  · rfl

theorem State.eccOutcome_zero (s : State) (word : Nat) : s.eccOutcome word 0 = s := by simp [State.eccOutcome]

theorem State.eccOutcome_one (s : State) (word : Nat) :
    (s.eccOutcome word 1).tier.poison = s.tier.poison ∧ (s.eccOutcome word 1).tier.hbm = s.tier.hbm ∧
      mapGet [] (s.eccOutcome word 1).tier.corr (word / 2048) = s.corrOf (word / 2048) ++ [s.bel.frame] := by
  simp [State.eccOutcome, State.modTier]

theorem State.eccOutcome_two (s : State) (word : Nat) :
    ∃ p, word ∈ p ∧ s.eccOutcome word 2 = { s with tier := { s.tier with poison := p } } := by
  unfold State.eccOutcome
  dsimp only
  rw [if_neg (by decide)]
  split
  · exact ⟨_, by simp, rfl⟩
  · next h => exact ⟨s.tier.poison, by simpa using h, rfl⟩

/-- MEM_UE at a started command fails it, and touches of the tiers only what was asked for it. -/
theorem faultStarted_fails {s : State} {c : CoreId} {q code : Nat} {r : Run} (hr : ((s.core c).queue q).run = some r)
    (hf : r.failed = false) : ((faultStarted c q code s).core c).queue q =
      { (s.core c).queue q with run := some { r with failed := true } } ∧
      (faultStarted c q code s).tier = s.tier.forget (.engine c q) := by
  unfold faultStarted
  simp only [hr, hf]
  rw [if_neg (by simp)]
  refine ⟨?_, ?_⟩
  · rw [raiseCore, raise_core]
    have hcore : (s.modCore c fun k => k.markFailed q).core c = (s.core c).markFailed q := State.core_modCore_same s c _
    exact (congrArg (fun k => Core.queue k q) hcore).trans (by simp [Core.markFailed, hr])
  · rw [raiseCore, raise_tier]; rfl

/-- A read of a poisoned word by a started command: UE_COUNT of its stack rises, the word is one of this stop, and the command fails. -/
def State.meetUe (s : State) (c : CoreId) (q word : Nat) : State :=
  let e := mapGet ⟨0, 0, 0⟩ s.tier.ecc (word / 2048 / framesPerStack)
  let s1 := s.modTier fun t => { t with ecc := mapPut t.ecc (word / 2048 / framesPerStack) { e with ue := satAdd 16 e.ue 1 } }
  faultStarted c q cMemUe { s1 with rec0 := { s1.rec0 with ueNow := s1.rec0.ueNow ++ [word] } }

theorem hbmReadComplete_none {word : Nat} {s : State} {o : BitVec 2} (h : 32 * word < hbmBytes) :
    hbmReadComplete word o none false s = .next (s.eccOutcome word o) := by
  unfold hbmReadComplete
  rw [if_neg (by omega)]
  rfl

theorem hbmReadComplete_command {word : Nat} {s : State} {o : BitVec 2} (h : 32 * word < hbmBytes) (c : CoreId) (q : Nat) :
    hbmReadComplete word o (some (c, q)) false s = .next
      (if (s.eccOutcome word o).tier.poison.contains word && (((s.core c).queue q).run.any fun r => !r.done) then
        (s.eccOutcome word o).meetUe c q word else s.eccOutcome word o) := by
  unfold hbmReadComplete
  rw [if_neg (by omega)]
  rfl

/-- A failed command forgets what was asked for it, and nothing of the HBM. -/
theorem faultStarted_words (c : CoreId) (q code : Nat) (s : State) :
    (faultStarted c q code s).tier.poison = s.tier.poison ∧ (faultStarted c q code s).tier.hbm = s.tier.hbm := by
  unfold faultStarted
  split
  · split
    · exact ⟨rfl, rfl⟩
    · rw [raiseCore, raise_tier]
      exact ⟨rfl, rfl⟩
  · exact ⟨rfl, rfl⟩

theorem State.meetUe_words (s : State) (c : CoreId) (q word : Nat) :
    (s.meetUe c q word).tier.poison = s.tier.poison ∧ (s.meetUe c q word).tier.hbm = s.tier.hbm :=
  faultStarted_words c q cMemUe _

theorem hbmReadComplete_uncorrectable {word : Nat} {s : State} (h : 32 * word < hbmBytes) (req : Option (CoreId × Nat)) :
    ∃ t, hbmReadComplete word 2 req false s = .next t ∧ word ∈ t.tier.poison ∧ t.tier.hbm = s.tier.hbm ∧
      ∀ c q r, req = some (c, q) → ((s.core c).queue q).run = some r → r.done = false → r.failed = false →
        ((t.core c).queue q).run = some { r with failed := true } := by
  obtain ⟨p, hmem, hs⟩ := s.eccOutcome_two word
  cases req with
  | none => exact ⟨_, hbmReadComplete_none h, by rw [hs]; exact hmem, by rw [hs], by simp⟩
  | some cq =>
    obtain ⟨c, q⟩ := cq
    refine ⟨_, hbmReadComplete_command h c q, ?_⟩
    rw [hs]
    split
    · next hc =>
      obtain ⟨hp, hb⟩ := State.meetUe_words { s with tier := { s.tier with poison := p } } c q word
      refine ⟨hp ▸ hmem, hb, ?_⟩
      rintro c' q' r ⟨⟩ hr hdone hf
      exact (congrArg Queue.run (faultStarted_fails (by exact hr) hf).1)
    · next hc =>
      refine ⟨hmem, rfl, ?_⟩
      rintro c' q' r ⟨⟩ hr hdone hf
      simp [hmem, hr, hdone] at hc

/-! ## The obligation -/

/-- Settles O43: each clause is one of the laws above of the row that it is about. -/
theorem readsFindTheirHome : Obligations.ReadsFindTheirHome := by
  unfold Obligations.ReadsFindTheirHome
  intro s
  refine ⟨fun src va len tag stage p hp => ?reads, fun home va bytes poison r n hn hr hrow hx => ?data,
    fun a bytes r hr => ?host, fun r bytes bad => ⟨s.deliver_forgets bytes bad, s.deliver_late bytes bad, fun c q => s.deliver_engine bytes bad⟩,
    fun c => ?deadline, fun va tag home p hp h0 ha hx => ⟨fun r d hd hne hroute hq hr hw => ?asks, fun w e hd he hs ht hw hb => ?again⟩,
    fun src p => exec_dirQuery src p s, fun p hd ha hw hx => ⟨fun d hh => dirReply_some hd ha hw hx hh, dirReply_none hd ha hw hx⟩,
    fun w o q hw => ⟨?clean, ?corrected, ?uncorrectable, ?scrub⟩, fun w o q b hw => ?absent⟩
  case reads =>
    subst hp
    refine ⟨fun e b u hst ht hr => ⟨?_, ?_⟩, fun e code u hst ht hr => ?_, fun m hst => ?_, fun hst => ?_⟩
    · rw [exec_readReq_memory, readReq_home hst ht, State.serveRead_ok hr]
    · rw [State.readFrame_bytes hr, State.addHeat_hbm, State.lendTo_hbm]
    · rw [exec_readReq_memory, readReq_home hst ht, State.serveRead_fault hr]
    · rw [exec_readReq_memory, readReq_signpost hst]
    · rw [exec_readReq_memory, readReq_stranger hst]
  case data =>
    rw [exec_readData]
    have h := readData_one (home := home.toNat) (poison := poison.map BitVec.toNat) (by rw [hn]; cases poison <;> rfl) hr hrow hx
    rw [h, Option.isSome_map]
  case host => rw [exec_hostMemoryReadComplete, hostReadComplete_one hr]
  case deadline =>
    obtain ⟨t, ht, hx, hh, harr, hreads⟩ := readDeadline_marks c s
    refine ⟨t, ht, hx, hh, harr, fun i r hr => ⟨fun q hq hs hg => ?_, fun h => ?_⟩⟩
    · rw [hreads i r hr, State.atDeadline_late hq hs hg]
    · rw [hreads i r hr, State.atDeadline_other h]
  case asks =>
    subst hd
    obtain ⟨u, hu, h⟩ := notHome_asks (tag := tag.toNat) hp h0 hx hne hroute hq hr hw
    exact ⟨u, by rw [exec_notHome_memory, hu], h⟩
  case again =>
    obtain ⟨u, hu, h⟩ := notHome_resends hp h0 ha hx hd he hs ht hw hb
    exact ⟨u, by rw [exec_notHome_memory, hu], h⟩
  case clean =>
    rintro rfl hp
    rw [exec_hbmReadComplete, hbmReadComplete_clean hw (by rwa [State.eccOutcome_zero]), State.eccOutcome_zero, State.settleOut_next]
  case corrected =>
    rintro rfl hp
    obtain ⟨hpoison, hh, hcorr⟩ := s.eccOutcome_one w.toNat
    refine ⟨s.settle (s.eccOutcome w.toNat 1), ?_, ?_⟩
    · rw [exec_hbmReadComplete, hbmReadComplete_clean hw (by rwa [hpoison]), State.settleOut_next]
    · rw [State.settle_tier]
      exact ⟨hpoison, hcorr, hh⟩
  case uncorrectable =>
    rintro rfl
    obtain ⟨t, ht, hp, hh, hfail⟩ := hbmReadComplete_uncorrectable (s := s) hw (q.map fun x => (x.1, x.2.toNat))
    refine ⟨s.settle t, by rw [exec_hbmReadComplete, ht, State.settleOut_next], ?_⟩
    rw [State.settle_tier]
    refine ⟨hp, hh, fun c k r hq hr hdone hf => ?_⟩
    rw [State.core_settle]
    exact hfail c k.toNat r (by rw [hq]; rfl) hr hdone hf
  case scrub =>
    rintro st rfl
    refine ⟨fun hm => ?_, fun hm => ?_⟩
    · rw [exec_hbmReadComplete, hbmReadComplete_scrub hw, if_pos hm, State.settleOut_next]
    · rw [exec_hbmReadComplete, hbmReadComplete_scrub hw, if_neg (by simp [hm]), State.settleOut_next]
  case absent => rw [exec_hbmReadComplete, hbmReadComplete_absent hw]; rfl

end Sys2Proof.Machine
end

section
/-! SUPPORT. How pages move: what a grant keeps, pieces, flips and signposts, abandoned moves, epoch ends, quota excess and frames
retired (R243, R246 to R249, R261, R262, R265, R266). -/

namespace Sys2Proof.Machine

/-! ## The rows -/

theorem exec_moveRequest (by_ source dest owner : ModId) (p : BitVec 36) (host a : Bool) (g : Option (BitVec 48 × BitVec 4)) (s : State) :
    exec (.moveRequest by_ p source dest host owner a g) s = .next (s.settle (moveRequest by_.toNat p.toNat source.toNat dest.toNat host
      owner.toNat a (g.map fun g => (g.1.toNat, g.2.toNat)) s)) := rfl

theorem exec_movePiece (src : ModId) (p : BitVec 36) (i : BitVec 5) (x : PieceData) (tag : W32) (s : State) :
    exec (.movePiece src p i x tag) s =
      .next (s.settle (movePiece src.toNat p.toNat i.toNat x.bytes (x.bad.map BitVec.toNat) tag.toNat s)) := rfl

theorem exec_pageFlip (p : BitVec 36) (s : State) : exec (.pageFlip p) s = .next (s.settle (pageFlip p.toNat s)) := rfl

theorem exec_signpostExpire (p : BitVec 36) (s : State) :
    exec (.signpostExpire p) s = .next (s.settle (signpostExpire p.toNat s)) := rfl

theorem exec_moveAbandon (p : BitVec 36) (s : State) : exec (.moveAbandon p) s = .next (s.settle (moveAbandon p.toNat s)) := rfl

theorem exec_epochEnd (room : List (ModId × Bool)) (s : State) :
    exec (.epochEnd room) s = .next (s.settle (epochEnd (room.map fun d => (d.1.toNat, d.2)) s)) := rfl

theorem exec_quotaExcessPush (room : List (ModId × Bool)) (s : State) :
    exec (.quotaExcessPush room) s = .next (s.settle (quotaExcess (room.map fun d => (d.1.toNat, d.2)) s)) := rfl

theorem exec_frameRetirement (f : BitVec 24) (s : State) :
    exec (.frameRetirement f) s = s.settleOut (frameRetirement f.toNat s) := rfl

/-! ## Grants (R247, R249, R265) -/

/-- What a grant leaves alone at old and new home: the directory and its grants, HBM and translation. -/
def State.pageBook (s : State) : List (Nat × DEntry) × List (Nat × Nat × Nat) × Memory × List (Nat × XEntry) :=
  (s.tier.dir, s.tier.grants, s.tier.hbm, s.tier.xlate)

section
variable (s : State)

theorem State.pageBook_send (m : Msg) : (s.send m).pageBook = s.pageBook := rfl

theorem State.takeFrame_pageBook {s u : State} {p f : Nat} (h : s.takeFrame p = some (f, u)) : u.pageBook = s.pageBook := by
  unfold State.takeFrame at h
  split at h
  · cases h; rfl
  · cases h

theorem State.pageBook_beginMoveIn (p source : Nat) (toHost : Bool) (tick owner attrs : Nat) :
    (s.beginMoveIn p source toHost tick owner attrs).pageBook = s.pageBook := by
  unfold State.beginMoveIn
  split
  · rfl
  · split
    · split <;> rfl
    · split
      · next f u hu => exact Eq.trans (b := u.pageBook) rfl (State.takeFrame_pageBook hu)
      · rfl

theorem State.pageBook_invalHolders (p : Nat) : (s.invalHolders p).pageBook = s.pageBook := by
  unfold State.invalHolders
  dsimp only
  split <;> rfl

theorem State.pageBook_chargePlace (e : XEntry) (out : Bool) : (s.chargePlace e out).pageBook = s.pageBook := by
  unfold State.chargePlace
  split
  · split <;> rfl
  · rfl

theorem State.pageBook_payStream (p : Nat) (m : MoveOut) (e : XEntry) : (s.payStream p m e).pageBook = s.pageBook :=
  State.pageBook_chargePlace (s.chargeMaint _ _) e false

theorem State.pageBook_chargeHbm (k n : Nat) : (s.chargeHbm k n).pageBook = s.pageBook := rfl

theorem State.pageBook_chargeHostOut (n : Nat) : (s.chargeHostOut n).pageBook = s.pageBook := rfl

theorem State.pageBook_sendPiece (p : Nat) (m : MoveOut) (e : XEntry) (i : Nat) : (s.sendPiece p m e i).pageBook = s.pageBook := rfl

theorem State.pageBook_streamMove (p : Nat) : (s.streamMove p).pageBook = s.pageBook := by
  unfold State.streamMove
  split
  · next m e _ _ =>
    split
    · rfl
    · refine Eq.trans ?_ (s.pageBook_payStream p m e)
      dsimp only
      split
      · split
        · exact State.pageBook_chargeHbm _ _ _
        · exact State.pageBook_chargeHostOut _ _
      · exact foldl_keeps (f := fun s i => s.sendPiece p m e i) State.pageBook (fun s i => s.pageBook_sendPiece p m e i)
          (List.range movePieces) (s.payStream p m e)
  · rfl

theorem State.pageBook_beginMoveOut (p dest : Nat) (toHost : Bool) (hostPage tick owner : Nat) :
    (s.beginMoveOut p dest toHost hostPage tick owner).pageBook = s.pageBook :=
  (State.pageBook_streamMove _ p).trans (State.pageBook_invalHolders _ p)

theorem State.pageBook_moveGranted (p source dest : Nat) (toHost : Bool) (tick owner attrs : Nat) :
    (s.moveGranted p source dest toHost tick owner attrs).pageBook = s.pageBook := by
  unfold State.moveGranted
  have hin : ∀ c : Prop, ∀ _ : Decidable c,
      (if c then s.beginMoveIn p source toHost tick owner attrs else s).pageBook = s.pageBook := by
    intro c _
    split
    · exact s.pageBook_beginMoveIn _ _ _ _ _ _
    · rfl
  refine Eq.trans ?_ (hin (dest = s.modNo ∧ (!toHost || source != s.modNo)) inferInstance)
  generalize (if dest = s.modNo ∧ (!toHost || source != s.modNo) then s.beginMoveIn p source toHost tick owner attrs else s) = u
  dsimp only
  split
  · split
    · split
      · exact u.pageBook_beginMoveOut _ _ _ _ _ _
      · split
        · split
          · exact u.pageBook_beginMoveOut _ _ _ _ _ _
          · rfl
        · split
          · exact u.pageBook_beginMoveOut _ _ _ _ _ _
          · rfl
    · rfl
  · rfl

end

/-- The grant as it stands at the directory before anyone is told. -/
def State.granted (s : State) (p dest : Nat) (toHost : Bool) (e : DEntry) : State :=
  (s.putDir p { e with moving := true }).modTier fun t =>
    { t with grants := mapPut t.grants p (dest + (if toHost then 2 ^ 12 else 0), s.bel.frame) }

theorem State.askMove_grants {s : State} {p by_ dest : Nat} {toHost accepts : Bool} {e : DEntry} (he : mapFind s.tier.dir p = some e)
    (ha : (s.moveAllowed e && s.destAccepts e.owner dest toHost accepts) = true) :
    (s.askMove p by_ dest toHost accepts).pageBook = (s.granted p dest toHost e).pageBook := by
  unfold State.askMove
  simp only [he]
  rw [if_pos ha, State.pageBook_moveGranted]
  exact foldl_keeps (f := fun s m => s.send (.moveGrant m p dest e.attrs true)) State.pageBook (fun s m => s.pageBook_send _) _ _

theorem State.askMove_refuses {s : State} {p by_ dest : Nat} {toHost accepts : Bool} {e : DEntry} (he : mapFind s.tier.dir p = some e)
    (ha : (s.moveAllowed e && s.destAccepts e.owner dest toHost accepts) = false) (hb : by_ ≠ s.modNo) :
    s.askMove p by_ dest toHost accepts = s.send (.moveGrant by_ p dest e.attrs false) := by
  unfold State.askMove
  simp only [he]
  rw [if_neg (by simp [ha]), if_neg hb]

/-! ## Pieces (R247, R261) -/

theorem movePiece_lands {src p i tag : Nat} {bytes : List Byte} {bad : List Nat} {s : State} {m : MoveIn}
    (hm : mapFind s.tier.movesIn p = some m) (hs : m.source = src) (hi : i < 32) (hb : bytes.length = 2048) : ∃ t,
    movePiece src p i bytes bad tag s = t ∧
      (m.host = none → t.tier.hbm = s.tier.hbm.writeBytes (m.frame * pageBytes + 2048 * i) bytes ∧ t.hostMem = s.hostMem) ∧
      (∀ h, m.host = some h → t.hostMem = s.hostMem.writeBytes (h * pageBytes + 2048 * i) bytes ∧ t.tier.hbm = s.tier.hbm) ∧
      (m.host = none → ∀ w ∈ bad, m.frame * 2048 + 64 * i + w ∈ t.tier.poison) ∧
      t.outbox = s.outbox ++ [.bulkAck src tag] ∧ t.tier.xlate = s.tier.xlate := by
  have hoff : (p * pageBytes + 2048 * i) % pageBytes = 2048 * i := by unfold pageBytes; omega
  have htake : bytes.take 2048 = bytes := List.take_of_length_le (by omega)
  refine ⟨_, rfl, ?_⟩
  simp only [movePiece, hm]
  rw [if_pos ⟨hs, hi⟩, htake]
  unfold State.fillMoving
  rw [hoff]
  cases hh : m.host with
  | none =>
    refine ⟨fun _ => ⟨rfl, rfl⟩, by simp, fun _ w hw => ?_, rfl, rfl⟩
    exact List.mem_append_right _ (List.mem_map_of_mem hw)
  | some h =>
    refine ⟨by simp, ?_, by simp, rfl, rfl⟩
    rintro _ ⟨⟩
    exact ⟨rfl, rfl⟩

/-! ## Flips, signposts and abandoned moves (R247, R248) -/

/-- The directory's part of a flip leaves everything but the directory and its grants. -/
theorem State.flipDir_frame (s : State) (p : Nat) : ∃ d g, s.flipDir p = { s with tier := { s.tier with dir := d, grants := g } } := by
  unfold State.flipDir
  split
  · exact ⟨_, _, rfl⟩
  · exact ⟨_, _, rfl⟩

theorem pageFlip_out {s : State} {p : Nat} {m : MoveOut} {e : XEntry} (hm : mapFind s.tier.movesOut p = some m)
    (hx : mapFind s.tier.xlate p = some e) : pageFlip p s = if s.moveReady p m then (s.flipDir p).flipOut p m e else s := by
  simp [pageFlip, hm, hx]

theorem pageFlip_in {s : State} {p : Nat} {m : MoveIn} (ho : mapFind s.tier.movesOut p = none)
    (hm : mapFind s.tier.movesIn p = some m) : pageFlip p s =
      if s.bel.cycle = 0 then (if m.grant < s.bel.frame ∧ s.bel.frame < m.grant + 64 then (s.flipDir p).flipIn p m else s) else s := by
  simp [pageFlip, ho, hm]

/-- The old home's part of a flip to another module. -/
theorem State.flipOut_away {s : State} {p : Nat} {m : MoveOut} {e : XEntry} (h : m.dest ≠ s.modNo) :
    mapFind (s.flipOut p m e).tier.xlate p = some { e with
      tier := .pool, mod := m.dest, frame := 0, host := 0, lent := false, away := m.toHost } ∧
    mapFind (s.flipOut p m e).tier.signposts p = some ⟨m.dest, if e.tier = .local then some e.frame else none, s.bel.frame⟩ ∧
    mapFind (s.flipOut p m e).tier.movesOut p = none ∧ (s.flipOut p m e).tier.hbm = s.tier.hbm := by
  unfold State.flipOut
  rw [if_neg h]
  exact ⟨mapFind_mapPut_same _ _ _, mapFind_mapPut_same _ _ _, mapFind_mapErase_same _ _, rfl⟩

/-- The translation entry of a page at its new home. -/
def MoveIn.entry (m : MoveIn) : XEntry :=
  { tier := if m.host.isSome then .host else .local
    w := bit m.attrs 0, pin := bit m.attrs 1, lent := false, stage := bit m.attrs 2, late := bit m.attrs 3
    frame := if m.host.isSome then 0 else m.frame
    mod := 0, host := m.host.getD 0, away := false }

theorem State.flipIn_takes (s : State) (p : Nat) (m : MoveIn) :
    mapFind (s.flipIn p m).tier.xlate p = some m.entry ∧ mapFind (s.flipIn p m).tier.movesIn p = none ∧
      mapFind (s.flipIn p m).tier.owners p = some m.owner ∧ (s.flipIn p m).tier.hbm = s.tier.hbm := by
  refine ⟨(mapFind_mapPut_same _ _ _).trans ?_, mapFind_mapErase_same _ _, mapFind_mapPut_same _ _ _, rfl⟩
  unfold MoveIn.entry
  cases m.host <;> rfl

theorem signpostExpire_eq {s : State} {p : Nat} {x : Signpost} (h : mapFind s.tier.signposts p = some x) : signpostExpire p s =
    if x.flip < s.bel.frame then { s with tier := { s.tier with signposts := mapErase s.tier.signposts p } } else s := by
  simp [signpostExpire, h, State.modTier]

theorem moveAbandon_eq {s : State} {p g : Nat} (h : s.grantTick p = some g) :
    moveAbandon p s = if g + 64 ≤ s.bel.frame ∧ s.bel.cycle = 0 then s.endMove p else s := by
  simp [moveAbandon, h]

theorem State.endMove_ends (s : State) (p : Nat) : (s.endMove p).grantTick p = none ∧
    (∀ e, mapFind s.tier.dir p = some e → mapFind (s.endMove p).tier.dir p = some { e with moving := false }) ∧
    (s.endMove p).tier.xlate = s.tier.xlate ∧ (s.endMove p).tier.hbm = s.tier.hbm := by
  refine ⟨?_, fun e he => ?_, rfl, rfl⟩
  · simp [State.grantTick, State.endMove, State.modTier, mapFind_mapErase_same]
  · simp only [State.endMove, State.modTier, he]
    exact mapFind_mapPut_same _ _ _

/-! ## The end of an epoch (R66, R243) -/

theorem epochEnd_between {s : State} (room : List (Nat × Bool)) (h : s.bel.frame % 2 ^ s.tier.regs.epoch ≠ 0 ∨ s.bel.cycle ≠ 0) :
    epochEnd room s = s := by
  unfold epochEnd
  exact if_pos h

/-- With the economy cap in force and no table, an epoch end decays the heat and no more. -/
theorem epochEnd_economy {s : State} (room : List (Nat × Bool)) (hf : s.bel.frame % 2 ^ s.tier.regs.epoch = 0) (hc : s.bel.cycle = 0)
    (he : s.bel.econ = true) (ht : s.tables.entries = []) :
    ∃ x, epochEnd room s = { s.decayHeat with tables := x } := by
  unfold epochEnd
  rw [if_neg (by simp [hf, hc])]
  have hecon : s.decayHeat.bel.econ = true := he
  have hent : s.decayHeat.tables.entries = [] := ht
  simp only [if_pos hecon, hent, List.foldl_nil, List.map_nil, State.noteSkew, topSkew]
  exact ⟨_, rfl⟩

/-! ## Quota excess (R266) -/

theorem State.dropStages_within {s : State} (h0 : s.quotaUse 0 ≤ s.quotaLimit 0) (h4 : s.quotaUse 4 ≤ s.quotaLimit 4) :
    s.dropStages = s := by
  unfold State.dropStages
  rw [if_neg (Nat.not_lt.2 h0)]
  dsimp only
  rw [Nat.sub_eq_zero_of_le h4]
  rfl

theorem State.dropStages_one {s : State} {p : Nat} (h0 : s.quotaUse 0 ≤ s.quotaLimit 0) (h4 : s.quotaUse 4 = s.quotaLimit 4 + 1)
    (hp : s.oldestStage = some p) : s.dropStages = s.yieldStage p := by
  unfold State.dropStages
  rw [if_neg (Nat.not_lt.2 h0)]
  dsimp only
  rw [h4, Nat.add_sub_cancel_left]
  simp only [List.range_one, List.foldl_cons, List.foldl_nil, hp]

theorem State.dropStages_none {s : State} (h : s.tier.staged = []) : s.dropStages = s := by
  have hf : ((s.tier.staged.map Prod.fst).foldl (fun s v => s.yieldStage v) s) = s := by rw [h]; rfl
  have hu : s.quotaUse 4 = 0 := by simp [State.quotaUse, h]
  unfold State.dropStages
  rw [hf, ite_self]
  dsimp only
  rw [hu, Nat.zero_sub]
  rfl

/-- What QUOTA_EXCESS_PUSH does for a class. -/
def State.pushClass (room : List (Nat × Bool)) (s : State) (c : Nat) : State :=
  if s.quotaLimit c < s.quotaUse c - s.leaving c then
    match s.excessMove room c with
    | some (v, d, h) => s.requestMove v d h
    | none => s
  else s

theorem State.pushClass_within {s : State} {c : Nat} (room : List (Nat × Bool)) (h : s.quotaUse c ≤ s.quotaLimit c) :
    s.pushClass room c = s := by
  unfold State.pushClass
  exact if_neg (by omega)

theorem State.pushClass_moves {s : State} {c p d : Nat} {h : Bool} {room : List (Nat × Bool)}
    (hc : s.quotaLimit c < s.quotaUse c - s.leaving c) (hm : s.excessMove room c = some (p, d, h)) :
    s.pushClass room c = s.requestMove p d h := by
  unfold State.pushClass
  rw [if_pos hc, hm]

theorem quotaExcess_economy {s : State} (room : List (Nat × Bool)) (h : s.bel.econ = true) : quotaExcess room s = s.dropStages := by
  unfold quotaExcess
  dsimp only
  exact if_pos h

theorem quotaExcess_eq {s : State} (room : List (Nat × Bool)) (h : s.bel.econ = false) : quotaExcess room s =
    (((s.dropStages.pushClass room 0).pushClass room 1).pushClass room 2).pushClass room 3 := by
  unfold quotaExcess
  dsimp only
  have hrange : List.range 4 = [0, 1, 2, 3] := by decide
  rw [if_neg (show ¬s.bel.econ = true by simp [h]), hrange]
  exact (show List.foldl (State.pushClass room) s.dropStages [0, 1, 2, 3] = _ by simp only [List.foldl_cons, List.foldl_nil])

theorem quotaExcess_within {s : State} (room : List (Nat × Bool)) (h : ∀ c, c < 4 → s.dropStages.quotaUse c ≤ s.dropStages.quotaLimit c) :
    quotaExcess room s = s.dropStages := by
  by_cases he : s.bel.econ = true
  · exact quotaExcess_economy room he
  · rw [quotaExcess_eq room (by simpa using he), State.pushClass_within room (h 0 (by decide)), State.pushClass_within room (h 1 (by decide)),
      State.pushClass_within room (h 2 (by decide)), State.pushClass_within room (h 3 (by decide))]

/-! ## Frames retired (R262) -/

/-- The frames retired and the corrections counted. -/
def State.frameBook (s : State) : List Nat × List (Nat × List Nat) := (s.tier.retired, s.tier.corr)

theorem State.takeFrame_frameBook {s u : State} {p f : Nat} (h : s.takeFrame p = some (f, u)) : u.frameBook = s.frameBook := by
  unfold State.takeFrame at h
  split at h
  · cases h; rfl
  · cases h

theorem State.frameBook_modTier (s : State) {f : Tier → Tier} (h : ∀ t, ((f t).retired, (f t).corr) = (t.retired, t.corr)) :
    (s.modTier f).frameBook = s.frameBook := h s.tier

theorem State.frameBook_chargeHbm (s : State) (k n : Nat) : (s.chargeHbm k n).frameBook = s.frameBook := rfl

theorem State.frameBook_blankFrame (s : State) (f : Nat) : (s.blankFrame f).frameBook = s.frameBook :=
  State.frameBook_modTier s (by exact fun _ => rfl)

theorem State.frameBook_putFrame (s : State) (f : Nat) (b : List Byte) : (s.putFrame f b).frameBook = s.frameBook :=
  (State.frameBook_modTier (s.blankFrame f) (by exact fun _ => rfl)).trans (s.frameBook_blankFrame f)

theorem State.frameBook_copyFrame (s : State) (f g : Nat) : (s.copyFrame f g).frameBook = s.frameBook := by
  unfold State.copyFrame
  dsimp only
  refine (State.frameBook_modTier _ (by exact fun _ => rfl)).trans ?_
  exact (State.frameBook_putFrame _ _ _).trans ((State.frameBook_chargeHbm _ _ _).trans (State.frameBook_chargeHbm _ _ _))

/-- A frame on its way out: never used again, and its corrections forgotten. -/
def State.shelved (s : State) (f : Nat) : State :=
  s.modTier fun t => { t with
    retired := t.retired ++ [f], corr := mapErase t.corr f,
    ecc := mapPut t.ecc (f / framesPerStack) (let e := mapGet ⟨0, 0, 0⟩ t.ecc (f / framesPerStack); { e with retired := e.retired + 1 }) }

theorem State.frameBook_fresh {s u : State} {stack v g : Nat}
    (h : (match s.freeFrameIn stack with
      | some g => some (g, { s with freeCtr := s.freeCtr + 1 })
      | none => s.takeFrame v) = some (g, u)) : u.frameBook = s.frameBook := by
  split at h
  · cases h; rfl
  · exact State.takeFrame_frameBook h

theorem State.frameBook_retireFrame (s : State) (f : Nat) : (s.retireFrame f).frameBook = (s.shelved f).frameBook := by
  unfold State.retireFrame
  dsimp only
  rw [State.frameBook, raise_tier]
  split
  · split
    · rfl
    · next h =>
      refine (State.frameBook_modTier _ (by exact fun _ => rfl)).trans ?_
      exact (State.frameBook_copyFrame _ _ _).trans (State.frameBook_fresh h)
  · split
    · rfl
    · next h =>
      refine (State.frameBook_modTier _ (by exact fun _ => rfl)).trans ?_
      exact (State.frameBook_copyFrame _ _ _).trans (State.frameBook_fresh h)
  · rfl

theorem State.retireFrame_retires (s : State) (f : Nat) :
    f ∈ (s.retireFrame f).tier.retired ∧ mapFind (s.retireFrame f).tier.corr f = none := by
  obtain ⟨hr, hc⟩ := Prod.ext_iff.1 (s.frameBook_retireFrame f)
  exact ⟨(congrArg (f ∈ ·) hr).mpr (by simp [State.frameBook, State.shelved, State.modTier]),
    (congrArg (mapFind · f) hc).trans (mapFind_mapErase_same _ _)⟩

end Sys2Proof.Machine
end

section
/-! SUPPORT. The obligation on moves, heat, quotas and retirement (R66, R237, R243, R246 to R249, R261, R262, R265, R266). -/

namespace Sys2Proof.Machine

/-- What an equal book of pages says of a directory entry, a grant, HBM and translation. -/
theorem State.pageBook_ext {s t : State} (h : t.pageBook = s.pageBook) :
    t.tier.dir = s.tier.dir ∧ t.tier.grants = s.tier.grants ∧ t.tier.hbm = s.tier.hbm ∧ t.tier.xlate = s.tier.xlate := by
  simpa [State.pageBook] using h

theorem moveRequest_here {s : State} {p : Nat} (h : s.dirAt p = s.modNo) (by_ source dest : Nat) (toHost : Bool) (owner : Nat)
    (accepts : Bool) (g : Option (Nat × Nat)) :
    moveRequest by_ p source dest toHost owner accepts g s = s.askMove p by_ dest toHost accepts := if_pos h

theorem moveRequest_away {s : State} {p : Nat} (h : s.dirAt p ≠ s.modNo) (by_ source dest : Nat) (toHost : Bool) (owner : Nat)
    (accepts : Bool) (g : Option (Nat × Nat)) :
    moveRequest by_ p source dest toHost owner accepts g s =
      (g.map fun g => s.moveGranted p source dest toHost g.1 owner g.2).getD s := by
  unfold moveRequest
  rw [if_neg h]
  cases g <;> rfl

/-- A grant at the directory, as the row leaves it. -/
theorem exec_moveRequest_grants {s : State} {by_ source dest owner : ModId} {p : BitVec 36} {host a : Bool}
    {g : Option (BitVec 48 × BitVec 4)} {e : DEntry} (hd : s.dirAt p.toNat = s.modNo) (he : mapFind s.tier.dir p.toNat = some e)
    (ha : (s.moveAllowed e && s.destAccepts e.owner dest.toNat host a) = true) : ∃ t,
    exec (.moveRequest by_ p source dest host owner a g) s = .next t ∧
      mapFind t.tier.dir p.toNat = some { e with moving := true } ∧
      mapFind t.tier.grants p.toNat = some (dest.toNat + (if host = true then 2 ^ 12 else 0), s.bel.frame) ∧
      t.tier.hbm = s.tier.hbm ∧ t.tier.xlate = s.tier.xlate := by
  obtain ⟨hdir, hgr, hh, hx⟩ := State.pageBook_ext (State.askMove_grants (by_ := by_.toNat) he ha)
  refine ⟨s.settle (s.askMove p.toNat by_.toNat dest.toNat host a), by rw [exec_moveRequest, moveRequest_here hd], ?_⟩
  rw [State.settle_tier, hdir, hgr, hh, hx]
  exact ⟨mapFind_mapPut_same _ _ _, mapFind_mapPut_same _ _ _, rfl, rfl⟩

/-- Settles O45: each clause is one of the laws above of the row that it is about. -/
theorem pagesMove : Obligations.PagesMove := by
  unfold Obligations.PagesMove
  intro s
  refine ⟨fun by_ source dest owner p host a g e hd he => ⟨fun ha hb => ?refuses, exec_moveRequest_grants hd he⟩,
    fun by_ source dest owner p host a hd => ⟨?ungranted, fun g => ?granted⟩, fun src p i bytes bad tag m hm hs hb => ?piece,
    fun p => ⟨fun m e hm hx => ⟨fun hr => ?waits, fun hr hd => ?flipOut⟩, fun m ho hm => ⟨fun hc hg h64 => ?flipIn, fun h => ?keeps⟩,
      fun x hx => ⟨fun h => ?expires, fun h => ?stands⟩, fun g hg => ⟨fun h => ?early, fun h hc => ?abandons⟩⟩,
    fun room => ⟨fun h => ?between, fun hf hc he ht => ?epoch⟩, fun room h => ?within, fun room he => ?economy,
    fun p h0 h4 hp => State.dropStages_one h0 h4 hp, fun p room _ h0 h4 hp h => ?oneStage, fun p d h room hc hst he hm hq => ?push,
    fun f => ⟨fun h => ?absent, fun h hn => ?notYet, fun h h16 hc => ?retires⟩⟩
  case refuses => rw [exec_moveRequest, moveRequest_here hd, State.askMove_refuses he ha hb]
  case ungranted => rw [exec_moveRequest, moveRequest_away hd]; rfl
  case granted => rw [exec_moveRequest, moveRequest_away hd]; rfl
  case piece =>
    obtain ⟨t, ht, hhbm, hhost, hbad, hout, hx⟩ :=
      movePiece_lands (tag := tag.toNat) (bad := bad.map BitVec.toNat) hm hs i.isLt hb
    refine ⟨t, by rw [exec_movePiece, ht], hhbm, hhost, fun hn w hw => hbad hn _ (List.mem_map_of_mem hw), hout, hx⟩
  case waits => rw [exec_pageFlip, pageFlip_out hm hx, if_neg (by simp [hr])]
  case flipOut =>
    refine ⟨_, (exec_pageFlip p s).trans (by rw [pageFlip_out hm hx, if_pos hr]), ?_⟩
    obtain ⟨d, g, hf⟩ := s.flipDir_frame p.toNat
    rw [State.settle_tier, hf]
    exact State.flipOut_away hd
  case flipIn =>
    refine ⟨_, (exec_pageFlip p s).trans (by rw [pageFlip_in ho hm, if_pos hc, if_pos ⟨hg, h64⟩]), ?_⟩
    obtain ⟨d, g, hf⟩ := s.flipDir_frame p.toNat
    rw [State.settle_tier, hf]
    exact State.flipIn_takes _ p.toNat m
  case keeps =>
    rw [exec_pageFlip, pageFlip_in ho hm]
    split
    · rw [if_neg (by omega)]
    · rfl
  case expires => rw [exec_signpostExpire, signpostExpire_eq hx, if_pos h]
  case stands => rw [exec_signpostExpire, signpostExpire_eq hx, if_neg (by omega)]
  case early => rw [exec_moveAbandon, moveAbandon_eq hg, if_neg (by omega)]
  case abandons =>
    refine ⟨_, (exec_moveAbandon p s).trans (by rw [moveAbandon_eq hg, if_pos ⟨h, hc⟩]), ?_⟩
    obtain ⟨hgrant, hdir, hx, hh⟩ := s.endMove_ends p.toNat
    rw [State.settle_tier]
    exact ⟨(by simpa only [State.grantTick, State.settle_tier] using hgrant), hdir, hx, hh⟩
  case between => rw [exec_epochEnd, epochEnd_between _ h]
  case epoch =>
    obtain ⟨x, hx⟩ := epochEnd_economy (room.map fun d => (d.1.toNat, d.2)) hf hc he ht
    refine ⟨_, exec_epochEnd room s, ?_⟩
    rw [hx, State.settle_quiet (by rfl)]
    exact ⟨rfl, rfl, rfl⟩
  case within =>
    have hd := State.dropStages_within (h 0 (by decide)) (h 4 (by decide))
    rw [exec_quotaExcessPush, quotaExcess_within _ (by rw [hd]; exact fun c hc => h c (by omega)), hd]
  case economy => rw [exec_quotaExcessPush, quotaExcess_economy _ he]
  case oneStage =>
    have hd := State.dropStages_one h0 h4 hp
    rw [exec_quotaExcessPush, quotaExcess_within _ (by rw [hd]; exact h), hd]
  case push =>
    rw [exec_quotaExcessPush, quotaExcess_eq _ he, State.dropStages_none hst, State.pushClass_moves hc hm,
      State.pushClass_within _ (hq 0 (by decide)), State.pushClass_within _ (hq 1 (by decide)), State.pushClass_within _ (hq 2 (by decide))]
  case absent =>
    rw [exec_frameRetirement, frameRetirement, if_pos h]
    rfl
  case notYet =>
    rw [exec_frameRetirement, frameRetirement, if_neg (by omega), if_neg (by omega)]
    rfl
  case retires =>
    rw [exec_frameRetirement, frameRetirement, if_neg (by omega), if_pos ⟨hc, h16⟩]
    refine ⟨_, rfl, ?_⟩
    rw [State.settle_tier]
    exact s.retireFrame_retires f.toNat

end Sys2Proof.Machine
end

section
/-! SUPPORT. Membership of rings, the bell root and the taking of rings (R52, R276, R278, R281, R284). -/

namespace Sys2Proof.Machine

/-! ## The rows -/

theorem exec_membership (at_ : ModId) (dim : Fin 3) (live : W32) (s : State) :
    exec (.membership at_ dim live) s = .next (s.settle (membership at_ dim live s)) := rfl

theorem exec_ringTakeover (s : State) : exec .ringTakeover s = .next (s.settle (ringTakeover s)) := rfl

/-! ## The live set of a ring (R278) -/

/-- No module stands at two coordinates of a ring. -/
theorem Position.number_withCoord_inj {p : Position} {c : Nat × Nat × Nat} {d v w : Nat} (hp : 0 < p.shapeX * p.shapeY)
    (h : p.number (withCoord c d v).1 (withCoord c d v).2.1 (withCoord c d v).2.2 =
      p.number (withCoord c d w).1 (withCoord c d w).2.1 (withCoord c d w).2.2) : v = w := by
  have hx : 0 < p.shapeX := Nat.pos_of_mul_pos_right hp
  unfold Position.number at h
  match d with
  | 0 => simpa [withCoord] using h
  | 1 => simpa [withCoord, Nat.ne_of_gt hx] using h
  | d + 2 =>
    have hy : p.shapeY ≠ 0 := by rintro h0; simp [h0] at hp
    simpa [withCoord, Nat.ne_of_gt hx, hy] using h

theorem State.ringOf_inj {s : State} {at_ d c c' m : Nat} (hm : 0 < s.modCount) (h : (c, m) ∈ s.ringOf at_ d)
    (h' : (c', m) ∈ s.ringOf at_ d) : c = c' := by
  have hp : 0 < s.position.shapeX * s.position.shapeY := Nat.pos_of_mul_pos_right hm
  unfold State.ringOf at h h'
  obtain ⟨v, -, hv⟩ := List.mem_map.1 h
  obtain ⟨w, -, hw⟩ := List.mem_map.1 h'
  obtain ⟨rfl, hv⟩ := Prod.ext_iff.1 hv
  obtain ⟨rfl, hw⟩ := Prod.ext_iff.1 hw
  exact Position.number_withCoord_inj hp (hv.trans hw.symm)

/-- The modules of a ring that a MEMBERSHIP message has live. -/
def ringUp (ring : List (Nat × Nat)) (live : W32) : List Nat := (ring.filter fun m => live.getLsbD m.1).map Prod.snd

/-- Those that it newly has lost. -/
def State.ringLost (s : State) (ring : List (Nat × Nat)) (live : W32) : List Nat :=
  (ring.filter fun m => !live.getLsbD m.1 && !s.fab.dead.contains m.2 && m.2 != s.modNo).map Prod.snd

/-- The fabric's sets after a MEMBERSHIP message, before the losses are logged. -/
def State.ringHeard (s : State) (at_ : ModId) (dim : Nat) (live : W32) : State :=
  let ring := s.ringOf at_.toNat dim
  let dead := ((s.fab.dead.filter fun m => !(ringUp ring live).contains m) ++ s.ringLost ring live).mergeSort fun a b => decide (a ≤ b)
  let mine := ring.any fun m => m.2 == s.modNo
  let coords := (ring.filter fun m => live.getLsbD m.1).map Prod.fst
  let heard := if coords.contains (coordOf (s.position.coord s.modNo) dim) then (s.fab.heard ++ [dim]).eraseDups
    else s.fab.heard.erase dim
  { s with fab := { s.fab with dead := dead, live := if mine then mapPut s.fab.live dim coords else s.fab.live,
                               heard := if mine then heard else s.fab.heard } }

theorem membership_eq {at_ : ModId} {s : State} (h : at_.toNat < s.modCount) (dim : Fin 3) (live : W32) : membership at_ dim live s =
    (((s.ringLost (s.ringOf at_.toNat dim.val) live).foldl (fun s m => raise cPeerLost 0 m 0 s)
      (s.ringHeard at_ dim.val live)).chooseRoot).ringMended dim.val := if_neg (by omega)

theorem State.ringHeard_dead {s : State} {at_ : ModId} {dim c m : Nat} {live : W32} (hm : 0 < s.modCount)
    (h : (c, m) ∈ s.ringOf at_.toNat dim) (hn : m ≠ s.modNo) :
    m ∈ (s.ringHeard at_ dim live).fab.dead ↔ live.getLsbD c = false := by
  have hup : m ∈ ringUp (s.ringOf at_.toNat dim) live ↔ live.getLsbD c = true := by
    simp only [ringUp, List.mem_map, List.mem_filter]
    refine ⟨?_, fun hc => ⟨(c, m), ⟨h, hc⟩, rfl⟩⟩
    rintro ⟨⟨c', m'⟩, ⟨h', hc⟩, rfl⟩
    exact State.ringOf_inj hm h h' ▸ hc
  have hlost : m ∈ s.ringLost (s.ringOf at_.toNat dim) live ↔ live.getLsbD c = false ∧ m ∉ s.fab.dead := by
    simp only [State.ringLost, List.mem_map, List.mem_filter, Bool.and_eq_true, Bool.not_eq_true', bne_iff_ne, ne_eq]
    refine ⟨?_, fun ⟨hc, hd⟩ => ⟨(c, m), ⟨h, ⟨hc, by simpa using hd⟩, hn⟩, rfl⟩⟩
    rintro ⟨⟨c', m'⟩, ⟨h', ⟨hc, hd⟩, -⟩, rfl⟩
    exact ⟨State.ringOf_inj hm h h' ▸ hc, by simpa using hd⟩
  unfold State.ringHeard
  simp only [List.mem_mergeSort, List.mem_append, List.mem_filter, hlost, Bool.not_eq_true', List.contains_eq_mem, decide_eq_false_iff_not, hup,
    Bool.not_eq_true]
  tauto

/-- Losses that are logged leave the fabric and the cores. -/
theorem raiseLost_keeps (l : List Nat) (s : State) :
    (l.foldl (fun s m => raise cPeerLost 0 m 0 s) s).fab = s.fab ∧ (l.foldl (fun s m => raise cPeerLost 0 m 0 s) s).cores = s.cores :=
  ⟨foldl_keeps (f := fun s m => raise cPeerLost 0 m 0 s) State.fab (fun s m => raise_fab cPeerLost 0 m 0 s) l s,
    foldl_keeps (f := fun s m => raise cPeerLost 0 m 0 s) State.cores (fun s m => raise_cores cPeerLost 0 m 0 s) l s⟩

theorem membership_sets {s : State} {at_ : ModId} (h : at_.toNat < s.modCount) (dim : Fin 3) (live : W32) : ∃ u : State,
    exec (.membership at_ dim live) s = .next (s.settle (u.chooseRoot.ringMended dim.val)) ∧ u.position = s.position ∧ u.cores = s.cores ∧
    ∀ c m, (c, m) ∈ s.ringOf at_.toNat dim.val → m ≠ s.modNo → (m ∈ u.fab.dead ↔ live.getLsbD c = false) := by
  obtain ⟨hfab, hcores⟩ := raiseLost_keeps (s.ringLost (s.ringOf at_.toNat dim.val) live) (s.ringHeard at_ dim.val live)
  refine ⟨_, by rw [exec_membership, membership_eq h], (congrArg (fun f : Fab => f.pos.getD ⟨1, 1, 1, 0, 0, 0⟩) hfab).trans rfl, hcores.trans rfl, fun c m hc hn => ?_⟩
  rw [hfab]
  exact State.ringHeard_dead (by omega) hc hn

/-! ## The bell root (R52, R281) -/

/-- The live module of lowest number. -/
theorem State.lowest_iff {s : State} {r : Nat} : (List.range s.modCount).find? (fun n => s.isLive n) = some r ↔
    s.isLive r = true ∧ ∀ k, k < r → s.isLive k = false := by
  have hlt : s.isLive r = true → r < s.modCount := fun h => by simp [State.isLive] at h; exact h.1
  rw [List.find?_range_eq_some]
  simp only [List.mem_range, Bool.not_eq_true']
  exact ⟨fun ⟨h, _, hk⟩ => ⟨h, hk⟩, fun ⟨h, hk⟩ => ⟨h, hlt h, hk⟩⟩

theorem State.chooseRoot_self {s : State} (h : ∀ m, m < s.modNo → s.isLive m = false) (hl : s.isLive s.modNo = true) :
    s.chooseRoot = if !s.setsAgree then s else { s with bel := { s.bel with
      root := true, upPort := 7
      lastReq := if s.bel.lastReq.isNone && (s.bel.half || s.bel.annPace.any Prod.fst) then some s.bel.frame else s.bel.lastReq } } := by
  unfold State.chooseRoot
  rw [State.lowest_iff.2 ⟨hl, h⟩]
  exact if_pos rfl

theorem State.chooseRoot_other {s : State} {r : Nat} (h : ∀ k, k < r → s.isLive k = false) (hl : s.isLive r = true) (hr : r ≠ s.modNo) :
    s.chooseRoot.bel.root = false ∧ s.chooseRoot.bel.frame = s.bel.frame ∧ s.chooseRoot.bel.upPort = (s.route r).getD 7 := by
  unfold State.chooseRoot
  rw [State.lowest_iff.2 ⟨hl, h⟩]
  dsimp only
  rw [if_neg hr]
  exact ⟨rfl, rfl, rfl⟩

theorem State.chooseRoot_fab (s : State) : s.chooseRoot.fab = s.fab := by
  unfold State.chooseRoot
  split
  · rfl
  · split
    · split <;> rfl
    · rfl

theorem State.chooseRoot_port (s : State) (i : Nat) : s.chooseRoot.port i = s.port i := by
  rw [State.port, State.chooseRoot_fab]
  rfl

/-- Below a live module stands the live module of lowest number. -/
theorem State.exists_lowest {s : State} {m : Nat} (hl : s.isLive m = true) :
    ∃ r, r ≤ m ∧ s.isLive r = true ∧ ∀ k, k < r → s.isLive k = false := by
  have hex : ∃ n, s.isLive n = true := ⟨m, hl⟩
  exact ⟨Nat.find hex, Nat.find_min' hex hl, Nat.find_spec hex, fun k hk => by simpa using Nat.find_min hex hk⟩

/-! ## Taking the rings (R276, R284) -/

theorem ringTakeover_takes {s : State} (hb : s.inBypass = true) (hup : s.pwr.up = false) (hd : s.pwr.dieReset = false)
    (hf : s.pwr.failed = false) (hdom : s.pwr.domain = .running) (hm : s.reeve.mode ≠ .recovery) (hs : s.rec0.stopping = false)
    (h : (s.bel.state ≠ .free ∧ s.bel.peerRun = false) ∨ 64 ≤ s.bel.markless) : ringTakeover s = s.takeRings := by
  unfold ringTakeover
  rw [if_neg (by simp [hb, hup, hd, hf, hdom, hm, hs]), if_pos h]

theorem ringTakeover_stays {s : State} (h : s.inBypass = false ∨ s.pwr.up = true ∨ s.reeve.mode = .recovery ∨
    (s.bel.peerRun = true ∧ s.bel.markless < 64)) : ringTakeover s = s := by
  unfold ringTakeover
  rcases h with hb | hup | hm | ⟨hp, hl⟩
  · exact if_pos (by simp [hb])
  · exact if_pos (by simp [hup])
  · exact if_pos (by simp [hm])
  · split
    · rfl
    · exact if_neg (by simp [hp, hl])

/-- What the die makes of one port when it takes its rings. -/
def State.takePort (p : Position) (s : State) (i : Nat) : State :=
  if p.size (i / 2) = 1 then s.setPort i { s.port i with bypass := false, state := .unused, width := 0 }
  else (s.setPort i { (s.port i).freshLink with bypass := false, state := .train, width := 0 }).sendTrain i

theorem State.port_setPort_same (s : State) (i : Nat) (x : PortReg) : (s.setPort i x).port i = x := mapGet_mapPut_same _ _ _ _

theorem State.port_setPort_other (s : State) {i j : Nat} (x : PortReg) (h : i ≠ j) : (s.setPort i x).port j = s.port j :=
  mapGet_mapPut_other _ _ _ h

theorem State.takePort_same (p : Position) (s : State) (i : Nat) : ((s.takePort p i).port i).bypass = false ∧
    ((s.takePort p i).port i).state = if p.size (i / 2) = 1 then .unused else .train := by
  unfold State.takePort
  split
  · rw [State.port_setPort_same]
    exact ⟨rfl, rfl⟩
  · rw [show ∀ u : State, (u.sendTrain i).port i = u.port i from fun _ => rfl, State.port_setPort_same]
    exact ⟨rfl, rfl⟩

theorem State.takePort_other (p : Position) (s : State) {i j : Nat} (h : i ≠ j) : (s.takePort p i).port j = s.port j := by
  unfold State.takePort
  split
  · exact s.port_setPort_other _ h
  · exact s.port_setPort_other _ h

/-- Each port that is taken passes; it is unused in a dimension of size 1 and trains otherwise. -/
theorem State.takePorts (p : Position) (l : List Nat) {i : Nat} (h : i ∈ l) (s : State) :
    ((l.foldl (State.takePort p) s).port i).bypass = false ∧
      ((l.foldl (State.takePort p) s).port i).state = if p.size (i / 2) = 1 then .unused else .train := by
  induction l generalizing s with
  | nil => cases h
  | cons a t ih =>
    rw [List.foldl_cons]
    by_cases ht : i ∈ t
    · exact ih ht _
    · obtain rfl : i = a := by simpa [ht] using h
      have hkeep : ∀ (t : List Nat), i ∉ t → ∀ u : State, (t.foldl (State.takePort p) u).port i = u.port i := by
        intro t ht
        induction t with
        | nil => exact fun u => rfl
        | cons b t iht =>
          obtain ⟨hb, ht⟩ := not_or.1 (mt List.mem_cons.2 ht)
          exact fun u => (iht ht _).trans (State.takePort_other p u (Ne.symm hb))
      rw [hkeep t ht]
      exact State.takePort_same p s i

theorem State.takeRings_port (s : State) (i : Nat) :
    s.takeRings.port i = ((List.range 6).foldl (State.takePort s.position) s).port i := by
  unfold State.takeRings
  dsimp only
  split
  · exact (State.chooseRoot_port _ i).trans rfl
  · rfl

end Sys2Proof.Machine
end

section
/-! SUPPORT. Data that arrives: XSEND and PASS at their page, partials in staging, and what a stopped module discards; and the obligation
on membership and arriving data (R252, R289, R293, R296, R468). -/

namespace Sys2Proof.Machine

theorem exec_xsendData (src : ModId) (va : VA) (bytes : List Byte) (tag : W32) (pass : Option (CoreId × ScReg × BitVec 16)) (s : State) :
    exec (.xsendData src va bytes tag pass) s = .next (s.settle (xsendData src.toNat va.toNat bytes tag.toNat
      (pass.map fun p => (p.1.toNat, p.2.1.toNat, p.2.2.toNat)) s)) := rfl

theorem exec_collPartial (src : ModId) (coll chunk : BitVec 16) (lo n : W32) (bytes : List Byte) (tag : W32) (s : State) :
    exec (.collPartial src coll chunk lo n bytes tag) s =
      .next (s.settle (collPartial src.toNat ⟨coll.toNat, chunk.toNat, lo.toNat, n.toNat⟩ bytes tag.toNat s)) := rfl

/-! ## One page, known and written here -/

/-- Data within a page is one piece. -/
theorem piecesOf_one {va n : Nat} (h0 : n ≠ 0) (h : va % pageBytes + n ≤ pageBytes) : piecesOf va n = [(va, n)] := by
  unfold piecesOf pieces
  rw [if_neg h0]
  exact if_pos (by omega)

theorem State.lookFor_entry {s : State} {p : Nat} {e : XEntry} (who : Requester) (h0 : p ≠ 0) (hp : p < 2 ^ 36)
    (hx : mapFind s.tier.xlate p = some e) : s.lookFor who p = .entry e := by
  have hl : s.look p = .entry e := by
    unfold State.look
    rw [if_neg (by omega)]
    simp [hx]
  simp [State.lookFor, hl]

/-- A page of this module's HBM that may be written. -/
structure State.WritesHere (s : State) (va : VA) (bytes : List Byte) (e : XEntry) : Prop where
  nonzero : va.toNat / pageBytes ≠ 0
  within : va.toNat % pageBytes + bytes.length ≤ pageBytes
  nonempty : bytes ≠ []
  entry : mapFind s.tier.xlate (va.toNat / pageBytes) = some e
  hbm : e.tier = .local
  writable : e.w = true
  data : va.toNat / pageBytes ∉ s.tier.codePages

section
variable {s : State} {va : VA} {bytes : List Byte} {e : XEntry} (h : s.WritesHere va bytes e) (who : Requester)
include h

theorem State.WritesHere.pieces : piecesOf va.toNat bytes.length = [(va.toNat, bytes.length)] :=
  piecesOf_one (by simpa using h.nonempty) h.within

theorem State.WritesHere.look : s.lookFor who (va.toNat / pageBytes) = .entry e :=
  State.lookFor_entry who h.nonzero (vpn_lt va) h.entry

theorem State.WritesHere.refuses : s.refuses who va.toNat bytes.length = none := by
  simp [State.refuses, h.pieces, h.look who, h.writable, h.data]

theorem State.WritesHere.known : s.unknownPages who va.toNat bytes.length = [] := by
  simp [State.unknownPages, h.pieces, h.look who]

theorem State.WritesHere.writePiece : s.writePiece who va.toNat bytes =
    if mapGet [] s.tier.holders (va.toNat / pageBytes) = [] then .ok 0 (s.applyAtHome e va.toNat bytes)
    else .ok 1 (s.holdWrite who va.toNat bytes) := by
  unfold State.writePiece
  simp only [h.look who, h.entry, Option.isSome_some, if_true, h.writable, h.hbm]
  rw [if_neg (by simp [h.data])]
  cases mapGet [] s.tier.holders (va.toNat / pageBytes) <;> rfl

/-- The data stands in the page, or waits there for the holders. -/
theorem State.WritesHere.writeData : s.writeData who (piecesOf va.toNat bytes.length) bytes =
    (none, if mapGet [] s.tier.holders (va.toNat / pageBytes) = [] then s.applyAtHome e va.toNat bytes
      else s.holdWrite who va.toNat bytes) := by
  rw [h.pieces]
  unfold State.writeData
  simp only [List.take_length, h.writePiece who]
  split
  · next hk => split at hk <;> cases hk <;> simp [State.writeData, *]
  · next hk => split at hk <;> cases hk
  · next hk => split at hk <;> cases hk

end

/-! ## When every byte is visible (R289, R296) -/

theorem State.bulkDone_waits {s : State} {m tag : Nat} {w : HeldWriteAt} (h : w ∈ s.tier.writes) (hw : w.who = .bulk m tag) :
    s.bulkDone m tag = s := by
  unfold State.bulkDone
  refine if_pos ?_
  rw [Bool.or_eq_true, List.any_eq_true]
  exact .inl ⟨w, h, by simp [hw]⟩

theorem State.bulkDone_ends {s : State} {m tag : Nat} {aux : Option (Nat × Nat × Nat)} {l : List (Nat × Nat × Option (Nat × Nat × Nat))}
    (hw : ∀ w ∈ s.tier.writes, w.who ≠ .bulk m tag) (ho : ∀ w ∈ s.tier.writesOut, w.who ≠ .bulk m tag)
    (hl : ∀ b ∈ l, b.1 ≠ m ∨ b.2.1 ≠ tag) (hm : m ≠ s.modNo) :
    (s.modTier fun t => { t with bulks := l ++ [(m, tag, aux)] }).bulkDone m tag =
      ((s.modTier fun t => { t with bulks := l }).passAdd aux).send (.bulkAck m tag) := by
  have hnone : l.find? (fun b => b.1 == m && b.2.1 == tag) = none := by
    simpa [List.find?_eq_none, ← imp_iff_not_or] using hl
  have hmem : (m, tag, aux) ∉ l := fun h => by simpa using hl _ h
  unfold State.bulkDone
  have hfalse : ((s.modTier fun t => { t with bulks := l ++ [(m, tag, aux)] }).tier.writes.any (fun w => w.who == .bulk m tag) ||
      (s.modTier fun t => { t with bulks := l ++ [(m, tag, aux)] }).tier.writesOut.any fun w => w.who == .bulk m tag) = false := by
    rw [Bool.or_eq_false_iff]
    exact ⟨by simpa [State.modTier] using hw, by simpa [State.modTier] using ho⟩
  dsimp only
  rw [hfalse, if_neg (by simp)]
  have hfind : (s.modTier fun t => { t with bulks := l ++ [(m, tag, aux)] }).tier.bulks.find? (fun b => b.1 == m && b.2.1 == tag) =
      some (m, tag, aux) := by simp [State.modTier, List.find?_append, hnone]
  rw [hfind]
  dsimp only
  have herase : (l ++ [(m, tag, aux)]).erase (m, tag, aux) = l := by
    rw [List.erase_append_right _ hmem]
    simp
  have hm' : m ≠ (s.modTier fun t => { t with bulks := l ++ [(m, tag, aux)] }).modNo := hm
  rw [if_neg hm']
  simp only [State.modTier, herase]

/-- What writes wait at a home, what bulk messages, and what this module's own writes are out. -/
def State.writeBook (s : State) : List HeldWriteAt × List (Nat × Nat × Option (Nat × Nat × Nat)) × List WriteOut :=
  (s.tier.writes, s.tier.bulks, s.tier.writesOut)

theorem State.writeBook_addHeat (s : State) (p n : Nat) : (s.addHeat p n).writeBook = s.writeBook := by
  unfold State.addHeat
  dsimp only
  split <;> rfl

theorem State.writeBook_storeBytes (s : State) (e : XEntry) (va : Nat) (b : List Byte) : (s.storeBytes e va b).writeBook = s.writeBook := by
  unfold State.storeBytes
  split <;> rfl

theorem State.forwardWrite_out (s : State) (va : Nat) (b : List Byte) : (s.forwardWrite va b).tier.writes = s.tier.writes ∧
    (s.forwardWrite va b).tier.bulks = s.tier.bulks ∧
    ∀ w ∈ (s.forwardWrite va b).tier.writesOut, w ∈ s.tier.writesOut ∨ w.who = .own (va / pageBytes) := by
  unfold State.forwardWrite
  split
  · split
    · exact ⟨rfl, rfl, fun w hw => .inl hw⟩
    · refine ⟨rfl, rfl, fun w hw => ?_⟩
      rcases List.mem_append.1 hw with hw | hw
      · exact .inl hw
      · exact .inr (by rw [List.mem_singleton.1 hw])
  · exact ⟨rfl, rfl, fun w hw => .inl hw⟩

/-- A write at the home leaves what waits, and adds at most a write of the module's own to what is out. -/
theorem State.applyAtHome_out (s : State) (e : XEntry) (va : Nat) (b : List Byte) : (s.applyAtHome e va b).tier.writes = s.tier.writes ∧
    (s.applyAtHome e va b).tier.bulks = s.tier.bulks ∧
    ∀ w ∈ (s.applyAtHome e va b).tier.writesOut, w ∈ s.tier.writesOut ∨ w.who = .own (va / pageBytes) := by
  have hbook := (State.writeBook_storeBytes (s.addHeat (va / pageBytes) b.length) e va b).trans (s.writeBook_addHeat _ _)
  simp only [State.writeBook, Prod.mk.injEq] at hbook
  obtain ⟨hwrites, hbulks, hout⟩ := hbook
  obtain ⟨hw, hb, ho⟩ := State.forwardWrite_out ((s.addHeat (va / pageBytes) b.length).storeBytes e va b) va b
  rw [State.applyAtHome_eq]
  exact ⟨hw.trans hwrites, hb.trans hbulks, fun w hmem => hout ▸ ho w hmem⟩

/-! ## The rows for data (R252, R289, R293, R296, R468) -/

theorem xsendData_stopped {s : State} (h : s.rec0.stopped = true) (src va tag : Nat) (bytes : List Byte) (aux : Option (Nat × Nat × Nat)) :
    xsendData src va bytes tag aux s = s := by
  unfold xsendData
  exact if_pos h

theorem State.WritesHere.xsendData {s : State} {va : VA} {bytes : List Byte} {e : XEntry} (h : s.WritesHere va bytes e)
    (hs : s.rec0.stopped = false) (src tag : Nat) (aux : Option (Nat × Nat × Nat)) :
    xsendData src va.toNat bytes tag aux s = State.bulkDone (State.modTier
      (if mapGet [] s.tier.holders (va.toNat / pageBytes) = [] then s.applyAtHome e va.toNat bytes
        else s.holdWrite (.bulk src tag) va.toNat bytes)
      fun t => { t with bulks := t.bulks ++ [(src, tag, aux)] }) src tag := by
  unfold Machine.xsendData
  dsimp only
  rw [if_neg (by simp [hs]), h.refuses, h.known]
  dsimp only
  unfold State.takeData
  rw [h.writeData]

/-- Data for a page that is not lent stands there at once (R289, R296). -/
theorem State.WritesHere.xsendData_unlent {s : State} {va : VA} {bytes : List Byte} {e : XEntry} (h : s.WritesHere va bytes e)
    (hs : s.rec0.stopped = false) {src tag : Nat} (hsrc : src ≠ s.modNo) (hh : mapGet [] s.tier.holders (va.toNat / pageBytes) = [])
    (hw : ∀ w ∈ s.tier.writes, w.who ≠ .bulk src tag) (ho : ∀ w ∈ s.tier.writesOut, w.who ≠ .bulk src tag)
    (hb : ∀ b ∈ s.tier.bulks, b.1 ≠ src ∨ b.2.1 ≠ tag) (aux : Option (Nat × Nat × Nat)) :
    Machine.xsendData src va.toNat bytes tag aux s =
      ((s.applyAtHome e va.toNat bytes).passAdd aux).send (.bulkAck src tag) := by
  obtain ⟨hwrites, hbulks, hout⟩ := s.applyAtHome_out e va.toNat bytes
  have hno : (s.applyAtHome e va.toNat bytes).modNo = s.modNo := (s.accessed_applyAtHome e va.toNat bytes).keeps State.modNo fun _ _ _ _ _ _ => rfl
  rw [h.xsendData hs, if_pos hh]
  refine (State.bulkDone_ends (l := (s.applyAtHome e va.toNat bytes).tier.bulks) ?_ ?_ ?_ (hno ▸ hsrc)).trans rfl
  · rwa [hwrites]
  · intro w hmem
    rcases hout w hmem with hm | hm
    · exact ho w hm
    · rw [hm]; exact Requester.noConfusion
  · rwa [hbulks]

theorem State.holdWrite_waits (s : State) (who : Requester) (va : Nat) (bytes : List Byte) :
    ∃ w ∈ (s.holdWrite who va bytes).tier.writes, w.who = who :=
  ⟨_, List.mem_append_right _ (List.mem_singleton.2 rfl), rfl⟩

/-- Data for a lent page waits for the holders (R252). -/
theorem State.WritesHere.xsendData_lent {s : State} {va : VA} {bytes : List Byte} {e : XEntry} (h : s.WritesHere va bytes e)
    (hs : s.rec0.stopped = false) (src tag : Nat) (hh : mapGet [] s.tier.holders (va.toNat / pageBytes) ≠ [])
    (aux : Option (Nat × Nat × Nat)) : Machine.xsendData src va.toNat bytes tag aux s =
      (s.holdWrite (.bulk src tag) va.toNat bytes).modTier fun t => { t with bulks := t.bulks ++ [(src, tag, aux)] } := by
  obtain ⟨w, hmem, hw⟩ := s.holdWrite_waits (.bulk src tag) va.toNat bytes
  rw [h.xsendData hs, if_neg hh]
  exact State.bulkDone_waits (w := w) hmem hw

theorem State.passAdd_counter (s : State) (c : CoreId) (n : ScReg) (v : BitVec 16) :
    ((s.passAdd (some (c.toNat, n.toNat, v.toNat))).core c).counter n = (s.core c).counter n + v := by
  unfold State.passAdd
  simp only [BitVec.ofNat_toNat, BitVec.setWidth_eq]
  rw [State.core_modCore_same, Core.counter_addCounter_same]

theorem collPartial_staged {s : State} {src tag : Nat} {key : PartKey} {bytes : List Byte} (hs : s.rec0.stopped = false)
    (hr : s.stagedBytes + bytes.length ≤ 2 ^ 28) : collPartial src key bytes tag s =
    (State.send { s with fab := { s.fab with staging := s.fab.staging ++ [⟨key, some src, bytes, none⟩] } } (.bulkAck src tag)).wake := by
  unfold collPartial
  rw [if_neg (by simp [hs]; omega)]

theorem collPartial_left {s : State} {src tag : Nat} {key : PartKey} {bytes : List Byte}
    (h : s.rec0.stopped = true ∨ 2 ^ 28 < s.stagedBytes + bytes.length) : collPartial src key bytes tag s = s := by
  unfold collPartial
  exact if_pos h

/-! ## The obligation -/

/-- Settles O47: each clause is one of the laws above of the row that it is about. -/
theorem membershipAndArrivingData : Obligations.MembershipAndArrivingData := by
  unfold Obligations.MembershipAndArrivingData
  intro s
  refine ⟨fun at_ dim live h => ?stranger, fun at_ dim live h => membership_sets h dim live, fun h hl => ⟨fun ha => ?disagree, fun ha => ?root⟩,
    fun m hm hl => ?leaf, fun hb hup hd hf hdom hm hs h => ?takes, fun h => ?stays, fun i hi => ?ports,
    fun src va bytes tag pass e p hp h0 hin hne hs hsrc hx ht hw hc who aux hwho haux => ?data,
    fun c n v => ⟨s.passAdd_counter c n v, rfl⟩, fun src va bytes tag pass h => ?stopped,
    fun src coll chunk lo n bytes tag => ⟨fun hs hr => ?staged, fun h => ?left⟩⟩
  case stranger =>
    rw [exec_membership]
    exact congrArg (fun u => Host.Outcome.next (s.settle u)) (if_pos h)
  case disagree => rw [State.chooseRoot_self h hl, ha]; rfl
  case root =>
    rw [State.chooseRoot_self h hl, ha]
    exact ⟨rfl, rfl, rfl, rfl⟩
  case leaf =>
    obtain ⟨r, hr, hrl, hlow⟩ := State.exists_lowest hl
    obtain ⟨hroot, hframe, -⟩ := State.chooseRoot_other hlow hrl (by omega)
    refine ⟨hroot, hframe, fun l hll hlo => ?_⟩
    have hlm : l ≤ m := by
      by_contra hc
      simpa [hl] using hlo m (by omega)
    obtain ⟨-, -, hport⟩ := State.chooseRoot_other hlo hll (by omega)
    exact hport
  case takes => rw [exec_ringTakeover, ringTakeover_takes hb hup hd hf hdom hm hs h]
  case stays => rw [exec_ringTakeover, ringTakeover_stays h]
  case ports =>
    rw [s.takeRings_port i]
    exact State.takePorts s.position _ (List.mem_range.2 hi) s
  case data =>
    subst hp hwho haux
    have here : s.WritesHere va bytes e := ⟨h0, hin, hne, hx, ht, hw, hc⟩
    refine ⟨fun hh hwr ho hb => ?_, fun hh => ?_⟩
    · rw [exec_xsendData, here.xsendData_unlent hs hsrc hh hwr ho hb]
    · rw [exec_xsendData, here.xsendData_lent hs src.toNat tag.toNat hh]
  case stopped => rw [exec_xsendData, xsendData_stopped h]
  case staged => rw [exec_collPartial, collPartial_staged hs hr]
  case left => rw [exec_collPartial, collPartial_left h]

end Sys2Proof.Machine
end

section
/-! SUPPORT. Maintenance: what each command and part does, and the obligation (R59, R70, R483, R485 to R488). -/

namespace Sys2Proof.Machine
open Sys2Proof.Claims

/-! ## Commands that reply -/

/-- A command that its packet spells and that may start, whose unit is on, does what its body does. -/
theorem runs_of_starts {i : Instr} {s : State} {h : PktHdr} {op : Nat} {f : List (Nat × Nat × Nat)} {body : State → State}
    (hs : Starts s op h) (he : exec i s = .next (s.settle (damtin op h f body s))) (hsp : spelling i = (op, f)) (hu : s.unitOff op = false)
    (hspell : Spells i h) : exec i s = .next (s.settle (body s)) := by
  obtain ⟨hm, hq, hsess⟩ := hs
  unfold Spells at hspell
  rw [hsp] at hspell
  rw [he, damtin_runs hspell hm hq hsess hu]

theorem replies_of_starts {i : Instr} {s t : State} {h : PktHdr} {op st r0 r1 r2 : Nat} {f : List (Nat × Nat × Nat)} {body : State → State}
    (hs : Starts s op h) (he : exec i s = .next (s.settle (damtin op h f body s))) (hsp : spelling i = (op, f))
    (hu : s.unitOff op = false) (hb : body s = t.reply h st r0 r1 r2) : Replies i s t h st r0 r1 r2 :=
  fun hspell => (runs_of_starts hs he hsp hu hspell).trans (by rw [hb])

/-! ## The rows -/

theorem exec_maintPartStart (n : W32) (s : State) : exec (.maintPartStart n) s = .next (s.settle (maintPartStart n s)) := rfl

theorem exec_maintPartEnd (n : W32) (passed last : Bool) (cycles : BitVec 16) (bad : List (BitVec 36)) (s : State) :
    exec (.maintPartEnd n passed last cycles bad) s =
      .next (s.settle (maintPartEnd n passed last cycles (bad.map BitVec.toNat) s)) := rfl

theorem exec_maintAdmissionRecheck (s : State) :
    exec .maintAdmissionRecheck s = .next (s.settle (maintAdmissionRecheck s)) := rfl

/-! ## MAINT_START (R485, Table 16-8) -/

section
variable {s : State} {h : PktHdr} {act target : BitVec 16} {deadline : W64} (hs : Starts s 0x0601 h)
include hs

theorem maintStart_unknown (hk : maintKind act.toNat = none) : Replies (.maintStart h act target deadline) s s h 0x15 := by
  refine replies_of_starts hs rfl rfl rfl ?_
  simp only [hk]
  rfl

variable {k : MaintKind} (hk : maintKind act.toNat = some k)
include hk

theorem maintStart_outside (hr : k.targets ≤ target.toNat ∨ deadline.toNat < s.openStep) :
    Replies (.maintStart h act target deadline) s s h 0x15 := by
  refine replies_of_starts hs rfl rfl rfl ?_
  simp only [hk]
  rw [if_pos hr]
  rfl

variable (ht : target.toNat < k.targets) (hd : s.openStep ≤ deadline.toNat)
include ht hd

theorem maintStart_unitOff {u : Nat} (hu : k.unit = some u) (hoff : s.unitOn u = false) :
    Replies (.maintStart h act target deadline) s s h 0x16 := by
  refine replies_of_starts hs rfl rfl rfl ?_
  simp only [hk]
  rw [if_neg (by omega), if_pos (by simp [hu, hoff])]
  rfl

variable (hu : ∀ u, k.unit = some u → s.unitOn u = true)
include hu

theorem maintStart_busy (hb : (∃ a ∈ s.openActs, a.act = act.toNat ∧ a.target = target.toNat) ∨ 64 ≤ s.openActs.length) :
    Replies (.maintStart h act target deadline) s s h 0x14 := by
  have hon : (k.unit.any fun u => !s.unitOn u) = false := by
    cases hc : k.unit with
    | none => rfl
    | some u => simp [hu u hc]
  refine replies_of_starts hs rfl rfl rfl ?_
  simp only [hk]
  rw [if_neg (by omega), if_neg (by simp [hon]), if_pos (by simpa [List.any_eq_true] using hb)]
  rfl

/-- Nothing stands against a registration but a conflict or too few fallow frames. -/
theorem maintStart_registers (hf : ∀ a ∈ s.openActs, a.act = act.toNat → a.target ≠ target.toNat) (hl : s.openActs.length < 64) :
    let reg (st : MaintState) : State := s.register act.toNat target.toNat deadline.toNat st
    let i : Instr := .maintStart h act target deadline
    (conflicts s.maint.acts k.cls target.toNat = true → Replies i s (reg .queued) h 1 s.maint.next) ∧
    (conflicts s.maint.acts k.cls target.toNat = false →
      (s.tooFew k target.toNat (s.fallowAhead k target.toNat deadline.toNat) = true → Replies i s (reg .deferred) h 2 s.maint.next) ∧
      (s.tooFew k target.toNat (s.fallowAhead k target.toNat deadline.toNat) = false → Replies i s (reg .waiting) h 0 s.maint.next)) := by
  have hon : (k.unit.any fun u => !s.unitOn u) = false := by
    cases hc : k.unit with
    | none => rfl
    | some u => simp [hu u hc]
  have hfree : ¬((s.openActs.any fun a => a.act == act.toNat && a.target == target.toNat) = true ∨ 64 ≤ s.openActs.length) := by
    rw [not_or, Nat.not_le]
    exact ⟨by simpa [List.any_eq_true] using hf, hl⟩
  refine ⟨fun hc => ?_, fun hc => ⟨fun hfew => ?_, fun hfew => ?_⟩⟩
  · refine replies_of_starts hs rfl rfl rfl ?_
    simp only [hk]
    rw [if_neg (by omega), if_neg (by simp [hon]), if_neg hfree, if_pos hc]
    rfl
  · refine replies_of_starts hs rfl rfl rfl ?_
    simp only [hk]
    rw [if_neg (by omega), if_neg (by simp [hon]), if_neg hfree, if_neg (by simp [hc]), if_pos hfew]
    rfl
  · refine replies_of_starts hs rfl rfl rfl ?_
    simp only [hk]
    rw [if_neg (by omega), if_neg (by simp [hon]), if_neg hfree, if_neg (by simp [hc]), if_neg (by simp [hfew])]
    rfl

end

/-! ## MAINT_CANCEL and MAINT_STATUS (R486) -/

section
variable {s : State} {h : PktHdr} {n : W32}

theorem maintCancel_unknown (hs : Starts s 0x0602 h) (hn : s.actOf n.toNat = none) : Replies (.maintCancel h n) s s h 0x15 := by
  refine replies_of_starts hs rfl rfl rfl ?_
  simp only [hn]
  rfl

theorem maintStatus_unknown (hs : Starts s 0x0603 h) (hn : s.actOf n.toNat = none) : Replies (.maintStatus h n) s s h 0x15 := by
  refine replies_of_starts hs rfl rfl rfl ?_
  simp only [hn]
  rfl

theorem maintStatus_known (hs : Starts s 0x0603 h) {a : MaintAct} (hn : s.actOf n.toNat = some a) :
    Replies (.maintStatus h n) s s h 0 a.state.code a.last := by
  refine replies_of_starts hs rfl rfl rfl ?_
  simp only [hn]
  rfl

variable (hs : Starts s 0x0602 h) {a : MaintAct} (hn : s.actOf n.toNat = some a)
include hs hn

theorem maintCancel_final (hf : a.final = true) : Replies (.maintCancel h n) s s h 0x15 := by
  refine replies_of_starts hs rfl rfl rfl ?_
  simp only [hn]
  rw [if_pos hf]
  rfl

theorem maintCancel_running (hr : a.state = .running) : Replies (.maintCancel h n) s (s.putAct { a with cancel := true }) h 0 := by
  refine replies_of_starts hs rfl rfl rfl ?_
  simp only [hn]
  rw [if_neg (by simp [MaintAct.final, hr]), if_pos (by simp [hr])]
  rfl

theorem maintCancel_open (hw : a.state = .waiting ∨ a.state = .queued ∨ a.state = .deferred) :
    Replies (.maintCancel h n) s ((s.putAct { a with state := .cancelled }).dropReturn a) h 0 := by
  have hfinal : a.final = false := by rcases hw with hw | hw | hw <;> simp [MaintAct.final, hw]
  have hrun : (a.state == .running) = false := by rcases hw with hw | hw | hw <;> simp [hw]
  refine replies_of_starts hs rfl rfl rfl ?_
  simp only [hn]
  rw [if_neg (by simp [hfinal]), if_neg (by simp [hrun])]
  rfl

end

/-! ## Parts (R70, R483, R487) -/

theorem maintPartStart_unknown {s : State} {n : W32} (hn : s.actOf n.toNat = none) : maintPartStart n s = s := by
  simp [maintPartStart, hn]

section
variable {s : State} {n : W32} {a : MaintAct} {k : MaintKind} (hn : s.actOf n.toNat = some a) (hk : maintKind a.act = some k)
include hn hk

theorem maintPartStart_eq : maintPartStart n s = if s.partMayStart k a then
    s.putAct { a with state := .running, last := s.run.step, began := s.bel.frame, half := s.bel.half } else s := by
  simp [maintPartStart, hn, hk]

theorem maintPartEnd_idle (hr : a.state ≠ .running ∨ s.maint.suspended = true) (passed last : Bool) (cycles : BitVec 16) (bad : List Nat) :
    maintPartEnd n passed last cycles bad s = s := by
  unfold maintPartEnd
  simp only [hn, hk]
  exact if_pos hr

variable (hr : a.state = .running) (hm : s.maint.suspended = false) (last : Bool) (cycles : BitVec 16) (bad : List Nat)
include hr hm

theorem maintPartEnd_late (he : k.exclusive = true) (hl : s.partLate a = true) (passed : Bool) : maintPartEnd n passed last cycles bad s =
    if a.cancel then ((s.chargeAct a k cycles.toNat).putAct { a with state := .cancelled }).dropReturn a
    else (s.chargeAct a k cycles.toNat).putAct { a with state := .waiting } := by
  unfold maintPartEnd
  simp only [hn, hk]
  rw [if_neg (by simp [hr, hm]), if_pos (by simp [he, hl])]

theorem maintPartEnd_fails (hl : k.exclusive = true → s.partLate a = false) : maintPartEnd n false last cycles bad s =
    (raise 0x0181 a.evUnit a.target a.handle (((s.chargeAct a k cycles.toNat).putAct
      { a with parts := a.parts + 1, state := .failed }).dropReturn a)).maintOutcome a bad := by
  unfold maintPartEnd
  simp only [hn, hk]
  rw [if_neg (by simp [hr, hm]), if_neg (by simpa using hl), if_pos (by simp)]
  rfl

theorem maintPartEnd_done (he : k.exclusive = true) (hl : s.partLate a = false) (hf : k.frames ≤ a.parts + 1) :
    maintPartEnd n true last cycles bad s = raise 0x0180 a.evUnit a.target a.handle
      (((s.chargeAct a k cycles.toNat).putAct { a with parts := a.parts + 1, state := .done }).noteReturn a) := by
  unfold maintPartEnd
  simp only [hn, hk]
  rw [if_neg (by simp [hr, hm]), if_neg (by simp [hl]), if_neg (by simp), if_pos (by simp [he, hf])]
  rfl

/-- A part that is not the last, of an activity that nobody cancels, has it wait for the next. -/
theorem maintPartEnd_next (hl : k.exclusive = true → s.partLate a = false) (hc : a.cancel = false)
    (hmore : (if k.exclusive then decide (k.frames ≤ a.parts + 1) else last) = false) : maintPartEnd n true last cycles bad s =
      (s.chargeAct a k cycles.toNat).putAct { a with parts := a.parts + 1, state := .waiting } := by
  unfold maintPartEnd
  simp only [hn, hk]
  rw [if_neg (by simp [hr, hm]), if_neg (by simpa using hl), if_neg (by simp), if_neg (Bool.not_eq_true _ ▸ hmore), if_neg (by simp [hc])]

end

/-! ## Admission (R485) -/

theorem maintAdmissionRecheck_suspended {s : State} (h : s.rec0.stopping = true ∨ s.maint.suspended = true) :
    maintAdmissionRecheck s = s := by
  unfold maintAdmissionRecheck
  exact if_pos (by simpa using h)

/-- A QUEUED activity that stands alone is admitted where it has its fallow frames. -/
theorem maintAdmissionRecheck_admits {s : State} {a : MaintAct} {k : MaintKind} (hs : s.rec0.stopping = false)
    (hm : s.maint.suspended = false) (ha : s.maint.acts = [a]) (hq : a.state = .queued) (hk : maintKind a.act = some k)
    (hf : s.tooFew k a.target (s.fallowAhead k a.target a.deadline) = false) :
    maintAdmissionRecheck s = s.putAct { a with state := .waiting } := by
  have hone : s.readmit a = s.putAct { a with state := .waiting } := by
    have hnone : (s.maint.acts.filter fun x => x.handle != a.handle && (x.state != .queued || decide (x.handle < a.handle))) = [] := by
      simp [ha]
    unfold State.readmit
    simp only [hk, hnone]
    rw [if_pos (by simp [hq]), if_neg (by simp [conflicts]), if_neg (by simp [hf])]
  unfold maintAdmissionRecheck
  rw [if_neg (by simp [hs, hm]), ha, List.foldl_cons, List.foldl_nil, hone]

/-! ## CORE_RETURN (R488) -/

section
variable {s : State} {h : PktHdr} {c : CoreId} (hs : Starts s 0x0621 h)
include hs

theorem coreReturn_invalid (hc : c.toNat ∉ s.retiredCores ∨ s.returnPending c.toNat = true) : Replies (.coreReturn h c) s s h 0x15 := by
  refine replies_of_starts hs rfl rfl rfl ?_
  rw [if_pos (by simpa using hc)]
  rfl

variable (hc : c.toNat ∈ s.retiredCores) (hp : s.returnPending c.toNat = false)
include hc hp

theorem coreReturn_deferred (hw : s.bel.econ = true ∨ s.rec0.stopping = true) : Replies (.coreReturn h c) s
    { s with maint := { s.maint with deferred := s.maint.deferred ++ [c.toNat] } } h 2 := by
  refine replies_of_starts hs rfl rfl rfl ?_
  rw [if_neg (by simp [hc, hp]), if_pos (by simpa using hw)]
  rfl

theorem coreReturn_registers (he : s.bel.econ = false) (hst : s.rec0.stopping = false) :
    Replies (.coreReturn h c) s (s.registerReturn c.toNat) h 0 (if s.run.inStep then s.run.step + 1 else s.run.nextStep) := by
  refine replies_of_starts hs rfl rfl rfl ?_
  rw [if_neg (by simp [hc, hp]), if_neg (by simp [he, hst])]
  rfl

end

/-! ## The obligation -/

/-- Settles O51: each clause is one of the laws above of the row that it is about. -/
theorem maintenanceRows : Obligations.MaintenanceRows := by
  unfold Obligations.MaintenanceRows
  intro s h
  refine ⟨fun act target deadline hs => ⟨maintStart_unknown hs, fun k hk => ⟨maintStart_outside hs hk, fun ht hd =>
      ⟨fun u hu hoff => maintStart_unitOff hs hk ht hd hu hoff, fun hu => ⟨maintStart_busy hs hk ht hd hu, maintStart_registers hs hk ht hd hu⟩⟩⟩⟩,
    fun n a hn => ⟨fun hs => ⟨maintCancel_final hs hn, maintCancel_running hs hn, maintCancel_open hs hn⟩, fun hs => maintStatus_known hs hn⟩,
    fun n hn => ⟨fun hs => maintCancel_unknown hs hn, fun hs => maintStatus_unknown hs hn, ?startUnknown⟩,
    fun n a k hn hk => ⟨fun hp => ?starts, fun hp => ?stays, fun hr hm last cycles bad u hu => ⟨fun he hl p => ⟨fun hc => ?late, fun hc => ?lateCancelled⟩,
      fun he hlast hc => ?next, fun he hl => ⟨fun hf => ?done, fun hf hc => ?more, ?fails⟩⟩, fun hr p last cycles bad => ?idle⟩,
    fun hs => ?suspended, fun a k hst hm ha hq hk hf => ?admits, fun c hs => ⟨coreReturn_invalid hs, coreReturn_deferred hs, coreReturn_registers hs⟩, rfl⟩
  case startUnknown => rw [exec_maintPartStart, maintPartStart_unknown hn]
  case starts => rw [exec_maintPartStart, maintPartStart_eq hn hk, if_pos hp]
  case stays => rw [exec_maintPartStart, maintPartStart_eq hn hk, if_neg (by simp [hp])]
  case late => rw [exec_maintPartEnd, maintPartEnd_late hn hk hr hm _ _ _ he hl, if_neg (by simp [hc]), hu]
  case lateCancelled => rw [exec_maintPartEnd, maintPartEnd_late hn hk hr hm _ _ _ he hl, if_pos hc, hu]
  case next => rw [exec_maintPartEnd, maintPartEnd_next hn hk hr hm _ _ _ (by simp [he]) hc (by simp [he, hlast]), hu]
  case done => rw [exec_maintPartEnd, maintPartEnd_done hn hk hr hm _ _ _ he hl hf, hu]
  case more => rw [exec_maintPartEnd, maintPartEnd_next hn hk hr hm _ _ _ (fun _ => hl) hc (by simp [he]; omega), hu]
  case fails => rw [exec_maintPartEnd, maintPartEnd_fails hn hk hr hm _ _ _ (fun _ => hl), hu]
  case idle => rw [exec_maintPartEnd, maintPartEnd_idle hn hk hr]
  case suspended => rw [exec_maintAdmissionRecheck, maintAdmissionRecheck_suspended hs]
  case admits => rw [exec_maintAdmissionRecheck, maintAdmissionRecheck_admits hst hm ha hq hk hf]

end Sys2Proof.Machine
end

section
/-! SUPPORT. The commands of sessions and queues, almanacs and steps, budgets, seeds, cores and telemetry (R75 to R78, R397, R435 to
R442). -/

namespace Sys2Proof.Machine
open Sys2Proof.Claims

/-! ## Sessions and queues (R424, R435, R436, R438) -/

section
variable {s : State} {h : PktHdr}

theorem sessionOpen_busy (hs : Starts s 0x0001 h) (ho : s.hif.session = true) : Replies (.sessionOpen h) s s h 0x14 :=
  replies_of_starts hs rfl rfl rfl (if_pos ho)

theorem sessionOpen_opens (hs : Starts s 0x0001 h) (ho : s.hif.session = false) :
    Replies (.sessionOpen h) s { s with hif := { s.hif with session := true } } h 0 :=
  replies_of_starts hs rfl rfl rfl (if_neg (by simp [ho]))

theorem sessionClose_invalid (hs : Starts s 0x0002 h) (hc : s.hif.session = false ∨ s.hif.closing.isSome = true) :
    Replies (.sessionClose h) s s h 0x15 :=
  replies_of_starts hs rfl rfl rfl (if_pos (by simpa using hc))

theorem sessionClose_closes (hs : Starts s 0x0002 h) (ho : s.hif.session = true) (hc : s.hif.closing = none)
    (hsp : Spells (.sessionClose h) h) : exec (.sessionClose h) s = .next (s.settle (State.finishQueues (State.begun { s with
      hif := { s.hif with closing := some h,
                          queues := s.hif.queues.map fun q => if q.1 = 0 then q else (q.1, q.2.close q.2.deleting) } } h))) := by
  refine (runs_of_starts hs rfl rfl rfl hsp).trans (congrArg (fun u => Host.Outcome.next (s.settle u)) ?_)
  exact if_neg (by simp [ho, hc])

theorem ringOk_iff (base log : Nat) : ringOk base log = true ↔ base % 4096 = 0 ∧ log ≠ 0 ∧ log ≤ 12 := by
  simp only [ringOk, Bool.and_eq_true, beq_iff_eq, decide_eq_true_eq, and_assoc, Nat.one_le_iff_ne_zero]

/-- What QUEUE_CREATE refuses (R424, R436). -/
theorem queueCreate_refuses_iff (q sl rl v : Byte) (sb rb : W64) :
    (q == 0 || decide (63 < q.toNat) || !ringOk sb.toNat sl.toNat || !ringOk rb.toNat rl.toNat || v == 0 || decide (64 < v.toNat)) = true ↔
      q = 0 ∨ 63 < q.toNat ∨ ¬ringOk sb.toNat sl.toNat = true ∨ ¬ringOk rb.toNat rl.toNat = true ∨ v = 0 ∨ 64 < v.toNat := by
  simp only [Bool.or_eq_true, beq_iff_eq, decide_eq_true_eq, Bool.not_eq_true', Bool.not_eq_true, or_assoc]

section
variable (hs : Starts s 0x0003 h) {q sl rl v : Byte} {sb rb : W64}
include hs

theorem queueCreate_invalid (hq : q = 0 ∨ 63 < q.toNat ∨ sb.toNat % 4096 ≠ 0 ∨ rb.toNat % 4096 ≠ 0 ∨ sl = 0 ∨ 12 < sl.toNat ∨ rl = 0 ∨
    12 < rl.toNat ∨ v = 0 ∨ 64 < v.toNat) : Replies (.queueCreate h q sl rl v sb rb) s s h 0x15 := by
  refine replies_of_starts hs rfl rfl rfl (if_pos ?_)
  rw [queueCreate_refuses_iff, ringOk_iff, ringOk_iff]
  bv_omega

variable (hq : q ≠ 0) (hq63 : q.toNat ≤ 63) (hsr : ringOk sb.toNat sl.toNat = true) (hrr : ringOk rb.toNat rl.toNat = true) (hv : v ≠ 0)
  (hv64 : v.toNat ≤ 64)
include hq hq63 hsr hrr hv hv64

theorem queueCreate_creates (hn : mapFind s.hif.queues q.toNat = none) : Replies (.queueCreate h q sl rl v sb rb) s { s with hif := { s.hif with
    queues := mapPut s.hif.queues q.toNat (QPair.fresh sb.toNat sl.toNat rb.toNat rl.toNat v.toNat) } } h 0 := by
  refine replies_of_starts hs rfl rfl rfl ((if_neg ?_).trans (if_neg (by simp [hn])))
  rw [queueCreate_refuses_iff]
  simp only [hsr, hrr, not_true_eq_false, false_or, not_or, Nat.not_lt]
  exact ⟨hq, hq63, hv, hv64⟩

theorem queueCreate_busy (hn : (mapFind s.hif.queues q.toNat).isSome = true) : Replies (.queueCreate h q sl rl v sb rb) s s h 0x14 := by
  refine replies_of_starts hs rfl rfl rfl ((if_neg ?_).trans (if_pos hn))
  rw [queueCreate_refuses_iff]
  simp only [hsr, hrr, not_true_eq_false, false_or, not_or, Nat.not_lt]
  exact ⟨hq, hq63, hv, hv64⟩

end

theorem queueDelete_invalid (hs : Starts s 0x0004 h) {q : Byte} (hq : q = 0 ∨ mapFind s.hif.queues q.toNat = none) :
    Replies (.queueDelete h q) s s h 0x15 := by
  refine replies_of_starts hs rfl rfl rfl ?_
  dsimp only
  split
  · rfl
  · next hne =>
    rw [hq.resolve_left hne]
    rfl

theorem queueDelete_deletes (hs : Starts s 0x0004 h) {q : Byte} {x : QPair} (hq : q ≠ 0) (hx : mapFind s.hif.queues q.toNat = some x)
    (hc : x.closing = false) (hsp : Spells (.queueDelete h q) h) : exec (.queueDelete h q) s =
      .next (s.settle (State.finishQueues (State.begun { s with hif := { s.hif with
        queues := mapPut s.hif.queues q.toNat { x with closing := true, deleting := some h } } } h))) := by
  refine (runs_of_starts hs rfl rfl rfl hsp).trans (congrArg (fun u => Host.Outcome.next (s.settle u)) ?_)
  rw [if_neg hq, hx]
  exact if_neg (by simp [hc])

theorem moduleReset_invalid (hs : Starts s 0x0006 h) {k : Byte} (hk : k ≠ 1) : Replies (.moduleReset h k) s s h 0x15 :=
  replies_of_starts hs rfl rfl rfl (if_pos hk)

theorem moduleReset_resets (hs : Starts s 0x0006 h) (hd : s.pwr.dieReset = false) :
    Replies (.moduleReset h 1) s { s with pwr := { s.pwr with modReset := true } } h 0 := by
  refine replies_of_starts hs rfl rfl rfl ((if_neg (by simp)).trans ?_)
  rw [hd, Bool.not_false, Bool.or_true]
  rfl

end

/-! ## Long results (R431, R439) -/

theorem State.replyLong_nowhere {s : State} {h : PktHdr} (hr : h.raddr = 0) (st : Nat) (b : List Byte) :
    s.replyLong h st b = s.reply h stInvalid := if_pos hr

theorem State.replyLong_closed {s : State} {h : PktHdr} (hr : h.raddr ≠ 0) (ho : s.hostOutOpen = false) (st : Nat) (b : List Byte) :
    s.replyLong h st b = s.begun h := (if_neg hr).trans (if_pos (by simp [ho]))

theorem State.replyLong_open {s : State} {h : PktHdr} (hr : h.raddr ≠ 0) (ho : s.hostOutOpen = true) (st : Nat) (b : List Byte) :
    s.replyLong h st b = ((s.chargeOut b.length).hostWrite h.raddr.toNat b).reply h st
      (natOfBytes (b.take 8)) (natOfBytes ((b.drop 8).take 8)) (natOfBytes ((b.drop 16).take 8)) :=
  (if_neg hr).trans (if_neg (by simp [ho]))

theorem length_bytesOfNat (n v : Nat) : (bytesOfNat n v).length = n := by
  induction n generalizing v with
  | zero => rfl
  | succ n ih => simp [bytesOfNat, ih]

/-! ## Almanacs (R75 to R78) -/

section
variable {s : State} {h : PktHdr}

theorem almanacLoad_busy (hs : Starts s 0x0101 h) {a n : W64} (ha : s.run.armed.isSome = true) : Replies (.almanacLoad h a n) s s h 0x14 := by
  intro hsp
  have hrun : exec (.almanacLoad h a n) s = .next (s.settle (almanacLoad h a n s)) := rfl
  obtain ⟨hm, -⟩ := hs
  unfold Spells at hsp
  rw [hrun, almanacLoad, damtinFirst, if_neg, if_pos ha]
  · rfl
  · rw [hm, show h.says 0x0101 [(0, 8, a.toNat), (8, 8, n.toNat)] = true from hsp]
    simp

/-- ALMANAC_LOAD with no switch armed. -/
theorem almanacLoad_eq (hs : Starts s 0x0101 h) {a n : W64} (ha : s.run.armed = none) (hsp : Spells (.almanacLoad h a n) h) :
    exec (.almanacLoad h a n) s = .next (s.settle (if !s.hostInOpen then s.begun h else
      (State.chargeIn { s with run := { s.run with
        staged := if s.almanacCheck ⟨s.hostMem.slice a.toNat n.toNat, n.toNat⟩ = 0 then ⟨s.hostMem.slice a.toNat n.toNat, n.toNat⟩
          else ⟨[], 0⟩ } } n.toNat).reply h (s.almanacCheck ⟨s.hostMem.slice a.toNat n.toNat, n.toNat⟩))) := by
  have hrun : exec (.almanacLoad h a n) s = .next (s.settle (almanacLoad h a n s)) := rfl
  obtain ⟨hm, hq, hsess⟩ := hs
  rw [hrun, almanacLoad, damtinFirst_runs (by exact hsp) hm (by rw [ha]; rfl) hq hsess]
  rfl

section
variable (hs : Starts s 0x0102 h) {n : W64}
include hs

theorem almanacSwitch_invalid (hn : n.toNat < s.run.step + 2 ∨ s.run.staged.loaded = false) :
    Replies (.almanacSwitch h n) s s h 0x15 :=
  replies_of_starts hs rfl rfl rfl (if_pos (by simpa using hn))

variable (hn : s.run.step + 2 ≤ n.toNat) (hl : s.run.staged.loaded = true)
include hn hl

theorem almanacSwitch_busy (ha : s.run.armed.isSome = true) : Replies (.almanacSwitch h n) s s h 0x14 :=
  replies_of_starts hs rfl rfl rfl ((if_neg (by simp [hl, hn])).trans (if_pos ha))

theorem almanacSwitch_arms (ha : s.run.armed = none) :
    Replies (.almanacSwitch h n) s { s with run := { s.run with armed := some n.toNat } } h 0 :=
  replies_of_starts hs rfl rfl rfl ((if_neg (by simp [hl, hn])).trans (if_neg (by simp [ha])))

end

section
variable (hs : Starts s 0x0103 h) {n : Nat} (ha : s.run.armed = some n)
include hs ha

theorem almanacCancel_disarms (hn : s.run.step + 1 < n) :
    Replies (.almanacCancel h) s { s with run := { s.run with armed := none } } h 0 := by
  refine replies_of_starts hs rfl rfl rfl ?_
  simp only [ha]
  exact if_pos hn

theorem almanacCancel_busy (hn : n ≤ s.run.step + 1) : Replies (.almanacCancel h) s s h 0x14 := by
  refine replies_of_starts hs rfl rfl rfl ?_
  simp only [ha]
  exact if_neg (by omega)

end

/-- What ALMANAC_STATUS reports. -/
def State.almanacReport (s : State) : List Byte :=
  bytesOfNat 8 (if s.run.active.loaded then s.run.active.ident else 0) ++
    bytesOfNat 8 (if s.run.staged.loaded then s.run.staged.ident else 0) ++ bytesOfNat 8 (s.run.armed.getD 0) ++ bytesOfNat 8 s.run.step

theorem State.length_almanacReport (s : State) : s.almanacReport.length = 32 := by
  simp [State.almanacReport, length_bytesOfNat]

section
variable (hs : Starts s 0x0104 h)
include hs

theorem almanacStatus_nowhere (hr : h.raddr = 0) : Replies (.almanacStatus h) s s h 0x15 :=
  replies_of_starts hs rfl rfl rfl (State.replyLong_nowhere hr _ _)

theorem almanacStatus_waits (hr : h.raddr ≠ 0) (ho : s.hostOutOpen = false) (hsp : Spells (.almanacStatus h) h) :
    exec (.almanacStatus h) s = .next (s.settle (s.begun h)) :=
  (runs_of_starts hs rfl rfl rfl hsp).trans (congrArg (fun u => Host.Outcome.next (s.settle u)) (State.replyLong_closed hr ho _ _))

theorem almanacStatus_reports (hr : h.raddr ≠ 0) (ho : s.hostOutOpen = true) : ∃ t : State,
    (∃ r0 r1 r2, Replies (.almanacStatus h) s t h 0 r0 r1 r2) ∧ t.hostMem = s.hostMem.writeBytes h.raddr.toNat s.almanacReport ∧
    t.bud.hostOut = s.bud.hostOut - 1 ∧ t.run = s.run ∧ t.tier = s.tier := by
  refine ⟨(s.chargeOut s.almanacReport.length).hostWrite h.raddr.toNat s.almanacReport, ⟨_, _, _,
    replies_of_starts hs rfl rfl rfl (State.replyLong_open hr ho _ s.almanacReport)⟩, rfl, ?_, rfl, rfl⟩
  rw [s.length_almanacReport]
  rfl

end

end

end Sys2Proof.Machine
end

section
/-! SUPPORT. The commands of steps, budgets, seeds, cores and telemetry, what has begun, and the obligation on session and step commands
(R61, R111, R115, R161, R397, R427, R439 to R442, R471, R473). -/

namespace Sys2Proof.Machine
open Sys2Proof.Claims

/-! ## Steps (R440, R441, R471, R473) -/

section
variable {s : State} {h : PktHdr}

/-- At the next tick: the first test of STEP_RUN passes but for an IDLE module without a staged almanac. -/
theorem stepRun_now {at_ : W64} (ha : at_ = 0) (hl : s.run.state = .idle → s.run.staged.loaded = true) :
    ¬((at_.toNat % 2 ^ 48 != 0 && decide (at_.toNat % 2 ^ 48 ≤ s.tickFor)) || (s.run.state == .idle && !s.run.staged.loaded)) = true := by
  subst ha
  simpa using hl

section
variable (hs : Starts s 0x0201 h) {start count at_ : W64}
include hs

theorem stepRun_unstaged (hi : s.run.state = .idle) (hl : s.run.staged.loaded = false) :
    Replies (.stepRun h start count at_) s s h 0x15 :=
  replies_of_starts hs rfl rfl rfl (if_pos (by simp [hi, hl]))

theorem stepRun_busy (ha : at_ = 0) (hl : s.run.state = .idle → s.run.staged.loaded = true)
    (hb : s.almanacRuns = true ∨ s.rec0.stopping = true ∨ s.rec0.holdIdle.isSome = true) :
    Replies (.stepRun h start count at_) s s h 0x14 :=
  replies_of_starts hs rfl rfl rfl ((if_neg (stepRun_now ha hl)).trans (if_pos (by simpa [or_assoc] using hb)))

/-- A STEP_RUN that starts or resumes the module runs it from the next tick. -/
theorem stepRun_runs (ha : at_ = 0) (hl : s.run.state = .idle → s.run.staged.loaded = true) (hr : s.almanacRuns = false)
    (hst : s.rec0.stopping = false) (hh : s.rec0.holdIdle = none) {u : State}
    (hu : u = if s.run.state = .idle then s.startIdle start.toNat else s) :
    Replies (.stepRun h start count at_) s { u with run := { u.run with
      state := .running, startAt := some s.tickFor, halted := false,
      countHold := if count = 0 then none else some (u.run.nextStep + count.toNat - 1) } } h 0 s.tickFor := by
  refine replies_of_starts hs rfl rfl rfl ((if_neg (stepRun_now ha hl)).trans ((if_neg (by simp [hr, hst, hh])).trans ?_))
  subst ha hu
  rfl

end

/-- STEP_HOLD at a boundary that has not passed. -/
theorem stepHold_holds (hs : Starts s 0x0202 h) {b : W64} {n : Nat} (hn : (if b = 0 then s.openStep else b.toNat) = n) (ho : s.openStep ≤ n)
    (hsp : Spells (.stepHold h b) h) : exec (.stepHold h b) s = .next (s.settle (State.begun { s with run := { s.run with
      holds := s.run.holds ++ [(n, some h)] } } h)) := by
  refine (runs_of_starts hs rfl rfl rfl hsp).trans (congrArg (fun u => Host.Outcome.next (s.settle u)) ?_)
  dsimp only
  rw [hn]
  exact if_neg (by omega)

theorem stepHold_passed (hs : Starts s 0x0202 h) {b : W64} (hb : b ≠ 0) (ho : b.toNat < s.openStep) :
    Replies (.stepHold h b) s s h 0x15 := by
  refine replies_of_starts hs rfl rfl rfl (if_pos ?_)
  rwa [if_neg hb]

/-- The code of STEP_STATUS (R437). -/
def RunState.code : RunState → Nat
  | .idle => 0
  | .running => 1
  | .held => 2
  | .replaying => 3

theorem stepStatus_reports (hs : Starts s 0x0203 h) :
    Replies (.stepStatus h) s s h 0 s.run.step s.run.committed s.run.state.code := by
  refine replies_of_starts hs rfl rfl rfl ?_
  cases s.run.state <;> rfl

/-! ## Budgets, seeds, cores and the timing audit (R61, R111, R115, R161, R397) -/

section
variable (hs : Starts s 0x0210 h) {c : Byte} {v : BitVec 16}
include hs

theorem budgetSet_invalid (hb : 7 < c.toNat ∨ v = 0 ∨ 256 < v.toNat) : Replies (.budgetSet h c v) s s h 0x15 :=
  replies_of_starts hs rfl rfl rfl (if_pos (by simpa [or_assoc] using hb))

theorem budgetSet_latches (hc : c.toNat ≤ 7) (hv : v ≠ 0) (hm : v.toNat ≤ 256) :
    Replies (.budgetSet h c v) s (s.latch (.ceil c.toNat v.toNat)) h 0 s.tickFor := by
  refine replies_of_starts hs rfl rfl rfl (if_neg ?_)
  simp only [Bool.or_eq_true, decide_eq_true_eq, beq_iff_eq, not_or, Nat.not_lt]
  exact ⟨⟨hc, hv⟩, hm⟩

end

section
variable (hs : Starts s 0x0220 h) {seed n : W64}
include hs

theorem rngSeed_invalid (hr : s.almanacRuns = true) (hn : n.toNat < s.run.step + 2) : Replies (.rngSeed h seed n) s s h 0x15 :=
  replies_of_starts hs rfl rfl rfl ((if_pos hr).trans (if_pos hn))

theorem rngSeed_pends (hr : s.almanacRuns = true) (hn : s.run.step + 2 ≤ n.toNat) :
    Replies (.rngSeed h seed n) s { s with rng := { s.rng with pending := some (seed.toNat, n.toNat) } } h 0 n.toNat :=
  replies_of_starts hs rfl rfl rfl ((if_pos hr).trans (if_neg (by omega)))

theorem rngSeed_seeds (hr : s.almanacRuns = false) : ∃ t : State, (∃ r0, Replies (.rngSeed h seed n) s t h 0 r0) ∧ t.rng.seed = seed.toNat ∧
    t.rng.pending = none ∧ t.run.step = s.run.step :=
  ⟨_, ⟨_, replies_of_starts hs rfl rfl rfl (if_neg (by simp [hr]))⟩, rfl, rfl, rfl⟩

end

section
variable (hs : Starts s 0x0620 h) {c : CoreId}
include hs

theorem coreRetire_going (hc : c.toNat ∈ s.goingCores) : Replies (.coreRetire h c) s s h 0 s.stepInEffect :=
  replies_of_starts hs rfl rfl rfl (if_pos (by simpa using hc))

theorem coreRetire_exhausts (hc : c.toNat ∉ s.goingCores) (hd : s.detoursHold (c.toNat :: s.goingCores) = false) :
    Replies (.coreRetire h c) s s h 0x15 :=
  replies_of_starts hs rfl rfl rfl ((if_neg (by simpa using hc)).trans (if_pos (by simp [hd])))

theorem coreRetire_retires (hc : c.toNat ∉ s.goingCores) (hd : s.detoursHold (c.toNat :: s.goingCores) = true) :
    Replies (.coreRetire h c) s { s with run := { s.run with
      retireNext := s.run.retireNext ++ [(c.toNat, s.stepInEffect)] } } h 0 s.stepInEffect :=
  replies_of_starts hs rfl rfl rfl ((if_neg (by simpa using hc)).trans (if_neg (by simp [hd])))

end

theorem timingAudit_invalid (hs : Starts s 0x0630 h) {e : Byte} (he : 1 < e.toNat) : Replies (.timingAudit h e) s s h 0x15 :=
  replies_of_starts hs rfl rfl rfl (if_pos he)

theorem timingAudit_sets (hs : Starts s 0x0630 h) {e : Byte} (he : e.toNat ≤ 1) :
    Replies (.timingAudit h e) s { s with auditNext := some (e == 1, s.stepInEffect) } h 0 s.stepInEffect :=
  replies_of_starts hs rfl rfl rfl (if_neg (by omega))

/-! ## Telemetry (R431, R439, R442) -/

theorem telemetrySnapshot_refuses (hs : Starts s 0x0901 h) {a : W64} {n : W32} (hn : n.toNat < 18616 ∨ h.raddr = 0) :
    Replies (.telemetrySnapshot h a n) s s h 0x15 :=
  replies_of_starts hs rfl rfl rfl (if_pos (by
    simp only [Bool.or_eq_true, decide_eq_true_eq, beq_iff_eq]
    exact hn))

theorem telemetrySnapshot_waits (hs : Starts s 0x0901 h) {a : W64} {n : W32} (hn : 18616 ≤ n.toNat) (hr : h.raddr ≠ 0)
    (hsp : Spells (.telemetrySnapshot h a n) h) : exec (.telemetrySnapshot h a n) s = .next (s.settle (State.begun { s with
      hif := { s.hif with snapshots := s.hif.snapshots ++ [⟨some h, a.toNat, s.bel.frame + 1, [], false⟩] } } h)) := by
  refine (runs_of_starts hs rfl rfl rfl hsp).trans (congrArg (fun u => Host.Outcome.next (s.settle u)) (if_neg ?_))
  simp only [Bool.or_eq_true, decide_eq_true_eq, beq_iff_eq, not_or, Nat.not_lt]
  exact ⟨hn, hr⟩

end

theorem exec_telemetryImageWrite (s : State) : exec .telemetryImageWrite s = .next (s.settle (telemetryImageWrite s)) := rfl

/-- The state without its snapshots. -/
def State.unsnapped (s : State) : State := { s with hif := { s.hif with snapshots := [] } }

theorem telemetryImageWrite_one {s : State} {x : SnapReq} (h : s.hif.snapshots = [x]) :
    telemetryImageWrite s = s.unsnapped.writeImage x := by
  simp [telemetryImageWrite, h, State.unsnapped]

/-- A snapshot goes on waiting. -/
def State.keepImage (s : State) (x : SnapReq) : State := { s with hif := { s.hif with snapshots := s.hif.snapshots ++ [x] } }

theorem State.keepImage_unsnapped {s : State} {x : SnapReq} (h : s.hif.snapshots = [x]) : s.unsnapped.keepImage x = s := by
  simp [State.keepImage, State.unsnapped, ← h]

theorem State.writeImage_waits {s : State} {x : SnapReq} (h : x.image = [] ∨ (x.written = false ∧ s.hostOutOpen = false)) :
    s.writeImage x = s.keepImage x := if_pos (by simpa using h)

/-- The image of a snapshot is written, at the cost of the transfer. -/
def State.imaged (s : State) (x : SnapReq) : State := (s.chargeOut snapshotBytes).hostWrite x.addr x.image

theorem State.writeImage_writes {s : State} {x : SnapReq} {p : PktHdr} (hi : x.image ≠ []) (hp : x.hdr = some p)
    (hw : x.written = false) (ho : s.hostOutOpen = true) : s.writeImage x = if (s.imaged x).hostOutOpen then
      (s.imaged x).replyLong p stOk (bytesOfNat 8 x.tick ++ bytesOfNat 8 snapshotBytes)
      else (s.imaged x).keepImage { x with written := true } := by
  unfold State.writeImage
  dsimp only
  rw [if_neg (by simp [hi, hw, ho]), if_neg (by simp [hw]), hp]
  rfl

theorem State.writeImage_replies {s : State} {x : SnapReq} {p : PktHdr} (hi : x.image ≠ []) (hp : x.hdr = some p)
    (hw : x.written = true) (ho : s.hostOutOpen = true) : s.writeImage x =
      s.replyLong p stOk (bytesOfNat 8 x.tick ++ bytesOfNat 8 snapshotBytes) := by
  unfold State.writeImage
  dsimp only
  rw [if_neg (by simp [hi, hw]), if_pos hw, hp]
  exact if_pos ho

theorem State.takeImages_one {s : State} {x : SnapReq} (h : s.hif.snapshots = [x]) (hi : x.image = []) :
    s.takeImages.hif.snapshots =
      [if x.tick ≤ s.bel.frame then { x with tick := s.bel.frame, image := s.snapshot } else x] := by
  simp [State.takeImages, h, hi]

/-! ## What has begun (R427) -/

theorem mapFind_map {β γ : Type} (m : List (Nat × β)) (f : Nat → β → γ) (a : Nat) :
    mapFind (m.map fun q => (q.1, f q.1 q.2)) a = (mapFind m a).map (f a) := by
  induction m with
  | nil => rfl
  | cons p t ih =>
    obtain ⟨k, v⟩ := p
    simp only [List.map_cons, mapFind]
    split
    · next hk => rw [hk]; rfl
    · exact ih

/-- With no packet of an unknown OPCODE in progress, none is answered. -/
theorem State.answerUnknown_known {s : State} {n : Nat} {q : QPair} (hq : mapFind s.hif.queues n = some q)
    (hk : ∀ p ∈ q.progress, p.op.toNat ∈ knownOpcodes) : s.answerUnknown n = s := by
  have hl : mapGet [] (s.hif.queues.map fun q => (q.1, q.2.progress)) n = q.progress := by
    rw [mapGet_eq_mapFind, mapFind_map _ (fun _ (q : QPair) => q.progress), hq]
    rfl
  unfold State.answerUnknown
  rw [hl]
  generalize q.progress = l at hk
  induction l with
  | nil => rfl
  | cons p t ih =>
    obtain ⟨hp, ht⟩ := List.forall_mem_cons.1 hk
    rw [List.foldl_cons, if_neg (by simp [hp])]
    exact ih ht

/-- A packet that goes on waiting has started, and nothing else changes. -/
theorem State.begun_starts {s : State} {h : PktHdr} {q : QPair} (hq : mapFind s.hif.queues h.queue.toNat = some q)
    (hp : h ∈ q.progress) (hs : h ∉ q.started) (hk : ∀ p ∈ q.progress, p.op.toNat ∈ knownOpcodes) :
    mapFind (s.begun h).hif.queues h.queue.toNat = some { q with started := q.started ++ [h] } ∧
      (s.begun h).run = s.run ∧ (s.begun h).tier = s.tier ∧ (s.begun h).cores = s.cores := by
  have hstart : q.start h = { q with started := q.started ++ [h] } := if_pos (by simp [hp, hs])
  have hfind : mapFind (s.hif.queues.map fun q => (q.1, if q.1 = h.queue.toNat then q.2.start h else q.2)) h.queue.toNat =
      some { q with started := q.started ++ [h] } := by
    rw [mapFind_map _ (fun k (q : QPair) => if k = h.queue.toNat then q.start h else q), hq, Option.map_some, if_pos rfl, hstart]
  unfold State.begun
  dsimp only
  rw [State.answerUnknown_known (q := { q with started := q.started ++ [h] }) hfind hk]
  exact ⟨hfind, rfl, rfl, rfl⟩

end Sys2Proof.Machine
end

section
/-! SUPPORT. The obligation on sessions, queues, almanacs and steps. -/

namespace Sys2Proof.Machine
open Sys2Proof.Claims

theorem RunState.code_iff (r : RunState) : (r.code = 0 ↔ r = .idle) ∧ (r.code = 1 ↔ r = .running) ∧ (r.code = 2 ↔ r = .held) ∧
    (r.code = 3 ↔ r = .replaying) := by
  cases r <;> decide

theorem not_almanacRuns {s : State} (h : s.run.state = .idle ∨ s.run.state = .held) : s.almanacRuns = false := by
  rw [← Bool.not_eq_true, s.almanacRuns_iff]
  rintro ⟨hr, -⟩
  rcases h with h | h <;> rw [h] at hr <;> simp at hr

theorem not_idle_of_almanacRuns {s : State} (h : s.almanacRuns = true) (l : Prop) : s.run.state = .idle → l := fun hi => by
  rw [not_almanacRuns (.inl hi)] at h
  cases h

/-- Settles O55: each clause is one of the laws above of the command that it is about. -/
theorem sessionAndStepCommands : Obligations.SessionAndStepCommands := by
  unfold Obligations.SessionAndStepCommands
  intro s h
  refine ⟨fun hs => ⟨sessionOpen_busy hs, sessionOpen_opens hs⟩, fun hs => ⟨sessionClose_invalid hs, sessionClose_closes hs⟩,
    fun hs q sl rl v sb rb => ⟨queueCreate_invalid hs, fun hq hq63 hsr hrr hv hv64 => ⟨queueCreate_creates hs hq hq63 hsr hrr hv hv64,
      queueCreate_busy hs hq hq63 hsr hrr hv hv64⟩⟩,
    fun hs q => ⟨queueDelete_invalid hs, fun x hq hx hc => queueDelete_deletes hs hq hx hc⟩, fun hs d0 d1 d2 => replies_of_starts hs rfl rfl rfl rfl,
    fun hs => ⟨fun k => moduleReset_invalid hs, moduleReset_resets hs⟩, fun hs a n => ⟨almanacLoad_busy hs, fun ha hi hsp => ?loadWaits, fun ha hi => ?load⟩,
    fun hs n => ⟨almanacSwitch_invalid hs, almanacSwitch_busy hs, almanacSwitch_arms hs⟩,
    fun hs n ha => ⟨almanacCancel_disarms hs ha, almanacCancel_busy hs ha⟩,
    fun hs => ⟨almanacStatus_nowhere hs, almanacStatus_waits hs, almanacStatus_reports hs⟩,
    fun hs start count at_ => ⟨stepRun_unstaged hs, fun hr ha => stepRun_busy hs ha (not_idle_of_almanacRuns hr _) (.inl hr),
      fun hh ha hb => stepRun_busy hs ha (fun hi => ?heldBusy) (.inr hb), fun hh ha hst hhold => ?resume, fun hi hl ha hst hhold => ?start⟩,
    fun hs b hb => ⟨stepHold_passed hs hb, fun ho hsp => stepHold_holds hs (if_neg hb) ho hsp⟩,
    fun hs hsp => stepHold_holds hs (if_pos rfl) (Nat.le_refl _) hsp, fun hs => ⟨_, stepStatus_reports hs, s.run.state.code_iff⟩,
    fun hs c v => ⟨budgetSet_invalid hs, budgetSet_latches hs⟩, fun hs seed n => ⟨rngSeed_invalid hs, rngSeed_pends hs, rngSeed_seeds hs⟩,
    fun hs c => ⟨coreRetire_going hs, coreRetire_exhausts hs, coreRetire_retires hs⟩, fun hs e => ⟨timingAudit_invalid hs, timingAudit_sets hs⟩,
    fun hs a n => ⟨telemetrySnapshot_refuses hs, telemetrySnapshot_waits hs⟩, fun p a t hx => ⟨?untaken, fun ht => ?taken, fun ht => ?early⟩,
    fun p a t b hx hb u hu => ⟨fun ho => ?shut, fun ho huo => ?replied, fun ho huo => ?written⟩, fun p a t b hx hb ho => ?repliedLater,
    fun q hq hp hst hk => State.begun_starts hq hp hst hk⟩
  case loadWaits => rw [almanacLoad_eq hs ha hsp, if_pos (by simp [hi])]
  case load =>
    intro x hsp
    rw [almanacLoad_eq hs ha hsp, if_neg (by simp [hi])]
  case heldBusy => rw [hh] at hi; cases hi
  case resume =>
    exact stepRun_runs hs ha (fun hi => by rw [hh] at hi; cases hi) (not_almanacRuns (.inr hh)) hst hhold (if_neg (by rw [hh]; simp)).symm
  case start =>
    exact ⟨_, stepRun_runs hs ha (fun _ => hl) (not_almanacRuns (.inl hi)) hst hhold (if_pos hi).symm, rfl, rfl, rfl, rfl, rfl⟩
  case untaken =>
    rw [exec_telemetryImageWrite, telemetryImageWrite_one hx, State.writeImage_waits (.inl rfl), State.keepImage_unsnapped hx]
  case taken => rw [State.takeImages_one hx rfl, if_pos ht]
  case early => rw [State.takeImages_one hx rfl, if_neg (by simpa using ht), hx]
  case shut =>
    rw [exec_telemetryImageWrite, telemetryImageWrite_one hx, State.writeImage_waits (.inr ⟨by rfl, by exact ho⟩), State.keepImage_unsnapped hx]
  case replied =>
    subst hu
    rw [exec_telemetryImageWrite, telemetryImageWrite_one hx, State.writeImage_writes hb rfl rfl (by exact ho)]
    exact congrArg (fun u => Host.Outcome.next (s.settle u)) (if_pos huo)
  case written =>
    subst hu
    rw [exec_telemetryImageWrite, telemetryImageWrite_one hx, State.writeImage_writes hb rfl rfl (by exact ho)]
    exact congrArg (fun u => Host.Outcome.next (s.settle u)) (if_neg (Bool.eq_false_iff.1 huo))
  case repliedLater =>
    rw [exec_telemetryImageWrite, telemetryImageWrite_one hx, State.writeImage_replies hb rfl rfl (by exact ho)]
    rfl

end Sys2Proof.Machine
end

section
/-! SUPPORT. Byte memories: a run of zeros, and the bytes of a little-endian number (R6, R94, R234). -/

namespace Sys2Proof.Machine

/-- Of a map without the keys that fail a test, the other keys read as before. -/
theorem mapGet_filter_key {β : Type} (d : β) (f : Nat → Bool) (m : List (Nat × β)) (a : Nat) :
    mapGet d (m.filter fun e => f e.1) a = if f a then mapGet d m a else d := by
  induction m with
  | nil => simp [mapGet]
  | cons e m ih =>
    obtain ⟨k, v⟩ := e
    by_cases hk : k = a
    · subst hk
      cases hf : f k <;> simp [mapGet, hf, ih]
    · cases hf : f k <;> simp [mapGet, hf, ih, hk]

theorem Memory.read_zero (m : Memory) (a n q : Nat) :
    (m.zero a n).read q = if a ≤ q ∧ q < a + n then unlisted else m.read q := by
  refine (mapGet_filter_key unlisted (fun k => decide (k < a) || decide (a + n ≤ k)) m q).trans ?_
  by_cases h : a ≤ q ∧ q < a + n
  · rw [if_pos h, if_neg (by simp; omega)]
  · rw [if_neg h, if_pos (by simp; omega)]
    rfl

/-- Settles O7, by the laws of runs of bytes. -/
theorem memoryReadsWhatWasWritten : Obligations.MemoryReadsWhatWasWritten := by
  unfold Obligations.MemoryReadsWhatWasWritten
  intro m a bs
  exact ⟨fun hm => m.wf_writeBytes hm a bs, fun i h => m.read_writeBytes_inside a bs h,
    fun q h => m.read_writeBytes_outside a bs h, m.read_zero a⟩

theorem getElem_bytesOfNat {n i : Nat} (v : Nat) (h : i < (bytesOfNat n v).length) :
    (bytesOfNat n v)[i] = BitVec.ofNat 8 (v / 256 ^ i) := by
  induction n generalizing i v with
  | zero => simp [bytesOfNat] at h
  | succ n ih =>
    cases i with
    | zero => simp [bytesOfNat]
    | succ i =>
      simp only [bytesOfNat, List.getElem_cons_succ]
      rw [ih, Nat.div_div_eq_div_mul, pow_succ']

theorem natOfBytes_lt (b : List Byte) : natOfBytes b < 256 ^ b.length := by
  induction b with
  | nil => simp [natOfBytes]
  | cons x b ih =>
    have hx := x.isLt
    rw [natOfBytes, List.length_cons, pow_succ']
    omega

theorem Memory.readNat_lt (m : Memory) (p n : Nat) : m.readNat p n < 256 ^ n := by
  simpa [Memory.readNat] using natOfBytes_lt (m.readBytes p n)

end Sys2Proof.Machine
end

section
/-! SUPPORT. Results in flight: what a thread's next bundles read (R92, R160). -/

namespace Sys2Proof.Machine
open Sys2Proof.Claims

@[simp] theorem seen_setReg_same (th : Thread) (d : RegRef) (v : W64) : seen (th.setReg d v) d = v := by
  cases d <;> exact mapGet_mapSet_same _ _ _ _

theorem seen_setReg_other (th : Thread) {d e : RegRef} (v : W64) (h : e ≠ d) : seen (th.setReg e v) d = seen th d := by
  cases d <;> cases e
  case s.s r q => exact mapGet_mapSet_other _ _ fun hn => h (congrArg RegRef.s (BitVec.eq_of_toNat_eq hn))
  case a.a r q => exact mapGet_mapSet_other _ _ fun hn => h (congrArg RegRef.a (BitVec.eq_of_toNat_eq hn))
  all_goals rfl

/-- A thread after some results have become visible, in their order. -/
def Thread.receive (th : Thread) (l : List PendReg) : Thread := l.foldl (fun t p => t.setReg p.dest p.value) th

theorem Thread.seen_receive_other {l : List PendReg} {d : RegRef} (h : ∀ p ∈ l, p.dest ≠ d) (th : Thread) :
    seen (th.receive l) d = seen th d := by
  induction l generalizing th with
  | nil => rfl
  | cons p l ih =>
    exact (ih (fun q hq => h q (.tail _ hq)) _).trans (seen_setReg_other th p.value (h p (.head _)))

/-- Where all results for a register hold one value, the register reads it. -/
theorem Thread.seen_receive_same {l : List PendReg} {d : RegRef} {v : W64} (hm : ∃ p ∈ l, p.dest = d)
    (hv : ∀ p ∈ l, p.dest = d → p.value = v) (th : Thread) : seen (th.receive l) d = v := by
  induction l generalizing th with
  | nil => simp at hm
  | cons p l ih =>
    by_cases hl : ∃ q ∈ l, q.dest = d
    · exact ih hl (fun q hq => hv q (.tail _ hq)) _
    · have hp : p.dest = d := by
        obtain ⟨q, hq, hd⟩ := hm
        rcases List.mem_cons.1 hq with rfl | hq
        · exact hd
        · exact absurd ⟨q, hq, hd⟩ hl
      refine (Thread.seen_receive_other (fun q hq hd => hl ⟨q, hq, hd⟩) _).trans ?_
      rw [← hv p (.head _) hp, ← hp, seen_setReg_same]

/-- A result as the next bundle leaves it: one bundle nearer. -/
def PendReg.nearer (p : PendReg) : PendReg := { p with left := p.left - 1 }

/-- The results that a bundle makes visible. -/
def Thread.arriving (th : Thread) (new : List PendReg) : List PendReg :=
  ((th.pend ++ new).map PendReg.nearer).filter fun p => p.left == 0

theorem Thread.seen_age (th : Thread) (new : List PendReg) (d : RegRef) :
    seen (th.age new) d = seen (th.receive (th.arriving new)) d := by
  cases d <;> rfl

theorem Thread.mem_pend_age {th : Thread} {new : List PendReg} {q : PendReg} :
    q ∈ (th.age new).pend ↔ ∃ p ∈ th.pend ++ new, 2 ≤ p.left ∧ p.nearer = q := by
  have h : (th.age new).pend = ((th.pend ++ new).map PendReg.nearer).filter fun p => p.left != 0 := rfl
  simp only [h, List.mem_filter, List.mem_map, bne_iff_ne]
  constructor
  · rintro ⟨⟨p, hp, rfl⟩, hl⟩
    exact ⟨p, hp, by simp only [PendReg.nearer] at hl; omega, rfl⟩
  · rintro ⟨p, hp, hl, rfl⟩
    exact ⟨⟨p, hp, rfl⟩, by simp only [PendReg.nearer]; omega⟩

theorem Thread.mem_arriving {th : Thread} {new : List PendReg} {q : PendReg} :
    q ∈ th.arriving new ↔ ∃ p ∈ th.pend ++ new, p.left ≤ 1 ∧ p.nearer = q := by
  simp only [Thread.arriving, List.mem_filter, List.mem_map, beq_iff_eq]
  constructor
  · rintro ⟨⟨p, hp, rfl⟩, hl⟩
    exact ⟨p, hp, by simp only [PendReg.nearer] at hl; omega, rfl⟩
  · rintro ⟨p, hp, hl, rfl⟩
    exact ⟨⟨p, hp, rfl⟩, by simp only [PendReg.nearer]; omega⟩

theorem Thread.seen_age_other {th : Thread} {new : List PendReg} {d : RegRef}
    (h : ∀ p ∈ th.pend ++ new, p.dest = d → 1 < p.left) : seen (th.age new) d = seen th d := by
  rw [Thread.seen_age]
  refine Thread.seen_receive_other (fun q hq hd => ?_) th
  obtain ⟨p, hp, hl, rfl⟩ := Thread.mem_arriving.1 hq
  exact absurd (h p hp hd) (by omega)

theorem Thread.seen_age_same {th : Thread} {new : List PendReg} {d : RegRef} {v : W64}
    (hm : ∃ p ∈ th.pend ++ new, p.dest = d ∧ p.left ≤ 1)
    (hv : ∀ p ∈ th.pend ++ new, p.dest = d → p.left ≤ 1 → p.value = v) : seen (th.age new) d = v := by
  rw [Thread.seen_age]
  refine Thread.seen_receive_same ?_ (fun q hq hd => ?_) th
  · obtain ⟨p, hp, hd, hl⟩ := hm
    exact ⟨p.nearer, Thread.mem_arriving.2 ⟨p, hp, hl, rfl⟩, hd⟩
  · obtain ⟨p, hp, hl, rfl⟩ := Thread.mem_arriving.1 hq
    exact hv p hp hd hl

/-- No result of the register has become visible by then: it reads its old value. -/
theorem Thread.seen_later_other {n : Nat} {th : Thread} {new : List PendReg} {d : RegRef}
    (h : ∀ p ∈ th.pend ++ new, p.dest = d → n + 1 < p.left) : seen (later n (th.age new)) d = seen th d := by
  induction n generalizing th new with
  | zero => exact Thread.seen_age_other h
  | succ n ih =>
    have hnext : ∀ q ∈ (th.age new).pend ++ [], q.dest = d → n + 1 < q.left := by
      intro q hq hd
      rw [List.append_nil] at hq
      obtain ⟨p, hp, -, rfl⟩ := Thread.mem_pend_age.1 hq
      have := h p hp hd
      simp only [PendReg.nearer]
      omega
    exact (ih hnext).trans (Thread.seen_age_other fun p hp hd => by have := h p hp hd; omega)

/-- A result that the next bundle reads: none other for the register becomes visible with it. -/
theorem Thread.seen_age_next {n : Nat} {th : Thread} {new : List PendReg} {d : RegRef} {v : W64}
    (hm : ⟨d, v, 1⟩ ∈ th.pend ++ new)
    (hlast : ∀ p ∈ th.pend ++ new, p.dest = d → p.left ≤ n + 1 → p = ⟨d, v, 1⟩ ∨ max 1 p.left < 1) :
    seen (th.age new) d = v := by
  refine Thread.seen_age_same ⟨_, hm, rfl, Nat.le_refl 1⟩ fun p hp hd hl => ?_
  rcases hlast p hp hd (by omega) with rfl | h
  · rfl
  · omega

/-- The register reads the result that became visible last by then. -/
theorem Thread.seen_later_last {n k : Nat} {th : Thread} {new : List PendReg} {d : RegRef} {v : W64}
    (hm : ⟨d, v, k⟩ ∈ th.pend ++ new) (h1 : 1 ≤ k) (hk : k ≤ n + 1)
    (hlast : ∀ p ∈ th.pend ++ new, p.dest = d → p.left ≤ n + 1 → p = ⟨d, v, k⟩ ∨ max 1 p.left < k) :
    seen (later n (th.age new)) d = v := by
  induction n generalizing th new k with
  | zero =>
    obtain rfl : k = 1 := by omega
    exact Thread.seen_age_next hm hlast
  | succ n ih =>
    rcases (by omega : k = 1 ∨ 2 ≤ k) with rfl | hk2
    · refine (Thread.seen_later_other (th := th.age new) (new := []) fun q hq hd => ?_).trans (Thread.seen_age_next hm hlast)
      rw [List.append_nil] at hq
      obtain ⟨p, hp, hp2, rfl⟩ := Thread.mem_pend_age.1 hq
      by_contra hl
      rcases hlast p hp hd (by simp only [PendReg.nearer] at hl; omega) with rfl | h
      · simp at hp2
      · omega
    · have hmem : (⟨d, v, k - 1⟩ : PendReg) ∈ (th.age new).pend ++ [] := by
        rw [List.append_nil]
        exact Thread.mem_pend_age.2 ⟨_, hm, hk2, rfl⟩
      refine ih hmem (by omega) (by omega) fun q hq hd hl => ?_
      rw [List.append_nil] at hq
      obtain ⟨p, hp, hp2, rfl⟩ := Thread.mem_pend_age.1 hq
      simp only [PendReg.nearer] at hl ⊢
      rcases hlast p hp hd (by omega) with rfl | h
      · exact .inl rfl
      · exact .inr (by omega)

/-! ## Bundles of other threads, and bundles that wait -/

theorem mapFind_mapErase_other {β : Type} (m : List (Nat × β)) {a b : Nat} (h : a ≠ b) :
    mapFind (mapErase m a) b = mapFind m b := by
  induction m with
  | nil => rfl
  | cons p m ih =>
    obtain ⟨k, v⟩ := p
    simp only [mapErase]
    split
    · rename_i hk
      simp [mapFind, hk, h, ih]
    · simp [mapFind, ih]

/-- The store of the A slot and the counter change of the S slot. -/
def Core.scalarDone (k : Core) (th : Thread) (b : Bundle) : Core := b.s.elim (storeBundle th b k) (sCounter th (storeBundle th b k))

/-- A core but for the thread that issued a bundle: stores, counters and queues. -/
def Core.bundleDone (k : Core) (units : Nat) (t : ThreadId) (th : Thread) (b : Bundle) : Core :=
  { enqueueAll units t th b (k.scalarDone th b) with lastIssued := t.toNat }

/-- The descriptor write that a bundle holds. -/
def Core.heldBy (k : Core) (th : Thread) (b : Bundle) : Option HeldWrite :=
  (b.a.bind fun i => aDescWrite th (aBytes k th i) i).map fun w => ⟨w, k.seq + 1⟩

theorem executeBundle_goesOn {b : Bundle} (h : b.s ≠ some .stop) (units : Nat) (t : ThreadId) (th : Thread) (loops : List LoopLevel)
    (next : W64) (k : Core) : executeBundle units t th b loops next k = (k.bundleDone units t th b).setThread t
      { (th.age (bundleResults k th b)) with pc := next, loops := loops, held := k.heldBy th b } := by
  obtain ⟨i, a, g, m, v, x, len⟩ := b
  unfold executeBundle
  rw [if_neg h]
  cases i <;> rfl

theorem executeBundle_ends {b : Bundle} (h : b.s = some .stop) (units : Nat) (t : ThreadId) (th : Thread) (loops : List LoopLevel)
    (next : W64) (k : Core) : executeBundle units t th b loops next k = endThread t th { k.bundleDone units t th b with
      ended := (k.bundleDone units t th b).ended ++ ((k.heldBy th b).toList.map fun h => (t.toNat, (th.task, h))) } := by
  obtain ⟨i, a, g, m, v, x, len⟩ := b
  unfold executeBundle
  rw [if_pos h]
  cases i <;> rfl

/-- The commands of a bundle change their queues and the issue number alone. -/
theorem enqueueAll_keeps {β : Type} (g : Core → β) (hq : ∀ k q x, g (Core.enqueue k q x) = g k)
    (hs : ∀ (k : Core) n, g { k with seq := n } = g k) (units : Nat) (t : ThreadId) (th : Thread) (b : Bundle) (k : Core) :
    g (enqueueAll units t th b k) = g k := by
  unfold enqueueAll
  dsimp only
  rw [hs]
  repeat' split
  all_goals simp only [hq]

theorem storeBundle_keeps {β : Type} (g : Core → β) (h : ∀ (k : Core) m e, g { k with ls := m, errors := e } = g k) (th : Thread)
    (b : Bundle) (k : Core) : g (storeBundle th b k) = g k := by
  unfold storeBundle
  split
  · rfl
  · split
    · split
      · exact h ..
      · rfl
    · rfl

theorem Core.scalarDone_keeps {β : Type} (g : Core → β) (hl : ∀ (k : Core) m e, g { k with ls := m, errors := e } = g k)
    (hc : ∀ k i v, g (Core.setCounter k i v) = g k) (th : Thread) (b : Bundle) (k : Core) : g (k.scalarDone th b) = g k := by
  have hstore : g (storeBundle th b k) = g k := storeBundle_keeps g hl th b k
  unfold Core.scalarDone
  cases b.s with
  | none => exact hstore
  | some i =>
    cases i with
    | setc ctr r => exact (hc ..).trans hstore
    | addc ctr v => exact (hc ..).trans hstore
    | _ => exact hstore

@[simp] theorem Core.bundleDone_threads (k : Core) (units : Nat) (t : ThreadId) (th : Thread) (b : Bundle) :
    (k.bundleDone units t th b).threads = k.threads :=
  (enqueueAll_keeps Core.threads (fun _ _ _ => rfl) (fun _ _ => rfl) units t th b _).trans
    (Core.scalarDone_keeps Core.threads (fun _ _ _ => rfl) (fun _ _ _ => rfl) th b k)

@[simp] theorem Core.bundleDone_ended (k : Core) (units : Nat) (t : ThreadId) (th : Thread) (b : Bundle) :
    (k.bundleDone units t th b).ended = k.ended :=
  (enqueueAll_keeps Core.ended (fun _ _ _ => rfl) (fun _ _ => rfl) units t th b _).trans
    (Core.scalarDone_keeps Core.ended (fun _ _ _ => rfl) (fun _ _ _ => rfl) th b k)

/-- A bundle replaces its own thread, or at an END frees it. -/
theorem executeBundle_threads (units : Nat) (t : ThreadId) (th : Thread) (b : Bundle) (loops : List LoopLevel) (next : W64) (k : Core) :
    (executeBundle units t th b loops next k).threads = mapErase k.threads t.toNat ∨
      ∃ x, (executeBundle units t th b loops next k).threads = mapPut k.threads t.toNat x := by
  by_cases h : b.s = some .stop
  · left
    rw [executeBundle_ends h, ← k.bundleDone_threads units t th b]
    rfl
  · right
    rw [executeBundle_goesOn h, ← k.bundleDone_threads units t th b]
    exact ⟨_, rfl⟩

theorem thread_executeBundle_other (units : Nat) {t u : ThreadId} (h : u ≠ t) (th : Thread) (b : Bundle) (loops : List LoopLevel)
    (next : W64) (k : Core) : (executeBundle units u th b loops next k).thread t = k.thread t := by
  have hn : u.toNat ≠ t.toNat := fun e => h (BitVec.eq_of_toNat_eq e)
  unfold Core.thread
  rcases executeBundle_threads units u th b loops next k with e | ⟨x, e⟩
  · rw [e, mapFind_mapErase_other _ hn]
  · rw [e, mapFind_mapPut_other _ _ hn]

/-- What a fault leaves of the core: its thread stopped, and a hazard recorded. -/
def Core.faulted (k : Core) (t : ThreadId) (th : Thread) (f : IssueFault) : Core :=
  let k1 := k.setThread t { th with stopped := true }
  match f with
  | .hazard kind r => { k1 with regs := k1.regs.noteHazard kind 0 t.toNat r.hazardNo th.task.taskId.toNat th.pc }
  | _ => k1

theorem faultBundle_eq (c : CoreId) (t : ThreadId) (th : Thread) (f : IssueFault) (s : State) :
    faultBundle c t th f s = raise f.code 1 c.toNat th.task.taskId.toNat (s.setCore c ((s.core c).faulted t th f)) := rfl

theorem Core.thread_faulted_other (k : Core) {t u : ThreadId} (h : u ≠ t) (th : Thread) (f : IssueFault) :
    (k.faulted u th f).thread t = k.thread t := by
  cases f <;> exact k.thread_setThread_other _ h

/-- A core of which one thread alone changed holds every other thread as before. -/
theorem thread_setCore_other (s : State) {c o : CoreId} {t u : ThreadId} {k : Core} (h : (o, u) ≠ (c, t))
    (hk : u ≠ t → k.thread t = (s.core o).thread t) : ((s.setCore o k).core c).thread t = (s.core c).thread t := by
  by_cases hc : o = c
  · subst hc
    rw [State.core_setCore_same, hk fun hu => h (by rw [hu])]
  · rw [State.core_setCore_other _ _ hc]

theorem thread_issueBundle_other (s : State) {c o : CoreId} {t u : ThreadId} (b : Bundle) (h : (o, u) ≠ (c, t)) :
    ((issueBundle o u b s).core c).thread t = (s.core c).thread t := by
  obtain ⟨e, -⟩ | ⟨th, -, ⟨e, -⟩ | ⟨f, -, e⟩ | ⟨loops, next, -, -, e⟩⟩ := issueBundle_cases o u b s
  · rw [e]
  · rw [e]
  · rw [e, faultBundle_eq, raise_core]
    exact thread_setCore_other s h fun hu => (s.core o).thread_faulted_other hu th f
  · rw [e]
    exact thread_setCore_other s h fun hu => thread_executeBundle_other _ hu th b loops next _

/-- A bundle that waits for its counter or its queues changes nothing (R93, R145). -/
theorem issueBundle_waits {s : State} {c : CoreId} {t : ThreadId} {th : Thread} {b : Bundle} (ht : (s.core c).thread t = some th)
    (hi : b.illegal th = false) (hw : waitcHolds (s.core c) th b = false ∨ queuesReady s (s.core c) b = false) :
    issueBundle c t b s = s := by
  have : (!b.illegal th && !(waitcHolds (s.core c) th b && queuesReady s (s.core c) b)) = true := by
    rcases hw with hw | hw <;> simp [hi, hw]
  simp only [issueBundle, ht, this]
  split <;> rfl

/-- Settles O10: results by the bundle at which they become visible, other threads and waiting bundles by what an issue can do. -/
theorem resultsVisibleAfterLatency : Obligations.ResultsVisibleAfterLatency := by
  unfold Obligations.ResultsVisibleAfterLatency
  exact ⟨fun th new d n => ⟨fun v k hm h1 hk hlast => Thread.seen_later_last hm h1 hk hlast, Thread.seen_later_other⟩,
    fun s c o t u b h => thread_issueBundle_other s b h, fun s c t th b => issueBundle_waits⟩

end Sys2Proof.Machine
end

section
/-! SUPPORT. The issue of a bundle of one S or A slot, and what a fault leaves (R93, R128, R162; the one-slot bundle of a row: DEDUCED, log 3). -/

namespace Sys2Proof.Machine
open Sys2Proof.Claims

/-! ## Hazards (R162) -/

/-- The hazard of a bundle as an issue fault. -/
def hazardFault (b : Bundle) (th : Thread) (new : List PendReg) : Option IssueFault :=
  (bundleHazard b th new).map fun x => .hazard x.1 x.2

/-- Outside audit mode no hazard counts, and in audit mode one counts only where no other fault does. -/
theorem issueFault_eq (s : State) (k : Core) (th : Thread) (b : Bundle) : issueFault s k th b =
    (issueFault { s with audit := false } k th b).or (if s.audit then hazardFault b th (bundleResults k th b) else none) := by
  unfold issueFault hazardFault
  dsimp only
  by_cases hi : b.illegal th = true
  · simp [hi]
  by_cases hx : (b.x.any fun e => (tgtQueue s.unitsEff e.tgt.toNat).isNone) = true
  · simp [hi, hx]
  by_cases hl : loopFault b th = true
  · simp [hi, hx, hl]
  by_cases hr : rangeFault b th = true
  · simp [hi, hx, hl, hr]
  simp only [hi, hx, hl, hr, Bool.false_eq_true, if_false, Option.none_or]
  cases bundleHazard b th (bundleResults k th b) <;> rfl

theorem bundleHazard_none {b : Bundle} {th : Thread} {new : List PendReg} (hp : th.pend = []) (hn : new.length ≤ 1) :
    bundleHazard b th new = none := by
  have hread : (b.reads.find? fun r => th.pend.any fun p => p.dest == r) = none := by simp [hp]
  have htwo : (new.find? fun p => th.pend.any fun o => o.dest == p.dest && o.left == p.left) = none := by simp [hp]
  unfold bundleHazard
  rw [hread, htwo]
  match new, hn with
  | [], _ => rfl
  | [x], _ => rfl

/-! ## Bundles that issue -/

section
variable {s : State} {c : CoreId} {t : ThreadId} {th : Thread} (h : Issuing s c t th)
include h

/-- A bundle with at most one result, whose fields and addresses are good and that asks for no unit, meets no fault. -/
theorem issueFault_of_issuing {b : Bundle} (hi : b.illegal th = false) (hx : b.x = none) (hl : loopFault b th = false)
    (hr : rangeFault b th = false) (hn : (bundleResults (s.core c) th b).length ≤ 1) : issueFault s (s.core c) th b = none := by
  obtain ⟨-, -, -, -, haudit⟩ := h
  have hother : issueFault { s with audit := false } (s.core c) th b = none := by simp [issueFault, hi, hx, hl, hr]
  rw [issueFault_eq, hother, Option.none_or]
  split
  · rw [hazardFault, bundleHazard_none (haudit ‹_›) hn]
    rfl
  · rfl

/-- An A slot that issues: its store, its result in flight and its held descriptor write, and nothing else. -/
theorem issueBundle_oneA {i : AInstr} (hi : i.illegal = false) (hr : rangeFault (oneA i) th = false) :
    issueBundle c t (oneA i) s = issued s c t th (storeBundle th (oneA i) (s.core c))
      (aResult th (aBytes (s.core c) th i) i).toList (endCheck th.pc th.loops (th.pc + 6)).2 (endCheck th.pc th.loops (th.pc + 6)).1
      ((aDescWrite th (aBytes (s.core c) th i) i).map fun w => ⟨w, (s.core c).seq + 1⟩) := by
  have hf := issueFault_of_issuing h (b := oneA i) (by simp [Bundle.illegal, oneA, hi]) rfl rfl hr
    (by simp only [bundleResults, oneA, Option.bind_none, Option.toList_none, List.nil_append, Option.bind_some]
        cases aResult th (aBytes (s.core c) th i) i <;> simp)
  obtain ⟨ht, hs, hstop, hheld, -⟩ := h
  rw [issueBundle_whole ht hs hstop hheld hf rfl rfl rfl]
  rfl

/-- A bundle that need not wait and meets a fault that is no hazard stops its thread, and no slot executes (R128). -/
theorem faults_of_issueFault {x : Instr} {b : Bundle} {f : IssueFault} (he : exec x s = .next (s.settle (issueBundle c t b s)))
    (hw : b.illegal th = true ∨ (waitcHolds (s.core c) th b = true ∧ queuesReady s (s.core c) b = true))
    (hf : issueFault s (s.core c) th b = some f) (hk : (s.core c).faulted t th f = (s.core c).setThread t { th with stopped := true }) :
    Faults f.code x s c t th := by
  obtain ⟨ht, hs, hstop, hheld, -⟩ := h
  unfold Faults
  rw [he, issueBundle_fault ht hs hstop hheld hw hf, faultBundle_eq, hk]

theorem illegal_of_oneA {x : Instr} {i : AInstr} (he : exec x s = .next (s.settle (issueBundle c t (oneA i) s)))
    (hi : i.illegal = true) : Illegal x s c t th := by
  have hb : (oneA i).illegal th = true := by simp [Bundle.illegal, oneA, hi]
  exact faults_of_issueFault h (f := .illegal) he (.inl hb) (if_pos hb) rfl

/-- An access beyond the local store's limit is LS_RANGE (R94). -/
theorem lsRange_of_oneA {x : Instr} {i : AInstr} {a n : Nat} (he : exec x s = .next (s.settle (issueBundle c t (oneA i) s)))
    (hi : i.illegal = false) (ha : aRange th i = some (a, n)) (hp : th.task.lsAddr a n = none) : Faults 0x0104 x s c t th := by
  have hb : (oneA i).illegal th = false := by simp [Bundle.illegal, oneA, hi]
  have hr : rangeFault (oneA i) th = true := by simp [rangeFault, oneA, ha, hp]
  refine faults_of_issueFault h (f := .range) he (.inr ⟨rfl, rfl⟩) ?_ rfl
  unfold issueFault
  rw [hb, hr]
  rfl

end

/-! ## Local-store accesses of the A slot (R94, R140) -/

theorem aBytes_eq {th : Thread} {i : AInstr} {a n p : Nat} (ha : aRange th i = some (a, n)) (hp : th.task.lsAddr a n = some p)
    (k : Core) : aBytes k th i = k.ls.readBytes p n := by
  simp [aBytes, ha, hp]

theorem rangeFault_oneA {th : Thread} {i : AInstr} {a n p : Nat} (ha : aRange th i = some (a, n)) (hp : th.task.lsAddr a n = some p) :
    rangeFault (oneA i) th = false := by
  simp [rangeFault, oneA, ha, hp]

theorem storeBundle_oneA_none {th : Thread} {i : AInstr} (hs : aStore th i = none) (k : Core) : storeBundle th (oneA i) k = k := by
  simp only [storeBundle, oneA, hs]
  cases aRange th i <;> rfl

theorem storeBundle_oneA {th : Thread} {i : AInstr} {a n p : Nat} {b : List Byte} (ha : aRange th i = some (a, n))
    (hp : th.task.lsAddr a n = some p) (hs : aStore th i = some b) (k : Core) :
    storeBundle th (oneA i) k = { k with ls := k.ls.writeBytes p b, errors := k.errors.lsWritten p n } := by
  simp only [storeBundle, oneA, ha, hs, hp]

/-- The low bytes of a number in a byte memory. -/
theorem Memory.read_writeNat (m : Memory) (p n v q : Nat) : (m.writeBytes p (bytesOfNat n v)).read q =
    if p ≤ q ∧ q < p + n then BitVec.ofNat 8 (v / 256 ^ (q - p)) else m.read q := by
  by_cases hq : p ≤ q ∧ q < p + n
  · obtain ⟨h1, h2⟩ := hq
    have hi : q - p < (bytesOfNat n v).length := by rw [length_bytesOfNat]; omega
    rw [if_pos ⟨h1, h2⟩, ← getElem_bytesOfNat v hi, ← m.read_writeBytes_inside p _ hi, Nat.add_sub_cancel' h1]
  · rw [if_neg hq]
    exact m.read_writeBytes_outside _ _ (by rw [length_bytesOfNat]; omega)

section
variable {s : State} {c : CoreId} {t : ThreadId} {th : Thread} (h : Issuing s c t th) {x : Instr} {i : AInstr}
  (he : exec x s = .next (s.settle (issueBundle c t (oneA i) s))) (hi : i.illegal = false) {a n p : Nat}
  (ha : aRange th i = some (a, n)) (hp : th.task.lsAddr a n = some p)
include h he hi ha hp

/-- A load takes its bytes and changes nothing but its register, after four bundles. -/
theorem writes_of_load {d : RegRef} {v : Nat → W64} (hres : ∀ m, aResult th m i = some ⟨d, v (natOfBytes m), 4⟩)
    (hs : aStore th i = none) (hd : ∀ m, aDescWrite th m i = none) : Writes x s c t th d (v ((s.core c).ls.readNat p n)) 4 := by
  unfold Writes
  rw [he, issueBundle_oneA h hi (rangeFault_oneA ha hp), storeBundle_oneA_none hs, aBytes_eq ha hp, hres, hd]
  rfl

/-- A store writes its bytes, the errors of the words that it writes whole go, and the thread goes on. -/
theorem goesOn_of_store {v : W64} (hs : aStore th i = some (bytesOfNat n v.toNat)) (hres : ∀ m, aResult th m i = none)
    (hd : ∀ m, aDescWrite th m i = none) :
    ∃ m : Memory, (∀ q, m.read q = if p ≤ q ∧ q < p + n then BitVec.ofNat 8 (v.toNat / 256 ^ (q - p)) else (s.core c).ls.read q) ∧
      GoesOn x s c t th { s.core c with ls := m, errors := { (s.core c).errors with
        ls := (s.core c).errors.ls.filter fun w => !(decide (p ≤ w) && decide (w + 8 ≤ p + n)) } } := by
  refine ⟨_, fun q => (s.core c).ls.read_writeNat p n v.toNat q, ?_⟩
  unfold GoesOn
  rw [he, issueBundle_oneA h hi (rangeFault_oneA ha hp), storeBundle_oneA ha hp hs, hres, hd]
  rfl

end

/-- The scalar loads of Table 05-9. -/
theorem writes_of_ld {s : State} {c : CoreId} {t : ThreadId} {th : Thread} (h : Issuing s c t th) (op : LdOp) {x : Instr} {aa : AReg}
    {sb : SReg} {imm : BitVec 13} {p : Nat} (he : exec x s = .next (s.settle (issueBundle c t (oneA (.ld op aa sb imm)) s)))
    (hp : th.task.lsAddr (th.getA aa + imm.signExtend 64).toNat op.bytes = some p) :
    Writes x s c t th (.s sb) (op.extend ((s.core c).ls.readNat p op.bytes)) 4 :=
  writes_of_load h he rfl rfl hp (fun _ => rfl) rfl fun _ => rfl

theorem zeroExtend_ofNat {w v : Nat} (hv : v < 2 ^ w) : (BitVec.ofNat w v).zeroExtend 64 = BitVec.ofNat 64 v := by
  refine BitVec.eq_of_toNat_eq ?_
  simp [Nat.mod_eq_of_lt hv]

/-- Settles O16: each load by the law of loads, the unsigned ones by what their bytes can hold. -/
theorem loadResults : Obligations.LoadResults := by
  unfold Obligations.LoadResults
  intro s c t th ad aa sb imm p h
  have hlt (n : Nat) := (s.core c).ls.readNat_lt p n
  refine ⟨fun hp => writes_of_ld h .ld64 rfl hp, fun hp => writes_of_ld h .ld32s rfl hp, fun hp => ?ld32u,
    fun hp => writes_of_ld h .ld16s rfl hp, fun hp => ?ld16u, fun hp => writes_of_ld h .ld8s rfl hp, fun hp => ?ld8u, fun hp => ?ald⟩
  case ld32u =>
    rw [← zeroExtend_ofNat (w := 32) (hlt 4)]
    exact writes_of_ld h .ld32u rfl hp
  case ld16u =>
    rw [← zeroExtend_ofNat (w := 16) (hlt 2)]
    exact writes_of_ld h .ld16u rfl hp
  case ld8u =>
    rw [← zeroExtend_ofNat (w := 8) (hlt 1)]
    exact writes_of_ld h .ld8u rfl hp
  case ald => exact writes_of_load h (v := BitVec.ofNat 64) rfl rfl rfl hp (fun _ => rfl) rfl fun _ => rfl

/-- Settles O17: the stores by the law of stores, and every access beyond the limit by LS_RANGE. -/
theorem storesAndTheirRange : Obligations.StoresAndTheirRange := by
  unfold Obligations.StoresAndTheirRange
  refine ⟨fun s c t th ad aa sb imm p h => ⟨fun hp => ?_, fun hp => ?_, fun hp => ?_, fun hp => ?_, fun hp => ?_⟩,
    fun s c t th ad aa sb imm n h => ⟨fun hp => ?_, fun hp => ?_, fun hp => ?_, fun hp => ?_, fun hp => ?_, fun hp => ?_, fun hp => ?_,
      fun hp => ?_, fun hp => ?_, fun hp => ?_, fun hp => ?_, fun hp => ?_, fun hp => ?_, fun hn hp => ?stld⟩⟩
  case stld => exact lsRange_of_oneA h rfl (by simpa [AInstr.illegal] using hn) rfl hp
  iterate 5 · exact goesOn_of_store h rfl rfl rfl hp rfl (fun _ => rfl) fun _ => rfl
  all_goals exact lsRange_of_oneA h rfl rfl rfl hp

/-! ## END (R90, R373) -/

/-- Settles O14: the bundle of an END issues whole and holds no descriptor write. -/
theorem endFreesThread : Obligations.EndFreesThread := by
  unfold Obligations.EndFreesThread
  intro s c t th h
  have hf := issueFault_of_issuing h (b := oneS .stop) rfl rfl rfl rfl (Nat.zero_le 1)
  have he : exec (.end_ c t) s = .next (s.settle (issueBundle c t (oneS .stop) s).sweepVersions) := rfl
  obtain ⟨ht, hs, hstop, hheld, -⟩ := h
  rw [he, issueBundle_whole ht hs hstop hheld hf rfl rfl rfl, executeBundle_ends rfl, Core.bundleDone_ended]
  simp only [Core.heldBy, oneS, Option.bind_none, Option.map_none, Option.toList_none, List.map_nil, List.append_nil]
  rfl

/-! ## Held descriptor writes (R90, R98) -/

theorem exec_descriptorWriteEffect (c : CoreId) (t : ThreadId) (s : State) :
    exec (.descriptorWriteEffect c t) s = .next (s.settle (descriptorEffect c t s)) := rfl

section
variable {s : State} {c : CoreId} {t : ThreadId}

theorem descriptorEffect_ended {e : Nat × (TaskCtx × HeldWrite)} (he : (s.core c).endedWrite t = some e) : descriptorEffect c t s =
    s.setCore c { (s.core c).applyDesc e.2.1 e.2.2 with ended := (s.core c).ended.erase e } := by
  simp only [descriptorEffect, he]

theorem descriptorEffect_held {th : Thread} {w : HeldWrite} (he : (s.core c).endedWrite t = none) (ht : (s.core c).thread t = some th)
    (hw : th.held = some w) : descriptorEffect c t s = if (s.core c).heldBlocked th.task w then s
      else s.setCore c (((s.core c).applyDesc th.task w).setThread t { th with held := none }) := by
  simp only [descriptorEffect, he, ht, hw]

variable {th : Thread} (h : Issuing s c t th) {ad : StReg}
include h

/-- STW writes a field of one descriptor, and STLD whole images, both held (R98, R140). -/
theorem exec_stw {fld : BitVec 4} {sb : SReg} (hf : fld.toNat ≤ 8) : exec (.stw c t ad fld sb) s = .next (s.settle
    (issued s c t th (s.core c) [] (endCheck th.pc th.loops (th.pc + 6)).2 (endCheck th.pc th.loops (th.pc + 6)).1
      (some ⟨.field (th.task.stReg ad) fld (th.getS sb), (s.core c).seq + 1⟩))) := by
  have hi : (AInstr.stw ad fld sb).illegal = false := by simpa [AInstr.illegal] using hf
  have he : exec (.stw c t ad fld sb) s = .next (s.settle (issueBundle c t (oneA (.stw ad fld sb)) s)) := rfl
  rw [he, issueBundle_oneA h hi rfl]
  rfl

theorem exec_stld {aa : AReg} {n : BitVec 4} {imm : BitVec 13} {p : Nat} (hn : ad.toNat + n.toNat ≤ 15)
    (hp : th.task.lsAddr (th.getA aa + imm.signExtend 64).toNat (32 * (n.toNat + 1)) = some p) :
    exec (.stld c t ad aa n imm) s = .next (s.settle
      (issued s c t th (s.core c) [] (endCheck th.pc th.loops (th.pc + 6)).2 (endCheck th.pc th.loops (th.pc + 6)).1
        (some ⟨.images ad ((List.range (n.toNat + 1)).map fun i =>
          Desc.ofBytes (((s.core c).ls.readBytes p (32 * (n.toNat + 1))).drop (32 * i))), (s.core c).seq + 1⟩))) := by
  have hi : (AInstr.stld ad aa n imm).illegal = false := by simpa [AInstr.illegal] using hn
  have he : exec (.stld c t ad aa n imm) s = .next (s.settle (issueBundle c t (oneA (.stld ad aa n imm)) s)) := rfl
  rw [he, issueBundle_oneA h hi (rangeFault_oneA rfl hp), storeBundle_oneA_none rfl, aBytes_eq rfl hp]
  rfl

end

/-- The write of an END's bundle is held apart from its thread (R90). -/
theorem executeBundle_ended {b : Bundle} {i : AInstr} {w : DescWrite} {th : Thread} {k : Core} (hs : b.s = some .stop) (ha : b.a = some i)
    (hw : aDescWrite th (aBytes k th i) i = some w) (units : Nat) (t : ThreadId) (loops : List LoopLevel) (next : W64) :
    (executeBundle units t th b loops next k).ended = k.ended ++ [(t.toNat, (th.task, ⟨w, k.seq + 1⟩))] := by
  have hheld : k.heldBy th b = some ⟨w, k.seq + 1⟩ := by simp [Core.heldBy, ha, hw]
  rw [executeBundle_ends hs, hheld, Core.bundleDone_ended]
  rfl

/-- Settles O18: STW and STLD by what they hold, their faults, and the effect of the write that is due. -/
theorem descriptorWrites : Obligations.DescriptorWrites := by
  unfold Obligations.DescriptorWrites
  intro s c t th
  refine ⟨fun ad fld sb h hf => exec_stw h hf, fun ad aa n imm p h hn hp => exec_stld h hn hp,
    fun ad fld sb h hf => illegal_of_oneA h rfl (decide_eq_true hf), fun ad aa n imm h hn => illegal_of_oneA h rfl (decide_eq_true hn),
    fun e he => ?ended, fun b loops i w hs ha hw => executeBundle_ended hs ha hw _ _ _ _, fun w he ht hw hb => ?free,
    fun w he ht hw hb => ?blocked⟩
  case ended => rw [exec_descriptorWriteEffect, descriptorEffect_ended he]
  case free => rw [exec_descriptorWriteEffect, descriptorEffect_held he ht hw, hb, if_neg Bool.false_ne_true]
  case blocked => rw [exec_descriptorWriteEffect, descriptorEffect_held he ht hw, hb, if_pos rfl]

end Sys2Proof.Machine
end

section
/-! SUPPORT. Bundles from memory: the fetch into the code buffer, the issue of the first ready thread, and the hazards of audit mode (R91,
R93, R127, R151, R162, R163). -/

namespace Sys2Proof.Machine
open Sys2Proof.Claims

/-! ## Fetch (R127, R151) -/

section
variable {s : State} {c : CoreId} {t : ThreadId} {th : Thread} (ht : (s.core c).thread t = some th) (hs : s.rec0.stopped = false)
  (hstop : th.stopped = false) {bytes : List Byte} {w : EWork}
include ht hs hstop

/-- A fetch that is needed and whose bytes can be read puts them into the buffer. -/
theorem core_bundleFetch {addr : W64} (hn : fetchNeeded (s.core c) th addr = true)
    (hr : (if addr = th.pc then fetchBytes addr.toNat else vaRead addr.toNat 2).run (.start s c (64 + t.toNat) th.task) = .ok bytes w) :
    ∃ u, exec (.bundleFetch c t addr) s = .next u ∧ u.core c = (w.s.core c).putFetched th addr bytes := by
  refine ⟨_, rfl, ?_⟩
  rw [State.core_settle]
  simp only [bundleFetch, ht, hs, hstop, hn, hr, Bool.not_true, Bool.or_false, Bool.false_eq_true, if_false]
  exact State.core_modCore_same w.s c fun k => k.putFetched th addr bytes

theorem core_bundleFetch_pc (hc : mapFind (s.core c).code th.pc.toNat = none)
    (hr : (fetchBytes th.pc.toNat).run (.start s c (64 + t.toNat) th.task) = .ok bytes w) :
    ∃ u, exec (.bundleFetch c t th.pc) s = .next u ∧
      u.core c = { w.s.core c with code := mapPut (w.s.core c).code th.pc.toNat bytes } := by
  have hn : fetchNeeded (s.core c) th th.pc = true := by simp [fetchNeeded, fetchWanted, hc]
  obtain ⟨u, he, hu⟩ := core_bundleFetch ht hs hstop hn (by rw [if_pos rfl]; exact hr)
  exact ⟨u, he, hu.trans (if_pos rfl)⟩

theorem core_bundleFetch_skipped {addr : W64} (hw : addr ∈ fetchWanted (s.core c) th) (ha : addr ≠ th.pc)
    (hc : mapFind (s.core c).code addr.toNat = none) (hh : mapFind (s.core c).heads addr.toNat = none)
    (hr : (vaRead addr.toNat 2).run (.start s c (64 + t.toNat) th.task) = .ok bytes w) :
    ∃ u, exec (.bundleFetch c t addr) s = .next u ∧ u.core c = { w.s.core c with
      heads := mapPut (w.s.core c).heads addr.toNat (bundleLen (natOfBytes bytes)) } := by
  have hn : fetchNeeded (s.core c) th addr = true := by simp [fetchNeeded, hw, hc, hh]
  obtain ⟨u, he, hu⟩ := core_bundleFetch ht hs hstop hn (by rw [if_neg ha]; exact hr)
  exact ⟨u, he, hu.trans (if_neg ha)⟩

end

/-! ## Issue of the first ready thread (R91, R93) -/

theorem exec_bundleIssue (c : CoreId) (s : State) : exec (.bundleIssue c) s = .next (s.settle (bundleIssue c s).sweepVersions) := rfl

section
variable {s : State} {c : CoreId}

theorem bundleIssue_none (hf : (issueOrder (s.core c)).find? (readyAt s (s.core c)) = none) : bundleIssue c s = s := by
  simp only [bundleIssue, hf]

variable {t : ThreadId} {th : Thread} {bytes : List Byte} {b : Bundle} (ht : (s.core c).thread t = some th)
  (hf : (issueOrder (s.core c)).find? (readyAt s (s.core c)) = some t.toNat)
  (hc : mapFind (s.core c).code th.pc.toNat = some bytes) (hb : decodeBundle bytes = some b)
include ht hf hc hb

theorem bundleIssue_first : bundleIssue c s = issueBundle c t b s := by
  simp only [bundleIssue, hf, BitVec.ofNat_toNat, BitVec.setWidth_eq, ht, hc, Option.bind_some, hb]

/-- The thread that is ready may issue: it is not stopped, holds no write, and, its bundle not being illegal, waits for nothing. -/
theorem ready_of_first : th.stopped = false ∧ th.held = none ∧
    (b.illegal th = true ∨ (waitcHolds (s.core c) th b = true ∧ queuesReady s (s.core c) b = true)) := by
  have hr : readyAt s (s.core c) t.toNat = true := by simpa using List.find?_some hf
  have hth : mapFind (s.core c).threads t.toNat = some th := ht
  simp only [readyAt, hth, threadReady, hc, hb, Bool.and_eq_true, Bool.or_eq_true, Bool.not_eq_true', Option.isNone_iff_eq_none] at hr
  obtain ⟨⟨hstop, hheld⟩, hr⟩ := hr
  exact ⟨hstop, hheld, hr.imp id And.left⟩

theorem exec_bundleIssue_whole (hs : s.rec0.stopped = false) (hi : issueFault s (s.core c) th b = none) {loops : List LoopLevel} {next : W64}
    (hn : nextBundle b th (s.core c).lenAt = some (loops, next)) : exec (.bundleIssue c) s =
      .next (s.settle (s.setCore c (executeBundle s.unitsEff t th b loops next (s.core c))).sweepVersions) := by
  obtain ⟨hstop, hheld, hill | ⟨hw, hq⟩⟩ := ready_of_first ht hf hc hb
  · simp [issueFault, hill] at hi
  · rw [exec_bundleIssue, bundleIssue_first ht hf hc hb, issueBundle_whole ht hs hstop hheld hi hw hq hn]

theorem exec_bundleIssue_fault (hs : s.rec0.stopped = false) {f : IssueFault} (hi : issueFault s (s.core c) th b = some f) :
    exec (.bundleIssue c) s = .next (s.settle (raise f.code 1 c.toNat th.task.taskId.toNat
      (s.setCore c ((s.core c).faulted t th f))).sweepVersions) := by
  obtain ⟨hstop, hheld, hw⟩ := ready_of_first ht hf hc hb
  rw [exec_bundleIssue, bundleIssue_first ht hf hc hb, issueBundle_fault ht hs hstop hheld hw hi, faultBundle_eq]

end

/-! ## Hazards of audit mode (R162, R163; DESIGN CHOICE, log 131 and log 168) -/

section
variable {b : Bundle} {th : Thread} {new : List PendReg}

theorem bundleHazard_read (h : ∃ r ∈ b.reads, ∃ p ∈ th.pend, p.dest = r) :
    ∃ r ∈ b.reads, (∃ p ∈ th.pend, p.dest = r) ∧ bundleHazard b th new = some (0, r) := by
  cases hf : b.reads.find? fun r => th.pend.any fun p => p.dest == r with
  | none =>
    obtain ⟨r, hr, p, hp, hd⟩ := h
    have := List.find?_eq_none.1 hf r hr
    simp only [List.any_eq_true, beq_iff_eq, not_exists, not_and] at this
    exact absurd hd (this p hp)
  | some r =>
    refine ⟨r, List.mem_of_find?_eq_some hf, by simpa using List.find?_some hf, ?_⟩
    simp only [bundleHazard, hf]

theorem find_tagged_none (h : ∀ r ∈ b.reads, ¬ ∃ p ∈ th.pend, p.dest = r) :
    (b.reads.find? fun r => th.pend.any fun p => p.dest == r) = none := by
  refine List.find?_eq_none.2 fun r hr => ?_
  simpa using fun p hp hd => h r hr ⟨p, hp, hd⟩

theorem bundleHazard_together (hr : ∀ r ∈ b.reads, ¬ ∃ p ∈ th.pend, p.dest = r)
    (h : ∃ x ∈ new, ∃ p ∈ th.pend, p.dest = x.dest ∧ p.left = x.left) :
    ∃ x ∈ new, (∃ p ∈ th.pend, p.dest = x.dest ∧ p.left = x.left) ∧ bundleHazard b th new = some (2, x.dest) := by
  cases hf : new.find? fun p => th.pend.any fun o => o.dest == p.dest && o.left == p.left with
  | none =>
    obtain ⟨x, hx, p, hp, hd, hl⟩ := h
    have := List.find?_eq_none.1 hf x hx
    simp only [List.any_eq_true, Bool.and_eq_true, beq_iff_eq, not_exists, not_and] at this
    exact absurd hl (this p hp hd)
  | some x =>
    refine ⟨x, List.mem_of_find?_eq_some hf, by simpa using List.find?_some hf, ?_⟩
    simp only [bundleHazard, find_tagged_none hr, hf]

end

/-- In audit mode a bundle that meets no other fault meets its hazard. -/
theorem issueFault_of_audit {s : State} {k : Core} {th : Thread} {b : Bundle} (ha : s.audit = true)
    (ho : issueFault { s with audit := false } k th b = none) : issueFault s k th b = hazardFault b th (bundleResults k th b) := by
  rw [issueFault_eq, ho, Option.none_or, if_pos ha]

/-- What a hazard records (Tables 05-14 and 05-15). -/
theorem CoreRegs.noteHazard_eq (x : CoreRegs) (kind thread task : Nat) (r : RegRef) (addr : W64) :
    x.noteHazard kind 0 thread r.hazardNo task addr = if x.hazard.getLsbD 63 then x else { x with
      hazard := BitVec.ofNat 64 (2 ^ 63 + kind * 2 ^ 61 + thread * 2 ^ 49 + (match r with
        | .s n => n.toNat
        | .a n => 32 + n.toNat) * 2 ^ 43 + task),
      hazardAddr := BitVec.ofNat 64 (addr.toNat % 2 ^ 52) } := by
  cases r <;> simp [CoreRegs.noteHazard, hazardWord, RegRef.hazardNo]

/-- Settles O19: the fetch by what it puts into the buffer, the issue by the first ready thread, the hazards by their order. -/
theorem bundlesFetchAndIssue : Obligations.BundlesFetchAndIssue := by
  unfold Obligations.BundlesFetchAndIssue
  intro s c
  refine ⟨fun t th ht hs hstop => ⟨fun bytes w hc hr => core_bundleFetch_pc ht hs hstop hc hr,
      fun addr bytes w hw ha hc hh hr => core_bundleFetch_skipped ht hs hstop hw ha hc hh hr,
      fun bytes b loops next _ hf hc hb hi hn => exec_bundleIssue_whole ht hf hc hb hs hi hn⟩,
    fun hf => by rw [exec_bundleIssue, bundleIssue_none hf],
    fun th b ha ho => ⟨fun h => ?read, fun hr h => ?together, fun _ hp hn => ?quiet⟩,
    fun t th bytes b kind r ht hs hf hc hb hi => ?hazard⟩
  case read =>
    obtain ⟨r, hr, ht, e⟩ := bundleHazard_read (new := bundleResults (s.core c) th b) h
    exact ⟨r, hr, ht, by rw [issueFault_of_audit ha ho, hazardFault, e]; rfl⟩
  case together =>
    obtain ⟨x, hx, ht, e⟩ := bundleHazard_together hr h
    exact ⟨x, hx, ht, by rw [issueFault_of_audit ha ho, hazardFault, e]; rfl⟩
  case quiet => rw [issueFault_of_audit ha ho, hazardFault, bundleHazard_none hp hn]; rfl
  case hazard =>
    rw [exec_bundleIssue_fault ht hf hc hb hs hi]
    simp only [Core.faulted, CoreRegs.noteHazard_eq]
    rfl

end Sys2Proof.Machine
end

section
/-! SUPPORT. Work stealing between the lanes of the gather engine (R108). -/

namespace Sys2Proof.Machine
open Sys2Proof.Claims

theorem exec_laneSteal (c : CoreId) (l : BitVec 4) (s : State) : exec (.laneSteal c l) s = .next (s.settle (laneSteal c l s)) := rfl

/-- The lane tasks that wait in a lane, the oldest first. -/
def Core.laneTasks (k : Core) (n : Nat) : List LaneTask := (mapGet Lane.idle k.lanes n).queue

/-- The neighbour that an idle lane steals from: the fuller one, on a tie that of lane (l + 1) mod 16. -/
def Core.laneVictim (k : Core) (l : Nat) : Nat :=
  if (k.laneTasks ((l + 15) % 16)).length ≤ (k.laneTasks ((l + 1) % 16)).length then (l + 1) % 16 else (l + 15) % 16

section
variable {s : State} {c : CoreId} {l : BitVec 4}

theorem laneSteal_own {t : LaneTask} {rest : List LaneTask} (h : (s.core c).laneTasks l.toNat = t :: rest) :
    laneSteal c l s = s.setCore c { s.core c with lanes := mapPut (s.core c).lanes l.toNat ⟨some t, rest⟩ } := by
  unfold Core.laneTasks at h
  simp only [laneSteal, h]

variable (h : (s.core c).laneTasks l.toNat = [])
include h

/-- A lane without a task of its own steals the newest of its fuller neighbour, which keeps the others. -/
theorem laneSteal_steals {t : LaneTask} {rest : List LaneTask} {v : Nat} (hv : (s.core c).laneVictim l.toNat = v)
    (ht : (s.core c).laneTasks v = rest ++ [t]) (hr : rest ≠ []) : laneSteal c l s = s.setCore c { s.core c with
      lanes := mapPut (mapPut (s.core c).lanes v { mapGet Lane.idle (s.core c).lanes v with queue := rest }) l.toNat ⟨some t, []⟩ } := by
  have hlen : 2 ≤ (rest ++ [t]).length := by
    have := List.length_pos_iff.2 hr
    simp
    omega
  unfold Core.laneVictim at hv
  unfold Core.laneTasks at h hv ht
  simp only [laneSteal, h, hv, ht, List.getLast?_concat, if_pos hlen, List.dropLast_concat]

/-- Where that neighbour holds fewer than two, the lane is idle. -/
theorem laneSteal_idles (hv : ((s.core c).laneTasks ((s.core c).laneVictim l.toNat)).length < 2) : laneSteal c l s =
    s.setCore c { s.core c with lanes := (s.core c).lanes.map fun x => if x.1 = l.toNat then (l.toNat, Lane.idle) else x } := by
  unfold Core.laneTasks at h
  have hn : ¬ 2 ≤ ((s.core c).laneTasks ((s.core c).laneVictim l.toNat)).length := Nat.not_le.2 hv
  unfold Core.laneVictim Core.laneTasks at hn
  simp only [laneSteal, h, if_neg hn]
  split <;> rfl

end

/-- Settles O27: the lane's own oldest task, the steal by its victim, and the idle lane. -/
theorem laneStealing : Obligations.LaneStealing := by
  unfold Obligations.LaneStealing
  intro s c l t rest
  refine ⟨fun h => ?own, fun h hu hr hle => ?up, fun h hd hr hlt => ?down, fun h hu hd => ?idle⟩
  case own => rw [exec_laneSteal, laneSteal_own h]
  case up =>
    dsimp only
    rw [exec_laneSteal, laneSteal_steals h (if_pos hle) hu hr]
  case down =>
    dsimp only
    rw [exec_laneSteal, laneSteal_steals h (if_neg (Nat.not_le.2 hlt)) hd hr]
  case idle =>
    have hv : ((s.core c).laneTasks ((s.core c).laneVictim l.toNat)).length < 2 := by
      unfold Core.laneVictim
      split
      · exact hu
      · exact hd
    rw [exec_laneSteal, laneSteal_idles h hv]

end Sys2Proof.Machine
end

section
/-! SUPPORT. The buffers of the vector contexts and the retirement of their instructions (R101, R149, R203, R520). -/

namespace Sys2Proof.Machine
open Sys2Proof.Claims

theorem exec_vCommandBufferEntry (c : CoreId) (s : State) :
    exec (.vCommandBufferEntry c) s = .next (s.settle (vBufferEntry c s)) := rfl

theorem exec_vRetire (c : CoreId) (ctx : VCtx) (i : BitVec 8) (s : State) :
    exec (.vRetire c ctx i) s = .next (s.settle (vRetire c ctx i.toNat s).sweepVersions) := rfl

theorem vBufferEntry_enters {s : State} {c : CoreId} {ctx : VCtx} {v : VInstr} {rest : List QCmd}
    (hq : ((s.core c).queue 2).waiting = .vec ctx v :: rest) (hs : s.rec0.stopped = false)
    (hl : ((s.core c).vcontext ctx).buf.length < 16) (he : 2 ∉ (s.core c).errors.cmd) : vBufferEntry c s = s.setCore c
      (((s.core c).setQueue 2 { (s.core c).queue 2 with waiting := rest }).setVContext ctx
        { (s.core c).vcontext ctx with buf := ((s.core c).vcontext ctx).buf ++ [v] }) := by
  simp [vBufferEntry, hq, hs, Nat.not_le.2 hl, he]

@[simp] theorem Core.vcontext_setVContext_same (k : Core) (c : VCtx) (x : VContext) : (k.setVContext c x).vcontext c = x := by
  simp [Core.vcontext, Core.setVContext]

/-- The signal of an instruction: a value for a counter, or none. -/
def Core.signalled (k : Core) : Option (ScReg × BitVec 16) → Core
  | some x => k.addCounter x.1 x.2
  | none => k

@[simp] theorem Core.vcontext_signalled (k : Core) (x : Option (ScReg × BitVec 16)) (c : VCtx) :
    (k.signalled x).vcontext c = k.vcontext c := by
  cases x <;> rfl

@[simp] theorem Core.ls_signalled (k : Core) (x : Option (ScReg × BitVec 16)) : (k.signalled x).ls = k.ls := by
  cases x <;> rfl

theorem Core.counter_signalled (k : Core) (x : ScReg × BitVec 16) (n : ScReg) :
    (k.signalled (some x)).counter n = if n = x.1 then k.counter n + x.2 else k.counter n := by
  by_cases hn : n = x.1
  · subst hn
    rw [if_pos rfl]
    exact k.counter_addCounter_same x.1 x.2
  · rw [if_neg hn]
    exact k.counter_addCounter_other x.2 hn

section
variable {s : State} {c : CoreId} {ctx : VCtx} {i : Nat} {u : VUnret} (hu : ((s.core c).vcontext ctx).unret[i]? = some u)
include hu

/-- An instruction that may retire leaves its context, and its signal goes to its counter. -/
theorem vRetire_retires (h : u.signal = none ∨ i = 0) : vRetire c ctx i s = (s.setCore c (((s.core c).setVContext ctx
      { (s.core c).vcontext ctx with unret := ((s.core c).vcontext ctx).unret.eraseIdx i }).signalled u.signal)).noteRetire c u.task.frame := by
  have hw : (u.signal.isSome && decide (0 < i)) = false := by
    rcases h with h | h <;> simp [h]
  simp only [vRetire, hu, hw]
  cases u.signal <;> rfl

/-- A VSIGNAL behind an older instruction waits. -/
theorem vRetire_waits (h : u.signal.isSome = true) (hi : 0 < i) : vRetire c ctx i s = s := by
  simp [vRetire, hu, h, hi]

end

/-- Settles O32: the entry of the head command into its buffer, and the retirement by whether it must wait. -/
theorem vectorBufferAndRetire : Obligations.VectorBufferAndRetire := by
  unfold Obligations.VectorBufferAndRetire
  intro s c ctx
  refine ⟨fun v rest hq hs hl he => ?enters, fun i u hu h => ?retires,
    fun i u hu h hi => ?waits⟩
  case enters => rw [exec_vCommandBufferEntry, vBufferEntry_enters hq hs hl he]
  case waits =>
    have hpos : 0 < i.toNat := Nat.pos_of_ne_zero fun h => hi (BitVec.eq_of_toNat_eq h)
    rw [exec_vRetire, vRetire_waits hu h hpos]
  case retires =>
    have hmay : u.signal = none ∨ i.toNat = 0 := h.imp id fun h => by rw [h]; rfl
    refine ⟨_, (exec_vRetire c ctx i s).trans (by rw [vRetire_retires hu hmay]), ?_⟩
    have hcore (k : Core) : ((s.setCore c k).noteRetire c u.task.frame).core c = k := s.core_setCore_same c k
    rw [hcore]
    refine ⟨by simp, by simp, fun n => ?_, by simp⟩
    cases u.signal with
    | none => rfl
    | some x => exact Core.counter_signalled _ x n

end Sys2Proof.Machine
end

section
/-! SUPPORT. The start of tasks on the threads of a core (R87, R88, R334). -/

namespace Sys2Proof.Machine
open Sys2Proof.Claims

theorem exec_taskStart (c : CoreId) (s : State) : exec (.taskStart c) s = .next (s.settle (taskStart c s)) := rfl

/-- The frames that hold unstarted tasks of a core, the oldest first. -/
def Core.openFrames (k : Core) : List Nat :=
  (((k.tasks.filter TaskInst.unstarted).map fun t => t.ctx.frame).eraseDups).mergeSort fun a b => decide (a ≤ b)

section
variable {s : State} {c : CoreId} {t : TaskInst} (hs : s.rec0.stopped = false) (hw : s.run.saving = false)
  (hp : s.pickTask c [] (s.core c).openFrames = some t)
include hs hw hp

theorem taskStart_starts (hv : t.stage ≠ .invalid) (hg : s.gateOf c t ≠ .skip) : taskStart c s = s.setCore c ((s.core c).startTask t) := by
  unfold Core.openFrames at hp
  simp only [taskStart, hs, hw, hp, if_neg hv]
  cases h : s.gateOf c t
  case skip => exact absurd h hg
  all_goals rfl

theorem taskStart_skips (hv : t.stage ≠ .invalid) (hg : s.gateOf c t = .skip) : taskStart c s = s.setCore c
    (((s.core c).modTask t.ctx.uid fun x => { x with stage := .skipped }).addCounter
      (t.ctx.ctr (BitVec.ofNat 6 t.gate.ctr)) (BitVec.ofNat 16 t.gate.sinc)) := by
  unfold Core.openFrames at hp
  simp only [taskStart, hs, hw, hp, if_neg hv, hg]
  rfl

theorem taskStart_faults (hv : t.stage = .invalid) : taskStart c s = raise 0x0102 1 c.toNat t.ctx.taskId.toNat
    (s.setCore c ((s.core c).modTask t.ctx.uid fun x => { x with stage := .ended })) := by
  unfold Core.openFrames at hp
  simp only [taskStart, hs, hw, hp, if_pos hv]
  rfl

end

/-! ## The threads that a task takes -/

theorem mapFind_foldl_mapPut_other {α β : Type} (f : α → Nat) (g : α → β) {l : List α} {a : Nat} (h : ∀ x ∈ l, f x ≠ a)
    (m : List (Nat × β)) : mapFind (l.foldl (fun m x => mapPut m (f x) (g x)) m) a = mapFind m a := by
  induction l generalizing m with
  | nil => rfl
  | cons x l ih =>
    rw [List.foldl_cons, ih fun y hy => h y (.tail _ hy)]
    exact mapFind_mapPut_other m (g x) (h x (.head _))

/-- Of entries of distinct keys that are put into a map each is found. -/
theorem mapFind_foldl_mapPut_same {α β : Type} (f : α → Nat) (g : α → β) {l : List α} {x : α} (hx : x ∈ l)
    (h : (l.map f).Nodup) (m : List (Nat × β)) : mapFind (l.foldl (fun m x => mapPut m (f x) (g x)) m) (f x) = some (g x) := by
  induction l generalizing m with
  | nil => cases hx
  | cons y l ih =>
    obtain ⟨hy, hl⟩ := List.nodup_cons.1 h
    rw [List.foldl_cons]
    rcases List.mem_cons.1 hx with rfl | hx
    · rw [mapFind_foldl_mapPut_other f g fun z hz he => hy (List.mem_map.2 ⟨z, hz, he⟩)]
      exact mapFind_mapPut_same m _ _
    · exact ih hx hl _

/-- The threads that a task takes, each with its number in the task. -/
def Core.placesOf (k : Core) (t : TaskInst) : List (Nat × Nat) := (k.freeThreads.take t.trec.threads).zip (List.range t.trec.threads)

theorem Core.threads_startTask (k : Core) (t : TaskInst) : (k.startTask t).threads =
    (k.placesOf t).foldl (fun m p => mapPut m p.1 (threadOf t p.2)) k.threads := by
  have key : ∀ (l : List (Nat × Nat)) (k : Core), (l.foldl (fun (k : Core) p =>
      { k with threads := mapPut k.threads p.1 (threadOf t p.2) }) k).threads =
        l.foldl (fun m p => mapPut m p.1 (threadOf t p.2)) k.threads := by
    intro l
    induction l with
    | nil => exact fun _ => rfl
    | cons p l ih => exact fun k => ih _
  exact key _ k

theorem Core.mem_freeThreads {k : Core} {n : Nat} : n ∈ k.freeThreads ↔ n < 128 ∧ mapFind k.threads n = none := by
  simp [Core.freeThreads]

theorem Core.nodup_freeThreads (k : Core) : k.freeThreads.Nodup := List.nodup_range.filter _

section
variable {k : Core} {t : TaskInst}

theorem Core.mem_placesOf {i j : Nat} (hj : j < t.trec.threads) (hi : k.freeThreads[j]? = some i) : (i, j) ∈ k.placesOf t := by
  refine List.mem_iff_getElem?.2 ⟨j, ?_⟩
  simp [Core.placesOf, List.getElem?_zip_eq_some, hj, hi]

theorem Core.nodup_placesOf (k : Core) (t : TaskInst) : ((k.placesOf t).map Prod.fst).Nodup := by
  have h : (k.placesOf t).map Prod.fst = k.freeThreads.take t.trec.threads := List.map_fst_zip (by simp)
  rw [h]
  exact k.nodup_freeThreads.sublist (List.take_sublist _ _)

/-- Thread j of the task is the j-th lowest free one. -/
theorem Core.startTask_thread {i j : Nat} (hj : j < t.trec.threads) (hi : k.freeThreads[j]? = some i) :
    mapFind (k.startTask t).threads i = some (threadOf t j) := by
  rw [Core.threads_startTask]
  exact mapFind_foldl_mapPut_same Prod.fst (fun p => threadOf t p.2) (Core.mem_placesOf hj hi) (k.nodup_placesOf t) k.threads

/-- A thread that holds a task keeps it. -/
theorem Core.startTask_other {n : Nat} (h : (mapFind k.threads n).isSome = true) :
    mapFind (k.startTask t).threads n = mapFind k.threads n := by
  rw [Core.threads_startTask]
  refine mapFind_foldl_mapPut_other Prod.fst (fun p => threadOf t p.2) (fun p hp he => ?_) k.threads
  have hfree := Core.mem_freeThreads.1 (List.mem_of_mem_take (List.of_mem_zip hp).1)
  rw [he] at hfree
  simp [hfree.2] at h

end

/-- The registers of a thread at its start (R88). -/
theorem threadOf_regs (t : TaskInst) (j : Nat) : (threadOf t j).getS 0 = BitVec.ofNat 64 j ∧
    (threadOf t j).getS 1 = BitVec.ofNat 64 t.trec.threads ∧ (threadOf t j).getA 0 = BitVec.ofNat 64 t.trec.arg ∧
    (∀ r : SReg, 2 ≤ r.toNat → (threadOf t j).getS r = 0) ∧ (∀ r : AReg, r ≠ 0 → (threadOf t j).getA r = 0) := by
  refine ⟨?_, mapGet_mapSet_same _ _ _ _, mapGet_mapSet_same _ _ _ _, fun r hr => ?_, fun r hr => ?_⟩
  · exact (mapGet_mapSet_other _ _ (by decide)).trans (mapGet_mapSet_same _ _ _ _)
  · exact (mapGet_mapSet_other _ _ (by omega)).trans (mapGet_mapSet_other _ _ (by omega))
  · exact mapGet_mapSet_other _ _ fun h => hr (BitVec.eq_of_toNat_eq h.symm)

/-- Settles O40: the picked task by its stage and gate, and its threads by the places that it takes. -/
theorem tasksStartOnTheirThreads : Obligations.TasksStartOnTheirThreads := by
  unfold Obligations.TasksStartOnTheirThreads
  refine ⟨fun s c t hs hw hp => ⟨fun hv hg => ?starts, fun hv hg => ?skips, fun hv => ?faults⟩,
    fun k t i j _ hj hi => ⟨fun th hth => ?thread, ?taken, fun n => Core.startTask_other⟩⟩
  case starts => rw [exec_taskStart, taskStart_starts hs hw hp hv hg]
  case skips => rw [exec_taskStart, taskStart_skips hs hw hp hv hg]
  case faults => rw [exec_taskStart, taskStart_faults hs hw hp hv]
  case taken => rw [Core.startTask_thread hj hi]; rfl
  case thread =>
    obtain rfl : threadOf t j = th := Option.some.inj ((Core.startTask_thread hj hi).symm.trans hth)
    obtain ⟨h0, h1, ha, hs, hz⟩ := threadOf_regs t j
    exact ⟨rfl, rfl, h0, h1, ha, hs, hz, rfl, rfl, rfl, rfl⟩

end Sys2Proof.Machine
end

section
/-! SUPPORT. Saving and restoring contexts (R118, R121, R122, R515, R519). -/

namespace Sys2Proof.Machine
open Sys2Proof.Claims

/-! ## Commands of which a rule has BUSY first (R437) -/

section
variable {i : Instr} {s t : State} {h : PktHdr} {op : Nat} {f : List (Nat × Nat × Nat)} {body : State → State} {busy : State → Bool}
  (hs : Starts s op h) (he : exec i s = .next (s.settle (damtinFirst busy op h f body s))) (hsp : spelling i = (op, f))
include hs he hsp

theorem replies_busy (hb : busy s = true) : Replies i s s h 0x14 := by
  intro hspell
  obtain ⟨hm, -, -⟩ := hs
  unfold Spells at hspell
  rw [hsp] at hspell
  have h0 : ¬ (!h.says op f || !s.mayStart h) = true := by
    rw [show h.says op f = true from hspell, hm]
    decide
  rw [he, damtinFirst, if_neg h0, if_pos hb]
  rfl

theorem replies_not_busy {st r0 r1 r2 : Nat} (hb : busy s = false) (hu : s.unitOff op = false)
    (ht : body s = t.reply h st r0 r1 r2) : Replies i s t h st r0 r1 r2 := by
  intro hspell
  obtain ⟨hm, hq, hsess⟩ := hs
  unfold Spells at hspell
  rw [hsp] at hspell
  rw [he, damtinFirst_runs hspell hm hb hq hsess hu, ht]

end

/-! ## CONTEXT_SAVE (R121) -/

/-- Bytes of a context of a kind (R120). -/
def State.contextBytes (s : State) (kind : Byte) : Nat := if kind = 0 then 112 else sectionContextBytes s.servingCores.length

section
variable {s : State} {h : PktHdr} {kind halt : Byte} {dest len : W64} (hs : Starts s 0x0910 h) (hk : kind.toNat ≤ 1) (hh : halt.toNat ≤ 1)
include hs hk hh

omit hk hh in
theorem contextSave_short (hl : len.toNat < s.contextBytes kind) : Replies (.contextSave h kind halt 1 dest len) s s h 0x15 := by
  have hl' : decide (len.toNat < if kind = 0 then stepContextBytes else sectionContextBytes s.servingCores.length) = true :=
    decide_eq_true hl
  refine replies_of_starts hs rfl rfl rfl ?_
  dsimp only
  rw [hl', Bool.or_true, Bool.true_or, if_pos rfl]
  rfl

omit hs in
/-- The operands of a save to host memory are good where the range holds the context. -/
theorem contextSave_good (hl : s.contextBytes kind ≤ len.toNat) : ¬ (decide (1 < kind.toNat) || decide (1 < halt.toNat) ||
    decide (1 < (1 : Byte).toNat) || decide (len.toNat < if kind = 0 then stepContextBytes else sectionContextBytes s.servingCores.length) ||
    ((1 : Byte) == 0 && !s.mayWrite dest.toNat (if kind = 0 then stepContextBytes else sectionContextBytes s.servingCores.length))) = true := by
  have hl' : decide (len.toNat < if kind = 0 then stepContextBytes else sectionContextBytes s.servingCores.length) = false :=
    decide_eq_false (Nat.not_lt.2 hl)
  rw [hl', decide_eq_false (Nat.not_lt.2 hk), decide_eq_false (Nat.not_lt.2 hh)]
  simp

theorem contextSave_busy (hl : s.contextBytes kind ≤ len.toNat) (hb : s.run.save.isSome = true) :
    Replies (.contextSave h kind halt 1 dest len) s s h 0x14 := by
  refine replies_of_starts hs rfl rfl rfl ?_
  dsimp only
  rw [if_neg (contextSave_good hk hh hl), if_pos hb]
  rfl

theorem contextSave_waits (hl : s.contextBytes kind ≤ len.toNat) (hn : s.run.save = none)
    (hspell : Spells (.contextSave h kind halt 1 dest len) h) : exec (.contextSave h kind halt 1 dest len) s =
      .next (s.settle (State.begun { s with run := { s.run with
        save := some ⟨kind.toNat, halt == 1, true, dest.toNat, len.toNat, some h, s.openStep, none, false⟩ } } h)) := by
  have hb : ¬ s.run.save.isSome = true := by simp [hn]
  rw [runs_of_starts hs rfl rfl rfl hspell]
  dsimp only
  rw [if_neg (contextSave_good hk hh hl), if_neg hb]
  rfl

end

/-! ## CONTEXT_SAVE_WRITE (R118, R121, R519) -/

theorem exec_contextSaveWrite (s : State) : exec .contextSaveWrite s = .next (s.settle (contextSaveWrite s)) := rfl

theorem contextSaveWrite_none {s : State} (h : s.run.save = none) : contextSaveWrite s = s := by
  simp only [contextSaveWrite, h]

/-- A save to host memory completes where the HOST meter is open, and is under way where it is closed. -/
theorem State.putContext_host {r : SaveReq} (h : r.host = true) (s : State) (kind : Nat) (bytes : List Byte) : s.putContext r kind bytes =
    if s.hostOutOpen = true then ((s.chargeOut bytes.length).hostWrite r.dest bytes).finishSave r kind bytes.length
    else { s with run := { s.run with saving := true, save := some r } } := by
  rw [State.putContext, if_pos h]
  cases s.hostOutOpen <;> rfl

section
variable {s : State} {r : SaveReq} (hr : s.run.save = some r) (hs : s.rec0.stopping = false) (hw : r.written = false)
include hr hs hw

theorem contextSaveWrite_begun {x : Nat × Nat} (hb : r.begun = some x) (hc : s.badCores = []) :
    contextSaveWrite s = s.putContext { r with begun := some x } 1 (s.sectionContext x.1 x.2) := by
  simp [contextSaveWrite, hr, hs, hw, hb, hc]

theorem contextSaveWrite_section (hb : r.begun = none) (ht : s.sectionTick r = true) (hc : s.badCores = []) : contextSaveWrite s =
    s.putContext { r with begun := some (s.run.pos, s.bel.frame) } 1 (s.sectionContext s.run.pos s.bel.frame) := by
  simp [contextSaveWrite, hr, hs, hw, hb, ht, hc]

theorem contextSaveWrite_boundary (hb : r.begun = none) (ht : s.sectionTick r = false) (hd : s.saveBoundary r = true) :
    contextSaveWrite s = s.putContext r 0 s.stepContext := by
  simp [contextSaveWrite, hr, hs, hw, hb, ht, hd]

theorem contextSaveWrite_waits (hb : r.begun = none) (ht : s.sectionTick r = false) (hd : s.saveBoundary r = false) :
    contextSaveWrite s = s := by
  simp [contextSaveWrite, hr, hs, hw, hb, ht, hd]

end

/-! ## The end of a save (R121) -/

@[simp] theorem State.replyTo_run (s : State) (h : Option PktHdr) (st r0 r1 r2 : Nat) : (s.replyTo h st r0 r1 r2).run = s.run := by
  obtain ⟨q, g, e⟩ := s.replyTo_frame h st r0 r1 r2
  rw [e]

theorem State.finishSave_goesOn {r : SaveReq} {p : PktHdr} (hh : r.halt = false) (hp : r.hdr = some p) (s : State) (kind size : Nat) :
    s.finishSave r kind size = State.reply { s with run := { s.run with save := none, saving := false } } p 0 kind size := by
  simp only [State.finishSave, hh, hp]
  rfl

theorem State.finishSave_halts {r : SaveReq} (hh : r.halt = true) (s : State) (size : Nat) :
    (s.finishSave r 0 size).run.state = .held ∧ (s.finishSave r 0 size).run.halted = true := by
  simp [State.finishSave, hh]

/-- A HALT save of a SECTION context holds the module at its section. -/
theorem State.finishSave_halts_section {r : SaveReq} {pos frame : Nat} (hh : r.halt = true) (hb : r.begun = some (pos, frame)) (s : State)
    (size : Nat) : (s.finishSave r 1 size).run.state = .held ∧ (s.finishSave r 1 size).run.inStep = false ∧
      (s.finishSave r 1 size).run.resumePos = some pos ∧ (s.finishSave r 1 size).run.nextStep = s.run.step := by
  simp [State.finishSave, hh, hb, State.haltSection]

/-! ## CONTEXT_RESTORE (R122, R515) -/

theorem State.restoreServices_frame (s : State) (n : Nat) (sect idle : Bool) : ∃ g y f,
    s.restoreServices n sect idle = { s with granary := g, smithy := y, fab := f } := by
  unfold State.restoreServices
  split
  · exact ⟨s.granary, s.smithy, s.fab, rfl⟩
  · exact ⟨_, _, _, rfl⟩

theorem State.foldl_setCore_frame {α : Type} (c : α → CoreId) (f : α → Core → Core) (l : List α) (s : State) :
    ∃ k, l.foldl (fun s x => s.setCore (c x) (f x (s.core (c x)))) s = { s with cores := k } := by
  induction l generalizing s with
  | nil => exact ⟨s.cores, rfl⟩
  | cons x l ih =>
    obtain ⟨k, e⟩ := ih (s.setCore (c x) (f x (s.core (c x))))
    exact ⟨k, e⟩

theorem State.restoreCores_frame (s : State) (m : Memory) : ∃ k, s.restoreCores m = { s with cores := k } := by
  unfold State.restoreCores
  dsimp only
  split
  · exact ⟨_, rfl⟩
  · split
    · obtain ⟨k, e⟩ := State.foldl_setCore_frame (fun p : List CtxBlock × Nat => BitVec.ofNat 8 p.2)
        (fun p k => p.1.foldl (Core.putBlock m) k.cleared) (List.zip ‹_› s.servingCores)
        { s with cores := s.cores.map fun c => (c.1, c.2.still) }
      exact ⟨k, e⟩
    · exact ⟨_, rfl⟩

/-- The state whose cores a restore writes: a module that was IDLE has taken its staged almanac. -/
def State.restoreBase (s : State) (m : Memory) : State :=
  (if s.run.state == .idle then s.swapSlots else s).restoreServices (m.readNat 16 8) (m.readNat 7 1 == 1) (s.run.state == .idle)

theorem State.restoreBase_frame (s : State) (m : Memory) : ∃ g y f,
    s.restoreBase m = { (if s.run.state == .idle then s.swapSlots else s) with granary := g, smithy := y, fab := f } :=
  State.restoreServices_frame _ _ _ _

theorem State.restore_eq (s : State) (m : Memory) : ∃ r, s.restore m = { (s.restoreBase m).restoreCores m with run := r } := ⟨_, rfl⟩

theorem State.restore_keeps (s : State) (m : Memory) : (s.restore m).bel = s.bel ∧ (s.restore m).tier.hbm = s.tier.hbm := by
  obtain ⟨r, hr⟩ := s.restore_eq m
  obtain ⟨k, hk⟩ := (s.restoreBase m).restoreCores_frame m
  obtain ⟨g, y, f, hf⟩ := s.restoreBase_frame m
  rw [hr, hk, hf]
  split <;> exact ⟨rfl, rfl⟩

/-- The local store and the accumulators of a core. -/
def Core.stores (k : Core) : Memory × List (Nat × List A48) := (k.ls, k.banks)

theorem State.swapSlots_stores (s : State) (c : CoreId) : (s.swapSlots.core c).stores = (s.core c).stores := by
  have h : s.swapSlots.core c = { s.core c with sc := [], code := [], heads := [] } :=
    mapGet_map (f := fun k : Core => { k with sc := [], code := [], heads := [] }) rfl s.cores c.toNat
  rw [h]
  rfl

theorem State.restoreBase_stores (s : State) (m : Memory) (c : CoreId) : ((s.restoreBase m).core c).stores = (s.core c).stores := by
  obtain ⟨g, y, f, hf⟩ := s.restoreBase_frame m
  rw [hf]
  split
  · exact s.swapSlots_stores c
  · rfl

/-- A STEP context writes no core: each is only stilled. -/
theorem State.restore_step_stores {s : State} {m : Memory} (h : m.readNat 7 1 = 0) (c : CoreId) :
    ((s.restore m).core c).stores = (s.core c).stores := by
  obtain ⟨r, hr⟩ := s.restore_eq m
  have hcore : (s.restore m).core c = ((s.restoreBase m).core c).still := by
    rw [hr, State.restoreCores, if_pos h]
    exact mapGet_map (f := Core.still) rfl (s.restoreBase m).cores c.toNat
  rw [hcore]
  exact s.restoreBase_stores m c

section
variable {s : State} {h : PktHdr} {src len : W64} (hs : Starts s 0x0911 h)
include hs

theorem contextRestore_busy (hr : s.run.state = .running ∨ s.run.state = .replaying ∨ (s.run.state = .held ∧ s.run.halted = false)) :
    Replies (.contextRestore h 1 src len) s s h 0x14 := by
  refine replies_busy hs rfl rfl ?_
  rcases hr with hr | hr | ⟨hr, hh⟩
  · rw [hr]; rfl
  · rw [hr]; rfl
  · rw [hr, hh]; rfl

variable (hr : s.run.state = .idle ∨ (s.run.state = .held ∧ s.run.halted = true))
include hr

omit hs in
theorem contextRestore_open : (!(s.run.state == .idle || (s.run.state == .held && s.run.halted))) = false := by
  rcases hr with hr | ⟨hr, hh⟩
  · rw [hr]; rfl
  · rw [hr, hh]; rfl

theorem contextRestore_restores
    (hc : (s.chargeIn len.toNat).contextCheck (s.hostMem.slice src.toNat len.toNat) len.toNat = 0) :
    Replies (.contextRestore h 1 src len) s ((s.chargeIn len.toNat).restore (s.hostMem.slice src.toNat len.toNat)) h 0 := by
  refine replies_not_busy hs rfl rfl (contextRestore_open hr) rfl ?_
  dsimp only
  rw [if_pos rfl, if_pos (show _ = stOk from hc)]
  rfl

theorem contextRestore_refuses
    (hc : (s.chargeIn len.toNat).contextCheck (s.hostMem.slice src.toNat len.toNat) len.toNat ≠ 0) :
    Replies (.contextRestore h 1 src len) s (s.chargeIn len.toNat) h
      ((s.chargeIn len.toNat).contextCheck (s.hostMem.slice src.toNat len.toNat) len.toNat) := by
  refine replies_not_busy hs rfl rfl (contextRestore_open hr) rfl ?_
  dsimp only
  rw [if_pos rfl, if_neg (show ¬ _ = stOk from hc)]

end

/-- Settles O52: each clause is one of the laws above of the row that it is about. -/
theorem contextRows : Obligations.ContextRows := by
  unfold Obligations.ContextRows
  intro s h
  refine ⟨fun kind halt space dest len size hs hsize hk hh hsp => ?save, fun r hr hst hw hhost => ?write,
    fun hn => by rw [exec_contextSaveWrite, contextSaveWrite_none hn], fun r kind size p hh hp => s.finishSave_goesOn hh hp kind size,
    fun r size pos frame hh => ⟨(s.finishSave_halts hh size).1, (s.finishSave_halts hh size).2,
      fun hb => s.finishSave_halts_section hh hb size⟩,
    fun src len hs => ⟨contextRestore_busy hs, fun hr => ⟨contextRestore_restores hs hr, contextRestore_refuses hs hr⟩⟩, fun m => ?restore⟩
  case save =>
    subst hsp hsize
    exact ⟨contextSave_short hs, contextSave_busy hs hk hh, contextSave_waits hs hk hh⟩
  case write =>
    refine ⟨fun hb ht hc => ?_, fun x hb hc => ?_, fun hb ht hd => ?_, fun hb ht hd => ?_⟩
    · rw [exec_contextSaveWrite, contextSaveWrite_section hr hst hw hb ht hc, State.putContext_host (by exact hhost)]
    · rw [exec_contextSaveWrite, contextSaveWrite_begun hr hst hw hb hc, State.putContext_host (by exact hhost)]
    · rw [exec_contextSaveWrite, contextSaveWrite_boundary hr hst hw hb ht hd, State.putContext_host hhost]
    · rw [exec_contextSaveWrite, contextSaveWrite_waits hr hst hw hb ht hd]
  case restore =>
    obtain ⟨hbel, hhbm⟩ := s.restore_keeps m
    refine ⟨rfl, rfl, rfl, fun hk => ?_, hbel, hhbm, fun hk => ⟨?_, fun c => Prod.mk.inj (State.restore_step_stores hk c)⟩⟩
    · exact if_pos (by rw [hk]; rfl)
    · exact if_neg (by rw [hk]; decide)

end Sys2Proof.Machine
end

section
/-! SUPPORT. The results of the S and A slots as numbers (Tables 05-8 and 05-9, R139). -/

namespace Sys2Proof.Machine

/-! ## Shifts -/

theorem shiftLeft_eq_ofNat (a : W64) (n : Nat) : a <<< n = BitVec.ofNat 64 (a.toNat * 2 ^ n) :=
  BitVec.eq_of_toNat_eq (by simp [Nat.shiftLeft_eq])

theorem ushiftRight_eq_ofNat (a : W64) (n : Nat) : a >>> n = BitVec.ofNat 64 (a.toNat / 2 ^ n) := by
  have hlt : a.toNat / 2 ^ n < 2 ^ 64 := Nat.lt_of_le_of_lt (Nat.div_le_self _ _) a.isLt
  refine BitVec.eq_of_toNat_eq ?_
  rw [BitVec.toNat_ushiftRight, BitVec.toNat_ofNat, Nat.mod_eq_of_lt hlt, Nat.shiftRight_eq_div_pow]

theorem sshiftRight_eq_ofInt (a : W64) (n : Nat) : a.sshiftRight n = BitVec.ofInt 64 (a.toInt / 2 ^ n) := by
  rw [BitVec.sshiftRight, Int.shiftRight_eq_div_pow]
  norm_cast

/-- LIS: the register moves up by 16 bits and the immediate takes their place. -/
theorem shiftLeft_or_eq_ofNat (a : W64) (imm : BitVec 16) :
    (a <<< 16) ||| imm.zeroExtend 64 = BitVec.ofNat 64 (a.toNat * 65536 + imm.toNat) := by
  have himm : imm.toNat < 2 ^ 16 := imm.isLt
  refine BitVec.eq_of_toNat_eq ?_
  calc ((a <<< 16) ||| imm.zeroExtend 64).toNat = (a.toNat <<< 16 ||| imm.toNat) % 2 ^ 64 := by
        rw [Nat.or_mod_two_pow, BitVec.toNat_or, BitVec.toNat_shiftLeft, BitVec.toNat_setWidth]
    _ = (BitVec.ofNat 64 (a.toNat * 65536 + imm.toNat)).toNat := by
        rw [← Nat.shiftLeft_add_eq_or_of_lt himm, Nat.shiftLeft_eq, BitVec.toNat_ofNat]

/-- JR: a target without its lowest bit. -/
theorem and_not_one_eq_ofNat (a : W64) : a &&& ~~~1#64 = BitVec.ofNat 64 (a.toNat / 2 * 2) := by
  have hshift : (a >>> 1) <<< 1 = BitVec.ofNat 64 (a.toNat / 2 * 2) := by
    rw [shiftLeft_eq_ofNat, BitVec.toNat_ushiftRight, Nat.shiftRight_eq_div_pow, pow_one]
  rw [← hshift]
  ext i hi
  cases i with
  | zero => simp
  | succ i => simp [-BitVec.reduceNot, Nat.add_comm 1 i, BitVec.getLsbD_eq_getElem hi]

/-- AIDX: the sum with a scaled index. -/
theorem add_shiftLeft_eq_ofNat (a b : W64) (n : Nat) : a + (b <<< n) = BitVec.ofNat 64 (a.toNat + b.toNat * 2 ^ n) := by
  rw [shiftLeft_eq_ofNat, BitVec.ofNat_add, BitVec.ofNat_toNat, BitVec.setWidth_eq]

/-! ## Minimum and maximum -/

theorem aluResult_min (a b : W64) : aluResult .min a b = BitVec.ofInt 64 (min a.toInt b.toInt) := by
  unfold aluResult
  dsimp only
  split
  · rw [min_eq_left ‹_›, BitVec.ofInt_toInt]
  · rw [min_eq_right (not_le.1 ‹_›).le, BitVec.ofInt_toInt]

theorem aluResult_max (a b : W64) : aluResult .max a b = BitVec.ofInt 64 (max a.toInt b.toInt) := by
  unfold aluResult
  dsimp only
  split
  · rw [max_eq_right ‹_›, BitVec.ofInt_toInt]
  · rw [max_eq_left (not_le.1 ‹_›).le, BitVec.ofInt_toInt]

/-! ## Division (R139) -/

theorem floor_div_eq_fdiv (a b : ℤ) : ⌊(a : ℚ) / (b : ℚ)⌋ = a.fdiv b := by
  obtain ⟨n, rfl | rfl⟩ := b.eq_nat_or_neg
  · rw [Int.fdiv_eq_ediv_of_nonneg a (Int.natCast_nonneg n), Int.cast_natCast, Rat.floor_intCast_div_natCast]
  · have h := Rat.floor_intCast_div_natCast (-a) n
    rw [← Int.neg_fdiv_neg, neg_neg, Int.fdiv_eq_ediv_of_nonneg _ (Int.natCast_nonneg n), ← h]
    push_cast
    rw [div_neg, neg_div]

theorem aluResult_div (a b : W64) : aluResult .div a b =
    if b = 0 then 0 else BitVec.ofInt 64 ⌊(a.toInt : ℚ) / (b.toInt : ℚ)⌋ := by
  rw [floor_div_eq_fdiv]
  rfl

theorem aluResult_mod (a b : W64) : aluResult .mod a b =
    if b = 0 then a else BitVec.ofInt 64 (a.toInt - b.toInt * ⌊(a.toInt : ℚ) / (b.toInt : ℚ)⌋) := by
  rw [floor_div_eq_fdiv, ← Int.fmod_def]
  rfl

/-- The remainder of the floor quotient lies between 0 and the divisor. -/
theorem fmod_bounds (a : ℤ) {b : ℤ} (hb : b ≠ 0) : (0 ≤ a.fmod b ∧ a.fmod b < b) ∨ (b < a.fmod b ∧ a.fmod b ≤ 0) := by
  rcases lt_or_gt_of_ne hb with hneg | hpos
  · right
    have h0 := Int.fmod_nonneg_of_pos (-a) (neg_pos.2 hneg)
    have h1 := Int.fmod_lt_of_pos (-a) (neg_pos.2 hneg)
    rw [Int.neg_fmod_neg] at h0 h1
    omega
  · exact .inl ⟨Int.fmod_nonneg_of_pos a hpos, Int.fmod_lt_of_pos a hpos⟩

section
variable {b : W64} (hb : b ≠ 0) (a : W64)
include hb

theorem toInt_ne_zero : b.toInt ≠ 0 := fun h => hb (BitVec.eq_of_toInt_eq (h.trans BitVec.toInt_zero.symm))

theorem toInt_aluResult_mod : (aluResult .mod a b).toInt = a.toInt.fmod b.toInt := by
  have hr := fmod_bounds a.toInt (toInt_ne_zero hb)
  have hlo : -2 ^ 63 ≤ b.toInt := b.le_toInt
  have hhi : b.toInt < 2 ^ 63 := b.toInt_lt
  have hm : aluResult .mod a b = BitVec.ofInt 64 (a.toInt.fmod b.toInt) := if_neg hb
  rw [hm]
  refine BitVec.toInt_ofInt_eq_self (by decide) ?_ ?_
  · simp only [Nat.add_one_sub_one]; omega
  · simp only [Nat.add_one_sub_one]; omega

/-- Dividend = quotient · divisor + remainder, modulo 2^64. -/
theorem aluResult_div_mul_add_mod : a = aluResult .div a b * b + aluResult .mod a b := by
  have hd : aluResult .div a b = BitVec.ofInt 64 (a.toInt.fdiv b.toInt) := if_neg hb
  have hm : aluResult .mod a b = BitVec.ofInt 64 (a.toInt.fmod b.toInt) := if_neg hb
  calc a = BitVec.ofInt 64 (a.toInt.fdiv b.toInt * b.toInt + a.toInt.fmod b.toInt) := by
        rw [Int.fdiv_mul_add_fmod, BitVec.ofInt_toInt]
    _ = aluResult .div a b * b + aluResult .mod a b := by
        rw [hd, hm, BitVec.ofInt_add, BitVec.ofInt_mul, BitVec.ofInt_toInt]

end

/-- Settles O11: the remainder by its bounds, the quotient by the division with remainder. -/
theorem divisionIsFloor : Obligations.DivisionIsFloor := by
  unfold Obligations.DivisionIsFloor
  intro a b
  refine ⟨fun hb => ⟨aluResult_div_mul_add_mod hb a, ?sign, ?magnitude⟩, rfl, rfl, ?quotient, ?remainder⟩
  case sign =>
    have hr := fmod_bounds a.toInt (toInt_ne_zero hb)
    rw [toInt_aluResult_mod hb]
    omega
  case magnitude =>
    have hr := fmod_bounds a.toInt (toInt_ne_zero hb)
    rw [toInt_aluResult_mod hb]
    omega
  case quotient => decide
  case remainder => decide

end Sys2Proof.Machine
end

section
/-! SUPPORT. The issue of a bundle of one S slot, and the results of the S and A slots (R93, R138, R139, R156; the one-slot bundle of a row:
DEDUCED, log 3). -/

namespace Sys2Proof.Machine
open Sys2Proof.Claims

/-! ## S slots that issue -/

/-- An S instruction that issues on a thread: it is no END, it neither faults nor waits, and the thread goes on at `next` with the
levels `loops`. -/
structure Advances (k : Core) (th : Thread) (i : SInstr) (loops : List LoopLevel) (next : W64) : Prop where
  notEnd : i ≠ .stop
  legal : i.illegal = false
  loopOk : loopFault (oneS i) th = false
  holds : waitcHolds k th (oneS i) = true
  next : nextBundle (oneS i) th k.lenAt = some (loops, next)

/-- An instruction with a register result goes on in sequence and changes no counter. -/
theorem advances_of_sResult {k : Core} {th : Thread} {i : SInstr} {p : PendReg} (hr : sResult k th i = some p) :
    Advances k th i (endCheck th.pc th.loops (th.pc + 6)).1 (endCheck th.pc th.loops (th.pc + 6)).2 ∧ sCounter th k i = k := by
  cases i
  case alu | alui | li | lis | rdc | lidx => exact ⟨⟨nofun, rfl, rfl, rfl, rfl⟩, rfl⟩
  all_goals cases hr

section
variable {s : State} {c : CoreId} {t : ThreadId} {th : Thread} (h : Issuing s c t th)
include h

theorem issueFault_oneS {i : SInstr} (hi : i.illegal = false) (hl : loopFault (oneS i) th = false) :
    issueFault s (s.core c) th (oneS i) = none := by
  refine issueFault_of_issuing h (by simp [Bundle.illegal, oneS, hi]) rfl hl rfl ?_
  simp only [bundleResults, oneS, Option.bind_some, Option.bind_none, Option.toList_none, List.append_nil]
  cases sResult (s.core c) th i <;> simp

/-- An S slot that issues: its counter change, its result in flight and its successor, and nothing else. -/
theorem issueBundle_oneS {i : SInstr} {loops : List LoopLevel} {next : W64} (ha : Advances (s.core c) th i loops next) :
    issueBundle c t (oneS i) s = issued s c t th (sCounter th (s.core c) i) (sResult (s.core c) th i).toList next loops none := by
  have hf := issueFault_oneS h ha.legal ha.loopOk
  have hend : (oneS i).s ≠ some .stop := fun e => ha.notEnd (Option.some.inj e)
  obtain ⟨ht, hs, hstop, hheld, -⟩ := h
  rw [issueBundle_whole ht hs hstop hheld hf ha.holds rfl ha.next, executeBundle_goesOn hend]
  simp only [bundleResults, oneS, Option.bind_some, Option.bind_none, Option.toList_none, List.append_nil]
  rfl

variable {x : Instr} {i : SInstr} (he : exec x s = .next (s.settle (issueBundle c t (oneS i) s)))
include he

theorem writes_of_sResult {d : RegRef} {v : W64} {lat : Nat} (hr : sResult (s.core c) th i = some ⟨d, v, lat⟩) :
    Writes x s c t th d v lat := by
  obtain ⟨ha, hc⟩ := advances_of_sResult hr
  unfold Writes
  rw [he, issueBundle_oneS h ha, hc, hr]
  rfl

/-- An instruction that takes a branch writes no register. -/
theorem jumps_of_advances {pc : W64} (ha : Advances (s.core c) th i (keepLoops pc th.loops) pc) (hr : sResult (s.core c) th i = none)
    (hc : sCounter th (s.core c) i = s.core c) : Jumps x s c t th pc := by
  unfold Jumps
  rw [he, issueBundle_oneS h ha, hc, hr]
  simp only [keepLoops, Bool.decide_and]
  rfl

theorem goesOn_of_advances {k : Core} (ha : Advances (s.core c) th i (endCheck th.pc th.loops (th.pc + 6)).1
    (endCheck th.pc th.loops (th.pc + 6)).2) (hr : sResult (s.core c) th i = none) (hc : sCounter th (s.core c) i = k) :
    GoesOn x s c t th k := by
  unfold GoesOn
  rw [he, issueBundle_oneS h ha, hc, hr]
  rfl

end

/-- An A slot that neither reads nor writes memory leaves a result in flight, and nothing else. -/
theorem writes_of_aResult {s : State} {c : CoreId} {t : ThreadId} {th : Thread} (h : Issuing s c t th) {x : Instr} {i : AInstr}
    (he : exec x s = .next (s.settle (issueBundle c t (oneA i) s))) (hi : i.illegal = false) (ha : aRange th i = none) (hd : ∀ m, aDescWrite th m i = none) {d : RegRef} {v : W64} {lat : Nat}
    (hr : ∀ m, aResult th m i = some ⟨d, v, lat⟩) : Writes x s c t th d v lat := by
  have hrange : rangeFault (oneA i) th = false := by simp [rangeFault, oneA, ha]
  have hstore : storeBundle th (oneA i) (s.core c) = s.core c := by simp [storeBundle, oneA, ha]
  unfold Writes
  rw [he, issueBundle_oneA h hi hrange, hstore, hr, hd]
  rfl

/-! ## Results (Tables 05-8 and 05-9) -/

theorem flag_decide (p : Prop) [Decidable p] : flag (decide p) = if p then 1 else 0 := by
  by_cases h : p <;> simp [flag, h]

/-- Settles O8: each row by its result in Table 05-8, as a number. -/
theorem scalarRegisterResults : Obligations.ScalarRegisterResults := by
  unfold Obligations.ScalarRegisterResults
  intro s c t th rd ra rb h
  dsimp only
  rw [← shiftLeft_eq_ofNat, ← ushiftRight_eq_ofNat, ← sshiftRight_eq_ofInt, ← aluResult_min, ← aluResult_max, ← aluResult_div,
    ← aluResult_mod]
  simp only [flag_decide]
  refine ⟨?_, ?_, ?_, ?_, ?_, ?_, ?_, ?_, ?_, ?_, ?_, ?_, ?_, ?_, ?_, ?_, ?_⟩
  all_goals exact writes_of_sResult h rfl rfl

/-- Settles O9: each row by its result in Table 05-8, as a number. -/
theorem scalarImmediateResults : Obligations.ScalarImmediateResults := by
  unfold Obligations.ScalarImmediateResults
  intro s c t th rd ra imm level ctr h
  dsimp only
  rw [← shiftLeft_eq_ofNat, ← ushiftRight_eq_ofNat, ← sshiftRight_eq_ofInt, ← shiftLeft_or_eq_ofNat]
  refine ⟨?_, ?_, ?_, ?_, ?_, ?_, ?_, ?_, ?_, ?_, ?_⟩
  all_goals exact writes_of_sResult h rfl rfl

/-- Settles O15: each row by its result in Table 05-9, as a number. -/
theorem addressResults : Obligations.AddressResults := by
  unfold Obligations.AddressResults
  intro s c t th ad aa sb imm sh h
  dsimp only
  rw [← add_shiftLeft_eq_ofNat]
  refine ⟨?_, ?_, ?_, ?_, ?_⟩
  all_goals exact writes_of_aResult h rfl rfl rfl (fun _ => rfl) fun _ => rfl

end Sys2Proof.Machine
end

section
/-! SUPPORT. Branches, counters and loop levels of the S slot (R139, R145, R150 to R154). -/

namespace Sys2Proof.Machine
open Sys2Proof.Claims

/-! ## Branches and counters (R139, R145, R154) -/

section
variable {s : State} {c : CoreId} {t : ThreadId} {th : Thread} (h : Issuing s c t th) {x : Instr}
include h

/-- A conditional branch jumps where its comparison holds, and goes on in sequence where it fails. -/
theorem branch_way {op : BrOp} {ra rb : SReg} {off : BitVec 16} {p : Prop}
    (he : exec x s = .next (s.settle (issueBundle c t (oneS (.br op ra rb off)) s)))
    (hp : brTaken op (th.getS ra) (th.getS rb) = true ↔ p) :
    (p → Jumps x s c t th (th.pc + 2 * off.signExtend 64)) ∧ (¬ p → GoesOn x s c t th (s.core c)) := by
  refine ⟨fun htaken => ?_, fun hfails => ?_⟩
  · have hnext : nextBundle (oneS (.br op ra rb off)) th (s.core c).lenAt =
        some (keepLoops (th.pc + 2 * off.signExtend 64) th.loops, th.pc + 2 * off.signExtend 64) := if_pos (hp.2 htaken)
    exact jumps_of_advances h he ⟨nofun, rfl, rfl, rfl, hnext⟩ rfl rfl
  · have hnext : nextBundle (oneS (.br op ra rb off)) th (s.core c).lenAt = some (endCheck th.pc th.loops (th.pc + 6)) :=
      if_neg (mt hp.1 hfails)
    exact goesOn_of_advances h he ⟨nofun, rfl, rfl, rfl, hnext⟩ rfl rfl

theorem jumps_jmp (far : BitVec 26) : Jumps (.jmp c t far) s c t th (th.pc + 2 * far.signExtend 64) :=
  jumps_of_advances h rfl ⟨nofun, rfl, rfl, rfl, rfl⟩ rfl rfl

theorem jumps_jr (ra : SReg) : Jumps (.jr c t ra) s c t th (BitVec.ofNat 64 ((th.getS ra).toNat / 2 * 2)) := by
  rw [← and_not_one_eq_ofNat]
  exact jumps_of_advances h rfl ⟨nofun, rfl, rfl, rfl, rfl⟩ rfl rfl

theorem illegal_of_oneS {i : SInstr} (he : exec x s = .next (s.settle (issueBundle c t (oneS i) s))) (hi : i.illegal = true) :
    Illegal x s c t th := by
  have hb : (oneS i).illegal th = true := by simp [Bundle.illegal, oneS, hi]
  exact faults_of_issueFault h (f := .illegal) he (.inl hb) (if_pos hb) rfl

/-- WAITC with a condition that has a meaning issues where it holds and changes nothing where it does not. -/
theorem goesOn_waitc {ctr : ScReg} {cond : BitVec 2} {reg : Bool} {v : BitVec 16} (hc : cond ≠ 3)
    (hw : waitcHolds (s.core c) th (oneS (.waitc ctr cond reg v)) = true) : GoesOn (.waitc c t ctr cond reg v) s c t th (s.core c) :=
  goesOn_of_advances h rfl ⟨nofun, by simpa [SInstr.illegal] using hc, rfl, hw, rfl⟩ rfl rfl

theorem waitc_waits {ctr : ScReg} {cond : BitVec 2} {reg : Bool} {v : BitVec 16} (hc : cond ≠ 3)
    (hw : waitcHolds (s.core c) th (oneS (.waitc ctr cond reg v)) = false) :
    exec (.waitc c t ctr cond reg v) s = .next (s.settle s) := by
  have he : exec (.waitc c t ctr cond reg v) s = .next (s.settle (issueBundle c t (oneS (.waitc ctr cond reg v)) s)) := rfl
  obtain ⟨ht, -⟩ := h
  rw [he, issueBundle_waits ht (by simpa [Bundle.illegal, oneS, SInstr.illegal] using hc) (.inl hw)]

end

theorem condHolds_iff {cond : BitVec 2} {n v : BitVec 16} :
    condHolds cond n v = true ↔ cond = 0 ∨ (cond = 1 ∧ n = v) ∨ (cond = 2 ∧ (n - v).toNat < 2 ^ 15) := by
  unfold condHolds
  split_ifs with h0 h1 h2
  · simp [h0]
  · subst h1; simp
  · subst h2; simp
  · simp only [h0, h1, h2, false_and, or_false]

/-- Settles O12: branches by their comparison, counters by their change, WAITC by its condition. -/
theorem branchesAndCounters : Obligations.BranchesAndCounters := by
  unfold Obligations.BranchesAndCounters
  refine ⟨fun s c t th ra rb off far h => ?_, fun s c t th ctr r v cond reg h => ?_⟩
  · refine ⟨branch_way h rfl beq_iff_eq, branch_way h rfl bne_iff_ne, branch_way h rfl decide_eq_true_iff,
      branch_way h rfl decide_eq_true_iff, branch_way h rfl decide_eq_true_iff, branch_way h rfl decide_eq_true_iff,
      jumps_jmp h far, jumps_jr h ra⟩
  · have hw := condHolds_iff (cond := cond) (n := (s.core c).counter (th.task.ctr ctr))
      (v := if reg then (th.getS (v.truncate 5)).truncate 16 else v)
    refine ⟨goesOn_of_advances h rfl ⟨nofun, rfl, rfl, rfl, rfl⟩ rfl rfl, goesOn_of_advances h rfl ⟨nofun, rfl, rfl, rfl, rfl⟩ rfl rfl,
      fun hc => goesOn_waitc h ?meaning (hw.2 hc), fun h3 hc => waitc_waits h h3 (Bool.eq_false_iff.2 (mt hw.1 hc)),
      fun h3 => illegal_of_oneS h rfl (beq_iff_eq.2 h3)⟩
    case meaning =>
      rintro rfl
      simp at hc

/-! ## Loop levels (R150 to R153) -/

theorem Core.lenAt_unknown {k : Core} {a : W64} (hc : mapFind k.code a.toNat = none) (hh : mapFind k.heads a.toNat = none) :
    k.lenAt a = none := by
  simp only [Core.lenAt, hc, hh]

theorem Core.lenAt_known {k : Core} {a : W64} {len : Nat}
    (h : (∃ bytes, mapFind k.code a.toNat = some bytes ∧ len = bundleLen (natOfBytes (bytes.take 2))) ∨
      (mapFind k.code a.toNat = none ∧ mapFind k.heads a.toNat = some len)) : k.lenAt a = some len := by
  obtain ⟨bytes, hc, rfl⟩ | ⟨hc, hh⟩ := h
  · simp only [Core.lenAt, hc]
  · simp only [Core.lenAt, hc, hh]

section
variable {th : Thread} {i : SInstr} {n : Nat} {e : W64} (hl : (oneS i).loopOf th = some (n, e))
include hl

/-- LOOP and LOOPI wait for nothing, write no register and change no counter. -/
theorem slot_of_loopOf (k : Core) : i ≠ .stop ∧ i.illegal = false ∧ waitcHolds k th (oneS i) = true ∧ sResult k th i = none ∧
    sCounter th k i = k := by
  cases i
  case loop | loopi => exact ⟨nofun, rfl, rfl, rfl, rfl⟩
  all_goals cases hl

/-- Where the thread goes after LOOP or LOOPI: into a new level, or with a count of 0 past the bundle at the end (R150, R151). -/
theorem nextBundle_loop (lenAt : W64 → Option Nat) : nextBundle (oneS i) th lenAt = if n = 0 then
      (lenAt e).map fun len => endCheck e th.loops (e + BitVec.ofNat 64 len)
      else some (⟨th.pc + 6, e, n, n⟩ :: th.loops, th.pc + 6) := by
  cases i
  case loop | loopi =>
    unfold nextBundle
    dsimp only [oneS] at hl ⊢
    rw [hl]
    cases n with
    | zero => cases hlen : lenAt e <;> simp only [hlen] <;> rfl
    | succ n => rfl
  all_goals cases hl

theorem loopFault_iff : loopFault (oneS i) th = true ↔ e.toNat < th.pc.toNat + 6 ∨
    (∃ l, th.loops.head? = some l ∧ l.stop.toNat < e.toNat) ∨ (4 ≤ th.loops.length ∧ 1 ≤ n) := by
  unfold loopFault
  rw [hl]
  cases hls : th.loops with
  | nil =>
    simp only [Bool.or_eq_true, decide_eq_true_iff]
    simp [oneS]
  | cons l rest =>
    simp only [Bool.or_eq_true, Bool.and_eq_true, decide_eq_true_iff]
    simp [oneS, or_assoc, and_comm]

/-- An end that is neither too low nor too high is no fault, four levels being open only where the count is 0. -/
theorem loopFault_false (hlow : th.pc.toNat + 6 ≤ e.toNat) (hhigh : ∀ l, th.loops.head? = some l → e.toNat ≤ l.stop.toNat)
    (hdepth : 1 ≤ n → th.loops.length < 4) : loopFault (oneS i) th = false := by
  refine Bool.eq_false_iff.2 fun hf => ?_
  rcases (loopFault_iff hl).1 hf with hlt | ⟨l, hhead, hlt⟩ | ⟨hfour, hn⟩
  · omega
  · exact absurd (hhigh l hhead) (Nat.not_le.2 hlt)
  · exact absurd (hdepth hn) (Nat.not_lt.2 hfour)

variable {s : State} {c : CoreId} {t : ThreadId} (h : Issuing s c t th) {x : Instr}
  (he : exec x s = .next (s.settle (issueBundle c t (oneS i) s)))
include h he

theorem exec_loop_issues {loops : List LoopLevel} {next : W64} (hf : loopFault (oneS i) th = false)
    (hn : nextBundle (oneS i) th (s.core c).lenAt = some (loops, next)) :
    exec x s = .next (s.settle (issued s c t th (s.core c) [] next loops none)) := by
  obtain ⟨hend, hi, hw, hr, hc⟩ := slot_of_loopOf hl (s.core c)
  rw [he, issueBundle_oneS h ⟨hend, hi, hf, hw, hn⟩, hr, hc]
  rfl

/-- Until the length of the bundle that it skips is known, a LOOP or LOOPI changes nothing (R151). -/
theorem exec_loop_waits (hf : loopFault (oneS i) th = false) (hn : nextBundle (oneS i) th (s.core c).lenAt = none) :
    exec x s = .next (s.settle s) := by
  obtain ⟨-, hi, hw, -, -⟩ := slot_of_loopOf hl (s.core c)
  have hfault := issueFault_oneS h hi hf
  obtain ⟨ht, -⟩ := h
  rw [he]
  obtain ⟨hsame, -⟩ | ⟨th', ht', ⟨hsame, -⟩ | ⟨f, hf', -⟩ | ⟨loops, next, -, hn', -⟩⟩ := issueBundle_cases c t (oneS i) s
  · rw [hsame]
  · rw [hsame]
  · obtain rfl : th = th' := Option.some.inj (ht.symm.trans ht')
    cases hfault.symm.trans hf'
  · obtain rfl : th = th' := Option.some.inj (ht.symm.trans ht')
    cases hn.symm.trans hn'

theorem faults_loop (hf : loopFault (oneS i) th = true) : Faults 0x0107 x s c t th := by
  obtain ⟨-, hi, hw, -, -⟩ := slot_of_loopOf hl (s.core c)
  have hb : (oneS i).illegal th = false := by simp [Bundle.illegal, oneS, hi]
  have hfault : issueFault s (s.core c) th (oneS i) = some .loop := by
    unfold issueFault
    rw [hb, hf]
    rfl
  exact faults_of_issueFault h (f := .loop) he (.inr ⟨hw, rfl⟩) hfault rfl

variable (hlow : th.pc.toNat + 6 ≤ e.toNat) (hhigh : ∀ l, th.loops.head? = some l → e.toNat ≤ l.stop.toNat)
include hlow hhigh

theorem exec_loop_opens (hn : 1 ≤ n) (hdepth : th.loops.length < 4) : exec x s =
    .next (s.settle (issued s c t th (s.core c) [] (th.pc + 6) (⟨th.pc + 6, e, n, n⟩ :: th.loops) none)) :=
  exec_loop_issues hl h he (loopFault_false hl hlow hhigh fun _ => hdepth)
    ((nextBundle_loop hl _).trans (if_neg (Nat.ne_of_gt hn)))

theorem exec_loop_unknown (hn : n = 0) (hlen : (s.core c).lenAt e = none) : exec x s = .next (s.settle s) :=
  exec_loop_waits hl h he (loopFault_false hl hlow hhigh (by omega)) (by rw [nextBundle_loop hl, if_pos hn, hlen]; rfl)

theorem exec_loop_skips (hn : n = 0) {len : Nat} (hlen : (s.core c).lenAt e = some len) : exec x s =
    .next (s.settle (issued s c t th (s.core c) [] (endCheck e th.loops (e + BitVec.ofNat 64 len)).2
      (endCheck e th.loops (e + BitVec.ofNat 64 len)).1 none)) :=
  exec_loop_issues hl h he (loopFault_false hl hlow hhigh (by omega)) (by rw [nextBundle_loop hl, if_pos hn, hlen]; rfl)

end

/-- Settles O13: LOOP and LOOPI by their count, the end checks by their cases, the faults by what LOOP and LOOPI refuse. -/
theorem loopsOpenRepeatAndClose : Obligations.LoopsOpenRepeatAndClose := by
  unfold Obligations.LoopsOpenRepeatAndClose
  refine ⟨fun s c t th rc cnt stop => ?opens, fun addr next l rest => ?ends, fun s c t th rc cnt stop => ?faults⟩
  case opens =>
    intro e opens h hlow hhigh
    have hopens {i : SInstr} {x : Instr} {n : Nat} (hl : (oneS i).loopOf th = some (n, e))
        (he : exec x s = .next (s.settle (issueBundle c t (oneS i) s))) : opens x n :=
      ⟨exec_loop_opens hl h he hlow hhigh, fun hn hc hh => exec_loop_unknown hl h he hlow hhigh hn (Core.lenAt_unknown hc hh),
        fun hn len hlen => exec_loop_skips hl h he hlow hhigh hn (Core.lenAt_known hlen)⟩
    exact ⟨hopens (i := .loop rc stop) rfl rfl, hopens (i := .loopi cnt stop) rfl rfl⟩
  case ends =>
    refine ⟨fun he hleft => ?_, fun he hleft => ?_, fun hne => if_neg hne, rfl⟩
    · exact (if_pos he).trans (if_pos hleft)
    · exact (if_pos he).trans (if_neg (Nat.not_lt.2 hleft))
  case faults =>
    intro e bad h
    exact ⟨fun hb => faults_loop rfl h rfl ((loopFault_iff rfl).2 hb), fun hb => faults_loop rfl h rfl ((loopFault_iff rfl).2 hb)⟩

end Sys2Proof.Machine
end

section
/-! SUPPORT. The issue of the instruction at the head of a vector context's buffer, its waits and its faults (R149, R157 to R160, R205, R209,
R212, R231, R519; the whole instruction in one step: DEDUCED, log 4; the order of faults: DESIGN CHOICE, log 168). -/

namespace Sys2Proof.Machine
open Sys2Proof.Claims

/-! ## What an instruction's entry and legends give (R205, R209 to R212) -/

section
variable {s : State} {k : Core} {v : VInstr} {u : ConvUse} (hu : convUse v.op.toNat = some u)
include hu

/-- The entry's 32 bytes reach the local store's limit. -/
theorem vEnvOf_entry_range (hp : v.cap.task.lsAddr (32 * (VR.ofBits v.bits).mod.toNat) 32 = none) :
    vEnvOf s k v = .error .range := by
  simp only [vEnvOf, hu, hp]

variable {p : Nat} (hp : v.cap.task.lsAddr (32 * (VR.ofBits v.bits).mod.toNat) 32 = some p) (hb : k.errors.lsBad p 32 = false)
include hp hb

theorem vEnvOf_conv (hc : convInvalid u (Conv.ofBytes (k.ls.readBytes p 32)) = true) : vEnvOf s k v = .error .conv := by
  simp only [vEnvOf, hu, hp, hb, hc]
  rfl

variable (hc : convInvalid u (Conv.ofBytes (k.ls.readBytes p 32)) = false)
include hc

theorem vEnvOf_legend (hl : convLegs s v.op.toNat (Conv.ofBytes (k.ls.readBytes p 32)) = none) : vEnvOf s k v = .error .legend := by
  simp only [vEnvOf, hu, hp, hb, hc, hl]
  rfl

/-- In audit mode the entry's scalar index has a result in flight. -/
theorem vEnvOf_hazard (hl : (convLegs s v.op.toNat (Conv.ofBytes (k.ls.readBytes p 32))).isSome = true) (ha : s.audit = true)
    (hr : 128 ≤ (Conv.ofBytes (k.ls.readBytes p 32)).sreg % 256)
    (ht : (Conv.ofBytes (k.ls.readBytes p 32)).sreg % 32 ∈ v.cap.tagged) :
    vEnvOf s k v = .error (.hazard 0 ((Conv.ofBytes (k.ls.readBytes p 32)).sreg % 32)) := by
  have hbit : bit (Conv.ofBytes (k.ls.readBytes p 32)).sreg 7 = true := by
    simp only [bit, beq_iff_eq]
    omega
  obtain ⟨L, hL⟩ := Option.isSome_iff_exists.1 hl
  simp only [vEnvOf, hu, hp, hb, hc, hL, ha, hbit, List.contains_iff_mem.2 ht]
  rfl

end

/-- VLD and VST with a quarter beyond the local store's limit (R143). -/
theorem vEnvOf_quarter_range {s : State} {k : Core} {v : VInstr} {q : Nat} (ho : v.op = 0x40 ∨ v.op = 0x41)
    (hq : q ∈ quartersOf (vQsel v.bits))
    (hp : v.cap.task.lsAddr (vmOffset (VM.ofBits v.bits) v.cap q) (256 * widthBytes (VM.ofBits v.bits).width) = none) :
    vEnvOf s k v = .error .range := by
  have hall : ((quartersOf (VM.ofBits v.bits).qsel).all fun q => (v.cap.task.lsAddr (vmOffset (VM.ofBits v.bits) v.cap q)
      (256 * widthBytes (VM.ofBits v.bits).width)).isSome) = false :=
    List.all_eq_false.2 ⟨q, hq, by simp [hp]⟩
  have hu : convUse v.op.toNat = none := by rcases ho with ho | ho <;> rw [ho] <;> rfl
  have hop : v.op.toNat = 0x40 ∨ v.op.toNat = 0x41 := by rcases ho with ho | ho <;> simp [ho]
  simp only [vEnvOf, hu, if_pos hop, hall]
  rfl

/-- The legend fields are the six of Table 07-1. -/
theorem legsRead_lt {op j : Nat} {c : Conv} (h : j ∈ legsRead op c) : j < 6 := by
  unfold legsRead at h
  split at h
  case h_1 | h_2 | h_3 =>
    simp at h
    omega
  case h_4 =>
    unfold convUse at h
    split at h <;> simp at h <;> omega

theorem legend_isSome_of_convLegs {s : State} {op j : Nat} {c : Conv} {L : ConvLegs} (hL : convLegs s op c = some L)
    (hj : j ∈ legsRead op c) : (s.legend (c.legIndex j)).isSome = true := by
  have h6 := legsRead_lt hj
  simp only [convLegs, bind, Option.bind_eq_some_iff] at hL
  obtain ⟨a, ha, b, hb, cc, hcc, d, hd, e, he, f, hf, -⟩ := hL
  have hget {i : Nat} {l : Legend} (hi : i ∈ legsRead op c)
      (h : (if (legsRead op c).contains i then s.legend (c.legIndex i) else some legUnused) = some l) :
      (s.legend (c.legIndex i)).isSome = true := by
    rw [if_pos (List.contains_iff_mem.2 hi)] at h
    exact Option.isSome_of_eq_some h
  interval_cases j
  · exact hget hj ha
  · exact hget hj hb
  · exact hget hj hcc
  · exact hget hj hd
  · exact hget hj he
  · exact hget hj hf

/-- A legend index that is not below LEGEND_COUNT gives no legends (R212). -/
theorem convLegs_none_of_legend {s : State} {op j : Nat} {c : Conv} (hj : j ∈ legsRead op c) (hl : s.legendCount ≤ c.legIndex j) :
    convLegs s op c = none := by
  refine Option.eq_none_iff_forall_ne_some.2 fun L hL => ?_
  have hsome := legend_isSome_of_convLegs hL hj
  simp [State.legend, Nat.not_lt.2 hl] at hsome

/-! ## The issue of the head instruction -/

section
variable {s : State} {c : CoreId} {ctx : VCtx} {v : VInstr} {rest : List VInstr} {op : BitVec 7}
  (hbuf : ((s.core c).vcontext ctx).buf = v :: rest)
include hbuf

theorem vIssue_waits (hc : vCanIssue (s.core c) v = false) : vIssue op c ctx s = s := by
  simp [vIssue, hbuf, hc]

variable (hop : v.op = op) (hs : ((s.core c).vcontext ctx).stopped = false) (hc : vCanIssue (s.core c) v = true)
include hop hs hc

theorem vIssue_faults {f : VFault} (he : vEnvOf s (s.core c) v = .error f) :
    vIssue op c ctx s = vFaultAt c ctx v f (s.core c) ((s.core c).vcontext ctx) s := by
  simp [vIssue, hbuf, hop, hs, hc, he]

variable {e : VEnv} (he : vEnvOf s (s.core c) v = .ok e)
include he

/-- VWAIT and VSIGNAL pass one issue and stand unretired, with the signal that a VSIGNAL gives (R149). -/
theorem vIssue_counter (h5 : op = 0x50 ∨ op = 0x51) : vIssue op c ctx s =
    let k := s.core c
    let x0 : VContext := { k.vcontext ctx with buf := rest }
    let x1 := VContext.pass 1 x0
    s.setCore c ({ k with meters := { k.meters with vector := k.meters.vector - 1 },
                          errors := k.errors.tilesWritten ctx.toNat (x0.written 1) }.setVContext ctx
      { x1 with unret := x1.unret ++ [VUnret.mk op v.cap.task
        (if op = 0x51 then some (v.cap.task.ctr (VC.ofBits v.bits).ctr, (VC.ofBits v.bits).value) else none)] }) := by
  rcases h5 with rfl | rfl <;> simp [vIssue, hbuf, hop, hs, hc, he]

/-- Any other instruction whose quarters meet no fault issues them all (DEDUCED, log 4). -/
theorem vIssue_quarters (h50 : op ≠ 0x50) (h51 : op ≠ 0x51) (hbad : (vQuarters op s c ctx v rest e).bad = none) :
    vIssue op c ctx s =
    let r := vQuarters op s c ctx v rest e
    let whole := if vWhole op.toNat then wholeResult op.toNat (VR.ofBits v.bits) r.sns else ([], NumCount.none)
    let x : VContext := { r.x with
      pend := r.x.pend ++ whole.1.map fun d => PendTile.mk d.1 d.2 (r.x.issues - 1 + vLatency op.toNat),
      unret := r.x.unret ++ [VUnret.mk op v.cap.task none] }
    let k : Core := { r.k with meters := { r.k.meters with vector := r.k.meters.vector - r.charged },
                               tileQ := if op = 0x48 then r.k.tileQ.drop 1 else r.k.tileQ }
    (s.setCore c (k.setVContext ctx x)).countNum c (r.count.add whole.2) := by
  have hne : ¬ (op.toNat = 0x50 ∨ op.toNat = 0x51) := by
    rintro (h | h)
    · exact h50 (BitVec.eq_of_toNat_eq h)
    · exact h51 (BitVec.eq_of_toNat_eq h)
  have hpop : (op.toNat = 0x48) = (op = 0x48) := propext ⟨fun h => BitVec.eq_of_toNat_eq h, fun h => by rw [h]; rfl⟩
  have hgo : (v.op != op || ((s.core c).vcontext ctx).stopped || !vCanIssue (s.core c) v) = false := by simp [hop, hs, hc]
  unfold vQuarters at hbad ⊢
  dsimp only at hbad ⊢
  simp only [vIssue, hbuf, hgo, he, if_neg hne, hpop, hbad, Option.isNone_none, Bool.and_true, Bool.false_eq_true, if_false]

end

end Sys2Proof.Machine
end

section
/-! SUPPORT. The rows of the vector engine: every instruction's issue and faults, VWAIT and VSIGNAL (R143, R149, R157 to R163, R209, R212, R231,
R519; DEDUCED, log 4; DESIGN CHOICE, log 168). -/

namespace Sys2Proof.Machine
open Sys2Proof.Claims

section
variable {s : State} {c : CoreId} {ctx : VCtx} {op : BitVec 7} {i : Instr}
  (hx : exec i s = .next (s.settle (vIssue op c ctx s)))
include hx

/-! ## Issue (R157 to R160, R205) -/

theorem vIssues_of_exec (h50 : op ≠ 0x50) (h51 : op ≠ 0x51) : VIssues op i s c ctx := by
  rintro v rest e ⟨hbuf, hop, hs, hc, he⟩ r hbad
  rw [hx, vIssue_quarters hbuf hop hs hc he h50 h51 hbad]

/-! ## Faults (R143, R163, R209, R212, R231) -/

section
variable {v : VInstr} {rest : List VInstr} (hbuf : ((s.core c).vcontext ctx).buf = v :: rest) (hop : v.op = op)
  (hs : ((s.core c).vcontext ctx).stopped = false) (hc : vCanIssue (s.core c) v = true)
include hbuf hop hs hc

/-- A conversion fault, an invalid legend or an access out of range is the fault of that number in CORE_VSTAT (Table 07-5). -/
theorem vFaults_of_env {f : VFault} {n : Nat} (hf : (f, n) ∈ [(VFault.conv, 1), (.legend, 2), (.range, 3)])
    (he : vEnvOf s (s.core c) v = .error f) : VFaults f.code n i s c ctx v := by
  have hnote : vFaultAt c ctx v f (s.core c) ((s.core c).vcontext ctx) s = raise f.code 1 c.toNat v.cap.task.taskId.toNat (s.setCore c
      ({ s.core c with regs := (s.core c).regs.noteVector ctx.toNat n v.op.toNat v.cap.task.taskId.toNat }.setVContext ctx
        { (s.core c).vcontext ctx with stopped := true })) := by
    simp only [List.mem_cons, Prod.mk.injEq, List.not_mem_nil, or_false] at hf
    obtain ⟨rfl, rfl⟩ | ⟨rfl, rfl⟩ | ⟨rfl, rfl⟩ := hf <;> rfl
  unfold VFaults
  rw [hx, vIssue_faults hbuf hop hs hc he, hnote]
  rfl

/-- A hazard of the scalar index is the first in CORE_HAZARD, with KIND 0 and VCTX 0 (Table 05-14; DESIGN CHOICE, log 168). -/
theorem exec_vHazard {n : Nat} (he : vEnvOf s (s.core c) v = .error (.hazard 0 n)) :
    let k := s.core c
    let regs : CoreRegs := if k.regs.hazard.getLsbD 63 then k.regs else { k.regs with
      hazard := BitVec.ofNat 64 (2 ^ 63 + v.cap.thread.toNat * 2 ^ 49 + n * 2 ^ 43 + v.cap.task.taskId.toNat),
      hazardAddr := BitVec.ofNat 64 (v.cap.addr.toNat % 2 ^ 52) }
    exec i s = .next (s.settle (raise 0x0108 1 c.toNat v.cap.task.taskId.toNat
      (s.setCore c ({ k with regs := regs }.setVContext ctx { k.vcontext ctx with stopped := true })))) := by
  have hword : hazardWord 0 0 v.cap.thread.toNat n v.cap.task.taskId.toNat =
      BitVec.ofNat 64 (2 ^ 63 + v.cap.thread.toNat * 2 ^ 49 + n * 2 ^ 43 + v.cap.task.taskId.toNat) := by
    simp only [hazardWord, Nat.zero_mul, Nat.add_zero]
  rw [hx, vIssue_faults hbuf hop hs hc he, ← hword]
  rfl

end

theorem convFaults_of_exec (hu : (convUse op.toNat).isSome = true) : ConvFaults op i s c ctx := by
  intro v rest hbuf hop hs hc
  subst hop
  obtain ⟨u, hu⟩ := Option.isSome_iff_exists.1 hu
  refine ⟨fun hp => ?range, fun p u' hp hu' hb => ⟨fun hcv => ?conv, fun hcv hl => ?legend, fun hcv hl ha hr ht => ?hazard⟩⟩
  case range => exact vFaults_of_env hx hbuf rfl hs hc (f := .range) (by simp) (vEnvOf_entry_range hu hp)
  case conv => exact vFaults_of_env hx hbuf rfl hs hc (f := .conv) (by simp) (vEnvOf_conv hu' hp hb hcv)
  case legend =>
    have hnone : convLegs s v.op.toNat (Conv.ofBytes ((s.core c).ls.readBytes p 32)) = none := by
      obtain ⟨j, hj, hle⟩ | hnone := hl
      · exact convLegs_none_of_legend hj hle
      · exact hnone
    exact vFaults_of_env hx hbuf rfl hs hc (f := .legend) (by simp) (vEnvOf_legend hu' hp hb hcv hnone)
  case hazard => exact exec_vHazard hx hbuf rfl hs hc (vEnvOf_hazard hu' hp hb hcv hl ha hr ht)

end

/-- Settles O28: the rows of Table 05-11 but VWAIT and VSIGNAL by the issue of the head instruction, their faults by what their entries and
quarters give. -/
theorem vectorInstructionsIssue : Obligations.VectorInstructionsIssue := by
  unfold Obligations.VectorInstructionsIssue
  refine ⟨fun s c x => ⟨?_, ?_, ?_, ?_, ?_, ?_, ?_, ?_, ?_, ?_, fun v rest q hbuf hs hc hq hp => ⟨fun ho => ?vld, fun ho => ?vst⟩⟩,
    fun s c x => ?issues⟩
  case vld => exact vFaults_of_env (f := .range) rfl hbuf ho hs hc (by simp) (vEnvOf_quarter_range (.inl ho) hq hp)
  case vst => exact vFaults_of_env (f := .range) rfl hbuf ho hs hc (by simp) (vEnvOf_quarter_range (.inr ho) hq hp)
  case issues =>
    and_intros
    all_goals exact vIssues_of_exec rfl (by decide) (by decide)
  all_goals exact convFaults_of_exec rfl rfl

/-! ## VWAIT and VSIGNAL (R149, R157, R519) -/

/-- The quarters that the next issue writes whole. -/
theorem VContext.written_one (x : VContext) : x.written 1 =
    (x.pend.filter fun p => p.words.all Option.isSome && p.due == x.issues + 1).map PendTile.key := by
  unfold VContext.written
  congr 1
  refine List.filter_congr fun p _ => ?_
  have hdue : (decide (x.issues < p.due) && decide (p.due ≤ x.issues + 1)) = (p.due == x.issues + 1) := by
    rw [Bool.eq_iff_iff]
    simp only [Bool.and_eq_true, decide_eq_true_iff, beq_iff_eq]
    omega
  rw [Bool.and_assoc, hdue]

/-- VWAIT and VSIGNAL have no entry and no quarters, so that they meet no fault. -/
theorem vEnvOf_counter {v : VInstr} (ho : v.op = 0x50 ∨ v.op = 0x51) (s : State) (k : Core) : ∃ e, vEnvOf s k v = .ok e := by
  rcases ho with ho | ho <;> simp [vEnvOf, ho, convUse]

theorem vCanIssue_vwait {k : Core} {v : VInstr} (ho : v.op = 0x50) (hm : 0 < k.meters.vector) : vCanIssue k v =
    condHolds (VC.ofBits v.bits).cond (k.counter (v.cap.task.ctr (VC.ofBits v.bits).ctr)) (VC.ofBits v.bits).value := by
  simp [vCanIssue, ho, hm]

theorem vCanIssue_vsignal {k : Core} {v : VInstr} (ho : v.op = 0x51) (hm : 0 < k.meters.vector) : vCanIssue k v = true := by
  simp [vCanIssue, ho, hm]

/-- Settles O31: VWAIT by its condition, VSIGNAL by its issue; what is due then is what the next issue writes. -/
theorem vectorWaitAndSignal : Obligations.VectorWaitAndSignal := by
  unfold Obligations.VectorWaitAndSignal
  intro s c ctx v rest k x f ctr leaves hbuf hs hm
  have hissue {i : Instr} (hx : exec i s = .next (s.settle (vIssue v.op c ctx s))) (ho : v.op = 0x50 ∨ v.op = 0x51)
      (hc : vCanIssue k v = true) : exec i s = .next (s.settle (leaves (if v.op = 0x51 then some (ctr, f.value) else none))) := by
    obtain ⟨e, he⟩ := vEnvOf_counter ho s k
    rw [hx, vIssue_counter hbuf rfl hs hc he ho]
    dsimp only
    rw [VContext.written_one]
    rfl
  refine ⟨fun ho hc => ?holds, fun ho hc => ?waits, fun ho => ?signal⟩
  case holds =>
    rw [hissue (by rw [ho]; rfl) (.inl ho) ((vCanIssue_vwait ho hm).trans hc), if_neg (by rw [ho]; decide)]
  case waits =>
    have hx : exec (.vwait c ctx) s = .next (s.settle (vIssue 0x50 c ctx s)) := rfl
    rw [hx, vIssue_waits hbuf ((vCanIssue_vwait ho hm).trans hc)]
  case signal =>
    rw [hissue (by rw [ho]; rfl) (.inr ho) (vCanIssue_vsignal ho hm), if_pos ho]

end Sys2Proof.Machine
end

section
/-! SUPPORT. How engine work runs, each of its steps said once, and where a command ends whose work completes (R94, R97, R106, R183). -/

namespace Sys2Proof.Machine
open Sys2Proof.Claims

/-! ## Steps of engine work -/

section
variable {α β : Type} {w w1 : EWork}

theorem EM.run_bind {m : EM α} {f : α → EM β} {a : α} (h : m.run w = .ok a w1) : (m >>= f).run w = (f a).run w1 := by
  rw [EStateM.run_bind, h]

/-- Work that begins with a look at the machine. -/
theorem EM.run_get_bind (f : EWork → EM β) : (get >>= f : EM β).run w = (f w).run w := rfl

theorem EM.run_pure (a : α) : (pure a : EM α).run w = .ok a w := rfl

theorem run_echeck {b : Bool} {code : Nat} (h : b = true) : (echeck b code).run w = .ok () w := by
  rw [h]; rfl

theorem run_eget {x : Option α} {a : α} {code : Nat} (h : x = some a) : (eget x code).run w = .ok a w := by
  rw [h]; rfl

theorem run_eget_isSome {x : Option α} {code : Nat} (h : x.isSome = true) : ∃ a, (eget x code).run w = .ok a w := by
  obtain ⟨a, ha⟩ := Option.isSome_iff_exists.mp h
  exact ⟨a, run_eget ha⟩

theorem run_emod (f : State → State) : (emod f).run w = .ok () { w with s := f w.s } := rfl

theorem run_awaitReads (h : w.missing = false) : awaitReads.run w = .ok () w := by
  simp only [awaitReads, EM.run_get_bind, h]
  rfl

/-- A loop over one element is its body. -/
theorem run_mapM_one {f : α → EM β} {a : α} {b : β} (h : (f a).run w = .ok b w1) : ([a].mapM f).run w = .ok [b] w1 := by
  rw [List.mapM_cons, List.mapM_nil, EM.run_bind h]
  rfl

theorem run_chargeGather (n : Nat) : (chargeGather n).run w = .ok () (gathered w n) := rfl

theorem run_noteNum (n : NumCount) : (noteNum n).run w = .ok () (counted w n) := rfl

theorem run_lsWrite {a p : Nat} {bytes : List Byte} (h : w.task.lsAddr a bytes.length = some p) :
    (lsWrite a bytes).run w = .ok () (stored w p bytes) := by
  simp only [lsWrite, EM.run_get_bind, EM.run_bind (run_eget h)]
  rfl

theorem run_lsRead {a n p : Nat} (h : w.task.lsAddr a n = some p) (he : (w.s.core w.core).errors.lsBad p n = false) :
    (lsRead a n).run w = .ok ((w.s.core w.core).ls.readBytes p n) w := by
  simp only [lsRead, EM.run_get_bind, EM.run_bind (run_eget h), he]
  rfl

theorem spaceRead_of_isLs {d : Desc} (h : d.isLs = true) (a n : Nat) : spaceRead d a n = lsRead a n := if_pos h

theorem spaceWrite_of_isLs {d : Desc} (h : d.isLs = true) (a : Nat) (bytes : List Byte) :
    spaceWrite d a bytes = lsWrite a bytes := if_pos h

theorem CoreErrors.lsBad_of_nil {e : CoreErrors} (h : e.ls = []) (p n : Nat) : e.lsBad p n = false := by
  simp [CoreErrors.lsBad, h]

end

/-! ## Where a command ends -/

theorem Core.run_markDone (k : Core) (q acks : Nat) :
    ((k.markDone q acks).queue q).run = (k.queue q).run.map fun r => { r with done := true, acks := r.acks + acks } := by
  rw [Core.markDone, Core.queue_setQueue_same]

/-- A command that awaits nothing is done, and nothing more. -/
theorem Core.run_markDone_none {k : Core} {q : Nat} {r : Run} (h : (k.queue q).run = some r) :
    ((k.markDone q 0).queue q).run = some { r with done := true } := by
  rw [Core.run_markDone, h]; rfl

theorem core_finished (c : CoreId) (q : Nat) (w : EWork) : (finished c q w).core c = (w.s.core c).markDone q w.acks :=
  State.core_modCore_same w.s c fun k => k.markDone q w.acks

section
variable {s : State} {c : CoreId} {q : Nat} {r : Run} {slot : Slot} {op : BitVec 6} {tgt : BitVec 4} {work : EArgs → EM Unit}
  {i : Instr} {w : EWork}

/-- What a command that has ended leaves: its queue marked, and its requests forgotten; where it sent nothing, nothing is sent. -/
theorem effects_of_ends (h : Ends i s c q w) : ∃ t, exec i s = .next t ∧ t.core c = (w.s.core c).markDone q w.acks ∧
    t.tier = w.s.tier.forget (.engine c q) ∧ (w.s.outbox = s.outbox → t.outbox = s.outbox) := by
  refine ⟨_, h, by rw [State.core_settle, core_finished], State.settle_tier s _, fun ho => ?_⟩
  rw [State.settle_quiet (t := finished c q w) ho]
  exact ho

/-- The gather engine and the mill serve one core alone (R50). -/
theorem yields_of_slot_ne (hr : Runs s c q slot op tgt r) (h : slot ≠ .x) : s.yields c r = false := by
  obtain ⟨-, hslot, -⟩ := hr
  simp [State.yields, State.sharedBy, hslot, h]

/-- XCOPY sends nothing, and no other source shares its engine (R50). -/
theorem yields_of_xcopy (hr : Runs s c q .x 1 tgt r) : s.yields c r = false := by
  obtain ⟨-, hslot, hop, -⟩ := hr
  simp [State.yields, State.sharedBy, State.portOf, State.sendsTo, hslot, hop]

/-- An engine row whose work completes ends there. -/
theorem ends_of_engineRow (hr : Runs s c q slot op tgt r) (hy : s.yields c r = false)
    (hi : exec i s = .next (s.settle (engineRow c q slot op tgt work s)))
    (hw : (work r.args).run (workFrom s c q r) = .ok () w) (hm : w.missing = false) : Ends i s c q w := by
  obtain ⟨hcomp, -⟩ := (doesWork_of_engineRow hr hi).2 hy
  exact hcomp w ⟨hw, hm⟩

theorem workFrom_of_pos (hq : q ≠ 0) : workFrom s c q r =
    ⟨s, c, q, r.args.task, false, 0, r.cmd.metered, r.cmd.metered && r.cmd.tgt == 1, r.paid, 0⟩ := by
  simp only [workFrom, workState, if_neg hq]

end

/-! ## Descriptors that step through the local store (R97) -/

section
variable {d : Desc} {a n k st : Nat} (hb : d.base = BitVec.ofNat 64 a) (hs : d.stride0 = BitVec.ofNat 32 st)
  (h0 : d.count0 = BitVec.ofNat 16 k) (h1 : d.count1 = 1) (h2 : d.count2 = 1) (hk : k < 2 ^ 16)
include h0 h1 h2 hk

theorem Desc.count_line : d.count = k := by
  simp only [Desc.count, h0, h1, h2, BitVec.toNat_ofNat, Nat.mod_eq_of_lt hk]
  exact (Nat.mul_one _).trans (Nat.mul_one _)

include hb hs

/-- The accesses of one dimension are equally spaced. -/
theorem Desc.accesses_line (hst : st < 2 ^ 31) (ha : a + k * st < 2 ^ 52) :
    d.accesses = (List.range k).map fun i => a + i * st := by
  rw [Desc.accesses, Desc.count_line h0 h1 h2 hk]
  refine List.map_congr_left fun i hi => ?_
  have hik : i < k := List.mem_range.mp hi
  have hstride : stride d.stride0 = st := by
    rw [stride, hs, BitVec.toInt_eq_toNat_of_lt (by simp only [BitVec.toNat_ofNat]; omega), BitVec.toNat_ofNat]
    congr 1
    omega
  have hbase : d.base.toNat = a := by rw [hb, BitVec.toNat_ofNat]; omega
  have hle : i * st ≤ k * st := Nat.mul_le_mul_right st hik.le
  have hcount : d.count0.toNat = k := by rw [h0, BitVec.toNat_ofNat, Nat.mod_eq_of_lt hk]
  have hsum : d.access i = lowBits 64 (a + i * st : Nat) := by
    simp [Desc.access, Desc.addrAt, h1, hcount, hstride, hbase, Nat.mod_eq_of_lt hik, Nat.div_eq_of_lt hik]
  rw [hsum, lowBits]
  omega

end

section
variable {a n : Nat}

theorem size_oneAccess (hn : n ≤ 2048) : (oneAccess a n).size.toNat = n := by
  simp only [oneAccess, BitVec.toNat_ofNat]
  omega

theorem accesses_oneAccess (ha : a < 2 ^ 52) : (oneAccess a n).accesses = [a] := by
  rw [Desc.accesses_line (a := a) (k := 1) (st := 0) rfl rfl rfl rfl rfl (by decide) (by decide) ha]
  rfl

theorem ok_oneAccess (hn : 1 ≤ n) (hn' : n ≤ 2048) (ha : a < 2 ^ 52) : (oneAccess a n).ok = true := by
  have hb : (oneAccess a n).base.toNat < 2 ^ 52 := by simp only [oneAccess, BitVec.toNat_ofNat]; omega
  have hs : (oneAccess a n).space.toNat ≤ 1 := Nat.le_refl 1
  simp only [Desc.ok, size_oneAccess hn', Bool.and_eq_true, decide_eq_true_eq]
  exact ⟨⟨⟨hs, hn⟩, hn'⟩, hb⟩

theorem total_oneAccess (hn : n ≤ 2048) : (oneAccess a n).total = n := by
  rw [Desc.total, size_oneAccess hn]
  exact Nat.one_mul n

theorem isLs_oneAccess : (oneAccess a n).isLs = true := rfl

end

end Sys2Proof.Machine
end

section
/-! SUPPORT. What MCLEAR, and XCOPY and FETCH of one access, leave (R26, R141, R171, R175, R193). -/

namespace Sys2Proof.Machine
open Sys2Proof.Claims

/-! ## MCLEAR (R193) -/

section
variable {s : State} {c : CoreId} {r : Run}

/-- A cleared bank reads as zeros, and the other as before (R26). -/
theorem Core.bankRow_clearBank (k : Core) (b b' : Bool) {n : Nat} (hn : n < 64) :
    (k.clearBank b).bankRow b' n = if b' = b then List.replicate 64 A48.zero else k.bankRow b' n := by
  have hdiv : (bnat b' * 64 + n) / 64 = bnat b' := by omega
  refine (mapGet_filter_key (List.replicate 64 A48.zero) (fun i => decide (i / 64 ≠ bnat b)) k.banks _).trans ?_
  rw [hdiv]
  cases b <;> cases b' <;> rfl

theorem run_mclearWork (a : EArgs) (w : EWork) : (mclearWork a).run w =
    .ok () (milled { w with s := w.s.modCore w.core fun k => k.clearBank a.bank } 4) := rfl

/-- MCLEAR clears its bank, leaves the other, and charges 4 units (R193). -/
theorem mclear_effects (hr : Runs s c 1 .m 2 0 r) : ∃ t, exec (.mclear c) s = .next t ∧
    (∀ n, n < 64 → (t.core c).bankRow r.args.bank n = List.replicate 64 A48.zero ∧
      (t.core c).bankRow (!r.args.bank) n = (s.core c).bankRow (!r.args.bank) n) ∧
    (t.core c).meters = { (s.core c).meters with mill := (s.core c).meters.mill - 4 } ∧
    (t.core c).ls = (s.core c).ls ∧ t.tier.hbm = s.tier.hbm ∧
    ((t.core c).queue 1).run = some { r with done := true } := by
  obtain ⟨t, ht, hcore, htier, -⟩ := effects_of_ends (ends_of_engineRow (i := .mclear c) hr (yields_of_slot_ne hr nofun) rfl
    (run_mclearWork r.args (workFrom s c 1 r)) rfl)
  have hk : t.core c = Core.markDone { (s.core c).clearBank r.args.bank with
      meters := { (s.core c).meters with mill := (s.core c).meters.mill - 4 } } 1 0 := by
    rw [hcore]
    simp only [milled, workFrom_of_pos Nat.one_ne_zero, State.core_modCore_same]
    rfl
  refine ⟨t, ht, ?_⟩
  rw [hk]
  refine ⟨fun n hn => ⟨?_, ?_⟩, rfl, rfl, by rw [htier]; rfl, Core.run_markDone_none hr.1⟩
  · exact (Core.bankRow_clearBank (s.core c) _ _ hn).trans (if_pos rfl)
  · exact (Core.bankRow_clearBank (s.core c) _ _ hn).trans (if_neg (by cases r.args.bank <;> decide))

end

/-! ## XCOPY and FETCH of one access in the local store (R141, R171, R175) -/

section
variable {s : State} {c : CoreId} {r : Run} {w : EWork} {a b n p q : Nat}

theorem core_stored (hc : w.core = c) (p : Nat) (bytes : List Byte) : (stored w p bytes).s.core c =
    { w.s.core c with ls := (w.s.core c).ls.writeBytes p bytes, errors := (w.s.core c).errors.lsWritten p bytes.length } := by
  subst hc
  exact State.core_modCore_same w.s w.core _

theorem core_gathered (hc : w.core = c) (n : Nat) : (gathered w n).s.core c =
    { w.s.core c with meters := { (w.s.core c).meters with gather := (w.s.core c).meters.gather - n } } := by
  subst hc
  exact State.core_modCore_same w.s w.core _

theorem run_spaceRead_oneAccess (hp : w.task.lsAddr a n = some p) (he : (w.s.core w.core).errors.ls = []) :
    (spaceRead (oneAccess a n) a n).run w = .ok ((w.s.core w.core).ls.readBytes p n) w := by
  rw [spaceRead_of_isLs isLs_oneAccess]
  exact run_lsRead hp (CoreErrors.lsBad_of_nil he p n)

theorem run_descReadSoon_oneAccess (hn : n ≤ 2048) (ha : a < 2 ^ 52) (hp : w.task.lsAddr a n = some p)
    (he : (w.s.core w.core).errors.ls = []) (hm : w.missing = false) :
    (descReadSoon (oneAccess a n)).run w = .ok ((w.s.core w.core).ls.readBytes p n) w := by
  rw [descReadSoon, accesses_oneAccess ha, size_oneAccess hn, 
    EM.run_bind (run_mapM_one (f := fun x => spaceRead (oneAccess a n) x n) (run_spaceRead_oneAccess hp he)),
    EM.run_bind (run_awaitReads hm), List.flatten_singleton]
  rfl

theorem run_descWriteAll_oneAccess {bytes : List Byte} (hn : n ≤ 2048) (hb : b < 2 ^ 52) (hl : bytes.length = n)
    (hq : w.task.lsAddr b n = some q) :
    (descWriteAll (oneAccess b n) (oneAccess b n).accesses bytes).run w = .ok () (stored w q bytes) := by
  rw [accesses_oneAccess hb, descWriteAll, size_oneAccess hn, List.take_of_length_le hl.le,
    spaceWrite_of_isLs isLs_oneAccess, EM.run_bind (run_lsWrite (hl.symm ▸ hq))]
  rfl

/-- XCOPY of one access copies its bytes (R141). -/
theorem run_xcopyWork_oneAccess {e : EArgs} (h1 : e.d1 = oneAccess a n) (h2 : e.d2 = oneAccess b n) (hn : 1 ≤ n) (hn' : n ≤ 2048)
    (ha : a < 2 ^ 52) (hb : b < 2 ^ 52) (hp : w.task.lsAddr a n = some p) (hq : w.task.lsAddr b n = some q)
    (he : (w.s.core w.core).errors.ls = []) (hm : w.missing = false) :
    (xcopyWork e).run w = .ok () (stored w q ((w.s.core w.core).ls.readBytes p n)) := by
  rw [xcopyWork, h1, h2, needDesc, needDesc, EM.run_bind (run_echeck (ok_oneAccess hn hn' ha)),
    EM.run_bind (run_echeck (ok_oneAccess hn hn' hb)),
    EM.run_bind (run_echeck (by rw [total_oneAccess hn', total_oneAccess hn', beq_self_eq_true])),
    EM.run_bind (run_descReadSoon_oneAccess hn' ha hp he hm)]
  exact run_descWriteAll_oneAccess hn' hb (Memory.length_readBytes _ _ _) hq

/-- FETCH of one access puts its bytes at LS, for one GATHER unit (R171, R175). -/
theorem run_fetchWork_oneAccess {e : EArgs} (h2 : e.d2 = oneAccess a n) (hn : 1 ≤ n) (hn' : n ≤ 2048) (ha : a < 2 ^ 52)
    (hrsvd : (GParam.of e.param).rsvd = 0) (hkp : (GParam.of e.param).kpSel = 0) (hth : (GParam.of e.param).thresh = 0)
    (hst : (GParam.of e.param).struct = 0)
    (hp : w.task.lsAddr a n = some p) (hq : w.task.lsAddr (GParam.of e.param).ls n = some q)
    (he : (w.s.core w.core).errors.ls = []) (hm : w.missing = false) :
    (fetchWork e).run w = .ok () (stored (gathered w 1) q ((w.s.core w.core).ls.readBytes p n)) := by
  have hcore := core_gathered (w := w) rfl 1
  have hread : (do chargeGather 1; spaceRead (oneAccess a n) a n : EM (List Byte)).run w =
      .ok ((w.s.core w.core).ls.readBytes p n) (gathered w 1) := by
    have hls : ((gathered w 1).s.core (gathered w 1).core).ls = (w.s.core w.core).ls := (congrArg Core.ls hcore :)
    have herr : ((gathered w 1).s.core (gathered w 1).core).errors = (w.s.core w.core).errors := (congrArg Core.errors hcore :)
    rw [EM.run_bind (run_chargeGather 1), run_spaceRead_oneAccess (w := gathered w 1) hp (herr ▸ he), hls]
  rw [fetchWork, EM.run_bind (run_echeck (by rw [hrsvd, hkp, hth, hst]; rfl)), h2, needDesc,
    EM.run_bind (run_echeck (ok_oneAccess hn hn' ha)), accesses_oneAccess ha, size_oneAccess hn', 
    EM.run_bind (run_mapM_one (f := fun x => chargeGather 1 >>= fun _ => spaceRead (oneAccess a n) x n) hread),
    EM.run_bind (run_awaitReads (w := gathered w 1) hm), List.flatten_singleton]
  exact run_lsWrite (w := gathered w 1) (by rw [Memory.length_readBytes]; exact hq)

/-- XCOPY of one access leaves the copy, and nothing else of the local store, threads, HBM or messages. -/
theorem xcopy_effects (hr : Runs s c 3 .x 1 0 r) (h1 : r.args.d1 = oneAccess a n) (h2 : r.args.d2 = oneAccess b n) (hn : 1 ≤ n)
    (hn' : n ≤ 2048) (ha : a < 2 ^ 52) (hb : b < 2 ^ 52) (hp : r.args.task.lsAddr a n = some p)
    (hq : r.args.task.lsAddr b n = some q) (he : (s.core c).errors.ls = []) : ∃ t, exec (.xcopy c) s = .next t ∧
      (t.core c).ls = (s.core c).ls.writeBytes q ((s.core c).ls.readBytes p n) ∧ (t.core c).threads = (s.core c).threads ∧
      t.tier.hbm = s.tier.hbm ∧ t.outbox = s.outbox ∧ ((t.core c).queue 3).run = some { r with done := true } := by
  obtain ⟨t, ht, hcore, htier, hout⟩ := effects_of_ends (ends_of_engineRow (i := .xcopy c) hr (yields_of_xcopy hr) rfl
    (run_xcopyWork_oneAccess (w := workFrom s c 3 r) h1 h2 hn hn' ha hb hp hq he rfl) rfl)
  rw [core_stored (w := workFrom s c 3 r) (c := c) rfl] at hcore
  refine ⟨t, ht, ?_⟩
  rw [hcore]
  exact ⟨rfl, rfl, by rw [htier]; rfl, hout rfl, Core.run_markDone_none hr.1⟩

/-- FETCH is not divided into lane tasks (R108). -/
theorem fillLanes_of_fetch (hr : Runs s c 0 .g 7 0 r) : fillLanes c s = s := by
  obtain ⟨hrun, -, hop, -⟩ := hr
  simp [fillLanes, hrun, hop]

theorem fetch_effects (hr : Runs s c 0 .g 7 0 r) (h2 : r.args.d2 = oneAccess a n) (hn : 1 ≤ n) (hn' : n ≤ 2048) (ha : a < 2 ^ 52)
    (hrsvd : (GParam.of r.args.param).rsvd = 0) (hkp : (GParam.of r.args.param).kpSel = 0) (hth : (GParam.of r.args.param).thresh = 0)
    (hst : (GParam.of r.args.param).struct = 0)
    (hp : r.args.task.lsAddr a n = some p) (hq : r.args.task.lsAddr (GParam.of r.args.param).ls n = some q)
    (he : (s.core c).errors.ls = []) : ∃ t, exec (.fetch c) s = .next t ∧
      (t.core c).ls = (s.core c).ls.writeBytes q ((s.core c).ls.readBytes p n) ∧ (t.core c).threads = (s.core c).threads ∧
      t.tier.hbm = s.tier.hbm ∧ (t.core c).meters.gather = (s.core c).meters.gather - 1 := by
  have hfrom : (workFrom s c 0 r).s = s := fillLanes_of_fetch hr
  have hrun := run_fetchWork_oneAccess (w := workFrom s c 0 r) h2 hn hn' ha hrsvd hkp hth hst hp hq (by rw [hfrom]; exact he) rfl
  obtain ⟨t, ht, hcore, htier, -⟩ := effects_of_ends (ends_of_engineRow (i := .fetch c) hr (yields_of_slot_ne hr nofun) rfl hrun rfl)
  rw [core_stored (w := gathered (workFrom s c 0 r) 1) (c := c) rfl,
    core_gathered (w := workFrom s c 0 r) (c := c) rfl, hfrom] at hcore
  refine ⟨t, ht, ?_⟩
  rw [hcore]
  refine ⟨rfl, rfl, ?_, rfl⟩
  rw [htier]
  exact (congrArg (fun u : State => u.tier.hbm) hfrom :)

end

/-- Settles O23: each of the three commands by what its work leaves. -/
theorem engineEffectsInFull : Obligations.EngineEffectsInFull := by
  intro s c r
  exact ⟨mclear_effects, fun _ _ _ _ _ => xcopy_effects, fun _ _ _ _ => fetch_effects⟩

end Sys2Proof.Machine
end

section
/-! SUPPORT. Drains and the tile queue (R193, R194, R199, R200). -/

namespace Sys2Proof.Machine
open Sys2Proof.Claims

/-! ## The rows -/

section
variable {s : State} {c : CoreId} {r : Run} {split : Bool} {w : EWork}

theorem exec_drain (split : Bool) (c : CoreId) (s : State) :
    exec (if split then .mdrains c else .mdrain c) s = .next (s.settle (drainRow split c s)) := by
  cases split <;> rfl

theorem exec_tileQueueWrite (c : CoreId) (s : State) : exec (.tileQueueWrite c) s = .next (s.settle (tileQueueWrite c s)) := rfl

section
variable (hr : Runs s c 1 .m (if split then 4 else 3) 0 r) (hd : (s.core c).drained = [])
include hr hd

/-- A drain whose work completes leaves what it formed, and runs on until its tiles have entered the queue (R200). -/
theorem drainRow_forms (hw : (mdrainWork split r.args).run (.start s c 1 r.args.task) = .ok () w) : drainRow split c s = w.s := by
  simp only [drainRow, startedAs_of_runs hr, hd, hw]
  rfl

/-- A drain that meets a fault stops with it (R183). -/
theorem drainRow_fault {code : Nat} (hw : (mdrainWork split r.args).run (.start s c 1 r.args.task) = .error (.fault code) w) :
    drainRow split c s = raise code 1 c.toNat r.args.task.taskId.toNat (w.s.modCore c fun k => k.markFailed 1) := by
  simp only [drainRow, startedAs_of_runs hr, hd, hw]
  rfl

end

/-- A full tile queue takes no tile (R200). -/
theorem tileQueueWrite_full (h : 8 ≤ (s.core c).tileQ.length) : tileQueueWrite c s = s := by
  cases hd : (s.core c).drained with
  | nil => simp only [tileQueueWrite, hd]
  | cons t rest => simp only [tileQueueWrite, hd, if_pos h]

/-- The next drained tile enters a free slot; the drain is done with its last (R200). -/
theorem tileQueueWrite_enters {t : Tile} {rest : List Tile} (hd : (s.core c).drained = t :: rest)
    (h : (s.core c).tileQ.length < 8) : tileQueueWrite c s =
      s.setCore c (let k : Core := { s.core c with drained := rest, tileQ := (s.core c).tileQ ++ [t] }
        if rest.isEmpty then k.markDone 1 0 else k) := by
  simp only [tileQueueWrite, hd, if_neg (Nat.not_le.mpr h)]

theorem tileQueueWrite_effects {t : Tile} {rest : List Tile} (hd : (s.core c).drained = t :: rest)
    (h : (s.core c).tileQ.length < 8) : ∃ u, exec (.tileQueueWrite c) s = .next u ∧
      (u.core c).drained = rest ∧ (u.core c).tileQ = (s.core c).tileQ ++ [t] ∧
      (rest = [] → (u.core c).queue 1 = ((s.core c).markDone 1 0).queue 1) ∧
      (rest ≠ [] → (u.core c).queue 1 = (s.core c).queue 1) := by
  refine ⟨_, exec_tileQueueWrite c s, ?_⟩
  rw [State.core_settle, tileQueueWrite_enters hd h, State.core_setCore_same]
  cases rest with
  | nil => exact ⟨rfl, rfl, fun _ => rfl, fun hne => absurd rfl hne⟩
  | cons t' rest' => exact ⟨rfl, rfl, nofun, fun _ => rfl⟩

end

/-! ## The tiles of a drain (R194, R199) -/

section
variable (e : DrainEnv) (split : Bool) (bank : Nat → List A48)

/-- The words of a quadrant, each with its residual and their counts, row by row. -/
def quadWords (q : Nat × Nat) : List (WordRes × WordRes) :=
  (List.range 32).flatMap fun r =>
    (((bank (q.1 + r)).drop q.2).take 32).zip (List.range 32) |>.map fun p => drainWord e split (q.1 + r) (q.2 + p.2) p.1

/-- A legend of a drain's tile, with the given T. -/
def DrainEnv.legOf (T : Int) : Legend := { e.res with fmt := .i32, T := T, m := e.m }

/-- The tiles of a quadrant: the rounded one, and with `split` its residual. -/
def quadTiles (uid : Nat) (q : Nat × Nat) : List Tile :=
  let main : Tile := ⟨(quadWords e split bank q).map fun w => w.1.1, e.legOf e.T, uid⟩
  if split then [main, ⟨(quadWords e split bank q).map fun w => w.2.1, e.legOf (e.T - 16), uid⟩] else [main]

theorem drainTiles_tiles (uid : Nat) : (drainTiles e split bank uid).1 =
    [(0, 0), (0, 32), (32, 0), (32, 32)].flatMap (quadTiles e split bank uid) := by
  simp only [drainTiles, List.flatMap_map]
  rfl

variable {bank}

/-- A quadrant of rows of 64 accumulators has 1,024 words. -/
theorem length_quadWords (hb : ∀ n, (bank n).length = 64) {q : Nat × Nat} (hq : q.2 ≤ 32) :
    (quadWords e split bank q).length = 1024 := by
  have hrow (n : Nat) : (((bank n).drop q.2).take 32).length = 32 := by
    rw [List.length_take, List.length_drop, hb]
    omega
  simp [quadWords, List.length_flatMap, hrow]

/-- Each tile of a quadrant with its legend and the number of its words. -/
theorem quadTiles_shape (hb : ∀ n, (bank n).length = 64) (uid : Nat) {q : Nat × Nat} (hq : q.2 ≤ 32) :
    (quadTiles e split bank uid q).map (fun t => (t.leg, t.words.length)) =
      if split then [(e.legOf e.T, 1024), (e.legOf (e.T - 16), 1024)] else [(e.legOf e.T, 1024)] := by
  have hl := length_quadWords e split hb hq
  cases split <;> simp [quadTiles, hl]

/-- The four quadrants in order, each with its tiles (R194). -/
theorem drainTiles_shape (hb : ∀ n, (bank n).length = 64) (uid : Nat) :
    ((drainTiles e split bank uid).1.map fun t => (t.leg, t.words.length)) =
      (List.replicate 4 (if split then [(e.legOf e.T, 1024), (e.legOf (e.T - 16), 1024)] else [(e.legOf e.T, 1024)])).flatten := by
  simp (disch := decide) only [drainTiles_tiles, List.flatMap_cons, List.flatMap_nil, List.map_append, List.map_nil,
    quadTiles_shape e split hb]
  rfl

end

/-- Settles O24: the rows by what the drain's work and the tile queue come to, the tiles by their quadrants. -/
theorem drainsFillTileQueueInOrder : Obligations.DrainsFillTileQueueInOrder := by
  refine ⟨fun s c r => ⟨fun w hr hd hw => ?plain, fun w hr hd hw => ?split, fun split w code hr hd hw => ?fault,
    fun t rest => tileQueueWrite_effects, fun h => ?full⟩,
    fun e bank uid hb => ⟨drainTiles_shape e false hb uid, drainTiles_shape e true hb uid⟩⟩
  case plain => exact (exec_drain false c s).trans (by rw [drainRow_forms hr hd hw])
  case split => exact (exec_drain true c s).trans (by rw [drainRow_forms (split := true) hr hd hw])
  case fault => rw [exec_drain, drainRow_fault hr hd hw]
  case full => rw [exec_tileQueueWrite, tileQueueWrite_full h]

end Sys2Proof.Machine
end

section
/-! SUPPORT. Where the commands of the gather engine end that work on one row or one node (R168, R171, R176 to R178, R324, R375, R376). -/

namespace Sys2Proof.Machine
open Sys2Proof.Claims

section
variable {s : State} {c : CoreId} {r : Run} {w w1 w2 w3 : EWork} {g : GEnv} {b : List Byte} {p : Nat} {e : EArgs}

/-! ## One row into the local store (R172, R176) -/

theorem run_writeSide_one {x : OutRow} (hp : w.task.lsAddr g.p.ls (x.bytes g.ls.fmt).length = some p) :
    (writeSide g false false [x]).run w = .ok () (stored w p (x.bytes g.ls.fmt)) := by
  have hat : g.p.ls + 0 * up16 (g.ls.fmt.rowBytes g.n) = g.p.ls := by rw [Nat.zero_mul, Nat.add_zero]
  rw [writeSide, EM.run_get_bind, if_neg (by decide), writeFlat, hat, EM.run_bind (run_lsWrite hp)]
  rfl

/-- A count is what the rows before it have counted, none, and its own. -/
theorem NumCount.none_add (n : NumCount) : NumCount.none.add n = n := by
  cases n; simp [NumCount.none, NumCount.add]

/-- A merged row is counted and written at LS. -/
theorem run_noteRow {x : OutRow × NumCount} (hp : w.task.lsAddr g.p.ls (x.1.bytes g.ls.fmt).length = some p) :
    (do noteNum ([x].foldl (fun n r => n.add r.2) NumCount.none); writeSide g false false ([x].map Prod.fst) : EM Unit).run w =
      .ok () (stored (counted w x.2) p (x.1.bytes g.ls.fmt)) := by
  rw [List.foldl_cons, List.foldl_nil, NumCount.none_add, EM.run_bind (run_noteNum x.2)]
  exact run_writeSide_one (w := counted w x.2) hp

/-- A stored row is converted, counted and written at LS. -/
theorem run_compWrite_one {x : OutRow × NumCount} (hx : x = convertRow g.tab g.ls g.key g.n g.csr.row0 b)
    (hp : w.task.lsAddr g.p.ls (x.1.bytes g.ls.fmt).length = some p) :
    (compWrite false g [b]).run w = .ok () (stored (counted w x.2) p (x.1.bytes g.ls.fmt)) := by
  subst hx
  exact run_noteRow hp

/-! ## GATHER, LOOKUP and LOOKUP_COMP (R176, R375, R376) -/

theorem mode_eq_eight (h : e.mode ≠ 8) : (e.mode == 8) = false := beq_eq_false_iff_ne.mpr h

theorem gather_ends {x : OutRow × NumCount} (hr : Runs s c 0 .g 1 0 r) (hm : r.args.mode ≠ 8)
    (hg : Gives (gPrepare r.args false false legendsOk) (workFrom s c 0 r) g w1) (hrows : Gives (entryRows true g g.csr.idx) w1 [b] w2)
    (hx : x = convertRow g.tab g.ls g.key g.n g.csr.row0 b) (hp : w2.task.lsAddr g.p.ls (x.1.bytes g.ls.fmt).length = some p) :
    Ends (.gather c) s c 0 (stored (counted w2 x.2) p (x.1.bytes g.ls.fmt)) := by
  obtain ⟨hg, -⟩ := hg
  obtain ⟨hrows, hw2⟩ := hrows
  refine ends_of_engineRow (work := gatherWork) hr (yields_of_slot_ne hr nofun) rfl ?_ hw2
  have hwork : gatherWork r.args = (do
    let g ← gPrepare r.args false (r.args.mode == 8) legendsOk
    let rows ← entryRows true g g.csr.idx
    compWrite (r.args.mode == 8) g rows) := rfl
  rw [hwork, mode_eq_eight hm, EM.run_bind hg, EM.run_bind hrows]
  exact run_compWrite_one hx hp

theorem lookup_ends {v n : Nat} {x : OutRow × NumCount} (hr : Runs s c 0 .g 6 0 r) (hm : r.args.mode ≠ 8)
    (hg : Gives (lookupPrepare r.args) (workFrom s c 0 r) (g, v, n) w1)
    (hrows : Gives (entryRowsBy g (readVersionRow g.p.legTab v) n g.csr.idx) w1 [b] w2)
    (hx : x = convertRow g.tab g.ls g.key g.n g.csr.row0 b) (hp : w2.task.lsAddr g.p.ls (x.1.bytes g.ls.fmt).length = some p) :
    Ends (.lookup c) s c 0 (stored (counted w2 x.2) p (x.1.bytes g.ls.fmt)) := by
  obtain ⟨hg, -⟩ := hg
  obtain ⟨hrows, hw2⟩ := hrows
  refine ends_of_engineRow (work := lookupWork) hr (yields_of_slot_ne hr nofun) rfl ?_ hw2
  have hwork : lookupWork r.args = (do
    let x ← lookupPrepare r.args
    let rows ← entryRowsBy x.1 (readVersionRow x.1.p.legTab x.2.1) x.2.2 x.1.csr.idx
    compWrite (r.args.mode == 8) x.1 rows) := rfl
  rw [hwork, mode_eq_eight hm, EM.run_bind hg, EM.run_bind hrows]
  exact run_compWrite_one hx hp

theorem lookupComp_ends {y : CompRows} {b2 : List Byte} {p2 : Nat} {x z : OutRow × NumCount} (hr : Runs s c 0 .g 8 0 r)
    (hm : r.args.mode ≠ 8) (hy : Gives (compRead r.args) (workFrom s c 0 r) y w1) (ha : y.rowsA = [b]) (hb : y.rowsB = [b2])
    (hx : x = convertRow y.a.tab y.a.ls y.a.key y.a.n y.a.csr.row0 b) (hz : z = convertRow y.b.tab y.b.ls y.b.key y.b.n y.b.csr.row0 b2)
    (hp : w1.task.lsAddr y.a.p.ls (x.1.bytes y.a.ls.fmt).length = some p)
    (hp2 : w1.task.lsAddr y.b.p.ls (z.1.bytes y.b.ls.fmt).length = some p2) :
    Ends (.lookupComp c) s c 0
      (stored (counted (stored (counted w1 x.2) p (x.1.bytes y.a.ls.fmt)) z.2) p2 (z.1.bytes y.b.ls.fmt)) := by
  obtain ⟨hy, hw1⟩ := hy
  refine ends_of_engineRow (work := lookupCompWork) hr (yields_of_slot_ne hr nofun) rfl ?_ hw1
  rw [lookupCompWork, mode_eq_eight hm, EM.run_bind hy, ha, hb, EM.run_bind (run_compWrite_one hx hp)]
  exact run_compWrite_one (w := stored (counted w1 x.2) p (x.1.bytes y.a.ls.fmt)) hz hp2

/-! ## GMERGE and GCOMPACT of one segment (R176, R186) -/

/-- The merged row of a list of one segment, from the bytes of its entries' rows. -/
def mergedRow (g : GEnv) (op : Nat) (pl : ProdLegend) (rows : List (List Byte)) : OutRow × NumCount :=
  mergeRow g op pl g.csr.row0 ((g.csr.entries 0).map fun i =>
    ((rows.map (decodeSrc g.tab.fmt g.n)).getD i [], if op = 3 then some (g.csr.wts.getD i none) else none))

/-- A merge of one segment counts its row and writes it. -/
theorem run_mergeWork_one {compact tiled : Bool} {pl : ProdLegend} {rows : List (List Byte)} {op : Nat}
    (hop : op = e.mode.toNat % 4) (ht : tiled = (!compact && e.mode.getLsbD 3)) (hpl : mergeLegend w.s op g.tab g.csr = some pl)
    (hsegs : g.csr.segs = 1) (hg : (gPrepare e compact tiled (mergeOk op)).run w = .ok g w1)
    (hrows : (entryRows true g g.csr.idx).run w1 = .ok rows w2) :
    (mergeWork compact e).run w = (writeSide g tiled compact [(mergedRow g op pl rows).1]).run (counted w2 (mergedRow g op pl rows).2) := by
  subst hop ht
  rw [mergeWork, EM.run_get_bind, EM.run_bind hg, hpl, EM.run_bind hrows, hsegs]
  have hcount : ([mergedRow g (e.mode.toNat % 4) pl rows].foldl (fun n r => n.add r.2) NumCount.none) =
      (mergedRow g (e.mode.toNat % 4) pl rows).2 := NumCount.none_add _
  refine (EM.run_bind (run_noteNum _)).trans ?_
  exact congrArg (fun n => (writeSide g _ compact [(mergedRow g (e.mode.toNat % 4) pl rows).1]).run (counted w2 n)) hcount

section
variable {pl : ProdLegend} {rows : List (List Byte)} {op : Nat} {x : OutRow × NumCount} (hop : op = r.args.mode.toNat % 4)
  (hpl : mergeLegend (workFrom s c 0 r).s op g.tab g.csr = some pl) (hsegs : g.csr.segs = 1) (hx : x = mergedRow g op pl rows)
  (hrows : Gives (entryRows true g g.csr.idx) w1 rows w2)
include hop hpl hsegs hx hrows

theorem gmerge_ends (hr : Runs s c 0 .g 2 0 r) (hm : r.args.mode.getLsbD 3 = false)
    (hg : Gives (gPrepare r.args false false (mergeOk op)) (workFrom s c 0 r) g w1)
    (hp : w2.task.lsAddr g.p.ls (x.1.bytes g.ls.fmt).length = some p) :
    Ends (.gmerge c) s c 0 (stored (counted w2 x.2) p (x.1.bytes g.ls.fmt)) := by
  subst hx
  obtain ⟨hg, -⟩ := hg
  obtain ⟨hrows, hw2⟩ := hrows
  refine ends_of_engineRow (work := mergeWork false) hr (yields_of_slot_ne hr nofun) rfl ?_ hw2
  rw [run_mergeWork_one (tiled := false) hop (by rw [hm]; rfl) hpl hsegs hg hrows]
  exact run_writeSide_one (w := counted w2 _) hp

theorem gcompact_ends {ts : List (List Byte × Bool)}
    (hts : ts = tilesOf g.ls.fmt (kpOf g.p.kpSel) g.n true g.p.struct g.p.thresh [x.1]) (hr : Runs s c 0 .g 3 0 r)
    (hg : Gives (gPrepare r.args true false (mergeOk op)) (workFrom s c 0 r) g w1)
    (hp : w2.task.lsAddr g.p.ls (ts.flatMap Prod.fst).length = some p) :
    Ends (.gcompact c) s c 0 (let u := stored (counted w2 x.2) p (ts.flatMap Prod.fst)
      { u with s := u.s.modCore u.core fun k => { k with regs := k.regs.noteStruct (ts.filter Prod.snd).length } }) := by
  subst hx hts
  obtain ⟨hg, -⟩ := hg
  obtain ⟨hrows, hw2⟩ := hrows
  refine ends_of_engineRow (work := mergeWork true) hr (yields_of_slot_ne hr nofun) rfl ?_ hw2
  rw [run_mergeWork_one (tiled := false) hop rfl hpl hsegs hg hrows, writeSide, EM.run_get_bind,
    if_pos (show (false || true) = true from rfl)]
  exact EM.run_bind (run_lsWrite (w := counted w2 _) hp)

end

/-! ## SCATTER and SCATTER_ADD to one row of the local store (R177, R178) -/

theorem run_writeTableRow_ls {d : Desc} (hd : d.isLs = true) {row : Nat} {bytes : List Byte}
    (hp : w.task.lsAddr (d.access row) bytes.length = some p) :
    (writeTableRow d row bytes).run w = .ok () (stored (gathered w 1) p bytes) := by
  rw [writeTableRow, EM.run_bind (run_chargeGather 1), spaceWrite_of_isLs hd]
  exact run_lsWrite (w := gathered w 1) hp

theorem scatter_ends {els : List SrcEl} {y : List Byte} {row pos : Nat} {x : OutRow × NumCount} (hr : Runs s c 0 .g 4 0 r)
    (hm : r.args.mode ≠ 8) (hg : Gives (gPrepare r.args false false legendsOk) (workFrom s c 0 r) g w1)
    (hsrc : Gives (readSide g false) w1 [(els, y)] w2) (ht : targets g = [(row, [pos])]) (hseg : g.csr.segOf pos = 0)
    (hx : x = scatterRow g g.csr.row0 els y) (hls : g.str.isLs = true)
    (hp : w2.task.lsAddr (g.str.access row) (x.1.bytes g.tab.fmt).length = some p) :
    Ends (.scatter c) s c 0 (stored (gathered (counted w2 x.2) 1) p (x.1.bytes g.tab.fmt)) := by
  subst hx
  obtain ⟨hg, -⟩ := hg
  obtain ⟨hsrc, hw2⟩ := hsrc
  refine ends_of_engineRow (work := scatterWork) hr (yields_of_slot_ne hr nofun) rfl ?_ hw2
  rw [scatterWork, mode_eq_eight hm, EM.run_bind hg, EM.run_bind hsrc, ht]
  have hbody := EM.run_bind (f := fun _ => writeTableRow g.str row ((scatterRow g g.csr.row0 els y).1.bytes g.tab.fmt))
    (run_noteNum (w := w2) (scatterRow g g.csr.row0 els y).2)
  rw [run_writeTableRow_ls (w := counted w2 _) hls hp] at hbody
  refine EM.run_bind (run_mapM_one (b := ()) ?_)
  simp only [List.getLastD_cons, List.getLastD_nil, hseg]
  exact hbody

/-- A read of the local store leaves the machine as it is. -/
theorem lsRead_keeps {a n : Nat} {x : List Byte} (h : (lsRead a n).run w = .ok x w1) : w1 = w := by
  simp only [lsRead, EM.run_get_bind] at h
  cases hp : w.task.lsAddr a n with
  | none => rw [hp] at h; cases h
  | some p =>
    rw [EM.run_bind (run_eget hp)] at h
    split at h
    · cases h
    · cases h
      rfl

/-- The old row of a target of SCATTER_ADD (R175, R178). -/
def readTarget (g : GEnv) (t : Nat × List Nat) : EM (Option (List Byte)) := do
  chargeGather 1
  readWithin96 (fun r => do
    let b ← spaceRead g.str (g.str.access r) g.str.size.toNat
    pure (some b)) t.1

/-- The sums of a target of SCATTER_ADD, counted and written (R178). -/
def addTarget (g : GEnv) (src : List (List SrcEl × List Byte)) (t : (Nat × List Nat) × Option (List Byte)) : EM Unit := do
  let res := addedRow g src t.1.2 (t.2.getD [])
  noteNum ⟨0, res.foldl (fun n r => n + r.2) 0⟩
  writeTableRow g.str t.1.1 ((elsOut (res.map Prod.fst)).bytes g.tab.fmt)

theorem scatterAddWork_eq (e : EArgs) : scatterAddWork e = (do
    let g ← gPrepare e false (e.mode == 8) addLegendsOk
    let src ← readSide g (e.mode == 8)
    let olds ← (targets g).mapM (readTarget g)
    awaitReads
    let _ ← ((targets g).zip olds).mapM (addTarget g src)
    pure ()) := rfl

/-- A row of the local store is there at once, and no other read is put off for it (R174). -/
theorem run_readTarget_ls (hls : g.str.isLs = true) {row : Nat} {ps : List Nat}
    (hb : (spaceRead g.str (g.str.access row) g.str.size.toNat).run (gathered w 1) = .ok b w1) :
    (readTarget g (row, ps)).run w = .ok (some b) w1 := by
  have hread : (do
      let b ← spaceRead g.str (g.str.access row) g.str.size.toNat
      pure (some b) : EM (Option (List Byte))).run (gathered w 1) = .ok (some b) w1 := EM.run_bind hb
  obtain rfl : w1 = gathered w 1 := lsRead_keeps (spaceRead_of_isLs hls _ _ ▸ hb)
  rw [readTarget, EM.run_bind (run_chargeGather 1), readWithin96, EM.run_get_bind, EM.run_bind hread, EM.run_get_bind, if_neg (by simp)]
  rfl

theorem run_scatterAddWork_one {row : Nat} {ps : List Nat} {src : List (List SrcEl × List Byte)} {x : List (SrcEl × Nat)}
    (hm : e.mode ≠ 8) (hg : (gPrepare e false false addLegendsOk).run w = .ok g w1) (hsrc : (readSide g false).run w1 = .ok src w2)
    (ht : targets g = [(row, ps)]) (hls : g.str.isLs = true) (hmiss : w3.missing = false)
    (hb : (spaceRead g.str (g.str.access row) g.str.size.toNat).run (gathered w2 1) = .ok b w3) (hx : x = addedRow g src ps b)
    (hp : w3.task.lsAddr (g.str.access row) ((elsOut (x.map Prod.fst)).bytes g.tab.fmt).length = some p) :
    (scatterAddWork e).run w = .ok () (stored (gathered (counted w3 ⟨0, x.foldl (fun n e => n + e.2) 0⟩) 1) p
      ((elsOut (x.map Prod.fst)).bytes g.tab.fmt)) := by
  subst hx
  have hadd : (addTarget g src ((row, ps), some b)).run w3 = .ok () _ :=
    (EM.run_bind (run_noteNum _)).trans (run_writeTableRow_ls (w := counted w3 _) hls hp)
  rw [scatterAddWork_eq, mode_eq_eight hm, EM.run_bind hg, EM.run_bind hsrc, ht, EM.run_bind (run_mapM_one (run_readTarget_ls hls hb)),
    EM.run_bind (run_awaitReads hmiss), List.zip_cons_cons, List.zip_nil_left, EM.run_bind (run_mapM_one hadd)]
  rfl

theorem scatterAdd_ends {row : Nat} {ps : List Nat} {src : List (List SrcEl × List Byte)} {x : List (SrcEl × Nat)}
    (hr : Runs s c 0 .g 5 0 r) (hn : (workFrom s c 0 r).s.addTable r.args.d2 = none) (hm : r.args.mode ≠ 8)
    (hg : Gives (gPrepare r.args false false addLegendsOk) (workFrom s c 0 r) g w1) (hsrc : Gives (readSide g false) w1 src w2)
    (ht : targets g = [(row, ps)]) (hb : Gives (spaceRead g.str (g.str.access row) g.str.size.toNat) (gathered w2 1) b w3)
    (hx : x = addedRow g src ps b) (hls : g.str.isLs = true)
    (hp : w3.task.lsAddr (g.str.access row) ((elsOut (x.map Prod.fst)).bytes g.tab.fmt).length = some p) :
    Ends (.scatterAdd c) s c 0 (stored (gathered (counted w3 ⟨0, x.foldl (fun n e => n + e.2) 0⟩) 1) p
      ((elsOut (x.map Prod.fst)).bytes g.tab.fmt)) := by
  obtain ⟨hb, hw3⟩ := hb
  refine ends_of_engineRow (work := scatterAddAny) hr (yields_of_slot_ne hr nofun) rfl ?_ hw3
  rw [scatterAddAny, EM.run_get_bind, hn]
  exact run_scatterAddWork_one hm hg.1 hsrc.1 ht hls hw3 hb hx hp

/-! ## PATHRED of one node (R324) -/

theorem pathred_ends {used : List Nat} {rows : List (List Byte)} {x : OutRow × NumCount} {n : Nat} (hr : Runs s c 0 .g 9 0 r)
    (hg : Gives (pathPrepare r.args) (workFrom s c 0 r) (g, used) w1) (hrows : Gives (entryRows false g (used.map some)) w1 rows w2)
    (hx : pathRows g (r.args.mode.toNat % 4) (used.zip rows) = ([x], n))
    (hp : w2.task.lsAddr g.p.ls (x.1.bytes g.ls.fmt).length = some p) :
    Ends (.pathred c) s c 0 (stored (counted (counted w2 ⟨0, n⟩) x.2) p (x.1.bytes g.ls.fmt)) := by
  obtain ⟨hg, -⟩ := hg
  obtain ⟨hrows, hw2⟩ := hrows
  refine ends_of_engineRow (work := pathredWork) hr (yields_of_slot_ne hr nofun) rfl ?_ hw2
  rw [pathredWork, EM.run_bind hg, EM.run_bind hrows, hx, EM.run_bind (run_noteNum _)]
  exact run_noteRow (w := counted w2 _) hp

end

end Sys2Proof.Machine
end

section
/-! SUPPORT. Where MPASS of one pass and the drains end, and what MLOAD and MSTORE make of a bank (R192 to R194). -/

namespace Sys2Proof.Machine
open Sys2Proof.Claims

section
variable {s : State} {c : CoreId} {r : Run} {w w1 : EWork} {b : List Byte} {p : Nat} {e : EArgs}

/-! ## MPASS (R192, R196) -/

/-- A pass whose arrays made no error adds its tiles' products to the bank, and charges its cycles (R191, R196). -/
theorem run_onePass {i : Nat} {t : TileData × TileData × Nat} (ht : (passTiles e i).run w = .ok t w)
    (he : (w.s.core w.core).errors.mill = []) : (onePass e i).run w = .ok ()
      (milled { w with s := addPass e.bank [] t.1 t.2.1 w.core (w.s.setCore w.core (w.s.core w.core)) }
        (passCycles t.2.2 (e.mode == 1) t.1 t.2.1)) := by
  have hcore : (w.s.modCore w.core fun k => { k with errors := { k.errors with mill := k.errors.mill.filter fun x => x.bank != e.bank } }) =
      w.s.setCore w.core (w.s.core w.core) := by
    have : ({ w.s.core w.core with errors := { (w.s.core w.core).errors with
        mill := (w.s.core w.core).errors.mill.filter fun x => x.bank != e.bank } } : Core) = w.s.core w.core := by
      rw [he, List.filter_nil, ← he]
    rw [State.modCore, this]
  rw [onePass, EM.run_get_bind, EM.run_bind ht, he, List.filter_nil, EM.run_bind (run_emod _), hcore,
    if_neg (by simp [passWrong])]
  rfl

theorem mpass_ends {t : TileData × TileData × Nat} (hr : Runs s c 1 .m 1 0 r) (hn : r.args.param.toNat / 2 ^ 48 = 1)
    (h1 : r.args.d1.ok = true) (h2 : r.args.d2.ok = true) (hc1 : 1 ≤ r.args.d1.count) (hc2 : 1 ≤ r.args.d2.count)
    (ht : Gives (passTiles r.args 0) (workFrom s c 1 r) t (workFrom s c 1 r)) (he : (s.core c).errors.mill = []) :
    Ends (.mpass c) s c 1 (milled { workFrom s c 1 r with
      s := addPass r.args.bank [] t.1 t.2.1 c (s.setCore c (s.core c)) } (passCycles t.2.2 (r.args.mode == 1) t.1 t.2.1)) := by
  refine ends_of_engineRow (work := mpassWork) hr (yields_of_slot_ne hr nofun) rfl ?_ rfl
  rw [mpassWork, hn, if_neg Nat.one_ne_zero, needDesc, needDesc, EM.run_bind (run_echeck h1), EM.run_bind (run_echeck h2),
    EM.run_bind (run_echeck (by simp [hc1, hc2]))]
  exact EM.run_bind (run_mapM_one (run_onePass (w := workFrom s c 1 r) ht.1 he))

/-! ## MDRAIN and MDRAINS (R193, R194) -/

/-- A bank that agrees with its residues passes the check (R197). -/
theorem run_accCheck {bank : Bool} (h : (w.s.core w.core).bankWrong bank = false) : (accCheck bank).run w = .ok () w := by
  rw [accCheck, EM.run_get_bind, h]
  rfl

/-- A drain whose legends stand, whose T fits and whose bank is right forms its tiles and charges its cycles. -/
theorem run_mdrainWork {split : Bool} {la lw lr : Legend} {env : DrainEnv}
    (hla : w.s.legend (field e.param.toNat 63 52) = some la) (hlw : w.s.legend (field e.param.toNat 51 40) = some lw)
    (hlr : w.s.legend (field e.param.toNat 39 28) = some lr)
    (henv : env = ⟨(prodLegend la lw).t + signedOf 8 (field e.param.toNat 7 0), (prodLegend la lw).m, lr,
      signedOf 8 (field e.param.toNat 7 0), field e.param.toNat 27 8, w.s.randKey e.task lr.tensorId 0⟩)
    (hlo : -128 ≤ env.T) (hhi : env.T ≤ 127) (hsplit : split = true → -112 ≤ env.T)
    (hbank : (w.s.core w.core).bankWrong e.bank = false) : (mdrainWork split e).run w = .ok ()
      (let x := drainTiles env split ((w.s.core w.core).bankRow e.bank) e.task.uid
       milled { w with s := State.countNum (w.s.modCore w.core fun k => { k with drained := x.1 }) w.core x.2 }
        (if split then 256 else 128)) := by
  subst henv
  have hT : (decide (-128 ≤ (prodLegend la lw).t + signedOf 8 (field e.param.toNat 7 0)) &&
      decide ((prodLegend la lw).t + signedOf 8 (field e.param.toNat 7 0) ≤ 127) &&
      (!split || decide (-128 ≤ (prodLegend la lw).t + signedOf 8 (field e.param.toNat 7 0) - 16))) = true := by
    simp only [Bool.and_eq_true, Bool.or_eq_true, Bool.not_eq_true', decide_eq_true_eq]
    refine ⟨⟨hlo, hhi⟩, ?_⟩
    cases split with
    | false => exact .inl rfl
    | true =>
      have hlow : -112 ≤ (prodLegend la lw).t + signedOf 8 (field e.param.toNat 7 0) := hsplit rfl
      exact .inr (by omega)
  rw [mdrainWork, EM.run_get_bind, EM.run_bind (run_eget hla), EM.run_bind (run_eget hlw), EM.run_bind (run_eget hlr)]
  exact (EM.run_bind (run_echeck hT)).trans (EM.run_bind (run_accCheck hbank))

theorem drain_forms {split : Bool} {la lw lr : Legend} {env : DrainEnv} {x : List Tile × NumCount}
    (hr : Runs s c 1 .m (if split then 4 else 3) 0 r) (hd : (s.core c).drained = [])
    (hla : s.legend (field r.args.param.toNat 63 52) = some la) (hlw : s.legend (field r.args.param.toNat 51 40) = some lw)
    (hlr : s.legend (field r.args.param.toNat 39 28) = some lr)
    (henv : env = ⟨(prodLegend la lw).t + signedOf 8 (field r.args.param.toNat 7 0), (prodLegend la lw).m, lr,
      signedOf 8 (field r.args.param.toNat 7 0), field r.args.param.toNat 27 8, s.randKey r.args.task lr.tensorId 0⟩)
    (hlo : -128 ≤ env.T) (hhi : env.T ≤ 127) (hsplit : split = true → -112 ≤ env.T)
    (hbank : (s.core c).bankWrong r.args.bank = false)
    (hx : x = drainTiles env split ((s.core c).bankRow r.args.bank) r.args.task.uid) :
    exec (if split then .mdrains c else .mdrain c) s = .next (s.settle ((State.countNum (s.modCore c fun k =>
      { k with drained := x.1 }) c x.2).modCore c fun k =>
        { k with meters := { k.meters with mill := k.meters.mill - (if split then 256 else 128) } })) := by
  subst hx
  have hw := run_mdrainWork (w := .start s c 1 r.args.task) hla hlw hlr henv hlo hhi hsplit hbank
  rw [exec_drain, drainRow_forms hr hd hw]
  cases split <;> rfl

/-! ## MLOAD (R194) -/

theorem mload_ends (hr : Runs s c 1 .m 6 0 r) (h1 : r.args.d1.ok = true) (ht : r.args.d1.total = 36864)
    (hb : Gives (descReadAll r.args.d1) (workFrom s c 1 r) b w1) : Ends (.mload c) s c 1 (milled { w1 with
      s := w1.s.modCore w1.core fun k =>
        ((List.range 64).zip (rowsOf 64 64 (a48s 4096 b))).foldl (fun k x => k.setBankRow r.args.bank x.1 x.2) k } 288) := by
  obtain ⟨hb, hw1⟩ := hb
  refine ends_of_engineRow (work := mloadWork) hr (yields_of_slot_ne hr nofun) rfl ?_ hw1
  rw [mloadWork, needDesc, EM.run_bind (run_echeck h1), EM.run_bind (run_echeck (by rw [ht]; rfl)), EM.run_bind hb]
  rfl

/-! ## MSTORE (R34, R194) -/

theorem Memory.writeBytes_append (m : Memory) (a : Nat) (x y : List Byte) :
    m.writeBytes a (x ++ y) = (m.writeBytes a x).writeBytes (a + x.length) y := by
  induction x generalizing m a with
  | nil => rfl
  | cons b x ih =>
    rw [List.cons_append, Memory.writeBytes, Memory.writeBytes, ih, List.length_cons, Nat.add_right_comm, Nat.add_assoc]

/-- A run of bytes within the limit is two runs within it, one after the other (R94). -/
theorem TaskCtx.lsAddr_add {t : TaskCtx} {a m n p : Nat} (h : t.lsAddr a (m + n) = some p) :
    t.lsAddr a m = some p ∧ t.lsAddr (a + m) n = some (p + m) := by
  unfold TaskCtx.lsAddr at h ⊢
  split at h <;>
  · split at h
    · cases h
      exact ⟨if_pos (by omega), (if_pos (by omega)).trans (congrArg some (by omega))⟩
    · cases h

/-- `u` is `w` once `bytes` stand at `p` in the local store of its core, some of whose words may hold no error any more. -/
structure WroteLs (w : EWork) (p : Nat) (bytes : List Byte) (u : EWork) : Prop where
  core : u.core = w.core
  missing : u.missing = w.missing
  acks : u.acks = w.acks
  store : ∃ e, u.s.core w.core = { w.s.core w.core with ls := (w.s.core w.core).ls.writeBytes p bytes, errors := e }

theorem WroteLs.none (w : EWork) (p : Nat) : WroteLs w p [] w := ⟨rfl, rfl, rfl, _, rfl⟩

/-- One run of bytes, and then another behind it. -/
theorem WroteLs.after_stored {x y : List Byte} {u : EWork} (h : WroteLs (stored w p x) (p + x.length) y u) : WroteLs w p (x ++ y) u := by
  obtain ⟨hc, hm, ha, e, he⟩ := h
  refine ⟨hc, hm, ha, e, ?_⟩
  rw [core_stored (w := w) (c := (stored w p x).core) rfl] at he
  rw [Memory.writeBytes_append]
  exact he

/-- Accesses that follow one another in the local store take the bytes as one run (R97). -/
theorem run_descWriteAll_line {d : Desc} {n k a : Nat} (hd : d.isLs = true) (hn : d.size.toNat = n) (hb : b.length = k * n)
    (hp : w.task.lsAddr a (k * n) = some p) :
    ∃ u, (descWriteAll d ((List.range k).map fun i => a + i * n) b).run w = .ok () u ∧ WroteLs w p b u := by
  induction k generalizing a b p w with
  | zero =>
    obtain rfl : b = [] := List.eq_nil_of_length_eq_zero (hb.trans (Nat.zero_mul n))
    exact ⟨w, rfl, .none w p⟩
  | succ k ih =>
    have hsplit : (k + 1) * n = n + k * n := by rw [Nat.succ_mul, Nat.add_comm]
    obtain ⟨hfirst, hrest⟩ := TaskCtx.lsAddr_add (hsplit ▸ hp)
    have htake : (b.take n).length = n := by rw [List.length_take]; omega
    have hdrop : (b.drop n).length = k * n := by rw [List.length_drop]; omega
    obtain ⟨u, hu, hwrote⟩ := ih (w := stored w p (b.take n)) (p := p + n) (a := a + n) hdrop hrest
    have haddr : (List.range (k + 1)).map (fun i => a + i * n) = a :: (List.range k).map fun i => a + n + i * n := by
      rw [List.range_succ_eq_map, List.map_cons, List.map_map, Nat.zero_mul, Nat.add_zero]
      exact congrArg (a :: ·) (List.map_congr_left fun i _ => by simp only [Function.comp_apply, Nat.succ_mul]; omega)
    refine ⟨u, ?_, by rw [← List.take_append_drop n b]; exact .after_stored (by rwa [htake])⟩
    rw [haddr, descWriteAll, hn, spaceWrite_of_isLs hd, EM.run_bind (run_lsWrite (by rw [htake]; exact hfirst))]
    exact hu

/-- The bytes of a bank in memory. -/
def Core.bankImage (k : Core) (bank : Bool) : List Byte := (List.range 64).flatMap fun n => (k.bankRow bank n).flatMap A48.toBytes

theorem A48.length_toBytes (a : A48) : a.toBytes.length = 9 := rfl

theorem Core.length_bankImage {k : Core} {bank : Bool} (h : ∀ n, n < 64 → (k.bankRow bank n).length = 64) :
    (k.bankImage bank).length = 36864 := by
  have hrow : ∀ n ∈ List.range 64, ((k.bankRow bank n).flatMap A48.toBytes).length = 576 := fun n hn => by
    simp [List.length_flatMap, A48.length_toBytes, h n (List.mem_range.mp hn)]
  rw [Core.bankImage, List.length_flatMap, List.map_congr_left hrow]
  decide

/-- The descriptor of a bank's image at task offset `a`: 18 accesses of 2,048 bytes, one after the other. -/
def imageAt (a : Nat) : Desc := { oneAccess a 2048 with stride0 := 2048, count0 := 18 }

theorem accesses_imageAt {a : Nat} (ha : a + 36864 < 2 ^ 52) : (imageAt a).accesses = (List.range 18).map fun i => a + i * 2048 :=
  Desc.accesses_line rfl rfl rfl rfl rfl (by decide) (by decide) ha

theorem ok_imageAt {a : Nat} (ha : a + 36864 < 2 ^ 52) : (imageAt a).ok = true :=
  ok_oneAccess (by decide) (by decide) (by omega)

theorem total_imageAt (a : Nat) : (imageAt a).total = 36864 := by
  rw [Desc.total, Desc.count_line (k := 18) rfl rfl rfl (by decide)]
  rfl

/-- MSTORE of a right bank to its image in the local store leaves its words there, and charges 288 units (R194). -/
theorem run_mstoreWork {a : Nat} (h1 : e.d1 = imageAt a) (ha : a + 36864 < 2 ^ 52) (hp : w.task.lsAddr a 36864 = some p)
    (hbank : (w.s.core w.core).bankWrong e.bank = false) (hrows : ∀ n, n < 64 → ((w.s.core w.core).bankRow e.bank n).length = 64) :
    ∃ u, (mstoreWork e).run w = .ok () (milled u 288) ∧ WroteLs w p ((w.s.core w.core).bankImage e.bank) u := by
  obtain ⟨u, hu, hwrote⟩ := run_descWriteAll_line (d := imageAt a) (n := 2048) (k := 18) rfl rfl (Core.length_bankImage hrows) hp
  refine ⟨u, ?_, hwrote⟩
  rw [← accesses_imageAt ha, ← h1] at hu
  rw [mstoreWork, needDesc, EM.run_bind (run_echeck (h1 ▸ ok_imageAt ha)), EM.run_bind (run_echeck (by rw [h1, total_imageAt]; rfl)),
    EM.run_bind (run_accCheck hbank), EM.run_get_bind]
  exact EM.run_bind hu

theorem mstore_effects {q : Nat} (hr : Runs s c 1 .m 5 0 r) (h1 : r.args.d1 = imageAt p) (ha : p + 36864 < 2 ^ 52)
    (hq : r.args.task.lsAddr p 36864 = some q) (hbank : (s.core c).bankWrong r.args.bank = false)
    (hrows : ∀ n, n < 64 → ((s.core c).bankRow r.args.bank n).length = 64) : ∃ t, exec (.mstore c) s = .next t ∧
      (t.core c).ls = (s.core c).ls.writeBytes q ((s.core c).bankImage r.args.bank) ∧
      (t.core c).meters = { (s.core c).meters with mill := (s.core c).meters.mill - 288 } ∧
      ((t.core c).queue 1).run = some { r with done := true } := by
  obtain ⟨u, hu, hcore, hmiss, hacks, e, hk⟩ := run_mstoreWork (w := workFrom s c 1 r) h1 ha hq hbank hrows
  obtain ⟨t, ht, htc, -, -⟩ := effects_of_ends (ends_of_engineRow (i := .mstore c) (work := mstoreWork) hr
    (yields_of_slot_ne hr nofun) rfl hu hmiss)
  have hmilled : (milled u 288).s.core c =
      { u.s.core c with meters := { (u.s.core c).meters with mill := (u.s.core c).meters.mill - 288 } } := by
    obtain rfl : u.core = c := hcore
    exact State.core_modCore_same _ _ _
  have hu0 : u.s.core c = { s.core c with ls := (s.core c).ls.writeBytes q ((s.core c).bankImage r.args.bank), errors := e } := hk
  have hacks0 : (milled u 288).acks = 0 := hacks
  rw [hmilled, hu0, hacks0] at htc
  refine ⟨t, ht, ?_⟩
  rw [htc]
  exact ⟨rfl, rfl, Core.run_markDone_none hr.1⟩

end

end Sys2Proof.Machine
end

section
/-! SUPPORT. Where XSEND, a SEND step of XCOLL and the requests of the optional units end (R289, R293, R326, R343, R358, R360, R412). -/

namespace Sys2Proof.Machine
open Sys2Proof.Claims

section
variable {s : State} {c : CoreId} {q : Nat} {r : Run} {w w1 w2 w3 : EWork} {b : List Byte} {p : Nat} {e : EArgs}

/-! ## XSEND and XCOLL (R289, R293) -/

/-- A bulk message to a module that a route serves goes out under a fresh tag (R289). -/
theorem run_sendBulk {d : Nat} {m : Nat → Msg} (h : (w.s.route d).isSome = true) : (sendBulk d m).run w = .ok () (bulk w m) := by
  obtain ⟨x, hx⟩ := run_eget_isSome (w := w) (code := cRouteNone) h
  rw [sendBulk, EM.run_get_bind, EM.run_bind hx]
  rfl

theorem xsend_ends {d m : Nat} (hd : d = r.args.param.toNat / 2 ^ 52) (hr : Runs s c 3 .x 3 0 r) (hy : s.yields c r = false)
    (h1 : r.args.d1.ok = true) (hne : d ≠ s.modNo) (hm : s.route d = some m)
    (hb : Gives (descReadSoon r.args.d1) (workFrom s c 3 r) b w1) (hroute : (w1.s.route d).isSome = true) :
    Ends (.xsend c) s c 3 (bulk w1 fun tag => .xsend d (r.args.param.toNat % 2 ^ 52) b tag none) := by
  subst hd
  obtain ⟨hb, hw1⟩ := hb
  have hcheck : (r.args.param.toNat / 2 ^ 52 == (workFrom s c 3 r).s.modNo ||
      ((workFrom s c 3 r).s.route (r.args.param.toNat / 2 ^ 52)).isSome) = true := by
    have : ((workFrom s c 3 r).s.route (r.args.param.toNat / 2 ^ 52)).isSome = true := Option.isSome_iff_exists.mpr ⟨m, hm⟩
    rw [this, Bool.or_true]
  refine ends_of_engineRow (work := xsendWork) hr hy rfl ?_ hw1
  rw [xsendWork, needDesc, EM.run_bind (run_echeck h1), EM.run_get_bind, EM.run_bind (run_echeck hcheck), EM.run_bind hb]
  exact (congrArg (EStateM.run · w1) (if_neg hne)).trans (run_sendBulk hroute)

/-- A partial for another module is sent to it (R293). -/
theorem run_sendPartial {peer : Nat} {key : PartKey} (hne : peer ≠ w.s.modNo) (hroute : (w.s.route peer).isSome = true) :
    (sendPartial peer key b).run w = .ok () (bulk w fun tag => .partial_ peer key b tag) := by
  rw [sendPartial, EM.run_get_bind, if_neg hne]
  exact run_sendBulk hroute

theorem run_localOperand {n : Nat} (h1 : e.d1.ok = true) (ht : e.d1.total = n) (hb : (descReadSoon e.d1).run w = .ok b w1) :
    (localOperand e n).run w = .ok b w1 := by
  rw [localOperand, needDesc, EM.run_bind (run_echeck h1), EM.run_bind (run_echeck (by rw [ht, beq_self_eq_true]))]
  exact hb

/-- A SEND step of a collective with a local operand sends the partial that it reads (R293, R294). -/
theorem run_xcollWork_send {x : CollStep} (hx : w.s.collOf (w.s.core w.core) w.task e.param = some x) (hop : x.op = 0)
    (hne : x.peer ≠ w1.s.modNo) (hnode : isNode x.lo x.n x.leaves = true) (hl : x.local_ = true) (h1 : e.d1.ok = true)
    (ht : e.d1.total = x.partBytes) (hb : (descReadSoon e.d1).run w = .ok b w1) (hroute : (w1.s.route x.peer).isSome = true) :
    (xcollWork e).run w =
      .ok () (bulk w1 fun tag => .partial_ x.peer ⟨field e.param.toNat 63 48, x.chunk, x.lo, x.n⟩ b tag) := by
  rw [xcollWork, EM.run_get_bind]
  refine (EM.run_bind (run_eget hx)).trans ?_
  simp only [hop, hl, if_true]
  rw [EM.run_bind (run_echeck hnode), EM.run_bind (run_localOperand h1 ht hb)]
  exact run_sendPartial hne hroute

theorem xcoll_send_ends {x : CollStep} (hr : Runs s c 3 .x 4 0 r) (hy : s.yields c r = false)
    (hx : s.collOf (s.core c) r.args.task r.args.param = some x) (hop : x.op = 0) (hne : x.peer ≠ w1.s.modNo)
    (hnode : isNode x.lo x.n x.leaves = true) (hl : x.local_ = true) (h1 : r.args.d1.ok = true) (ht : r.args.d1.total = x.partBytes)
    (hb : Gives (descReadSoon r.args.d1) (workFrom s c 3 r) b w1) (hroute : (w1.s.route x.peer).isSome = true) :
    Ends (.xcoll c) s c 3 (bulk w1 fun tag => .partial_ x.peer ⟨field r.args.param.toNat 63 48, x.chunk, x.lo, x.n⟩ b tag) := by
  obtain ⟨hb, hw1⟩ := hb
  refine ends_of_engineRow (work := xcollWork) hr hy rfl ?_ hw1
  exact run_xcollWork_send (w := workFrom s c 3 r) hx hop hne hnode hl h1 ht hb hroute

/-! ## Surveyors and samplers (R326, R412) -/

/-- The row of an optional unit ends where its command's work completes (R105). -/
theorem ends_of_unitRow {i : Instr} {tgt : BitVec 4} {work : EArgs → EM Unit} (hq : tgtQueue s.unitsEff tgt.toNat = some q)
    (hr : Runs s c q .x 2 tgt r) (hy : s.yields c r = false) (hi : exec i s = .next (s.settle (unitRow c tgt work s)))
    (hw : (work r.args).run (workFrom s c q r) = .ok () w) (hm : w.missing = false) : Ends i s c q w := by
  obtain ⟨hcomp, -⟩ := (doesWork_of_unitRow hq hr hi).2 hy
  exact hcomp w ⟨hw, hm⟩

/-- A dispatch request writes the gazetteer of its choices, and counts what it dropped and met (R326, R327). -/
theorem run_surveyWork_dispatch {x : SurReq} {gr : Graph} {area : Nat} {cb gb z : List Byte} {d : List (Option (List Byte)) × Nat × Nat}
    (hx : (surveyPrepare e).run w = .ok (x, gr, area) w1) (hk : x.kind ≠ 0)
    (hcb : (vaRead x.source (2 * (x.count * x.hops))).run w1 = .ok cb w2)
    (hgb : (vaRead x.seeds (2 * (x.count * x.hops))).run w2 = .ok gb w3)
    (hd : d = dispatch x (natsOf 2 (x.count * x.hops) cb) (natsOf 2 (x.count * x.hops) gb)) (hls : e.d2.isLs = true)
    (hz : z = gazetteer x e.task.step d.2.1 [d.1]) (hp : w3.task.lsAddr area z.length = some p) :
    (surveyWork e).run w = .ok () (stored { w3 with s := w3.s.noteSurvey w3.core d.2.2 d.2.1 } p z) := by
  subst hd hz
  rw [surveyWork, EM.run_get_bind]
  refine (EM.run_bind hx).trans ?_
  simp only [hls, if_true]
  rw [if_neg hk, EM.run_bind hcb, EM.run_bind hgb]
  exact (EM.run_bind (f := fun _ => lsWrite area _) (w1 := { w3 with s := w3.s.noteSurvey w3.core _ _ }) rfl).trans
    (run_lsWrite (w := { w3 with s := w3.s.noteSurvey w3.core _ _ }) hp)

/-- A row of a sampling is read, its record written, and what it met counted (R410, R412). -/
def sampleOne (e : EArgs) (w : EWork) (x : SmpReq) (l : Legend) (area : Nat) (k : RowKeys × Nat) : EM Unit := do
  let b ← vaRead (x.logits + k.2 * x.lstride) (l.fmt.rowBytes x.vocab)
  let codes := (l.fmt.decodeRow x.vocab b).map Elem.q
  let draw := draw64 (w.s.randKey e.task x.tensor k.1.branch) (k.1.tree * 2 ^ 32 + k.1.position) purposeSample
  let t := sampleRow l x draw codes
  (if e.d2.isLs then lsWrite (area + 32 * k.2) t.bytes else vaWrite (area + 32 * k.2) t.bytes)
  emod fun s => s.noteSample w.core (codes.filter Option.isNone).length (t.kept == 0)

theorem sampleWork_eq (e : EArgs) : sampleWork e = (do
    let w ← get
    let q ← samplePrepare e
    let _ ← (q.2.2.2.zip (List.range q.1.rows)).mapM (sampleOne e w q.1 q.2.1 q.2.2.1)
    pure ()) := rfl

/-- A sample request of one row writes its record (R412). -/
theorem run_sampleWork_one {x : SmpReq} {l : Legend} {area : Nat} {k : RowKeys} {codes : List Code} {t : TokenRec}
    (hx : (samplePrepare e).run w = .ok (x, l, area, [k]) w1) (hrows : x.rows = 1)
    (hb : (vaRead x.logits (l.fmt.rowBytes x.vocab)).run w1 = .ok b w2) (hc : codes = (l.fmt.decodeRow x.vocab b).map Elem.q)
    (ht : t = sampleRow l x (draw64 (w.s.randKey e.task x.tensor k.branch) (k.tree * 2 ^ 32 + k.position) purposeSample) codes)
    (hls : e.d2.isLs = true) (hp : w2.task.lsAddr area t.bytes.length = some p) :
    (sampleWork e).run w = .ok () (let u := stored w2 p t.bytes
      { u with s := u.s.noteSample w.core (codes.filter Option.isNone).length (t.kept == 0) }) := by
  subst hc ht
  rw [sampleWork_eq, EM.run_get_bind, EM.run_bind hx, hrows]
  refine EM.run_bind (run_mapM_one (b := ()) ?_)
  rw [sampleOne, Nat.zero_mul, Nat.mul_zero, Nat.add_zero, EM.run_bind hb, hls]
  exact EM.run_bind (run_lsWrite hp)

theorem dispatch_ends {x : SurReq} {gr : Graph} {area : Nat} {cb gb z : List Byte} {d : List (Option (List Byte)) × Nat × Nat}
    (hq : tgtQueue s.unitsEff 1 = some q) (hr : Runs s c q .x 2 1 r) (hy : s.yields c r = false)
    (hx : Gives (surveyPrepare r.args) (workFrom s c q r) (x, gr, area) w1) (hk : x.kind ≠ 0)
    (hcb : Gives (vaRead x.source (2 * (x.count * x.hops))) w1 cb w2) (hgb : Gives (vaRead x.seeds (2 * (x.count * x.hops))) w2 gb w3)
    (hd : d = dispatch x (natsOf 2 (x.count * x.hops) cb) (natsOf 2 (x.count * x.hops) gb)) (hls : r.args.d2.isLs = true)
    (hz : z = gazetteer x r.args.task.step d.2.1 [d.1]) (hp : w3.task.lsAddr area z.length = some p) :
    Ends (.surveyRequest c) s c q (stored { w3 with s := w3.s.noteSurvey w3.core d.2.2 d.2.1 } p z) := by
  obtain ⟨hgb, hw3⟩ := hgb
  exact ends_of_unitRow (tgt := 1) (work := surveyWork) hq hr hy rfl
    (run_surveyWork_dispatch hx.1 hk hcb.1 hgb hd hls hz hp) hw3

theorem sample_ends {x : SmpReq} {l : Legend} {area : Nat} {k : RowKeys} {codes : List Code} {t : TokenRec}
    (hq : tgtQueue s.unitsEff 2 = some q) (hr : Runs s c q .x 2 2 r) (hy : s.yields c r = false) (h0 : q ≠ 0)
    (hx : Gives (samplePrepare r.args) (workFrom s c q r) (x, l, area, [k]) w1) (hrows : x.rows = 1)
    (hb : Gives (vaRead x.logits (l.fmt.rowBytes x.vocab)) w1 b w2) (hc : codes = (l.fmt.decodeRow x.vocab b).map Elem.q)
    (ht : t = sampleRow l x (draw64 (s.randKey r.args.task x.tensor k.branch) (k.tree * 2 ^ 32 + k.position) purposeSample) codes)
    (hls : r.args.d2.isLs = true) (hp : w2.task.lsAddr area t.bytes.length = some p) :
    Ends (.sampleRequest c) s c q (let u := stored w2 p t.bytes
      { u with s := u.s.noteSample c (codes.filter Option.isNone).length (t.kept == 0) }) := by
  obtain ⟨hb, hw2⟩ := hb
  rw [workFrom_of_pos h0] at hx
  refine ends_of_unitRow (tgt := 2) (work := sampleWork) hq hr hy rfl ?_ hw2
  rw [workFrom_of_pos h0]
  exact run_sampleWork_one hx.1 hrows hb hc ht hls hp

/-! ## The smithy (R357 to R360, R364) -/

/-- A filter that its one element passes. -/
theorem run_filterM_one {α : Type} {f : α → EM Bool} {a : α} (h : (f a).run w = .ok true w1) : ([a].filterM f).run w = .ok [a] w1 := by
  have haux : (List.filterAuxM f [a] []).run w = .ok [a] w1 := EM.run_bind h
  rw [List.filterM, EM.run_bind haux]
  rfl

/-- A metered unit whose meters are open issues an access that it has not paid for, and pays (R364). -/
theorem run_meterGate {a : Nat × Nat} (hmet : w.metered = true) (hpaid : w.paid ≤ w.seen) (hk : w.unknown a.1 = false)
    (ho : w.s.metersOpen true w.hostToo a = true) :
    (meterGate true a).run w = .ok false { w with seen := w.seen + 1, paid := w.paid + 1 } := by
  rw [meterGate, EM.run_get_bind, if_neg (by simp [hmet, hk]), if_neg (Nat.not_lt.mpr hpaid), if_pos ho]
  rfl

/-- The delta of a row's part is staged once the meters allow it (R360, R364). -/
theorem run_stageNew {a : Nat} {old new : List Byte} (hne : new ≠ []) (hmet : w.metered = true) (hpaid : w.paid ≤ w.seen)
    (hk : w.unknown ((w.s.stageAddr a).getD a) = false)
    (ho : w.s.metersOpen true w.hostToo ((w.s.stageAddr a).getD a, pad8 new.length) = true) :
    (stageNew a old new).run w = .ok () { w with
      seen := w.seen + 1, paid := w.paid + 1, s := w.s.stageDelta a (subWords (padWords new) (padWords old)) } := by
  rw [stageNew, if_neg (by simpa using hne), EM.run_get_bind, EM.run_bind (run_meterGate hmet hpaid hk ho)]
  rfl

/-- A staging request of one row without a mask comes to what the row's update stages. -/
theorem run_smithyStageWork_one {x : Staging} {row : UpdRow} {d : UpdData} (hx : (smithyPrepare e).run w = .ok x w1)
    (hrows : x.rows = [row]) (hmask : x.u.masked = false) (hd : (readUpd x.u x.l row).run w1 = .ok d w2) (hm : w2.missing = false)
    (hend : (stageResult d (updateRow x.u x.l (w.s.randKey e.task 0 0) d.row d.w d.m d.v d.g)).run
      { w2 with s := { w2.s with smithy := w2.s.smithy.stagedRows x } } = .ok () w3) :
    (smithyStageWork e).run w = .ok () w3 := by
  have hlive : (do let z ← frozenRow x.u row; pure (!z) : EM Bool).run w1 = .ok true w1 := by
    rw [frozenRow, hmask]
    rfl
  rw [smithyStageWork, EM.run_get_bind, EM.run_bind hx, hrows]
  refine (EM.run_bind (run_filterM_one (f := fun x' => frozenRow x.u x' >>= fun z => pure !z) hlive)).trans ?_
  refine (EM.run_bind (run_mapM_one hd)).trans ?_
  refine (EM.run_bind (run_awaitReads hm)).trans ((EM.run_bind (run_emod _)).trans ?_)
  exact EM.run_bind (run_mapM_one hend)

section
variable {x : Staging} {row : UpdRow} {d : UpdData} {res : RowResult} (hq : tgtQueue s.unitsEff 3 = some q) (hr : Runs s c q .x 2 3 r)
  (h0 : q ≠ 0) (hy : s.yields c r = false) (hx : Gives (smithyPrepare r.args) (workFrom s c q r) x w1) (hrows : x.rows = [row])
  (hmask : x.u.masked = false) (hd : Gives (readUpd x.u x.l row) w1 d w2)
  (hres : res = updateRow x.u x.l (s.randKey r.args.task 0 0) d.row d.w d.m d.v d.g)
  (hw3 : w3 = { w2 with s := { w2.s with smithy := w2.s.smithy.stagedRows x } })
include hq hr h0 hy hx hrows hmask hd hres hw3

theorem smithyStage_ends {u : EWork} (hend : (stageResult d res).run w3 = .ok () u) (hm : u.missing = w2.missing) :
    Ends (.smithyStage c) s c q u := by
  subst hres hw3
  obtain ⟨hd, hw2⟩ := hd
  rw [workFrom_of_pos h0] at hx
  refine ends_of_unitRow (tgt := 3) (work := smithyStageWork) hq hr hy rfl ?_ (hm.trans hw2)
  rw [workFrom_of_pos h0]
  exact run_smithyStageWork_one hx.1 hrows hmask hd hw2 hend

/-- A row whose gradient holds OVF is skipped (R358). -/
theorem smithyStage_skips (hskip : res = .skipGrad) :
    Ends (.smithyStage c) s c q { w3 with s := w3.s.countSkip (w3.s.stackOf d.row.w) true } :=
  smithyStage_ends hq hr h0 hy hx hrows hmask hd hres hw3 (by rw [hskip]; rfl) (by rw [hw3])

/-- A new row without states stages its delta (R360). -/
theorem smithyStage_stages {n : List Byte} (hnew : res = .new n [] []) (hne : n ≠ []) (hmet : w3.metered = true)
    (hpaid : w3.paid ≤ w3.seen) (hk : w3.unknown ((w3.s.stageAddr d.row.w).getD d.row.w) = false)
    (ho : w3.s.metersOpen true w3.hostToo ((w3.s.stageAddr d.row.w).getD d.row.w, pad8 n.length) = true) :
    Ends (.smithyStage c) s c q { w3 with
      seen := w3.seen + 1, paid := w3.paid + 1, s := w3.s.stageDelta d.row.w (subWords (padWords n) (padWords d.w)) } := by
  refine smithyStage_ends hq hr h0 hy hx hrows hmask hd hres hw3 ?_ (by rw [hw3])
  rw [hnew, stageResult, EM.run_bind (run_stageNew hne hmet hpaid hk ho)]
  rfl

end

/-! ## UNSTASH and the parity-rebuild request (R132, R343) -/

/-- UNSTASH shares no unit (R50). -/
theorem yields_of_unstash (hr : Runs s c q .x 2 6 r) : s.yields c r = false := by
  obtain ⟨-, hslot, hop, htgt, -⟩ := hr
  simp [State.yields, State.sharedBy, hslot, hop, htgt]

theorem unstash_ends {x : SlotEntry} {g : GSlot} {at_ : Nat} (hq : tgtQueue s.unitsEff 6 = some q) (hr : Runs s c q .x 2 6 r)
    (hx : Gives (unstashPrepare r.args) (workFrom s c q r) (x, g) w1) (htile : x.tiles = false ∨ bit r.args.param.toNat 47 = false)
    (hb : Gives (vaReadSoon g.addr g.size) w1 b w2) (hl : b.length = r.args.d2.size.toNat) (hne : b ≠ []) (hls : r.args.d2.isLs = true)
    (hat : r.args.d2.accesses.take 1 = [at_]) (hp : w2.task.lsAddr at_ b.length = some p) :
    Ends (.unstash c) s c q (stored w2 p b) := by
  obtain ⟨hx, -⟩ := hx
  obtain ⟨hb, hw2⟩ := hb
  have hpos : 0 < b.length := List.length_pos_iff.mpr hne
  have hsz : max r.args.d2.size.toNat 1 = b.length := by omega
  have htiles : ¬ (x.tiles && bit r.args.param.toNat 47) = true := by obtain h | h := htile <;> simp [h]
  refine ends_of_unitRow (tgt := 6) (work := unstashWork) hq hr (yields_of_unstash hr) rfl ?_ hw2
  rw [unstashWork]
  refine (EM.run_bind hx).trans ((EM.run_bind hb).trans ((EM.run_bind (run_awaitReads hw2)).trans ?_))
  rw [if_neg htiles, EM.run_bind (EM.run_pure b)]
  simp only [hsz, Nat.div_self hpos, Nat.mod_self, if_true, hat]
  rw [descWriteAll, ← hl, List.take_length, spaceWrite_of_isLs hls]
  exact EM.run_bind (EM.run_bind (run_lsWrite hp))

theorem parityRebuild_ends (hq : tgtQueue s.unitsEff 8 = some q) (hr : Runs s c q .x 2 8 r) (hy : s.yields c r = false) :
    Ends (.parityRebuildRequest c) s c q (workFrom s c q r) :=
  ends_of_unitRow (tgt := 8) (work := fun _ => pure ()) hq hr hy rfl rfl rfl

end

end Sys2Proof.Machine
end

section
/-! SUPPORT. The obligation on where the engine commands complete. -/

namespace Sys2Proof.Machine
open Sys2Proof.Claims

/-- Settles O60: each clause is one of the laws above of the command that it is about. -/
theorem engineCommandsComplete : Obligations.EngineCommandsComplete := by
  unfold Obligations.EngineCommandsComplete
  intro s c r p b w1 w2 w3 W a
  exact ⟨fun _ _ => gather_ends,
    fun _ _ _ _ _ hop hpl hsegs hx => ⟨fun hr hm hg hrows => gmerge_ends hop hpl hsegs hx hrows hr hm hg,
      fun _ hts hr hg hrows => gcompact_ends hop hpl hsegs hx hrows hts hr hg⟩,
    fun _ _ _ _ _ _ => scatter_ends, fun _ _ _ _ _ => scatterAdd_ends, fun _ _ _ _ => lookup_ends, fun _ _ _ _ _ => lookupComp_ends,
    fun _ _ _ _ _ => pathred_ends, fun _ => mpass_ends, fun _ _ _ _ _ _ => drain_forms, mload_ends, fun _ => mstore_effects,
    fun _ _ => xsend_ends, fun _ => xcoll_send_ends,
    fun _ => ⟨fun _ _ _ _ _ _ _ hq hr hy _ => dispatch_ends hq hr hy, fun _ _ _ _ _ _ => sample_ends,
      fun _ _ _ _ hq hr h0 hy hx hrows hmask hd hres hw3 =>
        ⟨smithyStage_skips hq hr h0 hy hx hrows hmask hd hres hw3, fun _ => smithyStage_stages hq hr h0 hy hx hrows hmask hd hres hw3⟩,
      fun _ _ _ hq hr _ => unstash_ends hq hr, parityRebuild_ends⟩⟩

end Sys2Proof.Machine
end

section
/-! SUPPORT. The words of the element instructions: their codes, and exact results or OVF (R207, R213, Table 07-3). -/

namespace Sys2Proof.Machine
open Sys2Proof.Claims

/-! ## Codes of words (R207) -/

/-- The signed reading of a word's bits is its two's complement value. -/
theorem signedOf_toNat {n : Nat} (w : BitVec n) : signedOf n w.toNat = w.toInt := by
  rw [signedOf, Nat.mod_eq_of_lt w.isLt, BitVec.toInt_eq_toNat_cond]

theorem codeOf_ovfWord : codeOf ovfWord = none := rfl

theorem codeOf_of_isCode {w : W32} {v : Int} (h : isCode w v) : codeOf w = some v := by
  obtain ⟨hne, rfl⟩ := h
  have hovf : w.toNat ≠ Fmt.i32.ovf := fun he => hne (BitVec.eq_of_toNat_eq he)
  exact (if_neg hovf).trans (congrArg some (signedOf_toNat w))

theorem wordOf_none : wordOf none = ovfWord := rfl

theorem wordOf_some (v : Int) : wordOf (some v) = BitVec.ofInt 32 v :=
  BitVec.eq_of_toNat_eq (by simp [wordOf, Fmt.encode, lowBits, Fmt.bits, Int.emod_lt_of_pos])

/-- Every value between the ends of the I32 range is the code of its word. -/
theorem isCode_wordOf {v : Int} (hlo : -(2 ^ 31) < v) (hhi : v < 2 ^ 31) : isCode (wordOf (some v)) v := by
  have hint : (wordOf (some v)).toInt = v := by
    rw [wordOf_some, BitVec.toInt_ofInt]
    exact Int.bmod_eq_of_le (by omega) (by omega)
  refine ⟨fun he => ?_, hint⟩
  have hmin : v = -2147483648 := by rw [← hint, he]; rfl
  omega

/-! ## Exact results (R213) -/

theorem exactOrOvf_i32Res (v : Int) : ExactOrOvf (some (i32Res (some v))) v := by
  by_cases h : -(2 ^ 31) < v ∧ v < 2 ^ 31
  · have hfit : fitOrOvf .i32 v = (some v, NumCount.none) := if_pos (by simp only [Fmt.minq, Fmt.maxq]; omega)
    exact ⟨_, _, by rw [i32Res, hfit], .inl ⟨h.1, h.2, isCode_wordOf h.1 h.2, rfl⟩⟩
  · have hfit : fitOrOvf .i32 v = (none, ⟨0, 1⟩) := if_neg (by simp only [Fmt.minq, Fmt.maxq]; omega)
    exact ⟨_, _, by rw [i32Res, hfit]; rfl, .inr ⟨h, rfl, rfl⟩⟩

/-- An operation on two codes gives its exact value, or OVF. -/
theorem exactOrOvf_code2 {a b : W32} {x y : Int} (f : Int → Int → Int) (ha : isCode a x) (hb : isCode b y) :
    ExactOrOvf (some (i32Res (code2 f (codeOf a) (codeOf b)))) (f x y) := by
  rw [codeOf_of_isCode ha, codeOf_of_isCode hb]
  exact exactOrOvf_i32Res (f x y)

/-- An operation on an OVF operand gives OVF, and counts nothing. -/
theorem i32Res_code2_ovf {a b : W32} (f : Int → Int → Int) (h : a = ovfWord ∨ b = ovfWord) :
    some (i32Res (code2 f (codeOf a) (codeOf b))) = some (ovfWord, NumCount.none) := by
  have hnone : code2 f (codeOf a) (codeOf b) = none := by
    obtain rfl | rfl := h
    · rfl
    · cases codeOf a <;> rfl
  rw [hnone]
  rfl

section
variable {a b : W32} {x y : Int}

theorem elemWord_vcmplt (ha : isCode a x) (hb : isCode b y) :
    elemWord 0x0C a b = some (if x < y then 1 else 0, NumCount.none) := by
  simp only [elemWord, codeOf_of_isCode ha, codeOf_of_isCode hb]

theorem elemWord_vcmpeq (ha : isCode a x) (hb : isCode b y) :
    elemWord 0x0D a b = some (if x = y then 1 else 0, NumCount.none) := by
  simp only [elemWord, codeOf_of_isCode ha, codeOf_of_isCode hb]

theorem elemWord_compare_ovf (h : a = ovfWord ∨ b = ovfWord) :
    elemWord 0x0C a b = some (0, NumCount.none) ∧ elemWord 0x0D a b = some (0, NumCount.none) := by
  obtain rfl | rfl := h
  · exact ⟨rfl, rfl⟩
  · simp only [elemWord, codeOf_ovfWord]
    cases codeOf a <;> exact ⟨rfl, rfl⟩

theorem elemWord_vshl (ha : isCode a x) (hb : isCode b y) : ExactOrOvf (elemWord 0x09 a b) (x * 2 ^ (b.toNat % 32)) := by
  rw [show (2 : Int) ^ (b.toNat % 32) = ((2 ^ (b.toNat % 32) : Nat) : Int) by norm_cast]
  exact exactOrOvf_code2 (fun x _ => x * ((2 ^ (b.toNat % 32) : Nat) : Int)) ha hb

theorem elemWord_vsra (ha : isCode a x) (hb : isCode b y) : ExactOrOvf (elemWord 0x0A a b) (x / 2 ^ (b.toNat % 32)) := by
  rw [show (2 : Int) ^ (b.toNat % 32) = ((2 ^ (b.toNat % 32) : Nat) : Int) by norm_cast]
  exact exactOrOvf_code2 (fun x _ => x / ((2 ^ (b.toNat % 32) : Nat) : Int)) ha hb

end

end Sys2Proof.Machine
end

section
/-! SUPPORT. Words as bytes of the local store, runs of bytes one behind the other, and the places of VLD and VST (R6, R94, R143). -/

namespace Sys2Proof.Machine

/-! ## Words and their low bytes (R6, R143) -/

theorem natOfBytes_bytesOfNat (n v : Nat) : natOfBytes (bytesOfNat n v) = v % 256 ^ n := by
  induction n generalizing v with
  | zero => simp [bytesOfNat, natOfBytes, Nat.mod_one]
  | succ n ih => rw [bytesOfNat, natOfBytes, ih, BitVec.toNat_ofNat, pow_succ' 256, Nat.mod_mul (a := 256)]

theorem signedOf_mod (n v : Nat) : signedOf n (v % 2 ^ n) = signedOf n v := by
  rw [signedOf, Nat.mod_mod]
  rfl

/-- Words as VST stores them, each as its low `w` bytes (R143). -/
def wordBytes (w : Nat) (ws : List W32) : List Byte := ws.flatMap fun x => bytesOfNat w x.toNat

theorem wordBytes_cons (w : Nat) (x : W32) (ws : List W32) : wordBytes w (x :: ws) = bytesOfNat w x.toNat ++ wordBytes w ws := rfl

theorem length_wordBytes (w : Nat) (ws : List W32) : (wordBytes w ws).length = ws.length * w := by
  induction ws with
  | nil => simp [wordBytes]
  | cons x ws ih => rw [wordBytes_cons, List.length_append, length_bytesOfNat, ih, List.length_cons, Nat.succ_mul, Nat.add_comm]

/-- Byte `i` is byte `i mod w` of word `i / w`. -/
theorem getElem?_wordBytes {w i : Nat} {ws : List W32} (h : i < ws.length * w) :
    (wordBytes w ws)[i]? = some (BitVec.ofNat 8 ((ws.getD (i / w) 0).toNat / 256 ^ (i % w))) := by
  induction ws generalizing i with
  | nil => simp at h
  | cons x ws ih =>
    have hlen := length_bytesOfNat w x.toNat
    rw [wordBytes_cons]
    by_cases hi : i < w
    · rw [List.getElem?_append_left (by omega), List.getElem?_eq_getElem (by omega), getElem_bytesOfNat, Nat.div_eq_of_lt hi,
        Nat.mod_eq_of_lt hi]
      rfl
    · obtain ⟨j, rfl⟩ := Nat.exists_eq_add_of_le' (Nat.le_of_not_lt hi)
      have hw : 0 < w := by
        refine Nat.pos_of_ne_zero fun h0 => ?_
        simp [h0] at h
      rw [List.length_cons, Nat.succ_mul] at h
      rw [List.getElem?_append_right (by omega), hlen, Nat.add_sub_cancel, ih (by omega), Nat.add_div_right j hw, Nat.add_mod_right]
      rfl

/-- VLD of words that VST stored: their low bytes sign-extended (R143). -/
theorem loadWords_wordBytes (w : Nat) (ws : List W32) :
    loadWords w ws.length (wordBytes w ws) = ws.map fun x => BitVec.ofInt 32 (signedOf (8 * w) x.toNat) := by
  induction ws with
  | nil => rfl
  | cons x ws ih =>
    have hpow : 256 ^ w = 2 ^ (8 * w) := (pow_mul 2 8 w).symm
    rw [wordBytes_cons, List.length_cons, loadWords, List.take_left' (length_bytesOfNat ..), List.drop_left' (length_bytesOfNat ..), ih,
      natOfBytes_bytesOfNat, hpow, signedOf_mod, List.map_cons]

/-- A word is its own 32 bits sign-extended. -/
theorem ofInt_signedOf_toNat (x : W32) : BitVec.ofInt 32 (signedOf 32 x.toNat) = x := by
  rw [signedOf_toNat, BitVec.ofInt_toInt]

/-! ## Runs of bytes -/

theorem Memory.readBytes_add (m : Memory) (p a b : Nat) : m.readBytes p (a + b) = m.readBytes p a ++ m.readBytes (p + a) b := by
  induction a generalizing p with
  | zero => rw [Nat.zero_add]; rfl
  | succ a ih => rw [Nat.succ_add, Memory.readBytes, ih, Memory.readBytes, List.cons_append, Nat.add_right_comm, Nat.add_assoc]

/-- The words of a run of bytes, each from its own bytes. -/
theorem loadWords_readBytes (m : Memory) (w n p : Nat) : loadWords w n (m.readBytes p (n * w)) =
    (List.range n).map fun i => BitVec.ofInt 32 (signedOf (8 * w) (m.readNat (p + i * w) w)) := by
  induction n generalizing p with
  | zero => rfl
  | succ n ih =>
    have hlen := m.length_readBytes p w
    rw [Nat.succ_mul, Nat.add_comm (n * w), Memory.readBytes_add, loadWords, List.take_left' hlen, List.drop_left' hlen, ih,
      List.range_succ_eq_map, List.map_cons, List.map_map, Nat.zero_mul, Nat.add_zero]
    refine congrArg (_ :: ·) (List.map_congr_left fun i _ => ?_)
    have hplace : p + w + i * w = p + i.succ * w := by rw [Nat.succ_mul]; omega
    rw [Function.comp_apply, hplace]

/-- Runs of bytes, each written at its address. -/
def Memory.writeRuns (m : Memory) (l : List (Nat × List Byte)) : Memory := l.foldl (fun m a => m.writeBytes a.1 a.2) m

theorem Memory.read_writeRuns_outside {m : Memory} {l : List (Nat × List Byte)} {c : Nat}
    (h : ∀ a ∈ l, c < a.1 ∨ a.1 + a.2.length ≤ c) : (m.writeRuns l).read c = m.read c := by
  induction l generalizing m with
  | nil => rfl
  | cons a l ih =>
    obtain ⟨ha, hl⟩ := List.forall_mem_cons.1 h
    exact (ih hl).trans (m.read_writeBytes_outside _ _ ha)

/-- Of runs that stand one behind the other, each reads as written. -/
theorem Memory.read_writeRuns_inside {m : Memory} {l : List (Nat × List Byte)} (hl : l.Pairwise fun a b => a.1 + a.2.length ≤ b.1)
    {a : Nat × List Byte} (ha : a ∈ l) {i : Nat} (hi : i < a.2.length) : (m.writeRuns l).read (a.1 + i) = a.2[i] := by
  induction l generalizing m with
  | nil => nomatch ha
  | cons b l ih =>
    obtain ⟨hb, hl⟩ := List.pairwise_cons.1 hl
    obtain rfl | ha := List.mem_cons.1 ha
    · have hrest : ∀ d ∈ l, a.1 + i < d.1 ∨ d.1 + d.2.length ≤ a.1 + i := fun d hd =>
        .inl (Nat.lt_of_lt_of_le (Nat.add_lt_add_left hi _) (hb d hd))
      exact (Memory.read_writeRuns_outside (m := m.writeBytes a.1 a.2) hrest).trans (m.read_writeBytes_inside _ _ hi)
    · exact ih hl ha

/-! ## The places of a task's accesses (R94, R113, R143) -/

/-- A task's accesses within the limit all stand at their offsets from one byte of the local store. -/
theorem TaskCtx.lsAddr_offset (t : TaskCtx) : ∃ b, ∀ a n p, t.lsAddr a n = some p → p = b + a := by
  unfold TaskCtx.lsAddr
  cases t.detour with
  | none => exact ⟨t.lsBase, fun a n p h => by simp at h; omega⟩
  | some d => exact ⟨d.lsBase + t.lsBase, fun a n p h => by simp at h; omega⟩

/-- The quarters of an instruction stand one behind the other. -/
theorem vmOffset_add_le (m : VM) (cap : VCap) {q q' : Nat} (h : q < q') :
    vmOffset m cap q + 256 * widthBytes m.width ≤ vmOffset m cap q' := by
  have hle : (q + 1) * (256 * widthBytes m.width) ≤ q' * (256 * widthBytes m.width) := Nat.mul_le_mul_right _ h
  simp only [vmOffset, Nat.mul_comm 256, Nat.mul_assoc] at hle ⊢
  rw [Nat.succ_mul] at hle
  omega

theorem quartersOf_pairwise (sel : BitVec 3) : (quartersOf sel).Pairwise (· < ·) := by
  unfold quartersOf
  split
  · decide
  · exact List.pairwise_singleton ..

theorem length_quartersOf_le (sel : BitVec 3) : (quartersOf sel).length ≤ 4 := by
  unfold quartersOf
  split <;> simp

end Sys2Proof.Machine
end

section
/-! SUPPORT. The quarters of VLD and VST, one after the other, and the store and the results that they leave (R143, R158; the whole
instruction in one step: DEDUCED, log 4). -/

namespace Sys2Proof.Machine
open Sys2Proof.Claims

/-! ## Results that arrive (R158) -/

theorem VContext.quarter_writeTile (x : VContext) (p : PendTile) {t : BitVec 4} {q : Nat} (h : p.key ≠ t.toNat * 4 + q) :
    (x.writeTile p).quarter t q = x.quarter t q := mapGet_mapSet_other _ _ h

/-- Results that arrive leave the other quarters and what is in flight. -/
theorem VContext.foldl_writeTile (l : List PendTile) (x : VContext) : (l.foldl VContext.writeTile x).pend = x.pend ∧
    (l.foldl VContext.writeTile x).issues = x.issues ∧
    ∀ (t : BitVec 4) (q : Nat), (∀ p ∈ l, p.key ≠ t.toNat * 4 + q) → (l.foldl VContext.writeTile x).quarter t q = x.quarter t q := by
  induction l generalizing x with
  | nil => exact ⟨rfl, rfl, fun _ _ _ => rfl⟩
  | cons p l ih =>
    obtain ⟨hpend, hissues, hquarter⟩ := ih (x.writeTile p)
    refine ⟨hpend, hissues, fun t q h => ?_⟩
    obtain ⟨hp, hl⟩ := List.forall_mem_cons.1 h
    exact (hquarter t q hl).trans (x.quarter_writeTile p hp)

theorem VContext.issues_pass_one (x : VContext) : (VContext.pass 1 x).issues = x.issues + 1 :=
  (VContext.foldl_writeTile _ _).2.1

theorem VContext.pend_pass_one (x : VContext) : (VContext.pass 1 x).pend = x.pend.filter fun p => p.due != x.issues + 1 :=
  congrArg (List.filter _) (VContext.foldl_writeTile _ _).1

/-- A quarter that no result in flight writes reads as before the issue. -/
theorem VContext.quarter_pass_one {x : VContext} {t : BitVec 4} {q : Nat} (h : ∀ p ∈ x.pend, p.key ≠ t.toNat * 4 + q) :
    (VContext.pass 1 x).quarter t q = x.quarter t q :=
  (VContext.foldl_writeTile _ _).2.2 t q fun p hp => h p (List.mem_filter.1 hp).1

theorem VContext.mem_pend_pass_one {x : VContext} {p : PendTile} (hp : p ∈ x.pend) (hdue : x.issues + 1 < p.due) :
    p ∈ (VContext.pass 1 x).pend := by
  rw [VContext.pend_pass_one]
  exact List.mem_filter.2 ⟨hp, by simp; omega⟩

/-! ## One quarter after the other (R158, R205) -/

section
variable {s : State} {n : Nat} {v : VInstr} {e : VEnv} {gain tile : List W32} {r : VRun}

/-- A run that comes to its end without a fault had none before. -/
theorem bad_none_of_foldl {qs : List Nat} (h : (qs.foldl (vQuarter s n v e gain tile) r).bad = none) : r.bad = none := by
  induction qs generalizing r with
  | nil => exact h
  | cons q qs ih =>
    have hq := ih h
    by_contra hr
    rw [vQuarter, if_pos (Option.isSome_iff_ne_none.2 hr)] at hq
    exact hr hq

section
variable {q p : Nat} {m : VM} {w : Nat} (hm : VM.ofBits v.bits = m) (hw : widthBytes m.width = w)
include hm hw

/-- A quarter of VST that meets no fault stores its words at its place. -/
theorem vQuarter_vst (hop : v.op = 0x41) (hp : v.cap.task.lsAddr (vmOffset m v.cap q) (256 * w) = some p)
    (h : (vQuarter s n v e gain tile r q).bad = none) : vQuarter s n v e gain tile r q = ({ r with k := { r.k with
      ls := r.k.ls.writeBytes p (wordBytes w (r.x.quarter m.t q)), errors := r.k.errors.lsWritten p (256 * w) } } : VRun).pass n 1 r.x := by
  subst hm hw
  have hr : r.bad = none := bad_none_of_foldl (qs := [q]) h
  have hopNat : v.op.toNat = 0x41 := congrArg BitVec.toNat hop
  revert h
  simp only [vQuarter, hopNat, hp, hr, Option.isSome_none, Bool.false_eq_true, Nat.reduceEqDiff, ↓reduceIte]
  split
  · nofun
  · split
    · nofun
    · exact fun _ => rfl

/-- A quarter of VLD that meets no fault has the words of its place in flight, due its latency after its issue. -/
theorem vQuarter_vld (hop : v.op = 0x40) (hp : v.cap.task.lsAddr (vmOffset m v.cap q) (256 * w) = some p)
    (h : (vQuarter s n v e gain tile r q).bad = none) : vQuarter s n v e gain tile r q = r.pass n 1 { r.x with
      pend := r.x.pend ++ [⟨m.t.toNat * 4 + q, (loadWords w 256 (r.k.ls.readBytes p (256 * w))).map some, r.x.issues + 6⟩] } := by
  subst hm hw
  have hr : r.bad = none := bad_none_of_foldl (qs := [q]) h
  have hopNat : v.op.toNat = 0x40 := congrArg BitVec.toNat hop
  revert h
  simp only [vQuarter, hopNat, hp, hr, Option.isSome_none, Bool.false_eq_true, ↓reduceIte]
  split
  · nofun
  · split
    · nofun
    · split
      · nofun
      · exact fun _ => rfl

variable {qs : List Nat} {place : Nat → Nat} (hplace : ∀ q ∈ qs, v.cap.task.lsAddr (vmOffset m v.cap q) (256 * w) = some (place q))
  (h : (qs.foldl (vQuarter s n v e gain tile) r).bad = none)
include hplace h

/-- VST stores each quarter's words as they stood before it, since no result in flight writes them. -/
theorem ls_foldl_vst (hop : v.op = 0x41) (hpend : ∀ q ∈ qs, ∀ p ∈ r.x.pend, p.key ≠ m.t.toNat * 4 + q) :
    (qs.foldl (vQuarter s n v e gain tile) r).k.ls = r.k.ls.writeRuns (qs.map fun q => (place q, wordBytes w (r.x.quarter m.t q))) := by
  induction qs generalizing r with
  | nil => rfl
  | cons q qs ih =>
    obtain ⟨hq, hqs⟩ := List.forall_mem_cons.1 hplace
    have hstep := vQuarter_vst hm hw hop hq (bad_none_of_foldl h)
    have hrest := (List.forall_mem_cons.1 hpend).2
    rw [List.foldl_cons, hstep] at h ⊢
    have hkeep : ∀ q ∈ qs, (VContext.pass 1 r.x).quarter m.t q = r.x.quarter m.t q := fun q hq => VContext.quarter_pass_one (hrest q hq)
    have hpend' : ∀ q ∈ qs, ∀ p ∈ (VContext.pass 1 r.x).pend, p.key ≠ m.t.toNat * 4 + q := fun q hq p hp => by
      rw [VContext.pend_pass_one] at hp
      exact hrest q hq p (List.mem_filter.1 hp).1
    rw [ih hqs h hpend', List.map_cons]
    exact congrArg (Memory.writeRuns _) (List.map_congr_left fun q hq => by simp only [VRun.pass, hkeep q hq])

/-- A result that is due after the quarters' issues stays in flight, and VLD stores nothing. -/
theorem foldl_vld_keeps (hop : v.op = 0x40) : (qs.foldl (vQuarter s n v e gain tile) r).k.ls = r.k.ls ∧
    ∀ p ∈ r.x.pend, r.x.issues + qs.length < p.due → p ∈ (qs.foldl (vQuarter s n v e gain tile) r).x.pend := by
  induction qs generalizing r with
  | nil => exact ⟨rfl, fun p hp _ => hp⟩
  | cons q qs ih =>
    obtain ⟨hq, hqs⟩ := List.forall_mem_cons.1 hplace
    have hstep := vQuarter_vld hm hw hop hq (bad_none_of_foldl h)
    rw [List.foldl_cons, hstep] at h ⊢
    obtain ⟨hls, hkeep⟩ := ih hqs h
    refine ⟨hls, fun p hp hdue => hkeep p ?_ ?_⟩
    · exact VContext.mem_pend_pass_one (List.mem_append_left _ hp) (by simp only [List.length_cons] at hdue ⊢; omega)
    · simp only [VRun.pass, VContext.issues_pass_one, List.length_cons] at hdue ⊢
      omega

/-- The words of the `i`-th quarter of VLD are in flight after all its quarters. -/
theorem foldl_vld_result (hop : v.op = 0x40) (hlen : qs.length ≤ 4) {i : Nat} (hi : qs[i]? = some q) :
    PendTile.mk (m.t.toNat * 4 + q) ((loadWords w 256 (r.k.ls.readBytes (place q) (256 * w))).map some) (r.x.issues + i + 6) ∈
      (qs.foldl (vQuarter s n v e gain tile) r).x.pend := by
  induction qs generalizing r i with
  | nil => simp at hi
  | cons a qs ih =>
    obtain ⟨ha, hqs⟩ := List.forall_mem_cons.1 hplace
    rw [List.length_cons] at hlen
    have hstep := vQuarter_vld hm hw hop ha (bad_none_of_foldl h)
    rw [List.foldl_cons, hstep] at h ⊢
    cases i with
    | zero =>
      obtain rfl : a = q := by simpa using hi
      refine (foldl_vld_keeps hm hw hqs h hop).2 _ (VContext.mem_pend_pass_one (List.mem_append_right _ (List.mem_singleton.2 rfl)) ?_) ?_
      · simp
      · simp only [VRun.pass, VContext.issues_pass_one]
        omega
    | succ i =>
      have hmem := ih hqs h (by omega) (i := i) (by simpa using hi)
      simp only [VRun.pass, VContext.issues_pass_one] at hmem ⊢
      rwa [Nat.add_right_comm _ 1] at hmem

end

end

/-! ## The whole instruction -/

section
variable {s : State} {c : CoreId} {ctx : VCtx} {v : VInstr} {rest : List VInstr} {e : VEnv}

/-- The quarters of VLD and VST all lie within the limit, one behind the other, where their issue meets no fault. -/
theorem vPlaces {k : Core} (ho : v.op = 0x40 ∨ v.op = 0x41) (he : vEnvOf s k v = .ok e) :
    let m := VM.ofBits v.bits
    ∃ b, ∀ q ∈ quartersOf (vQsel v.bits),
      v.cap.task.lsAddr (vmOffset m v.cap q) (256 * widthBytes m.width) = some (b + vmOffset m v.cap q) := by
  obtain ⟨b, hb⟩ := v.cap.task.lsAddr_offset
  refine ⟨b, fun q hq => ?_⟩
  cases hp : v.cap.task.lsAddr (vmOffset (VM.ofBits v.bits) v.cap q) (256 * widthBytes (VM.ofBits v.bits).width) with
  | none => simp [vEnvOf_quarter_range ho hq hp] at he
  | some p => rw [hb _ _ _ hp]

@[simp] theorem State.ls_countNum (s : State) (c : CoreId) (n : NumCount) : ((s.countNum c n).core c).ls = (s.core c).ls := by
  simp [State.countNum]

@[simp] theorem State.vcontext_countNum (s : State) (c : CoreId) (n : NumCount) (ctx : VCtx) :
    ((s.countNum c n).core c).vcontext ctx = (s.core c).vcontext ctx := by
  simp [State.countNum, Core.vcontext]

/-- What an instruction that issues leaves of its core's store and of its context's results in flight. -/
theorem vIssue_leaves {op : BitVec 7} {i : Instr} (hx : exec i s = .next (s.settle (vIssue op c ctx s))) (h50 : op ≠ 0x50)
    (h51 : op ≠ 0x51) (hr : VReady op s c ctx v rest e) (hbad : (vQuarters op s c ctx v rest e).bad = none) : ∃ u, exec i s = .next u ∧
      (u.core c).ls = (vQuarters op s c ctx v rest e).k.ls ∧
      ∀ p ∈ (vQuarters op s c ctx v rest e).x.pend, p ∈ ((u.core c).vcontext ctx).pend := by
  refine ⟨_, vIssues_of_exec hx h50 h51 v rest e hr hbad, ?_, fun p hp => ?_⟩
  · simp
  · simp [hp]

/-- The runs of bytes that VST stores, a quarter each. -/
def storedRuns (x : VContext) (v : VInstr) (b : Nat) : List (Nat × List Byte) :=
  (quartersOf (vQsel v.bits)).map fun q => (b + vmOffset (VM.ofBits v.bits) v.cap q,
    wordBytes (widthBytes (VM.ofBits v.bits).width) (x.quarter (VM.ofBits v.bits).t q))

/-- The runs of whole quarters stand one behind the other. -/
theorem storedRuns_pairwise {x : VContext} (b : Nat)
    (hlen : ∀ q ∈ quartersOf (vQsel v.bits), (x.quarter (VM.ofBits v.bits).t q).length = 256) :
    (storedRuns x v b).Pairwise fun a b => a.1 + a.2.length ≤ b.1 := by
  refine List.pairwise_map.2 ((quartersOf_pairwise _).imp_of_mem fun {q q'} hq _ hlt => ?_)
  have hbehind := vmOffset_add_le (VM.ofBits v.bits) v.cap hlt
  simp only [length_wordBytes, hlen q hq]
  omega

/-- Each byte of a quarter's place is a low byte of one of its words (R143). -/
theorem read_storedRuns {x : VContext} {b q i : Nat} (mem : Memory)
    (hlen : ∀ q ∈ quartersOf (vQsel v.bits), (x.quarter (VM.ofBits v.bits).t q).length = 256) (hq : q ∈ quartersOf (vQsel v.bits)) :
    let m := VM.ofBits v.bits
    let w := widthBytes m.width
    i < 256 * w → (mem.writeRuns (storedRuns x v b)).read (b + vmOffset m v.cap q + i) =
      BitVec.ofNat 8 (((x.quarter m.t q).getD (i / w) 0).toNat / 256 ^ (i % w)) := by
  intro m w hi
  rw [← hlen q hq] at hi
  have hin : i < (wordBytes w (x.quarter m.t q)).length := hi.trans_eq (length_wordBytes ..).symm
  rw [Memory.read_writeRuns_inside (storedRuns_pairwise b hlen) (List.mem_map.2 ⟨q, hq, rfl⟩) hin]
  exact Option.some_inj.1 ((List.getElem?_eq_getElem hin).symm.trans (getElem?_wordBytes hi))

theorem exec_vst_stores (hr : VReady 0x41 s c ctx v rest e) (hbad : (vQuarters 0x41 s c ctx v rest e).bad = none)
    (hpend : ∀ q ∈ quartersOf (vQsel v.bits), ∀ p ∈ ((s.core c).vcontext ctx).pend, p.key ≠ (VM.ofBits v.bits).t.toNat * 4 + q)
    {b : Nat} (hplace : ∀ q ∈ quartersOf (vQsel v.bits), v.cap.task.lsAddr (vmOffset (VM.ofBits v.bits) v.cap q)
      (256 * widthBytes (VM.ofBits v.bits).width) = some (b + vmOffset (VM.ofBits v.bits) v.cap q)) :
    ∃ u, exec (.vst c ctx) s = .next u ∧ (u.core c).ls = (s.core c).ls.writeRuns (storedRuns ((s.core c).vcontext ctx) v b) := by
  obtain ⟨u, hu, hls, -⟩ := vIssue_leaves (i := .vst c ctx) rfl (by decide) (by decide) hr hbad
  obtain ⟨-, hop, -⟩ := hr
  exact ⟨u, hu, hls.trans (ls_foldl_vst rfl rfl hplace hbad hop hpend)⟩

theorem exec_vld_results (hr : VReady 0x40 s c ctx v rest e) (hbad : (vQuarters 0x40 s c ctx v rest e).bad = none)
    {b : Nat} (hplace : ∀ q ∈ quartersOf (vQsel v.bits), v.cap.task.lsAddr (vmOffset (VM.ofBits v.bits) v.cap q)
      (256 * widthBytes (VM.ofBits v.bits).width) = some (b + vmOffset (VM.ofBits v.bits) v.cap q)) :
    let m := VM.ofBits v.bits
    let w := widthBytes m.width
    ∃ u, exec (.vld c ctx) s = .next u ∧ (u.core c).ls = (s.core c).ls ∧
      ∀ (n q : Nat), (quartersOf (vQsel v.bits))[n]? = some q → PendTile.mk (m.t.toNat * 4 + q) ((loadWords w 256
        ((s.core c).ls.readBytes (b + vmOffset m v.cap q) (256 * w))).map some) (((s.core c).vcontext ctx).issues + n + 6) ∈
          ((u.core c).vcontext ctx).pend := by
  obtain ⟨u, hu, hls, hpend⟩ := vIssue_leaves (i := .vld c ctx) rfl (by decide) (by decide) hr hbad
  obtain ⟨-, hop, -⟩ := hr
  refine ⟨u, hu, hls.trans (foldl_vld_keeps rfl rfl hplace hbad hop).1, fun n q hq => hpend _ ?_⟩
  exact foldl_vld_result rfl rfl hplace hbad hop (length_quartersOf_le _) hq

end

/-- Settles O29: the words by Table 07-3 on codes and on OVF, VST by the runs of bytes that its quarters store, VLD by what its quarters
leave in flight, and the two together by the low bytes of words. -/
theorem vectorWordResults : Obligations.VectorWordResults := by
  unfold Obligations.VectorWordResults
  refine ⟨fun a b x y => ?words, fun s c ctx v rest e => ⟨fun hr hbad hquarters => ?vst, fun hr hbad => ?vld⟩, fun m p w ws hlen _ => ?both⟩
  case words =>
    refine ⟨fun ha hb => ?codes, rfl, rfl, rfl, rfl, rfl, fun h => ?ovf, fun h => ?immediate⟩
    case codes =>
      have exactly f := exactOrOvf_code2 f ha hb
      exact ⟨exactly (· + ·), exactly (· - ·), exactly (· * ·), exactly min, exactly max, elemWord_vshl ha hb, elemWord_vsra ha hb,
        elemWord_vcmplt ha hb, elemWord_vcmpeq ha hb, exactly (· + ·), exactly max, exactly min⟩
    case ovf =>
      have ovf f := i32Res_code2_ovf f h
      exact ⟨ovf (· + ·), ovf (· - ·), ovf (· * ·), ovf min, ovf max, ovf _, ovf _, elemWord_compare_ovf h⟩
    case immediate =>
      have ovf f := i32Res_code2_ovf (b := b) f (.inl h)
      exact ⟨ovf (· + ·), ovf max, ovf min⟩
  case vst =>
    have ⟨_, hop, _, _, he⟩ := hr
    obtain ⟨b, hplace⟩ := vPlaces (.inr hop) he
    obtain ⟨u, hu, hls⟩ := exec_vst_stores hr hbad (fun q hq => (hquarters q hq).2) hplace
    refine ⟨u, hu, fun q hq => ⟨_, hplace q hq, fun i hi => ?_⟩, fun a ha => ?_⟩
    · rw [hls]
      exact read_storedRuns _ (fun q hq => (hquarters q hq).1) hq hi
    · rw [hls]
      refine Memory.read_writeRuns_outside fun run hrun => ?_
      obtain ⟨q, hq, rfl⟩ := List.mem_map.1 hrun
      simpa only [length_wordBytes, (hquarters q hq).1] using ha q hq _ (hplace q hq)
  case vld =>
    have ⟨_, hop, _, _, he⟩ := hr
    obtain ⟨b, hplace⟩ := vPlaces (.inl hop) he
    obtain ⟨u, hu, hls, hpend⟩ := exec_vld_results hr hbad hplace
    refine ⟨u, hu, hls, fun n q hq => ⟨_, hplace q (List.mem_of_getElem? hq), ?_⟩⟩
    have hmem := hpend n q hq
    rw [loadWords_readBytes, List.map_map] at hmem
    exact hmem
  case both =>
    have hbytes : (wordBytes w ws).length = 256 * w := by rw [length_wordBytes, hlen]
    have hload : loadWords w 256 ((m.writeBytes p (wordBytes w ws)).readBytes p (256 * w)) =
        ws.map fun x => BitVec.ofInt 32 (signedOf (8 * w) x.toNat) := by
      rw [← hbytes, Memory.readBytes_writeBytes, ← hlen, loadWords_wordBytes]
    refine ⟨hload, fun hw => hload.trans ?_, fun q hq => m.read_writeBytes_outside p _ (hbytes ▸ hq)⟩
    subst hw
    exact (List.map_congr_left fun x _ => ofInt_signedOf_toNat x).trans (List.map_id ws)

end Sys2Proof.Machine
end

section
/-! SUPPORT. VCOMPRESS and VEXPAND: the places that a mask selects, the words kept and the words spread (R219, R220). -/

namespace Sys2Proof.Machine

/-! ## The places of a mask -/

/-- Of the first `n` words, in order, those that the mask `tb` selects. -/
def maskPlaces (tb : List W32) (n : Nat) : List Nat := (List.range n).filter fun i => tb.getD i 0 != 0

theorem filter_map_succ_range (m : W32) (tb : List W32) (n : Nat) :
    ((List.range n).map Nat.succ).filter (fun i => (m :: tb).getD i 0 != 0) = (maskPlaces tb n).map Nat.succ := List.filter_map

theorem maskPlaces_cons_zero (tb : List W32) (n : Nat) : maskPlaces (0 :: tb) (n + 1) = (maskPlaces tb n).map Nat.succ := by
  rw [maskPlaces, List.range_succ_eq_map, List.filter_cons_of_neg (by simp), filter_map_succ_range]

theorem maskPlaces_cons_selected {m : W32} (hm : m ≠ 0) (tb : List W32) (n : Nat) :
    maskPlaces (m :: tb) (n + 1) = 0 :: (maskPlaces tb n).map Nat.succ := by
  rw [maskPlaces, List.range_succ_eq_map, List.filter_cons_of_pos (by simpa using hm), filter_map_succ_range]

/-! ## VCOMPRESS (R219) -/

/-- The words of `ta` that the mask selects. -/
def keptWords (ta tb : List W32) : List W32 := ((ta.zip tb).filter fun p => p.2 != 0).map Prod.fst

theorem compressWords_eq (ta tb : List W32) :
    compressWords ta tb = keptWords ta tb ++ List.replicate (ta.length - (keptWords ta tb).length) 0 := rfl

theorem keptWords_cons_zero (a : W32) (ta tb : List W32) : keptWords (a :: ta) (0 :: tb) = keptWords ta tb := rfl

theorem keptWords_cons_selected {m : W32} (hm : m ≠ 0) (a : W32) (ta tb : List W32) :
    keptWords (a :: ta) (m :: tb) = a :: keptWords ta tb := by
  rw [keptWords, List.zip_cons_cons, List.filter_cons_of_pos (by simpa using hm)]
  rfl

theorem length_keptWords_le (ta tb : List W32) : (keptWords ta tb).length ≤ ta.length := by
  rw [keptWords, List.length_map]
  exact (List.length_filter_le ..).trans (by rw [List.length_zip]; exact Nat.min_le_left ..)

theorem length_compressWords (ta tb : List W32) : (compressWords ta tb).length = ta.length := by
  rw [compressWords_eq, List.length_append, List.length_replicate, Nat.add_sub_cancel' (length_keptWords_le ta tb)]

/-- The words kept are those at the places of the mask, in order. -/
theorem keptWords_eq_map {ta tb : List W32} (h : ta.length = tb.length) :
    keptWords ta tb = (maskPlaces tb tb.length).map fun j => ta.getD j 0 := by
  induction ta generalizing tb with
  | nil =>
    obtain rfl := List.eq_nil_of_length_eq_zero h.symm
    rfl
  | cons a ta ih =>
    obtain _ | ⟨m, tb⟩ := tb
    · cases h
    · have ih := ih (Nat.succ.inj h)
      by_cases hm : m = 0
      · subst hm
        rw [keptWords_cons_zero, ih, List.length_cons, maskPlaces_cons_zero, List.map_map]
        rfl
      · rw [keptWords_cons_selected hm, ih, List.length_cons, maskPlaces_cons_selected hm, List.map_cons, List.map_map]
        rfl

theorem getElem?_compressWords {ta tb : List W32} (h : ta.length = tb.length) {i : Nat} (hi : i < ta.length) :
    (compressWords ta tb)[i]? = some ((maskPlaces tb tb.length)[i]?.elim 0 fun j => ta.getD j 0) := by
  have hcount : (keptWords ta tb).length = (maskPlaces tb tb.length).length := by rw [keptWords_eq_map h, List.length_map]
  rw [compressWords_eq]
  by_cases hk : i < (keptWords ta tb).length
  · rw [List.getElem?_append_left hk, keptWords_eq_map h, List.getElem?_map, List.getElem?_eq_getElem (hcount ▸ hk)]
    rfl
  · rw [List.getElem?_append_right (by omega), List.getElem?_replicate, if_pos (by omega), List.getElem?_eq_none (by omega)]
    rfl

/-! ## VEXPAND (R220) -/

theorem expandWords_cons_zero (src tb : List W32) : expandWords src (0 :: tb) = 0 :: expandWords src tb := rfl

theorem expandWords_cons_selected {m : W32} (hm : m ≠ 0) (src tb : List W32) :
    expandWords src (m :: tb) = src.headD 0 :: expandWords (src.drop 1) tb := if_neg hm

theorem length_expandWords (src tb : List W32) : (expandWords src tb).length = tb.length := by
  induction tb generalizing src with
  | nil => rfl
  | cons m tb ih =>
    rw [expandWords]
    split <;> simp [ih]

/-- The first word that is selected is the first of `src`. -/
theorem getElem?_expandWords_zero (src : List W32) (m : W32) (tb : List W32) :
    (expandWords src (m :: tb))[0]? = some (if m = 0 then 0 else src.getD 0 0) := by
  rw [expandWords]
  split
  · rfl
  · cases src <;> rfl

/-- A selected place takes the word of `src` that as many selected places before it leave next. -/
theorem getElem?_expandWords {src tb : List W32} {i : Nat} (hi : i < tb.length) :
    (expandWords src tb)[i]? = some (if tb.getD i 0 = 0 then 0 else src.getD (maskPlaces tb i).length 0) := by
  induction tb generalizing src i with
  | nil => cases hi
  | cons m tb ih =>
    cases i with
    | zero => exact getElem?_expandWords_zero src m tb
    | succ i =>
      have hlt : i < tb.length := Nat.lt_of_succ_lt_succ hi
      by_cases hm : m = 0
      · subst hm
        rw [expandWords_cons_zero, List.getElem?_cons_succ, ih hlt, List.getD_cons_succ, maskPlaces_cons_zero, List.length_map]
      · have hnext (k : Nat) : (src.drop 1).getD k 0 = src.getD (k + 1) 0 := by simp
        rw [expandWords_cons_selected hm, List.getElem?_cons_succ, ih hlt, List.getD_cons_succ, maskPlaces_cons_selected hm,
          List.length_cons, List.length_map, hnext]

/-- Spreading the kept words by their own mask puts each one back, whatever stands behind them. -/
theorem expandWords_keptWords {ta tb : List W32} (h : ta.length = tb.length) (behind : List W32) :
    expandWords (keptWords ta tb ++ behind) tb = (ta.zip tb).map fun p => if p.2 = 0 then 0 else p.1 := by
  induction ta generalizing tb with
  | nil =>
    obtain rfl := List.eq_nil_of_length_eq_zero h.symm
    rfl
  | cons a ta ih =>
    obtain _ | ⟨m, tb⟩ := tb
    · cases h
    · have ih := ih (Nat.succ.inj h)
      rw [List.zip_cons_cons, List.map_cons, ← ih]
      by_cases hm : m = 0
      · subst hm
        rfl
      · rw [keptWords_cons_selected hm, expandWords_cons_selected hm, if_neg hm]
        rfl

/-! ## The four quarters of the result (R158) -/

/-- Runs of `n` words, one behind the other, are the words that they were taken from. -/
theorem flatMap_take_drop {α : Type} (l : List α) (n k : Nat) :
    ((List.range k).flatMap fun q => (l.drop (n * q)).take n) = l.take (n * k) := by
  induction k with
  | zero => simp
  | succ k ih => rw [List.range_succ, List.flatMap_append, ih, List.flatMap_singleton, Nat.mul_succ, List.take_add]

section
variable {f : VR} {sns : List Snap} {op : Nat} {ws : List W32}
  (hr : wholeResult op f sns = ((List.range 4).map fun q => (f.td.toNat * 4 + q, ((ws.map some).drop (256 * q)).take 256), NumCount.none))
  (hlen : ws.length = 1024)
include hr hlen

theorem wholeResult_quarters :
    (wholeResult op f sns).1.map (fun q => (q.1, q.2.length)) = (List.range 4).map fun q => (f.td.toNat * 4 + q, 256) := by
  rw [hr, List.map_map]
  refine List.map_congr_left fun q hq => ?_
  have hq := List.mem_range.1 hq
  simp only [Function.comp_apply, List.length_take, List.length_drop, List.length_map, hlen, Prod.mk.injEq, true_and]
  omega

theorem wholeResult_word {i : Nat} {w : W32} (hw : ws[i]? = some w) :
    ((wholeResult op f sns).1.flatMap Prod.snd).getD i none = some w := by
  have hall : (wholeResult op f sns).1.flatMap Prod.snd = ws.map some := by
    rw [hr, List.flatMap_map, flatMap_take_drop]
    exact List.take_of_length_le (by simp [hlen])
  rw [hall, List.getD_eq_getElem?_getD, List.getElem?_map, hw]
  rfl

end

theorem wholeResult_vcompress (f : VR) (sns : List Snap) : wholeResult 0x30 f sns = ((List.range 4).map fun q => (f.td.toNat * 4 + q,
    (((compressWords (sns.flatMap Snap.ta) (sns.flatMap Snap.tb)).map some).drop (256 * q)).take 256), NumCount.none) := rfl

theorem wholeResult_vexpand (f : VR) (sns : List Snap) : wholeResult 0x31 f sns = ((List.range 4).map fun q => (f.td.toNat * 4 + q,
    (((expandWords (sns.flatMap Snap.ta) (sns.flatMap Snap.tb)).map some).drop (256 * q)).take 256), NumCount.none) := rfl

/-- Settles O30: the words of each instruction by the places of its mask, and the two together by the words kept. -/
theorem expandUndoesCompress : Obligations.ExpandUndoesCompress := by
  unfold Obligations.ExpandUndoesCompress
  refine ⟨?_, fun ta tb h => ⟨length_compressWords ta tb, expandWords_keptWords h _⟩⟩
  intro f sns ta tb hta htb active word
  have hcompress := (length_compressWords ta tb).trans hta
  have hexpand := (length_expandWords ta tb).trans htb
  refine ⟨fun op ho => ?quarters, fun i hi => ?compress, fun i hi => ?expand⟩
  case quarters =>
    obtain rfl | rfl := ho
    · exact ⟨rfl, wholeResult_quarters (wholeResult_vcompress f sns) hcompress⟩
    · exact ⟨rfl, wholeResult_quarters (wholeResult_vexpand f sns) hexpand⟩
  case compress =>
    have hword := getElem?_compressWords (hta.trans htb.symm) (hi.trans_eq hta.symm)
    have hactive : active 1024 = maskPlaces tb tb.length := (congrArg (maskPlaces tb) htb).symm
    rw [hactive]
    generalize (maskPlaces tb tb.length)[i]? = place at hword ⊢
    cases place <;> exact wholeResult_word (wholeResult_vcompress f sns) hcompress hword
  case expand =>
    have hword := getElem?_expandWords (src := ta) (hi.trans_eq htb.symm)
    exact wholeResult_word (wholeResult_vexpand f sns) hexpand hword

end Sys2Proof.Machine
end

section
/-! SUPPORT. Which commands can fault (R234, R260, R262). -/

namespace Sys2Proof.Machine

/-- A word of HBM that exists: HBM_READ_COMPLETE answers a next state, whoever reads it. -/
theorem hbmReadComplete_answers {word : Nat} (h : 32 * word < hbmBytes) (o : BitVec 2) (req : Option (CoreId × Nat)) (scrub : Bool)
    (s : State) : ∃ u, hbmReadComplete word o req scrub s = .next u := by
  cases scrub with
  | true => exact ⟨_, hbmReadComplete_scrub h o req s⟩
  | false =>
    cases req with
    | none => exact ⟨_, hbmReadComplete_none h⟩
    | some x => exact ⟨_, hbmReadComplete_command h x.1 x.2⟩

theorem frameRetirement_absent {frame : Nat} (h : 8 * framesPerStack ≤ frame) (s : State) :
    frameRetirement frame s = .fault (.noSuchHbm (frame * pageBytes)) := if_pos h

theorem frameRetirement_answers {frame : Nat} (h : frame < 8 * framesPerStack) (s : State) : ∃ u, frameRetirement frame s = .next u := by
  unfold frameRetirement
  rw [if_neg (Nat.not_le.2 h)]
  split <;> exact ⟨_, rfl⟩

/-- Settles O6: of every command but two the row answers a next state, and of those two by whether the place exists. -/
theorem commandsAnswerNextState : Obligations.CommandsAnswerNextState := by
  unfold Obligations.CommandsAnswerNextState
  intro c s
  cases c
  case hbmReadComplete w o b =>
    rw [exec_hbmReadComplete]
    obtain hw | hw := Nat.lt_or_ge (32 * w.toNat) hbmBytes
    · obtain ⟨u, hu⟩ := hbmReadComplete_answers hw o (b.who.map fun x => (x.1, x.2.toNat)) b.scrub s
      exact .inl ⟨s.settle u, by rw [hu, State.settleOut_next]⟩
    · exact .inr ⟨_, by rw [hbmReadComplete_absent hw]; rfl, .inl ⟨w, o, b, rfl, rfl, hw⟩⟩
  case frameRetirement f =>
    rw [exec_frameRetirement]
    obtain hf | hf := Nat.lt_or_ge f.toNat (8 * framesPerStack)
    · obtain ⟨u, hu⟩ := frameRetirement_answers hf s
      exact .inl ⟨s.settle u, by rw [hu, State.settleOut_next]⟩
    · exact .inr ⟨_, by rw [frameRetirement_absent hf]; rfl, .inr ⟨f, rfl, rfl, Nat.mul_le_mul_right pageBytes hf⟩⟩
  all_goals exact .inl ⟨_, rfl⟩

end Sys2Proof.Machine
end

section
/-! SUPPORT. Writes between modules: what the home, a signpost and a stranger do with one, where its acknowledgement goes, and how staged
copies are dropped (R241, R242, R250, R252, R253, R289, R468). -/

namespace Sys2Proof.Machine

/-! ## The rows -/

theorem exec_write (src : ModId) (va : VA) (bytes : List Byte) (tag : W32) (s : State) :
    exec (.write src va bytes tag) s = .next (s.settle (writeMsg src.toNat va.toNat bytes tag.toNat s)) := rfl

theorem exec_writeAck (tag : W32) (home : ModId) (s : State) :
    exec (.writeAck tag home) s = .next (s.settle (writeAck tag.toNat home.toNat s)) := rfl

theorem exec_inval (home : ModId) (p : BitVec 36) (s : State) :
    exec (.inval home p) s = .next (s.settle (invalMsg home.toNat p.toNat s)) := rfl

theorem exec_stageDrop (p : BitVec 36) (s : State) : exec (.stageDrop p) s = .next (s.settle (s.yieldStage p.toNat)) := rfl

theorem exec_invalAck (src : ModId) (p : BitVec 36) (s : State) :
    exec (.invalAck src p) s = .next (s.settle (s.loseHolder src.toNat p.toNat)) := rfl

theorem exec_stageDropNotice (src : ModId) (p : BitVec 36) (s : State) :
    exec (.stageDropNotice src p) s = .next (s.settle (s.loseHolder src.toNat p.toNat)) := rfl

/-! ## What a write meets, by where the module stands to its page (R241, R242, R252, R468) -/

section
variable {s : State} {src va tag : Nat} {bytes : List Byte}

/-- A home that is not stopped keeps a write to a lent page back. -/
theorem writeMsg_home {e : XEntry} (h : s.standing (va / pageBytes) = .home e) : writeMsg src va bytes tag s =
    if s.rec0.stopped = true then s
    else if mapGet [] s.tier.holders (va / pageBytes) = [] then (s.applyAtHome e va bytes).send (.writeAck src tag s.modNo)
    else s.holdWrite (.remote src tag) va bytes := by
  unfold writeMsg
  simp only [h]
  cases mapGet [] s.tier.holders (va / pageBytes) <;> rfl

theorem writeMsg_signpost {m : Nat} (h : s.standing (va / pageBytes) = .signpost m) :
    writeMsg src va bytes tag s = s.send (.write m src va bytes tag) := by
  simp only [writeMsg, h]

theorem writeMsg_stranger (h : s.standing (va / pageBytes) = .stranger) (hm : mapFind s.tier.movesIn (va / pageBytes) = none) :
    writeMsg src va bytes tag s = s.send (.notHome src va tag none) := by
  simp only [writeMsg, h, hm]

/-- The holder is told unless it has been told already. -/
theorem State.holdWrite_one {h : Nat} (hh : mapGet [] s.tier.holders (va / pageBytes) = [h]) (who : Requester) :
    s.holdWrite who va bytes =
      (let u : State := { s with tier := { s.tier with
          writes := s.tier.writes ++ [⟨who, va, bytes, [h]⟩]
          invals := if s.tier.invals.contains (va / pageBytes) then s.tier.invals else s.tier.invals ++ [va / pageBytes] } }
        if s.tier.invals.contains (va / pageBytes) then u else u.send (.inval h (va / pageBytes))) := by
  unfold State.holdWrite State.invalHolders
  cases hi : s.tier.invals.contains (va / pageBytes) with
  | true => simp only [hh, hi, List.isEmpty_cons, Bool.or_true, if_true]
  | false =>
    simp only [hh, hi, List.isEmpty_cons, Bool.or_false, Bool.false_eq_true, if_false]
    rfl

end

/-! ## What a write changes at the home -/

/-- Host memory, HBM and translation. -/
def State.stores (s : State) : Memory × Memory × List (Nat × XEntry) := (s.hostMem, s.tier.hbm, s.tier.xlate)

theorem State.stores_addHeat (s : State) (p n : Nat) : (s.addHeat p n).stores = s.stores := by
  unfold State.addHeat
  dsimp only
  split <;> rfl

theorem State.stores_forwardWrite (s : State) (va : Nat) (b : List Byte) : (s.forwardWrite va b).stores = s.stores := by
  unfold State.forwardWrite
  split
  · split <;> rfl
  · rfl

theorem State.stores_storeBytes {e : XEntry} (he : e.tier = .local) (s : State) (va : Nat) (b : List Byte) : (s.storeBytes e va b).stores =
    (s.hostMem, s.tier.hbm.writeBytes (e.frame * pageBytes + va % pageBytes) b, s.tier.xlate) := by
  unfold State.storeBytes
  rw [he]
  rfl

theorem State.stores_applyAtHome {e : XEntry} (he : e.tier = .local) (s : State) (va : Nat) (b : List Byte) :
    (s.applyAtHome e va b).stores =
      (s.hostMem, s.tier.hbm.writeBytes (e.frame * pageBytes + va % pageBytes) b, s.tier.xlate) := by
  have hheat := s.stores_addHeat (va / pageBytes) b.length
  simp only [State.stores, Prod.mk.injEq] at hheat
  obtain ⟨hhost, hhbm, hx⟩ := hheat
  rw [State.applyAtHome_eq, State.stores_forwardWrite, State.stores_storeBytes he, hhost, hhbm, hx]

theorem State.applyAtHome_local {e : XEntry} (he : e.tier = .local) (s : State) (va : Nat) (b : List Byte) :
    (s.applyAtHome e va b).tier.hbm = s.tier.hbm.writeBytes (e.frame * pageBytes + va % pageBytes) b ∧
      (s.applyAtHome e va b).hostMem = s.hostMem ∧ (s.applyAtHome e va b).cores = s.cores ∧
      (s.applyAtHome e va b).tier.xlate = s.tier.xlate := by
  have hstores := State.stores_applyAtHome he s va b
  simp only [State.stores, Prod.mk.injEq] at hstores
  obtain ⟨hhost, hhbm, hx⟩ := hstores
  exact ⟨hhbm, hhost, (s.accessed_applyAtHome e va b).keeps State.cores fun _ _ _ _ _ _ => rfl, hx⟩

theorem State.applyAtHome_modNo (s : State) (e : XEntry) (va : Nat) (b : List Byte) : (s.applyAtHome e va b).modNo = s.modNo :=
  (s.accessed_applyAtHome e va b).keeps State.modNo fun _ _ _ _ _ _ => rfl

/-! ## Acknowledgements (R289) -/

/-- A write that the module sent for a command, to a page of which it has no entry, is one acknowledgement less to wait for. -/
theorem writeAck_engine {s : State} {tag : Nat} {w : WriteOut} {c : CoreId} {q : Nat}
    (hf : s.tier.writesOut.find? (fun x => x.tag == tag) = some w) (hw : w.who = .engine c q) (ha : w.add = none)
    (hx : mapFind s.tier.xlate (w.va / pageBytes) = none) (home : Nat) : writeAck tag home s =
      State.modCore { s with tier := { s.tier with writesOut := s.tier.writesOut.filter fun x => x.tag != tag } } c fun k => k.ackOne q := by
  simp only [writeAck, State.acked, hf, ha, hx, hw]
  rfl

theorem writeAck_unawaited {s : State} {tag : Nat} (hf : s.tier.writesOut.find? (fun x => x.tag == tag) = none) (home : Nat) :
    writeAck tag home s = s := by
  simp only [writeAck, hf]

/-! ## Holders (R250, R252, R253) -/

/-- The page after its one holder has gone: not lent, and its moves may not flip before a further tick. -/
def State.unlent (s : State) (p : Nat) (e : XEntry) : State :=
  { s with tier := { s.tier with
      holders := mapErase s.tier.holders p
      xlate := mapPut s.tier.xlate p { e with lent := false }
      invals := s.tier.invals.filter fun v => v != p
      movesOut := s.tier.movesOut.map fun x => if x.1 = p then (p, { x.2 with flipFrom := s.tickFor }) else x
      writes := [] } }

/-- The last holder gone, the one write that waited for it is applied and acknowledged. -/
theorem State.loseHolder_last {s : State} {h p m tag va : Nat} {e : XEntry} {bytes : List Byte}
    (hh : mapGet [] s.tier.holders p = [h]) (hx : mapFind s.tier.xlate p = some e) (hp : va / pageBytes = p)
    (hw : s.tier.writes = [⟨.remote m tag, va, bytes, [h]⟩]) : s.loseHolder h p =
      ((s.unlent p e).applyAtHome { e with lent := false } va bytes).send (.writeAck m tag s.modNo) := by
  have hmod := (s.unlent p e).applyAtHome_modNo { e with lent := false } va bytes
  have hdone : ((s.unlent p e).applyAtHome { e with lent := false } va bytes).writeDone (.remote m tag) =
      ((s.unlent p e).applyAtHome { e with lent := false } va bytes).send (.writeAck m tag s.modNo) :=
    congrArg (fun n => State.send _ (.writeAck m tag n)) hmod
  rw [← hdone]
  simp only [State.loseHolder, State.modTier, hh, hx, hw, List.filter_cons, List.filter_nil, List.map_cons, List.map_nil, bne_self_eq_false,
    Bool.false_eq_true, if_false, List.isEmpty_nil, if_true, hp, beq_self_eq_true, Bool.not_true, State.releaseWrites, mapFind_mapPut_same,
    Bool.and_self, List.foldl_cons, List.foldl_nil]
  rfl

/-- A staged copy, with the entry that says so. -/
theorem State.dropStage_staged {s : State} {p : Nat} {e : XEntry} (hx : mapFind s.tier.xlate p = some e) (he : e.tier = .staged) :
    s.dropStage p = s.modTier fun t => { t with xlate := mapPut t.xlate p { e with tier := .pool, frame := 0 },
                                                staged := mapErase t.staged p } := by
  simp only [State.dropStage, hx, he, if_true]

/-- A holder that is told drops its copy, counts it and acknowledges (R252). -/
theorem invalMsg_staged {s : State} {home p : Nat} {f : StageFrame} {e : XEntry} (hf : mapFind s.tier.staged p = some f)
    (hx : mapFind s.tier.xlate p = some e) (he : e.tier = .staged) : ∃ t, invalMsg home p s = t ∧ mapFind t.tier.staged p = none ∧
      mapFind t.tier.xlate p = some { e with tier := .pool, frame := 0 } ∧ t.outbox = s.outbox ++ [.invalAck home p] ∧
      t.tier.regs.inval = min (s.tier.regs.inval + 1) (2 ^ 32 - 1) := by
  refine ⟨_, rfl, ?_⟩
  simp only [invalMsg, hf, State.dropStage_staged hx he]
  exact ⟨mapFind_mapErase_same _ _, mapFind_mapPut_same _ _ _, rfl, rfl⟩

theorem invalMsg_unstaged {s : State} {p : Nat} (h : mapFind s.tier.staged p = none) (home : Nat) :
    invalMsg home p s = s.send (.invalAck home p) := by
  simp only [invalMsg, h]

/-- A holder that drops a copy of its own tells the home (R253). -/
theorem State.yieldStage_staged {s : State} {p : Nat} {f : StageFrame} {e : XEntry} (hf : mapFind s.tier.staged p = some f)
    (hx : mapFind s.tier.xlate p = some e) (he : e.tier = .staged) : ∃ t, s.yieldStage p = t ∧ mapFind t.tier.staged p = none ∧
      mapFind t.tier.xlate p = some { e with tier := .pool, frame := 0 } ∧ t.outbox = s.outbox ++ [.stageDropped f.home p] := by
  refine ⟨_, rfl, ?_⟩
  simp only [State.yieldStage, hf, State.dropStage_staged hx he]
  exact ⟨mapFind_mapErase_same _ _, mapFind_mapPut_same _ _ _, rfl⟩

theorem State.yieldStage_unstaged {s : State} {p : Nat} (h : mapFind s.tier.staged p = none) : s.yieldStage p = s := by
  simp only [State.yieldStage, h]

/-! ## The obligation -/

/-- Settles O44: each clause is one of the laws above of the row that it is about. -/
theorem writesReachTheirHome : Obligations.WritesReachTheirHome := by
  unfold Obligations.WritesReachTheirHome
  intro s
  refine ⟨fun src va bytes tag p hp => ?write, fun e va bytes he => State.applyAtHome_local he s va bytes,
    fun tag home w c q hf hw ha hx => ?acked, fun tag home hf => ?unawaited,
    fun src p => ⟨exec_invalAck src p s, exec_stageDropNotice src p s⟩, fun h p m tag va e bytes hh hx hp hw _ => State.loseHolder_last hh hx hp hw,
    fun home p f e hf hx he => ?staged, fun home p hn => ?unstaged⟩
  case write =>
    subst hp
    rw [exec_write]
    refine ⟨fun e he hs => ?_, fun e he hs hh => ?_, fun e h he hs hh => ?_, fun m hm => ?_, fun hst hm => ?_⟩
    · rw [writeMsg_home he, if_pos hs]
    · rw [writeMsg_home he, if_neg (Bool.eq_false_iff.1 hs), if_pos hh]
    · rw [writeMsg_home he, if_neg (Bool.eq_false_iff.1 hs), if_neg (by simp [hh]), State.holdWrite_one hh]
    · rw [writeMsg_signpost hm]
    · rw [writeMsg_stranger hst hm]
  case acked => rw [exec_writeAck, writeAck_engine hf hw ha hx]
  case unawaited => rw [exec_writeAck, writeAck_unawaited hf]
  case staged =>
    obtain ⟨t, ht, hinval⟩ := invalMsg_staged (home := home.toNat) hf hx he
    obtain ⟨u, hu, hdrop⟩ := State.yieldStage_staged hf hx he
    exact ⟨⟨t, by rw [exec_inval, ht], hinval⟩, ⟨u, by rw [exec_stageDrop, hu], hdrop⟩⟩
  case unstaged => exact ⟨by rw [exec_inval, invalMsg_unstaged hn], by rw [exec_stageDrop, State.yieldStage_unstaged hn]⟩

end Sys2Proof.Machine
end

section
/-! SUPPORT. Rows of tables: contributions, versions, and the moves of rows between their homes (R252, R370, R379, R384, R387 to R389,
R468). -/

namespace Sys2Proof.Machine

/-! ## The rows -/

theorem exec_tableAddApply (src : ModId) (tn : BitVec 12) (row : W32) (sums : List (Option Int)) (seq tag : W32) (s : State) :
    exec (.tableAddApply src tn row sums seq tag) s =
      .next (s.settle (tableAddApply src.toNat tn.toNat row.toNat sums seq.toNat tag.toNat s)) := rfl

theorem exec_versionCurrent (tn : BitVec 12) (s : State) :
    exec (.versionCurrent tn) s = .next (s.settle (versionCurrent tn.toNat s)) := rfl

theorem exec_rowMoveRequest (tn : BitVec 12) (v row : W32) (by_ dest : ModId) (count : W32) (ret : Bool) (answer : SlotAnswer) (s : State) :
    exec (.rowMoveRequest tn v row by_ dest count ret answer) s = .next (s.settle (rowMoveRequest tn.toNat v.toNat row.toNat by_.toNat
      dest.toNat count.toNat ret (answer.slot.map BitVec.toNat) answer.refused s)) := rfl

theorem exec_rowCopy (src : ModId) (tn : BitVec 12) (v row : W32) (bytes : List Byte) (tag : W32) (s : State) :
    exec (.rowCopy src tn v row bytes tag) s =
      .next (s.settle (rowCopy src.toNat tn.toNat v.toNat row.toNat bytes tag.toNat s)) := rfl

theorem exec_rowMoveFlip (tn : BitVec 12) (v row : W32) (s : State) :
    exec (.rowMoveFlip tn v row) s = .next (s.settle (rowMoveFlip tn.toNat v.toNat row.toNat s)) := rfl

theorem exec_trainedRowFlip (tn : BitVec 12) (v row : W32) (s : State) :
    exec (.trainedRowFlip tn v row) s = .next (s.settle (trainedRowFlip tn.toNat v.toNat row.toNat s)) := rfl

theorem exec_rowMoveAbandon (tn : BitVec 12) (v row : W32) (s : State) :
    exec (.rowMoveAbandon tn v row) s = .next (s.settle (rowMoveAbandon tn.toNat v.toNat row.toNat s)) := rfl

theorem exec_rowSignpostExpire (tn : BitVec 12) (v row : W32) (s : State) :
    exec (.rowSignpostExpire tn v row) s = .next (s.settle (rowSignpostExpire tn.toNat v.toNat row.toNat s)) := rfl

/-- A table that was put is the one found. -/
theorem State.table_putTable (s : State) (n : Nat) (t : Table) : (s.putTable n t).table n = some t := mapFind_mapPut_same _ _ _

/-! ## Contributions (R379, R387, R388, R468) -/

section
variable {s : State} {tn src row seq tag : Nat} {t : Table} {sums : List (Option Int)} (ht : s.table tn = some t)
include ht

theorem tableAddApply_stopped (hs : s.rec0.stopped = true) : tableAddApply src tn row sums seq tag s = s := by
  unfold tableAddApply
  simp only [ht, hs, if_true]

/-- The row's home adds, and acknowledges what stands at once. -/
theorem tableAddApply_home (hs : s.rec0.stopped = false)
    (hr : s.rowAt t (rowKey t.addVersion row) = .base ∨ ∃ i, s.rowAt t (rowKey t.addVersion row) = .slot i) :
    tableAddApply src tn row sums seq tag s =
      if (s.applyAdd (.remote src tag) tn t row sums src).1 = 0 then
        (s.applyAdd (.remote src tag) tn t row sums src).2.send (.writeAck src tag s.modNo)
      else (s.applyAdd (.remote src tag) tn t row sums src).2 := by
  unfold tableAddApply
  obtain hr | ⟨i, hr⟩ := hr <;> simp only [ht, hs, hr, Bool.false_eq_true, if_false]

theorem tableAddApply_signpost {p : Nat × Nat} (hs : s.rec0.stopped = false)
    (hr : s.rowAt t (rowKey t.addVersion row) = .unknown ∨ ∃ m, s.rowAt t (rowKey t.addVersion row) = .away m)
    (hp : mapFind t.signposts (rowKey t.addVersion row) = some p) :
    tableAddApply src tn row sums seq tag s = s.countForward.send (.tableAdd p.1 src tn row sums seq tag) := by
  unfold tableAddApply
  obtain hr | ⟨m, hr⟩ := hr <;> simp only [ht, hs, hr, hp, Bool.false_eq_true, if_false]

theorem tableAddApply_away {m : Nat} (hs : s.rec0.stopped = false) (hr : s.rowAt t (rowKey t.addVersion row) = .away m)
    (hp : mapFind t.signposts (rowKey t.addVersion row) = none) :
    tableAddApply src tn row sums seq tag s = s.send (.notHome src 0 tag (some m)) := by
  unfold tableAddApply
  simp only [ht, hs, hr, hp, Bool.false_eq_true, if_false]

end

/-! ## Versions (R370) -/

theorem versionCurrent_none_due {s : State} {tn : Nat} {t : Table} (ht : s.table tn = some t)
    (h : ∀ x ∈ t.versions, x.2.state = .pending → s.bel.frame < x.2.from_) : versionCurrent tn s = s.sweepVersions := by
  have hnone : (t.versions.filter fun x => x.2.state == .pending && decide (x.2.from_ ≤ s.bel.frame)) = [] := by
    simpa [List.filter_eq_nil_iff] using h
  have hdue : t.dueVersions s.bel.frame = [] := by simp [Table.dueVersions, hnone]
  unfold versionCurrent
  simp only [ht, hdue, List.foldl_nil]

/-- The version of record `r` that becomes CURRENT at a tick, and the former one RETIRING. -/
def Table.becomesCurrent (t : Table) (r version frame : Nat) : Table :=
  { t with
    versions := t.versions.map fun x => if x.1 = r then (x.1, { x.2 with state := .current, from_ := frame })
      else if x.2.state = .current then (x.1, { x.2 with state := .retiring }) else x
    image := t.image.take 40 ++ bytesOfNat 4 version ++ t.image.drop 44 }

theorem Table.takeVersion_newest {t : Table} {r : Nat} {w : TabVersion} (hr : mapFind t.versions r = some w)
    (hmax : ∀ x ∈ t.versions, x.2.version ≤ w.version) (frame : Nat) :
    t.takeVersion r frame = (t.becomesCurrent r w.version frame, none) := by
  have hany : (t.versions.any fun o => decide (w.version < o.2.version)) = false := by simpa using hmax
  unfold Table.takeVersion
  simp only [hr, hany, Bool.false_eq_true, if_false]
  rfl

theorem versionCurrent_one_due {s : State} {tn r : Nat} {t : Table} {w : TabVersion} (ht : s.table tn = some t)
    (hdue : (t.versions.filter fun x => x.2.state == .pending && decide (x.2.from_ ≤ s.bel.frame)) = [(r, w)])
    (hr : mapFind t.versions r = some w) (hmax : ∀ x ∈ t.versions, x.2.version ≤ w.version) :
    versionCurrent tn s = (s.putTable tn (t.becomesCurrent r w.version s.bel.frame)).sweepVersions := by
  have hone : t.dueVersions s.bel.frame = [r] := by simp [Table.dueVersions, hdue]
  unfold versionCurrent
  simp only [ht, hone, List.foldl_cons, List.foldl_nil, Table.takeVersion_newest hr hmax]

/-! ## Requests and copies at the destination (R384, R388) -/

section
variable {s : State} {tn v row by_ dest count : Nat} {t : Table} (ht : s.table tn = some t)
include ht

section
variable (hv : s.homesVa (t.baseAddr (rowKey v row)) = false) (hd : dest = s.modNo) {i : Nat} (hi : t.freeSlot = some i)
include hv hd hi

theorem rowMoveRequest_grants (hl : t.lastLoad + count ≤ t.loadLimit) (he : s.bel.econ = false) (hh : t.hotAt (rowKey v row) = none)
    (hr : t.reserved (rowKey v row) = none) : rowMoveRequest tn v row by_ dest count false none false s =
      (s.takeSlot tn t (rowKey v row) i).send
        (.rowMoveGrant ((s.baseHome t (rowKey v row)).getD by_) tn (rowKey v row) dest i true) := by
  unfold rowMoveRequest
  simp only [ht, hv, hd, hi, hl, he, hh, hr, Bool.false_eq_true, if_false, if_true, Option.isNone_none, and_self]

theorem rowMoveRequest_refuses (h : t.loadLimit < t.lastLoad + count ∨ s.bel.econ = true) :
    rowMoveRequest tn v row by_ dest count false none false s =
      s.send (.rowMoveGrant ((s.baseHome t (rowKey v row)).getD by_) tn (rowKey v row) dest 0 false) := by
  have hno : ¬ (t.lastLoad + count ≤ t.loadLimit ∧ s.bel.econ = false ∧ (t.hotAt (rowKey v row)).isNone ∧
      (t.reserved (rowKey v row)).isNone) := fun ⟨hl, he, _⟩ =>
    h.elim (fun h => by omega) fun h => by rw [he] at h; cases h
  unfold rowMoveRequest
  simp only [ht, hv, hd, hi, hno, Bool.false_eq_true, if_false, if_true]

end

/-- The slot of a move that the record's module refuses is free again. -/
theorem rowMoveRequest_refused {i : Nat} {h : HotSlot} (hr : t.reserved (rowKey v row) = some (i, h)) (hd : dest = s.modNo) (ret : Bool)
    (slot : Option Nat) : rowMoveRequest tn v row by_ dest count ret slot true s = s.putTable tn { t with hot := mapErase t.hot i } := by
  unfold rowMoveRequest
  simp only [ht, hr, hd, if_true]

/-- The copy of a row without TRAINED is written into the reserved slot, and acknowledged once it stands. -/
theorem rowCopy_untrained {src tag i : Nat} {bytes : List Byte} {h : HotSlot} (hn : t.trained = false)
    (hr : t.reserved (rowKey v row) = some (i, h)) : rowCopy src tn v row bytes tag s =
      (let r := s.pokeFor (.remote src tag) (t.slotParts i).1 (bytes.take t.valueBytes)
       let u := r.2.putTable tn { t with hot := mapPut t.hot i { h with copied := true } }
       if r.1 = 0 then u.send (.bulkAck src tag) else u) := by
  unfold rowCopy
  simp only [ht, hr, hn, Bool.false_eq_true, if_false]

end

/-! ## Flips (R388, R389) -/

/-- The old home's table after a flip: a signpost for the row, and its slot no longer live. -/
def Table.flippedOut (t : Table) (key dest frame : Nat) : Table :=
  { t with
    moves := mapErase t.moves key, signposts := mapPut t.signposts key (dest, frame),
    hot := t.hot.map fun h => if h.2.row == keyRow key && h.2.version == keyVersion key && h.2.live
      then (h.1, { h.2 with live := false, flip := frame }) else h }

section
variable {s : State} {tn key : Nat} {t : Table} (ht : s.table tn = some t) (hd : mapFind t.redirects key = none)
include ht hd

theorem State.flipRow_out {m : RowMove} {ready : Nat → Nat → Bool} (hm : mapFind t.moves key = some m) (hr : t.reserved key = none)
    (hc : m.copied = true) (hf : m.flipFrom ≤ s.bel.frame) (hready : ready m.grant m.step = true) :
    s.flipRow tn key ready = (s.putTable tn (t.flippedOut key m.dest s.bel.frame)).countFlip := by
  unfold State.flipRow
  simp only [ht, hm, hr, hd, hc, hf, hready, Option.filter_some, Option.filter_none, Option.bind_none, decide_true, Bool.and_self,
    if_true, Option.isSome_some, Option.isSome_none, Bool.or_self, Bool.false_eq_true, if_false]
  rfl

theorem State.flipRow_waits {m : RowMove} {ready : Nat → Nat → Bool} (hm : mapFind t.moves key = some m) (hr : t.reserved key = none)
    (hready : ready m.grant m.step = false) : s.flipRow tn key ready = s.putTable tn t := by
  unfold State.flipRow
  simp only [ht, hm, hr, hd, hready, Option.filter_some, Option.filter_none, Option.bind_none, Bool.and_false,
    Option.isSome_none, Bool.or_self, Bool.false_eq_true, if_false]

theorem State.flipRow_in {i : Nat} {h : HotSlot} {ready : Nat → Nat → Bool} (hm : mapFind t.moves key = none)
    (hr : t.reserved key = some (i, h)) (hc : h.copied = true) (hready : ready h.flip h.step = true) : s.flipRow tn key ready =
      (s.putTable tn { t with hot := mapPut t.hot i { h with live := true, flip := s.bel.frame } }).countFlip := by
  unfold State.flipRow
  simp only [ht, hm, hr, hd, hc, hready, Option.filter_some, Option.filter_none, Option.bind_none, Bool.and_self,
    if_true, Option.isSome_some, Option.isSome_none, Bool.or_false, Bool.false_eq_true, if_false]

end

section
variable {s : State} {tn v row : Nat} {t : Table} (ht : s.table tn = some t)
include ht

theorem rowMoveFlip_untrained (hn : t.trained = false) (hc : s.bel.cycle = 0) : rowMoveFlip tn v row s =
    s.flipRow tn (rowKey v row) fun grant _ => decide (grant < s.bel.frame) := by
  simp only [rowMoveFlip, ht, hn, hc, Bool.false_eq_true, ne_eq, not_true_eq_false, or_self, if_false]

theorem rowMoveFlip_trained (hn : t.trained = true) : rowMoveFlip tn v row s = s := by
  simp only [rowMoveFlip, ht, hn, true_or, if_true]

theorem trainedRowFlip_untrained (hn : t.trained = false) : trainedRowFlip tn v row s = s := by
  simp only [trainedRowFlip, ht, hn, Bool.false_eq_true, false_and, if_false]

theorem trainedRowFlip_trained (hn : t.trained = true) : trainedRowFlip tn v row s =
    if s.bel.cycle = 0 ∧ s.fab.lastFrame < s.bel.frame then s.flipRow tn (rowKey v row) fun _ n =>
      s.run.anyCommit && decide (n ≤ s.run.committed) && s.smithy.phase == 0
    else s := by
  simp only [trainedRowFlip, ht, hn, true_and]

/-! ## Abandoned moves and signposts (R388) -/

/-- Of a move without TRAINED that this module only gives up, the move goes 64 frames after its grant, at a tick. -/
theorem rowMoveAbandon_untrained {m : RowMove} (hn : t.trained = false) (hm : mapFind t.moves (rowKey v row) = some m)
    (hr : t.reserved (rowKey v row) = none) (hd : mapFind t.redirects (rowKey v row) = none) : rowMoveAbandon tn v row s =
      s.putTable tn { t with moves := if m.grant + 64 ≤ s.bel.frame ∧ s.bel.cycle = 0 then mapErase t.moves (rowKey v row) else t.moves } := by
  unfold rowMoveAbandon
  simp only [ht, hm, hr, hd, hn, Bool.false_eq_true, if_false, Bool.and_eq_true, decide_eq_true_eq, beq_iff_eq]

theorem rowSignpostExpire_stays {p : Nat × Nat} (hp : mapFind t.signposts (rowKey v row) = some p) (hf : s.bel.frame ≤ p.2) :
    rowSignpostExpire tn v row s = s := by
  simp only [rowSignpostExpire, ht, hp, if_neg (Nat.not_lt.2 hf)]

theorem rowSignpostExpire_expires {p : Nat × Nat} (hp : mapFind t.signposts (rowKey v row) = some p) (hf : p.2 < s.bel.frame)
    (hn : t.trained = false) : rowSignpostExpire tn v row s = s.putTable tn { t with
      signposts := mapErase t.signposts (rowKey v row),
      hot := t.hot.filter fun h => !(!h.2.live && h.2.row == row && h.2.version == v) } := by
  unfold rowSignpostExpire
  simp only [ht, hp, hf, hn, if_true, Bool.false_eq_true, if_false]

end

/-! ## The obligation -/

/-- Settles O48: each clause is one of the laws above of the row that it is about. -/
theorem tableRowsMoveAndAdd : Obligations.TableRowsMoveAndAdd := by
  unfold Obligations.TableRowsMoveAndAdd
  intro s tn t v row key ht hkey
  subst hkey
  refine ⟨fun src sums seq tag k hk => ?adds, fun h => ?noneDue, fun r w hdue hr hmax => ?oneDue, fun by_ dest count i hv hd hi => ?requests,
    fun by_ dest count ret slot i h hr hd => ?refused, fun src bytes tag i h hn hr r u hr' hu => ?copies, fun m hm hr hd => ?out,
    fun i h hm hr hd hc hn hcyc hf => ?inn, fun p hp => ?signpost⟩
  case adds =>
    subst hk
    rw [exec_tableAddApply]
    refine ⟨fun hs => ?_, fun hs => ⟨fun hr u hu => ?_, fun p hr hp => ?_, fun m hr hp => ?_⟩⟩
    · rw [tableAddApply_stopped ht hs]
    · subst hu
      rw [tableAddApply_home ht hs hr]
    · rw [tableAddApply_signpost ht hs hr hp]
    · rw [tableAddApply_away ht hs hr hp]
  case noneDue => rw [exec_versionCurrent, versionCurrent_none_due ht h]
  case oneDue =>
    rw [exec_versionCurrent, versionCurrent_one_due ht hdue hr hmax]
    rfl
  case requests =>
    rw [exec_rowMoveRequest]
    refine ⟨fun hl he hh hr => ?_, fun h => ?_⟩
    · exact congrArg (fun u => Host.Outcome.next (s.settle u)) (rowMoveRequest_grants ht hv hd hi hl he hh hr)
    · exact congrArg (fun u => Host.Outcome.next (s.settle u)) (rowMoveRequest_refuses ht hv hd hi h)
  case refused => rw [exec_rowMoveRequest, rowMoveRequest_refused ht hr hd]
  case copies =>
    subst hr' hu
    rw [exec_rowCopy, rowCopy_untrained ht hn hr]
  case out =>
    refine ⟨fun hn hc hcyc hg hf => ⟨?_, ?_⟩, fun hn hc hcyc hl hf hany hstep hph => ⟨?_, ?_⟩, fun hn hstep => ?_, fun hn => ?_⟩
    · rw [exec_rowMoveFlip, rowMoveFlip_untrained ht hn hcyc, State.flipRow_out ht hd hm hr hc hf (decide_eq_true hg)]
      rfl
    · rw [exec_trainedRowFlip, trainedRowFlip_untrained ht hn]
    · rw [exec_trainedRowFlip, trainedRowFlip_trained ht hn, if_pos ⟨hcyc, hl⟩,
        State.flipRow_out ht hd hm hr hc hf (by simp [hany, hstep, hph])]
      rfl
    · rw [exec_rowMoveFlip, rowMoveFlip_trained ht hn]
    · refine ⟨_, exec_trainedRowFlip tn v row s, ?_⟩
      rw [State.table, State.settle_tables, trainedRowFlip_trained ht hn]
      split
      · rw [State.flipRow_waits ht hd hm hr (by simp [Nat.not_le.2 hstep])]
        exact s.table_putTable _ t
      · exact ht
    · refine ⟨_, exec_rowMoveAbandon tn v row s, ?_, ?_⟩ <;> rw [State.table, State.settle_tables, rowMoveAbandon_untrained ht hn hm hr hd]
      · intro hg hcyc
        rw [if_pos ⟨hg, hcyc⟩]
        exact s.table_putTable _ _
      · intro h
        rw [if_neg (by omega)]
        exact s.table_putTable _ _
  case inn =>
    rw [exec_rowMoveFlip, rowMoveFlip_untrained ht hn hcyc, State.flipRow_in ht hd hm hr hc (decide_eq_true hf)]
  case signpost =>
    rw [exec_rowSignpostExpire]
    exact ⟨fun hf hn => by rw [rowSignpostExpire_expires ht hp hf hn], fun hf => by rw [rowSignpostExpire_stays ht hp hf]⟩

end Sys2Proof.Machine
end

section
/-! SUPPORT. The words that a module's own units write, and the poisoned words they rest on (R252, R261; DEDUCED, log 166). -/

namespace Sys2Proof.Machine

/-! ## Translation and the smithies' marks through a write of the module's own -/

theorem State.xlate_addHeat (s : State) (p n : Nat) : (s.addHeat p n).tier.xlate = s.tier.xlate := by
  unfold State.addHeat
  dsimp only
  split <;> rfl

theorem State.xlate_storeBytes (s : State) (e : XEntry) (va : Nat) (b : List Byte) : (s.storeBytes e va b).tier.xlate = s.tier.xlate := by
  unfold State.storeBytes
  split <;> rfl

theorem State.xlate_forwardWrite (s : State) (va : Nat) (b : List Byte) : (s.forwardWrite va b).tier.xlate = s.tier.xlate := by
  unfold State.forwardWrite
  split
  · split <;> rfl
  · rfl

theorem State.xlate_applyAtHome (s : State) (e : XEntry) (va : Nat) (b : List Byte) : (s.applyAtHome e va b).tier.xlate = s.tier.xlate := by
  rw [State.applyAtHome_eq, State.xlate_forwardWrite, State.xlate_storeBytes, State.xlate_addHeat]

theorem State.xlate_holdWrite (s : State) (who : Requester) (va : Nat) (b : List Byte) :
    (s.holdWrite who va b).tier.xlate = s.tier.xlate := by
  unfold State.holdWrite State.invalHolders
  dsimp only
  split <;> rfl

theorem State.xlate_pokeFor (s : State) (who : Requester) (va : Nat) (b : List Byte) : (s.pokeFor who va b).2.tier.xlate = s.tier.xlate := by
  refine foldl_keeps (fun a : (Nat × State) × List Byte => a.1.2.tier.xlate) (fun a p => ?_) _ ((0, s), b)
  dsimp only
  split
  · split
    · rfl
    · split
      · exact State.xlate_applyAtHome _ _ _ _
      · exact State.xlate_holdWrite _ _ _ _
  · rfl

theorem State.xlate_meetPoison (s : State) (va n : Nat) : (s.meetPoison va n).tier.xlate = s.tier.xlate := by
  unfold State.meetPoison
  split
  · rfl
  · rw [raise_tier]
    exact foldl_keeps (fun s : State => s.tier.xlate) (by intros; rfl) _ s

theorem State.xlate_chargeLocal (s : State) (va n : Nat) : (s.chargeLocal va n).tier.xlate = s.tier.xlate := by
  refine foldl_keeps (fun s : State => s.tier.xlate) (fun s p => ?_) _ s
  split
  · split <;> rfl
  · rfl

@[simp] theorem State.pokeFor_smithy (s : State) (who : Requester) (va : Nat) (b : List Byte) :
    (s.pokeFor who va b).2.smithy = s.smithy := (s.accessed_pokeFor who va b).keeps State.smithy fun _ _ _ _ _ _ => rfl

@[simp] theorem State.writeSum_smithy (s : State) (who : Requester) (srcs : List Nat) (dst : Nat) (b : List Byte) :
    (s.writeSum who srcs dst b).2.smithy = s.smithy := by
  have hread : (srcs.foldl (fun s a => (s.meetPoison a b.length).chargeLocal a b.length) s).smithy = s.smithy :=
    foldl_keeps State.smithy (by intros; simp) srcs s
  exact (State.pokeFor_smithy _ who dst b).trans hread

/-! ## What a sum rests on (R261) -/

theorem State.meetPoison_clean {s : State} {va n : Nat} (h : s.poisonIn va n = []) : s.meetPoison va n = s := by
  simp only [State.meetPoison, h]

/-- Of sound words the sum is written as it is. -/
theorem State.writeSum_clean {s : State} {old : Nat} {b : List Byte} (h : s.poisonIn old b.length = []) (who : Requester) (new : Nat) :
    s.writeSum who [old] new b = (s.chargeLocal old b.length).pokeFor who new b := by
  simp only [State.writeSum, List.flatMap_cons, List.flatMap_nil, List.foldl_cons, List.foldl_nil, h, State.meetPoison_clean h,
    List.map_nil, List.append_nil, State.spoil, State.modTier, List.filterMap_nil, List.filter_nil]

theorem State.mem_poison_spoil {s : State} {vws : List Nat} {vw x : Nat} (h : vw ∈ vws) (hx : s.wordHere vw = some x) :
    x ∈ (s.spoil vws).tier.poison := by
  by_cases hp : x ∈ s.tier.poison
  · exact List.mem_append_left _ hp
  · exact List.mem_append_right _ (List.mem_filter.2 ⟨List.mem_filterMap.2 ⟨vw, h, hx⟩, by simpa using hp⟩)

/-- The word that rests on a poisoned one is poisoned. -/
theorem State.writeSum_spoils {s : State} {old w x : Nat} {b : List Byte} (hw : w ∈ s.poisonIn old b.length) {new : Nat}
    (hx : s.wordHere (new / 32 + w - old / 32) = some x) (who : Requester) : x ∈ (s.writeSum who [old] new b).2.tier.poison := by
  have hxlate : (((s.meetPoison old b.length).chargeLocal old b.length).pokeFor who new b).2.tier.xlate = s.tier.xlate := by
    rw [State.xlate_pokeFor, State.xlate_chargeLocal, State.xlate_meetPoison]
  refine State.mem_poison_spoil (vw := new / 32 + w - old / 32) ?_ ?_
  · exact List.mem_flatMap.2 ⟨old, List.mem_singleton_self old, List.mem_map.2 ⟨w, hw, rfl⟩⟩
  · rw [← hx]
    exact congrArg (fun m => match mapFind m ((new / 32 + w - old / 32) / 2048) with
      | some e => if e.tier = TierKind.local then some (e.frame * 2048 + (new / 32 + w - old / 32) % 2048) else none
      | none => none) hxlate

end Sys2Proof.Machine
end

section
/-! SUPPORT. The commit record: its 64 bytes, and what the boundary that it makes leaves (R10, R302, R511; DESIGN CHOICE, log 146). -/

namespace Sys2Proof.Machine

/-! ## CRC-32C (R511) -/

theorem crcShift_lt (k : Nat) {c : Nat} (h : c < 2 ^ 32) : crcShift k c < 2 ^ 32 := by
  induction k generalizing c with
  | zero => exact h
  | succ k ih =>
    refine ih ?_
    split
    · exact Nat.xor_lt_two_pow (by omega) (by decide)
    · omega

theorem crc32c_lt (b : List Byte) : crc32c b < 2 ^ 32 := by
  refine Nat.xor_lt_two_pow ?_ (by decide)
  refine List.foldlRecOn (motive := fun c => c < 2 ^ 32) b _ (by decide) fun c hc x _ => ?_
  exact crcShift_lt 8 (Nat.xor_lt_two_pow hc (by omega))

/-! ## Fields of a block -/

theorem blkNat_head (n v : Nat) (b : List Byte) : blkNat (bytesOfNat n v ++ b) 0 n = v % 256 ^ n := by
  have htake : (bytesOfNat n v ++ b).take n = bytesOfNat n v := List.take_left' (length_bytesOfNat n v)
  rw [blkNat, List.drop_zero, htake, natOfBytes_bytesOfNat]

/-- A field behind the first `k` bytes. -/
theorem blkNat_behind {a : List Byte} {k : Nat} (h : a.length = k) (b : List Byte) (off n : Nat) :
    blkNat (a ++ b) (k + off) n = blkNat b off n := by
  subst h
  rw [blkNat, List.drop_length_add_append, blkNat]

/-- The first 60 bytes of a commit record. -/
def CommitRec.body (r : CommitRec) : List Byte :=
  bytesOfNat 8 r.step ++ (bytesOfNat 6 r.frame ++ (bytesOfNat 1 r.buf ++ (bytesOfNat 1 r.g ++ (bytesOfNat 8 r.almanac ++
    List.replicate 36 0))))

theorem CommitRec.length_body (r : CommitRec) : r.body.length = 60 := by
  simp only [CommitRec.body, List.length_append, length_bytesOfNat, List.length_replicate]

theorem CommitRec.image_eq (r : CommitRec) : r.image = r.body ++ bytesOfNat 4 (crc32c r.body) := by
  simp only [CommitRec.image, CommitRec.body, List.append_assoc]

theorem CommitRec.length_image (r : CommitRec) : r.image.length = 64 := by
  rw [r.image_eq, List.length_append, r.length_body, length_bytesOfNat]

/-- A record reads back from its bytes. -/
theorem CommitRec.of_image {r : CommitRec} (hs : r.step < 2 ^ 64) (hf : r.frame < 2 ^ 48) (hb : r.buf < 256) (hg : r.g < 256)
    (ha : r.almanac < 2 ^ 64) : CommitRec.of r.image = some r := by
  have hcrc : blkNat r.image 60 4 = crc32c (r.image.take 60) := by
    rw [r.image_eq, List.take_left' r.length_body]
    refine (blkNat_behind r.length_body _ 0 4).trans ?_
    rw [← List.append_nil (bytesOfNat 4 _), blkNat_head, Nat.mod_eq_of_lt (show _ < 256 ^ 4 from crc32c_lt r.body)]
  have himage : r.image = bytesOfNat 8 r.step ++ (bytesOfNat 6 r.frame ++ (bytesOfNat 1 r.buf ++ (bytesOfNat 1 r.g ++
      (bytesOfNat 8 r.almanac ++ (List.replicate 36 0 ++ bytesOfNat 4 (crc32c r.body)))))) := by
    simp only [r.image_eq, CommitRec.body, List.append_assoc]
  have hstep : blkNat r.image 0 8 = r.step := by
    rw [himage, blkNat_head, Nat.mod_eq_of_lt (show r.step < 256 ^ 8 from hs)]
  have hframe : blkNat r.image 8 6 = r.frame := by
    rw [himage, blkNat_behind (length_bytesOfNat 8 _) _ 0, blkNat_head, Nat.mod_eq_of_lt (show r.frame < 256 ^ 6 from hf)]
  have hbuf : blkNat r.image 14 1 = r.buf := by
    rw [himage, blkNat_behind (length_bytesOfNat 8 _) _ 6, blkNat_behind (length_bytesOfNat 6 _) _ 0, blkNat_head,
      Nat.mod_eq_of_lt (show r.buf < 256 ^ 1 from hb)]
  have hgroup : blkNat r.image 15 1 = r.g := by
    rw [himage, blkNat_behind (length_bytesOfNat 8 _) _ 7, blkNat_behind (length_bytesOfNat 6 _) _ 1,
      blkNat_behind (length_bytesOfNat 1 _) _ 0, blkNat_head, Nat.mod_eq_of_lt (show r.g < 256 ^ 1 from hg)]
  have halmanac : blkNat r.image 16 8 = r.almanac := by
    rw [himage, blkNat_behind (length_bytesOfNat 8 _) _ 8, blkNat_behind (length_bytesOfNat 6 _) _ 2,
      blkNat_behind (length_bytesOfNat 1 _) _ 1, blkNat_behind (length_bytesOfNat 1 _) _ 0, blkNat_head, Nat.mod_eq_of_lt (show r.almanac < 256 ^ 8 from ha)]
  rw [CommitRec.of, if_pos hcrc, hstep, hframe, hbuf, hgroup, halmanac]

/-! ## The step boundary (R10, R441, R487, R488) -/

/-- What a commit leaves for the next step: the steps of the run, FAB_COMMIT, the smithies and the tiers. -/
def State.commitBook (s : State) : (Nat × Bool × Nat) × (Nat × Nat) × Smithy × Tier :=
  ((s.run.committed, s.run.inStep, s.run.nextStep), (s.fab.lastStep, s.fab.lastFrame), s.smithy, s.tier)

theorem State.commitBook_raise (c u i d : Nat) (s : State) : (raise c u i d s).commitBook = s.commitBook := by
  obtain ⟨_, _, _, _, _, _, _, _, _, _, _, h⟩ := raise_frame c u i d s
  rw [h]
  rfl

theorem State.commitBook_replyTo (s : State) (h : Option PktHdr) (st r0 r1 r2 : Nat) :
    (s.replyTo h st r0 r1 r2).commitBook = s.commitBook := by
  obtain ⟨_, _, e⟩ := s.replyTo_frame h st r0 r1 r2
  rw [e]
  rfl

theorem State.commitBook_registerReturn (s : State) (c : Nat) : (s.registerReturn c).commitBook = s.commitBook := by
  refine foldl_keeps State.commitBook (fun s act => ?_) [1, 2, 3] s
  split <;> rfl

theorem State.commitBook_maintBoundary (s : State) : s.maintBoundary.commitBook = s.commitBook := by
  have hfail : ∀ (l : List (Nat × Nat)) (s : State), (l.foldl (fun s u => raise cUnitFailed u.1 u.2 0 s) s).commitBook = s.commitBook :=
    foldl_keeps State.commitBook fun s u => s.commitBook_raise _ _ _ _
  unfold State.maintBoundary State.retryReturns
  dsimp only
  split
  · exact hfail _ _
  · exact (foldl_keeps State.commitBook State.commitBook_registerReturn _ _).trans (hfail _ _)

theorem State.commitBook_takeHolds (s : State) : s.takeHolds.commitBook = s.commitBook := by
  unfold State.takeHolds
  split
  · exact foldl_keeps State.commitBook (fun s h => s.commitBook_replyTo h.2 _ _ _ _) s.run.holds s
  · rfl

theorem State.commitBook_boundary (s : State) : s.boundary.commitBook =
    ((s.run.step, false, s.run.step + 1), (s.fab.lastStep, s.fab.lastFrame), s.smithy, s.tier) := by
  unfold State.boundary
  rw [State.commitBook_takeHolds, State.commitBook_maintBoundary]
  rfl

/-! ## Writing the record (R301, R302) -/

/-- The record that this step's commit writes. -/
def State.stepRecord (s : State) : CommitRec := ⟨s.run.step, s.bel.frame, s.nextBuf, s.groupSize, s.run.active.ident⟩

theorem State.commitBook_writeRecord (s : State) : s.writeRecord.commitBook =
    ((s.run.step, false, s.run.step + 1), (s.run.step, s.bel.frame), { s.smithy with phase := 3, undo := [] },
      { s.tier with hbm := s.tier.hbm.writeBytes (recordByte (s.run.step % 2)) s.stepRecord.image }) :=
  State.commitBook_boundary _

/-- Bytes beside those written read as before. -/
theorem Memory.readBytes_writeBytes_beside (m : Memory) {a p n : Nat} (b : List Byte) (h : p + n ≤ a ∨ a + b.length ≤ p) :
    (m.writeBytes a b).readBytes p n = m.readBytes p n := by
  induction n generalizing p with
  | zero => rfl
  | succ n ih => rw [Memory.readBytes, Memory.readBytes, m.read_writeBytes_outside a b (by omega), ih (by omega)]

theorem State.writeRecord_writes (s : State) : s.writeRecord.run.committed = s.run.step ∧ s.writeRecord.run.inStep = false ∧
    s.writeRecord.run.nextStep = s.run.step + 1 ∧ s.writeRecord.fab.lastStep = s.run.step ∧
    s.writeRecord.fab.lastFrame = s.bel.frame ∧ s.writeRecord.smithy.phase = 3 ∧
    s.writeRecord.tier.hbm.readBytes (recordByte (s.run.step % 2)) 64 = s.stepRecord.image ∧
    s.writeRecord.recordIn (1 - s.run.step % 2) = s.recordIn (1 - s.run.step % 2) := by
  have hbook := s.commitBook_writeRecord
  simp only [State.commitBook, Prod.mk.injEq] at hbook
  obtain ⟨⟨hcommitted, hin, hnext⟩, ⟨hstep, hframe⟩, hsmithy, htier⟩ := hbook
  refine ⟨hcommitted, hin, hnext, hstep, hframe, by rw [hsmithy], ?_, ?_⟩
  · have hback := s.tier.hbm.readBytes_writeBytes (recordByte (s.run.step % 2)) s.stepRecord.image
    rw [CommitRec.length_image] at hback
    rw [htier, hback]
  · unfold State.recordIn
    rw [htier, Memory.readBytes_writeBytes_beside]
    rw [CommitRec.length_image]
    unfold recordByte frameByte
    omega

end Sys2Proof.Machine
end

section
/-! SUPPORT. Phases B to D of a commit and the build of parity (R252, R298 to R302, R362, R364, R365, R468, R478, R479; DEDUCED, logs 40
and 76; DESIGN CHOICE, log 147). -/

namespace Sys2Proof.Machine

/-! ## The rows -/

theorem exec_parityDelta (src : ModId) (stripe : W32) (bytes : List Byte) (tag : W32) (s : State) :
    exec (.parityDelta src stripe bytes tag) s = .next (s.settle (parityDelta src.toNat stripe.toNat bytes tag.toNat s)) := rfl

theorem exec_bulkAck (tag : W32) (s : State) : exec (.bulkAck tag) s = .next (s.settle (s.acked tag.toNat).tryBDone) := rfl

theorem exec_commitCtrl (src : ModId) (n : W64) (x : Option (BitVec 4 × W32 × W64 × W32)) (s : State) :
    exec (.commitCtrl src n x) s = .next (s.settle (commitCtrl src.toNat n.toNat
      (x.map fun x => (x.1.toNat, x.2.1.toNat, x.2.2.1.toNat, x.2.2.2.toNat)) s)) := rfl

theorem exec_commitRecordWrite (s : State) : exec .commitRecordWrite s = .next (s.settle (commitRecordWrite s)) := rfl

theorem exec_deltaApply (s : State) : exec .deltaApply s = .next (s.settle (deltaApply s)) := rfl

theorem exec_parityBuild (sums : List (W32 × List Byte)) (done : Bool) (s : State) :
    exec (.parityBuild sums done) s = .next (s.settle (parityBuild (sums.map fun p => (p.1.toNat, p.2)) done s)) := rfl

/-! ## Delta pages at their holder (R299, R301, R468, R479) -/

section
variable {s : State} {src stripe tag : Nat} {bytes : List Byte} {p : ParityCfg} (hp : s.fab.parity = some p)
include hp

theorem parityDelta_adds (hq : s.rec0.q = none) (hs : s.rec0.stopped = false) (hr : s.parityRuns = true)
    (hm : stripe % s.groupSize = s.memberIdx) (hl : bytes.length = pageBytes) : parityDelta src stripe bytes tag s =
      (let alt := p.stripeVa s.groupSize (1 - s.fab.buf) stripe
       let u := s.addStripe src tag (if (mapFind s.fab.deltas stripe).isSome = true then alt else p.stripeVa s.groupSize s.fab.buf stripe)
        alt bytes
       { u with fab := { u.fab with deltas := mapPut u.fab.deltas stripe (mapGet 0 u.fab.deltas stripe + 1) } }) := by
  unfold parityDelta
  simp only [hp, hq, hs, hr, hm, hl, Option.isSome_none, Bool.false_and, Bool.false_eq_true, if_false, Bool.not_true, Bool.or_self,
    bne_self_eq_false]
  cases mapFind s.fab.deltas stripe <;> rfl

theorem parityDelta_recovers (hq : s.rec0.q.isSome = true) (hr : s.parityRuns = true) (hm : stripe % s.groupSize = s.memberIdx)
    (hl : bytes.length = pageBytes) : parityDelta src stripe bytes tag s =
      s.addStripe src tag (p.stripeVa s.groupSize s.fab.buf stripe) (p.stripeVa s.groupSize s.fab.buf stripe) bytes := by
  unfold parityDelta
  simp only [hp, hq, hr, hm, hl, BEq.rfl, Bool.and_self, if_true]

theorem parityDelta_discards (h : (s.rec0.q = none ∧ s.rec0.stopped = true) ∨ s.parityRuns = false ∨ stripe % s.groupSize ≠ s.memberIdx ∨
    bytes.length ≠ pageBytes) : parityDelta src stripe bytes tag s = s := by
  unfold parityDelta
  simp only [hp]
  rw [if_neg, if_pos]
  · obtain ⟨-, h⟩ | h | h | h := h <;> simp [h]
  · obtain ⟨h, -⟩ | h | h | h := h <;> simp [h]

end

/-! ## B_DONE, and what a member tells (R298, R301; DEDUCED, logs 40 and 76) -/

/-- The module's own deltas acknowledged, B_DONE goes out. -/
theorem State.tryBDone_sends {s : State} (hph : s.smithy.phase = 2) (hb : s.fab.bSent = false) (hr : s.parityRuns = true)
    (hd : s.deltasOut = false) : s.tryBDone.fab.bSent = true ∧ s.modNo ∈ s.tryBDone.fab.bDone := by
  unfold State.tryBDone
  rw [if_pos ⟨hph, hb, hr, hd⟩]
  dsimp only
  rw [State.foldl_send_fab]
  exact ⟨rfl, by simp⟩

theorem commitCtrl_counts {s : State} {n : Nat} (hn : n = s.run.step) (hs : s.rec0.stopped = false) (src : Nat) : commitCtrl src n none s =
    { s with fab := { s.fab with bDone := (s.fab.bDone ++ [src]).eraseDups } } := if_pos ⟨hn, hs⟩

theorem commitCtrl_discards {s : State} {n : Nat} (h : n ≠ s.run.step ∨ s.rec0.stopped = true) (src : Nat) :
    commitCtrl src n none s = s := by
  refine if_neg ?_
  rintro ⟨hn, hs⟩
  exact h.elim (· hn) fun h => by rw [hs] at h; cases h

theorem commitCtrl_stopped {s : State} (hs : s.rec0.stopped = true) (src n : Nat) (x : Nat × Nat × Nat × Nat) :
    commitCtrl src n (some x) s = s := if_pos hs

/-- The state that has noted what a member tells. -/
def State.noteMember (s : State) (src n : Nat) (x : Nat × Nat × Nat × Nat) : State :=
  { s with fab := { s.fab with memberCfg := mapPut s.fab.memberCfg src x, ready := mapPut s.fab.ready src n } }

theorem State.memberAgrees_noteMember (s : State) (src n : Nat) (x : Nat × Nat × Nat × Nat) (p : ParityCfg) :
    (s.noteMember src n x).memberAgrees p src = (x.1 == p.g && x.2.1 == p.dmax) := by
  simp only [State.memberAgrees, State.noteMember, mapFind_mapPut_same]

theorem commitCtrl_some {s : State} (hs : s.rec0.stopped = false) (src n : Nat) (x : Nat × Nat × Nat × Nat) :
    commitCtrl src n (some x) s = match s.fab.parity with
      | some c => if (!s.fab.degraded && mapFind s.fab.ready s.modNo == some n && !(s.noteMember src n x).memberAgrees c src) = true
          then raise cParityMismatch 0 0 0 (s.noteMember src n x) else s.noteMember src n x
      | none => s.noteMember src n x := by
  unfold commitCtrl
  dsimp only
  rw [if_neg (by simp [hs])]
  rfl

theorem commitCtrl_notes {s : State} {src n : Nat} {x : Nat × Nat × Nat × Nat} (hs : s.rec0.stopped = false)
    (h : ∀ p, s.fab.parity = some p → s.fab.degraded = true ∨ mapFind s.fab.ready s.modNo ≠ some n ∨ (p.g = x.1 ∧ p.dmax = x.2.1)) :
    commitCtrl src n (some x) s = s.noteMember src n x := by
  rw [commitCtrl_some hs]
  split
  · next p hp =>
    refine if_neg ?_
    rw [s.memberAgrees_noteMember]
    obtain h | h | ⟨hg, hd⟩ := h p hp
    · simp [h]
    · simp [h]
    · simp [hg, hd]
  · rfl

theorem commitCtrl_mismatch {s : State} {src n : Nat} {x : Nat × Nat × Nat × Nat} {p : ParityCfg} (hs : s.rec0.stopped = false)
    (hp : s.fab.parity = some p) (hd : s.fab.degraded = false) (hr : mapFind s.fab.ready s.modNo = some n)
    (h : p.g ≠ x.1 ∨ p.dmax ≠ x.2.1) : commitCtrl src n (some x) s = raise cParityMismatch 0 0 0 (s.noteMember src n x) := by
  have hno : (x.1 == p.g && x.2.1 == p.dmax) = false := by
    rw [Bool.and_eq_false_iff, beq_eq_false_iff_ne, beq_eq_false_iff_ne]
    exact h.imp Ne.symm Ne.symm
  rw [commitCtrl_some hs, hp]
  exact if_pos (by rw [s.memberAgrees_noteMember, hno, hd, hr]; simp)

/-! ## The record with every B_DONE (R301, R302) -/

theorem commitRecordWrite_writes {s : State} (hr : s.parityRuns = true) (hph : s.smithy.phase = 2) (hb : s.fab.bSent = true)
    (hd : s.allDone = true) (hm : s.mayRecord = true) : commitRecordWrite s = s.copyStripes.writeRecord.sweepVersions :=
  if_pos (by simp [hr, hph, hb, hd, hm])

theorem commitRecordWrite_waits {s : State} (h : s.allDone = false ∨ s.smithy.phase ≠ 2 ∨ s.mayRecord = false) :
    commitRecordWrite s = s := by
  refine if_neg ?_
  obtain h | h | h := h <;> simp [h]

/-! ## Phase D (R252, R301, R362, R364, R365) -/

theorem deltaApply_goes {s : State} (h3 : 3 ≤ s.smithy.phase) (ha : s.smithy.applyStarted = true) : deltaApply s =
    if (s.phaseD false).smithy.phase = 0 then (s.phaseD false).takeHolds else s.phaseD false := if_pos ⟨h3, ha⟩

theorem deltaApply_waits {s : State} (h : s.smithy.phase < 3 ∨ s.smithy.applyStarted = false) : deltaApply s = s := by
  refine if_neg ?_
  rintro ⟨h3, ha⟩
  exact h.elim (by omega) fun h => by rw [ha] at h; cases h

theorem State.applyDelta_smithy (s : State) (add : Bool) (p : Nat) : (s.applyDelta add p).smithy = s.smithy := by
  unfold State.applyDelta
  split
  · rfl
  · exact State.writeSum_smithy _ _ _ _ _

theorem State.applyPage_smithy (s : State) (p : Nat) : (s.applyPage p).smithy =
    { s.smithy with touched := s.smithy.touched.erase p, undo := s.smithy.undo ++ [p] } := by
  simp only [State.applyPage, State.applyDelta_smithy]

theorem State.recall_smithy (s : State) (l : List Nat) : (s.recall l).smithy = s.smithy :=
  foldl_keeps State.smithy (fun s p => (s.accessed_invalHolders p).keeps State.smithy fun _ _ _ _ _ _ => rfl) l s

/-- Every touched page applied: no mark is left, and all are known for an undo. -/
theorem State.applyPages_smithy {l : List Nat} {s : State} (h : s.smithy.touched = l) : (l.foldl State.applyPage s).smithy =
    { s.smithy with touched := [], undo := s.smithy.undo ++ l } := by
  induction l generalizing s with
  | nil => rw [List.foldl_nil, List.append_nil, ← h]
  | cons p l ih =>
    have hp := s.applyPage_smithy p
    have htouched : (s.applyPage p).smithy.touched = l := by rw [hp, h, List.erase_cons_head]
    rw [List.foldl_cons, ih htouched, hp, List.append_assoc]
    rfl

theorem State.takeParity_smithy (s : State) : s.takeParity.smithy = s.smithy := by
  unfold State.takeParity
  split
  · split <;> rfl
  · rfl

theorem State.endPhaseD_smithy (s : State) : s.endPhaseD.smithy = { s.smithy with phase := 0, requests := 0 } :=
  State.takeParity_smithy _

/-- A stopped module that finishes its commit waits for nothing. -/
theorem State.phaseD_all (s : State) : (s.phaseD true).smithy =
    { s.smithy with phase := 0, requests := 0, touched := [], undo := s.smithy.undo ++ s.smithy.touched } := by
  have hmarks : (s.recall s.smithy.touched).smithy.touched = s.smithy.touched := by rw [s.recall_smithy]
  have happlied := State.applyPages_smithy hmarks
  rw [s.recall_smithy] at happlied
  unfold State.phaseD
  simp only [Bool.true_or, if_true]
  rw [if_pos (by simp [happlied]), State.endPhaseD_smithy, happlied]

theorem State.phaseD_phase (s : State) (all : Bool) : (s.phaseD all).smithy.phase =
    if (s.phaseD all).smithy.touched = [] then 0 else 4 := by
  unfold State.phaseD
  dsimp only
  split
  · next h =>
    rw [State.endPhaseD_smithy]
    exact (if_pos (List.isEmpty_iff.1 h)).symm
  · next h => exact (if_neg (by simpa using h)).symm

/-! ## The build of parity (R300, R478; DESIGN CHOICE, log 147) -/

/-- VALID, and no longer degraded, once the build is complete. -/
def State.builtUntil (s : State) (done : Bool) : State :=
  { s with fab := { s.fab with valid := done, building := !done, degraded := !done && s.fab.degraded } }

section
variable {s : State} {p : ParityCfg} (hp : s.fab.parity = some p) (hb : s.fab.building = true) (ho : s.maintOpen 8 = true) (done : Bool)
include hp hb ho

/-- The sum of the other members' pages fills a stripe that the module holds. -/
theorem parityBuild_fills {st : Nat} {bytes : List Byte} (hbuilt : s.fab.built = true) (hm : st % s.groupSize = s.memberIdx)
    (hl : bytes.length = pageBytes) : parityBuild [(st, bytes)] done s =
      ((s.chargeMaint 8 (Config.copyCycles pageBytes)).pokeLocal (p.stripeVa s.groupSize s.fab.buf st) bytes).builtUntil done := by
  unfold parityBuild
  simp only [hp, hb, ho, hbuilt, Bool.not_true, Bool.or_self, Bool.false_eq_true, if_false, if_true, List.foldl_cons, List.foldl_nil]
  rw [if_pos ⟨hm, hl⟩]
  rfl

theorem parityBuild_sends (hbuilt : s.fab.built = false) : parityBuild [] done s =
    ((s.chargeMaint 8 (Config.copyCycles (p.pages * pageBytes))).sendShard p).builtUntil done := by
  unfold parityBuild
  simp only [hp, hb, ho, hbuilt, Bool.not_true, Bool.or_self, Bool.false_eq_true, if_false, List.foldl_nil]
  rfl

end

theorem parityBuild_waits {s : State} (h : s.fab.parity = none ∨ s.fab.building = false ∨ s.maintOpen 8 = false)
    (sums : List (Nat × List Byte)) (done : Bool) : parityBuild sums done s = s := by
  unfold parityBuild
  split
  · next p hp =>
    refine if_pos ?_
    obtain h | h | h := h
    · rw [hp] at h; cases h
    · simp [h]
    · simp [h]
  · rfl

/-! ## The obligation -/

/-- Settles O42: each clause is one of the laws above of the row, or of the unit of a commit, that it is about. -/
theorem commitPhases : Obligations.CommitPhases := by
  unfold Obligations.CommitPhases
  intro s
  refine ⟨fun src stripe bytes tag p st hp hst => ?delta, fun who old new b => ⟨fun h => State.writeSum_clean h who new,
    fun w hw x hx => State.writeSum_spoils hw hx who⟩, fun tag => exec_bulkAck tag s, State.tryBDone_sends, fun src n hn hs => ?counts,
    fun src n h => ?uncounted, fun src n x t ht => ?told, fun hr hph hb hd hs hin hm => ?record, fun h => ?noRecord, s.writeRecord_writes,
    fun r => CommitRec.of_image, fun h3 ha => ?applies, fun h => ?applyWaits, ?all, s.phaseD_phase false, fun done p hp hb ho => ?build,
    fun done sums h => ?noBuild⟩
  case delta =>
    subst hst
    rw [exec_parityDelta]
    refine ⟨fun hq hs hr hm hl u hu => ?_, fun hq hr hm hl => ?_, fun h => ?_⟩
    · subst hu
      rw [parityDelta_adds hp hq hs hr hm hl]
      rfl
    · rw [parityDelta_recovers hp hq hr hm hl]
      rfl
    · rw [parityDelta_discards hp h]
  case counts =>
    rw [exec_commitCtrl]
    exact congrArg (fun u => Host.Outcome.next (s.settle u)) (commitCtrl_counts hn hs src.toNat)
  case uncounted =>
    rw [exec_commitCtrl]
    exact congrArg (fun u => Host.Outcome.next (s.settle u)) (commitCtrl_discards h src.toNat)
  case told =>
    subst ht
    rw [exec_commitCtrl, Option.map_some]
    exact ⟨fun hs => by rw [commitCtrl_stopped hs], fun hs h => by rw [commitCtrl_notes hs h]; rfl,
      fun p hs hp hd hr h => by rw [commitCtrl_mismatch hs hp hd hr h]; rfl⟩
  case record =>
    rw [exec_commitRecordWrite, commitRecordWrite_writes hr hph hb hd (s.mayRecord_iff.2 ⟨hs, hin, hph.le, hm⟩)]
  case noRecord =>
    rw [exec_commitRecordWrite, commitRecordWrite_waits]
    refine h.imp_right (Or.imp_right fun h => ?_)
    rw [← Bool.not_eq_true, s.mayRecord_iff]
    rintro ⟨hs, -, -, hm⟩
    exact h.elim (fun h => by rw [hs] at h; cases h) fun h => by omega
  case applies => rw [exec_deltaApply, deltaApply_goes h3 ha]
  case applyWaits => rw [exec_deltaApply, deltaApply_waits h]
  case all =>
    rw [s.phaseD_all]
    exact ⟨rfl, rfl, rfl⟩
  case build =>
    refine ⟨fun st bytes u hbuilt hm hl hu => ?_, fun u hbuilt hu => ?_⟩ <;> subst hu <;> rw [exec_parityBuild]
    · exact congrArg (fun u => Host.Outcome.next (s.settle u)) (parityBuild_fills hp hb ho done hbuilt hm hl)
    · exact congrArg (fun u => Host.Outcome.next (s.settle u)) (parityBuild_sends hp hb ho done hbuilt)
  case noBuild => rw [exec_parityBuild, parityBuild_waits h]

end Sys2Proof.Machine
end

section
/-! SUPPORT. The commands of memory, tables, the smithy, the granary and the fabric: what each does where its conditions hold, and its
refusals (R236, R244, R263, R264, R298, R304, R346, R351, R366, R367, R370, R383, R391, R489, R490, R512). -/

namespace Sys2Proof.Machine
open Sys2Proof.Claims

/-! ## The unit that a command configures (R432) -/

theorem State.unitOff_eq (s : State) {op u : Nat} (h : unitOf op = some u) : s.unitOff op = !s.unitOn u := by
  rw [State.unitOff, h, Option.any_some]

theorem State.unitOff_of_on {s : State} {op u : Nat} (h : unitOf op = some u) (hu : s.unitOn u = true) : s.unitOff op = false := by
  rw [s.unitOff_eq h, hu, Bool.not_true]

/-- A command whose unit is off is NOT_ENABLED before any other refusal. -/
theorem replies_unitOff {i : Instr} {s : State} {h : PktHdr} {op u : Nat} {f : List (Nat × Nat × Nat)} {body : State → State}
    (hs : Starts s op h) (he : exec i s = .next (s.settle (damtin op h f body s))) (hsp : spelling i = (op, f))
    (h1 : unitOf op = some u) (hu : s.unitOn u = false) : Replies i s s h 0x16 := by
  intro hspell
  obtain ⟨hm, hq, -⟩ := hs
  unfold Spells at hspell
  rw [hsp] at hspell
  have hqueue : ¬ (op < 0x0100 ∧ h.queue ≠ 0) := fun hlt => hq.elim (Nat.not_le_of_lt hlt.1) hlt.2
  have hsays : h.says op f = true := hspell
  rw [he, damtin, damtinFirst, if_neg (by simp [hsays, hm]), if_neg (by simp), if_neg hqueue,
    if_pos (by rw [s.unitOff_eq h1, hu, Bool.not_false])]
  rfl

/-! ## MEM_ALLOC (R264, R512) -/

section
variable {s : State} {h : PktHdr} (hs : Starts s 0x0401 h) {va n : W64} {tier : Byte} (flags : Byte) (m : BitVec 16)
  {host : W64} {room : Bool} {known : List (BitVec 36)}
include hs

theorem memAlloc_invalid (hbad : rangeOk va.toNat n.toNat = false ∨ 2 < tier.toNat) :
    Replies (.memAlloc h va n tier flags m host room known) s s h 0x15 := by
  refine replies_of_starts hs rfl rfl rfl (if_pos ?_)
  obtain hbad | hbad := hbad <;> simp [hbad]

variable (hr : rangeOk va.toNat n.toNat = true) (hv : va.toNat / pageBytes ≠ 0)
  (hfree : pagesAll (va.toNat / pageBytes) n.toNat (fun p => !s.pageMapped (known.map BitVec.toNat) p) = true)
include hr hv hfree

theorem memAlloc_localFull (hq : s.quotaRoom 0 n.toNat = false) : Replies (.memAlloc h va n 0 flags m host room known) s s h 0x10 := by
  refine replies_of_starts hs rfl rfl rfl ((if_neg ?_).trans ((if_pos rfl).trans (if_pos ?_)))
  · simp [hr, hv, hfree]
  · rw [hq, Bool.not_false]

theorem memAlloc_local (hq : s.quotaRoom 0 n.toNat = true) {t : State} (ht : s.createLocal (va.toNat / pageBytes) n.toNat flags = some t) :
    Replies (.memAlloc h va n 0 flags m host room known) s t h 0 := by
  refine replies_of_starts hs rfl rfl rfl ((if_neg ?_).trans ((if_pos rfl).trans ((if_neg ?_).trans ?_)))
  · simp [hr, hv, hfree]
  · simp [hq]
  · rw [ht]
    rfl

variable {m}

theorem memAlloc_pool (hm : m.toNat < s.modCount) (hne : m.toNat ≠ s.modNo) (hq : s.quotaRoom 2 n.toNat = true) :
    Replies (.memAlloc h va n 1 flags m host true known) s (overPages (va.toNat / pageBytes) n.toNat
      (fun p s => s.createPage p (attrEntry .pool flags 0 m.toNat 0)) s) h 0 := by
  refine replies_of_starts hs rfl rfl rfl ((if_neg ?_).trans ((if_neg (by decide)).trans ((if_pos rfl).trans (if_neg ?_))))
  · simp [hr, hv, hfree, hm, hne]
  · simp [hq]

theorem memAlloc_host (hq : s.quotaRoom 3 n.toNat = true) (hp : n.toNat ≤ s.poolFree.length) :
    Replies (.memAlloc h va n 2 flags m 0 room known) s (s.createHost (va.toNat / pageBytes) (s.poolFree.take n.toNat) flags) h 0 := by
  refine replies_of_starts hs rfl rfl rfl ((if_neg ?_).trans ((if_neg (by decide)).trans ((if_neg (by decide)).trans ((if_neg ?_).trans ?_))))
  · simp [hr, hv, hfree]
  · simp [hq, hp]
  · rw [if_pos rfl]
    rfl

end

theorem State.takeFrame_next {s u : State} {v f : Nat} (h : s.takeFrame v = some (f, u)) : u = { s with freeCtr := s.freeCtr + 1 } := by
  unfold State.takeFrame at h
  split at h
  · cases h
    rfl
  · cases h

/-- A page whose directory entry stands here and that is not lent out: the three maps hold it, and the memory stays. -/
theorem State.createPage_here {s : State} {v : Nat} (hd : s.dirAt v = s.modNo) {x : XEntry} (hx : x.tier ≠ .pool) :
    mapFind (s.createPage v x).tier.xlate v = some x ∧ mapFind (s.createPage v x).tier.owners v = some s.modNo ∧
      (s.createPage v x).tier.hbm = s.tier.hbm := by
  unfold State.createPage State.storeDir
  dsimp only
  rw [if_neg hx, if_neg hx, if_pos hd]
  exact ⟨mapFind_mapPut_same .., mapFind_mapPut_same .., rfl⟩

theorem State.hbm_zeroFrame (s : State) (f : Nat) : (s.zeroFrame f).tier.hbm = s.tier.hbm.zero (f * pageBytes) pageBytes :=
  congrArg (fun a => s.tier.hbm.zero a pageBytes) (Nat.add_zero _)

/-- One new LOCAL page stands in the frame taken for it, which reads zero. -/
theorem State.createLocal_one {s u : State} {v f : Nat} (hf : s.takeFrame v = some (f, u)) (hd : s.dirAt v = s.modNo) (flags : Byte) :
    ∃ t, s.createLocal v 1 flags = some t ∧ mapFind t.tier.xlate v = some (attrEntry .local flags f 0 0) ∧
      mapFind t.tier.owners v = some s.modNo ∧ t.tier.hbm = s.tier.hbm.zero (f * pageBytes) pageBytes := by
  have hcreate : s.createLocal v 1 flags = some ((u.zeroFrame f).createPage v (attrEntry .local flags f 0 0)) := by
    rw [State.createLocal, hf]
    rfl
  obtain rfl := State.takeFrame_next hf
  obtain ⟨hx, ho, hmem⟩ := State.createPage_here (s := State.zeroFrame { s with freeCtr := s.freeCtr + 1 } f) hd
    (x := attrEntry .local flags f 0 0) (by simp [attrEntry])
  exact ⟨_, hcreate, hx, ho, hmem.trans (State.hbm_zeroFrame _ f)⟩

/-! ## MEM_FREE, MEM_ATTR, MEM_QUERY (R236, R264) -/

section
variable {s : State} {h : PktHdr} {va n : W64} {known : List (BitVec 36)} {ok : Bool}
  (hok : ok = (rangeOk va.toNat n.toNat && pagesAll (va.toNat / pageBytes) n.toNat (s.pageMapped (known.map BitVec.toNat))))
include hok

/-- What MEM_FREE and MEM_ATTR refuse. -/
theorem memRange_refuses : (!rangeOk va.toNat n.toNat ||
    !pagesAll (va.toNat / pageBytes) n.toNat (s.pageMapped (known.map BitVec.toNat))) = !ok := by
  rw [hok, Bool.not_and]

theorem memFree_invalid (hs : Starts s 0x0402 h) (hno : ok = false) : Replies (.memFree h va n known) s s h 0x15 :=
  replies_of_starts hs rfl rfl rfl (if_pos (by rw [memRange_refuses hok, hno, Bool.not_false]))

theorem memFree_latches (hs : Starts s 0x0402 h) (hyes : ok = true) :
    Replies (.memFree h va n known) s (s.latch (.memFree (va.toNat / pageBytes) n.toNat)) h 0 s.tickFor :=
  replies_of_starts hs rfl rfl rfl (if_neg (by rw [memRange_refuses hok, hyes]; simp))

theorem memAttr_invalid (hs : Starts s 0x0403 h) (f : Byte) (hno : ok = false) : Replies (.memAttr h va n f known) s s h 0x15 :=
  replies_of_starts hs rfl rfl rfl (if_pos (by rw [memRange_refuses hok, hno, Bool.not_false]))

theorem memAttr_latches (hs : Starts s 0x0403 h) (f : Byte) (hyes : ok = true) :
    Replies (.memAttr h va n f known) s (s.latch (.memAttr (va.toNat / pageBytes) n.toNat (f.getLsbD 0) (f.getLsbD 1) (f.getLsbD 2)
      (f.getLsbD 3))) h 0 s.tickFor :=
  replies_of_starts hs rfl rfl rfl (if_neg (by rw [memRange_refuses hok, hyes]; simp))

end

section
variable {s : State} {h : PktHdr}

theorem memQuery_here (hs : Starts s 0x0404 h) {va : W64} (remote : Option DEntry) {e : XEntry} {d : DEntry} (hva : va.toNat < 2 ^ 52)
    (hv : va.toNat / pageBytes ≠ 0) (hx : mapFind s.tier.xlate (va.toNat / pageBytes) = some e)
    (hat : s.dirAt (va.toNat / pageBytes) = s.modNo) (hd : mapFind s.tier.dir (va.toNat / pageBytes) = some d) :
    Replies (.memQuery h va remote) s s h 0 e.toNat (d.toNat (va.toNat / pageBytes) % 2 ^ 64)
      (d.toNat (va.toNat / pageBytes) / 2 ^ 64) := by
  refine replies_of_starts hs rfl rfl rfl ((if_neg (Nat.not_le_of_lt hva)).trans ((if_neg hv).trans ?_))
  simp only [hx, if_pos hat, hd]
  rfl

/-! ## QUOTA_SET, TIER_CONFIG (R244, R263, R512) -/

theorem quotaSet_invalid (hs : Starts s 0x0405 h) {c : Byte} {l : W32} (hbad : 4 < c.toNat ∨ 2 ^ 31 ≤ l.toNat) :
    Replies (.quotaSet h c l) s s h 0x15 :=
  replies_of_starts hs rfl rfl rfl (if_pos (by
    rw [Bool.or_eq_true, Bool.or_eq_true, decide_eq_true_eq, decide_eq_true_eq]
    exact Or.inl hbad))

theorem quotaSet_latches (hs : Starts s 0x0405 h) {c : Byte} {l : W32} (hc : c.toNat ≤ 4) (hl : l.toNat ≤ 10354688) :
    Replies (.quotaSet h c l) s (s.latch (.quota c.toNat l.toNat)) h (if l.toNat < s.quotaUse c.toNat then 3 else 0) s.tickFor := by
  refine replies_of_starts hs rfl rfl rfl (if_neg ?_)
  have hclass : decide (4 < c.toNat) = false := decide_eq_false (by omega)
  have hword : decide (2 ^ 31 ≤ l.toNat) = false := decide_eq_false (by omega)
  have hframes : decide (10354688 < l.toNat) = false := decide_eq_false (by omega)
  rw [hclass, hword, hframes, Bool.and_false]
  decide

theorem tierConfig_latches (hs : Starts s 0x0406 h) {w base : W64} (targets : BitVec 128) (pages : W64) (hpool : s.poolUsed = [])
    (hbase : base.toNat % pageBytes = 0) (hw : w.toNat % 16 ≤ 10) : Replies (.tierConfig h w 0 targets base pages) s
      ((s.latch (.tierHeat (field w.toNat 63 48) (field w.toNat 47 32) (field w.toNat 31 16) (field w.toNat 11 8)
        (field w.toNat 3 0))).latch (.targets [] base.toNat pages.toNat)) h 0 s.tickFor := by
  refine replies_of_starts hs rfl rfl rfl (if_neg ?_)
  simp [hpool, hbase, hw]

end

/-! ## TABLE_CREATE (R366, R367) -/

section
variable {s : State} {h : PktHdr} (hs : Starts s 0x0301 h) (ho : s.hostInOpen = true) {a : W64} {t : Table}
  (ht : t = Table.fresh (s.hostMem.readBytes a.toNat 128))
include hs ho ht

theorem tableCreate_invalid (hf : t.fieldsOk = false) : Replies (.tableCreate h a) s (s.chargeIn 128) h 0x15 := by
  subst ht
  exact replies_of_starts hs rfl rfl rfl ((if_neg (by simp [ho])).trans (if_pos (by simp [hf])))

variable (hf : t.fieldsOk = true) (hc : (s.chargeIn 128).componentsOk t = true) (ha : (s.chargeIn 128).areasOk t = true)
include hf hc ha

theorem tableCreate_creates (hn : (s.chargeIn 128).table (t.nat 0 2) = none) :
    Replies (.tableCreate h a) s ((s.chargeIn 128).putTable (t.nat 0 2) t) h 0 := by
  subst ht
  exact replies_of_starts hs rfl rfl rfl ((if_neg (by simp [ho])).trans ((if_neg (by simp [hf, hc, ha])).trans (if_neg (by simp [hn]))))

theorem tableCreate_busy (hn : ((s.chargeIn 128).table (t.nat 0 2)).isSome = true) :
    Replies (.tableCreate h a) s (s.chargeIn 128) h 0x14 := by
  subst ht
  exact replies_of_starts hs rfl rfl rfl ((if_neg (by simp [ho])).trans ((if_neg (by simp [hf, hc, ha])).trans (if_pos hn)))

end

/-! ## TABLE_PUBLISH, TABLE_DESTROY, TABLE_QUERY (R368 to R370, R383, R391) -/

/-- Where its conditions hold, a publication with AT 0 meets no refusal (R368 to R370). -/
theorem publish_allowed {s : State} {t : Table} (hd : t.destroy = none) {v : W32} {b p : W64} {known : List (Nat × DEntry)}
    (hv : ∀ x ∈ t.versions, x.2.version < v.toNat) (htr : t.trained = false) (hb : b.toNat % pageBytes = 0) (hlt : b.toNat < 2 ^ 52)
    (hb0 : b ≠ 0) (hp : pagesAll (b.toNat / pageBytes) p.toNat (s.versionPageOk t known) = true) :
    ¬ (t.destroy.isSome || t.versions.any (fun x => decide (v.toNat ≤ x.2.version)) || (t.trained && !t.versions.isEmpty) ||
      b.toNat % pageBytes != 0 || decide (2 ^ 52 ≤ b.toNat) || b.toNat / pageBytes == 0 ||
      !pagesAll (b.toNat / pageBytes) p.toNat (s.versionPageOk t known) ||
      ((0 : W64).toNat % 2 ^ 48 != 0 && decide ((0 : W64).toNat % 2 ^ 48 ≤ s.tickFor))) = true := by
  have hnew : t.versions.any (fun x => decide (v.toNat ≤ x.2.version)) = false := by
    rw [List.any_eq_false]
    intro x hx
    simpa using hv x hx
  have hpage : (b.toNat / pageBytes == 0) = false := by
    rw [beq_eq_false_iff_ne]
    intro h0
    have hdiv := Nat.div_add_mod b.toNat pageBytes
    rw [h0, hb] at hdiv
    exact hb0 (BitVec.eq_of_toNat_eq hdiv.symm)
  simpa [hd, hnew, htr, hb, hpage, hp] using hlt

section
variable {s : State} {h : PktHdr} {tn : BitVec 16}

section
variable (hn : s.table tn.toNat = none)
include hn

theorem tablePublish_absent (hs : Starts s 0x0302 h) (f : Byte) (v : W32) (b p a : W64) (k : List (BitVec 36 × DEntry)) :
    Replies (.tablePublish h tn f v b p a k) s s h 0x15 :=
  replies_of_starts hs rfl rfl rfl (by rw [hn]; rfl)

theorem tableDestroy_absent (hs : Starts s 0x0303 h) : Replies (.tableDestroy h tn) s s h 0x15 :=
  replies_of_starts hs rfl rfl rfl (by rw [hn]; rfl)

theorem tableQuery_absent (hs : Starts s 0x0304 h) (a : W64) (n : W32) : Replies (.tableQuery h tn a n) s s h 0x15 :=
  replies_of_starts hs rfl rfl rfl (by rw [hn]; rfl)

end

variable {t : Table} (ht : s.table tn.toNat = some t)
include ht

section
variable (hd : t.destroy = none) (hs : Starts s 0x0302 h) (f : Byte) {v : W32} {b p : W64} {k : List (BitVec 36 × DEntry)}
  (hv : ∀ x ∈ t.versions, x.2.version < v.toNat) (htr : t.trained = false) (hb : b.toNat % pageBytes = 0) (hlt : b.toNat < 2 ^ 52)
  (hb0 : b ≠ 0) (hp : pagesAll (b.toNat / pageBytes) p.toNat (s.versionPageOk t (k.map fun e => (e.1.toNat, e.2))) = true)
include hd hs hv htr hb hlt hb0 hp

theorem tablePublish_publishes {r : Nat} (hr : t.freeRecord = some r) : Replies (.tablePublish h tn f v b p 0 k) s (s.putTable tn.toNat
    { t with versions := mapPut t.versions r ⟨v.toNat, .pending, f.getLsbD 0, b.toNat, s.tickFor, p.toNat⟩ }) h 0 s.tickFor := by
  refine replies_of_starts hs rfl rfl rfl ?_
  simp only [ht, hr]
  exact if_neg (publish_allowed hd hv htr hb hlt hb0 hp)

theorem tablePublish_full (hr : t.freeRecord = none) : Replies (.tablePublish h tn f v b p 0 k) s s h 0x14 := by
  refine replies_of_starts hs rfl rfl rfl ?_
  simp only [ht, hr]
  exact if_neg (publish_allowed hd hv htr hb hlt hb0 hp)

end

theorem tableDestroy_latches (hd : t.destroy = none) (hs : Starts s 0x0303 h) :
    Replies (.tableDestroy h tn) s (s.putTable tn.toNat { t with destroy := some s.tickFor }) h 0 s.tickFor := by
  refine replies_of_starts hs rfl rfl rfl ?_
  simp only [ht, hd]
  rfl

theorem tableQuery_writes (hs : Starts s 0x0304 h) (ho : s.hostOutOpen = true) (a : W64) {n : W32} {b : List Byte}
    (hb : b = (s.tableImage tn.toNat t).take n.toNat) :
    Replies (.tableQuery h tn a n) s ((s.chargeOut b.length).hostWrite a.toNat b) h 0 b.length := by
  subst hb
  refine replies_of_starts hs rfl rfl rfl ?_
  simp only [ht]
  exact if_neg (by simp [ho])

end

/-! ## SMITHY_CONFIG, GRANARY_CONFIG (R346, R351) -/

/-- The covered and the staging range are ones that R351 allows, outside a parity group. -/
structure State.SmithyFits (s : State) (m : SmithyCfg) : Prop where
  noGroup : s.fab.parity = none
  cov : m.cov % pageBytes = 0
  stage : m.stage % pageBytes = 0
  holds : m.covPages ≤ m.stagePages
  apart : m.cov + m.covPages * pageBytes ≤ m.stage
  covPin : s.pagesPin m.cov m.covPages = true
  stagePin : s.pagesPin m.stage m.stagePages = true

section
variable {s : State} {h : PktHdr} (hs : Starts s 0x0410 h) {c cp st sp : W64} (hu : s.unitOn 2 = true)
  (hfit : s.SmithyFits ⟨c.toNat, cp.toNat, st.toNat, sp.toNat⟩)
include hs hu hfit

/-- Ranges that R351 allows leave the commit in progress as the only refusal. -/
theorem smithyConfig_decides {t : State} {code r0 : Nat} (ht : (if s.commitBusy = true then s.reply h stBusy
      else State.reply { s with smithy := if s.heldInStep = true
        then { s.smithy with cfg := some ⟨c.toNat, cp.toNat, st.toNat, sp.toNat⟩, next := none }
        else { s.smithy with next := some ⟨c.toNat, cp.toNat, st.toNat, sp.toNat⟩ } } h stOk s.stepInEffect) = t.reply h code r0) :
    Replies (.smithyConfig h c cp st sp) s t h code r0 := by
  obtain ⟨hp, hc, hst, hle, hapart, hpc, hps⟩ := hfit
  dsimp only at hc hst hle hapart hpc hps
  have hclash : decide (st.toNat < c.toNat + cp.toNat * pageBytes) = false := decide_eq_false (Nat.not_lt.2 hapart)
  refine replies_of_starts hs rfl rfl (State.unitOff_of_on rfl hu) (Eq.trans ?_ ht)
  simp only [hp]
  exact if_neg (by simp [hc, hst, hle, hclash, hpc, hps])

theorem smithyConfig_busy (hb : s.commitBusy = true) : Replies (.smithyConfig h c cp st sp) s s h 0x14 :=
  smithyConfig_decides hs hu hfit (if_pos hb)

theorem smithyConfig_next (hb : s.commitBusy = false) (hh : s.heldInStep = false) : Replies (.smithyConfig h c cp st sp) s
    { s with smithy := { s.smithy with next := some ⟨c.toNat, cp.toNat, st.toNat, sp.toNat⟩ } } h 0 s.stepInEffect :=
  smithyConfig_decides hs hu hfit ((if_neg (by simp [hb])).trans (by rw [if_neg (by simp [hh])]; rfl))

theorem smithyConfig_atOnce (hb : s.commitBusy = false) (hh : s.heldInStep = true) : Replies (.smithyConfig h c cp st sp) s
    { s with smithy := { s.smithy with cfg := some ⟨c.toNat, cp.toNat, st.toNat, sp.toNat⟩, next := none } } h 0 s.stepInEffect :=
  smithyConfig_decides hs hu hfit ((if_neg (by simp [hb])).trans (by rw [if_pos hh]; rfl))

end

section
variable {s : State} {h : PktHdr}

section
variable (hs : Starts s 0x0411 h) {b n : W64} (hu : s.unitOn 3 = true)
include hs hu

theorem granaryConfig_invalid (hb : b.toNat % 64 ≠ 0) : Replies (.granaryConfig h b n) s s h 0x15 :=
  replies_of_starts hs rfl rfl (State.unitOff_of_on rfl hu) (if_pos (by simp [hb]))

theorem granaryConfig_takes (hb : b.toNat % 64 = 0) (hlow : pageBytes ≤ b.toNat) (hend : b.toNat + n.toNat ≤ 2 ^ 52) :
    Replies (.granaryConfig h b n) s { s with granary := if s.heldInStep = true
      then { s.granary with spill := (b.toNat, n.toNat), next := none, cursor := 0 }
      else { s.granary with next := some (b.toNat, n.toNat) } } h 0 s.stepInEffect := by
  have hfirst : decide (b.toNat < pageBytes) = false := decide_eq_false (Nat.not_lt.2 hlow)
  have hlast : decide (2 ^ 52 < b.toNat + n.toNat) = false := decide_eq_false (Nat.not_lt.2 hend)
  exact replies_of_starts hs rfl rfl (State.unitOff_of_on rfl hu) (if_neg (by rw [hb, hfirst, hlast, Bool.and_false]; decide))

end

/-! ## FAB_STATUS, FAB_LEAVE, FAB_JOIN (R304, R489, R490) -/

/-- The registers that FAB_STATUS reports, the ports' first (Table 14-11). -/
def fabRegs : List Nat :=
  ((List.range 6).map fun p => 0x100000 + 16 * p) ++ ((List.range 6).map fun p => 0x100008 + 16 * p) ++
    ((List.range 3).map fun d => 0x100080 + 8 * d) ++ [0x1000A0]

/-- What FAB_STATUS writes. -/
def State.fabImage (s : State) : List Byte := fabRegs.flatMap fun o => bytesOfNat 8 (s.readReg o)

theorem length_regs_bytes (f : Nat → Nat) (l : List Nat) : (l.flatMap fun o => bytesOfNat 8 (f o)).length = 8 * l.length := by
  induction l with
  | nil => rfl
  | cons o l ih => rw [List.flatMap_cons, List.length_append, length_bytesOfNat, ih, List.length_cons]; omega

/-- The register in the place `p` of a list of registers. -/
theorem drop_take_regs (f : Nat → Nat) {l : List Nat} {p o : Nat} (h : l[p]? = some o) :
    ((l.flatMap fun o => bytesOfNat 8 (f o)).drop (8 * p)).take 8 = bytesOfNat 8 (f o) := by
  obtain ⟨hp, rfl⟩ := List.getElem?_eq_some_iff.1 h
  have hlen : ((l.take p).flatMap fun o => bytesOfNat 8 (f o)).length = 8 * p := by
    rw [length_regs_bytes, List.length_take, Nat.min_eq_left hp.le]
  have hfrom : (l.drop p).flatMap (fun o => bytesOfNat 8 (f o)) =
      bytesOfNat 8 (f l[p]) ++ (l.drop (p + 1)).flatMap fun o => bytesOfNat 8 (f o) := by
    rw [List.drop_eq_getElem_cons hp, List.flatMap_cons]
  have hsplit : (l.flatMap fun o => bytesOfNat 8 (f o)) =
      ((l.take p).flatMap fun o => bytesOfNat 8 (f o)) ++ (l.drop p).flatMap fun o => bytesOfNat 8 (f o) := by
    rw [← List.flatMap_append, List.take_append_drop]
  rw [hsplit, hfrom, List.drop_left' hlen, List.take_left' (length_bytesOfNat 8 _)]

theorem fabRegs_port {p : Nat} (hp : p < 6) : fabRegs[p]? = some (0x100000 + 16 * p) := by
  have hports : ∀ p < 6, fabRegs[p]? = some (0x100000 + 16 * p) := by decide
  exact hports p hp

theorem State.length_fabImage (s : State) : s.fabImage.length = 128 := length_regs_bytes s.readReg fabRegs

theorem fabStatus_nowhere (hs : Starts s 0x0501 h) (hr : h.raddr = 0) : Replies (.fabStatus h) s s h 0x15 :=
  replies_of_starts hs rfl rfl rfl (State.replyLong_nowhere hr _ _)

theorem fabStatus_writes (hs : Starts s 0x0501 h) (hr : h.raddr ≠ 0) (ho : s.hostOutOpen = true) : ∃ r0 r1 r2, Replies (.fabStatus h) s
    ((s.chargeOut 128).hostWrite h.raddr.toNat s.fabImage) h s.fabricOk r0 r1 r2 := by
  have hlong := State.replyLong_open hr ho s.fabricOk s.fabImage
  rw [s.length_fabImage] at hlong
  exact ⟨_, _, _, replies_of_starts hs rfl rfl rfl hlong⟩

section
variable {b : W64}

theorem fabLeave_early (hb : b.toNat < s.run.step + 2) (hs : Starts s 0x0502 h) : Replies (.fabLeave h b) s s h 0x15 :=
  replies_of_starts hs rfl rfl rfl (if_pos hb)

theorem fabJoin_early (hb : b.toNat < s.run.step + 2) (hs : Starts s 0x0503 h) : Replies (.fabJoin h b) s s h 0x15 :=
  replies_of_starts hs rfl rfl rfl (if_pos hb)

variable (hb : s.run.step + 2 ≤ b.toNat)
include hb

theorem fabLeave_arranges (hs : Starts s 0x0502 h) :
    Replies (.fabLeave h b) s { s with fab := { s.fab with leave := some b.toNat } } h s.fabricOk :=
  replies_of_starts hs rfl rfl rfl (if_neg (Nat.not_lt.2 hb))

theorem fabJoin_busy (hs : Starts s 0x0503 h) (hp : s.fab.join.isSome = true ∨ s.fab.leave.isSome = true) :
    Replies (.fabJoin h b) s s h 0x14 :=
  replies_of_starts hs rfl rfl rfl ((if_neg (Nat.not_lt.2 hb)).trans (if_pos (by simpa using hp)))

theorem fabJoin_asks (hs : Starts s 0x0503 h) (hj : s.fab.join = none) (hl : s.fab.leave = none) :
    Replies (.fabJoin h b) s { s with fab := { s.fab with join := some b.toNat } } h s.fabricOk :=
  replies_of_starts hs rfl rfl rfl ((if_neg (Nat.not_lt.2 hb)).trans (if_neg (by simp [hj, hl])))

end
end

/-! ## PARITY_CONFIG (R298) -/

/-- A group, its protected range and its buffers are ones that R298 allows. -/
structure State.ParityFits (s : State) (c : ParityCfg) : Prop where
  two : 2 ≤ c.g
  eight : c.g ≤ 8
  noRest : s.position.shapeX % c.g ≠ 1
  base : c.base % pageBytes = 0
  buf0 : c.buf0 % pageBytes = 0
  buf1 : c.buf1 % pageBytes = 0
  pages : c.pages ≤ c.dmax
  room : c.dmax ≤ c.bufPages * (s.groupOf c.g - 1)
  basePin : s.pagesPin c.base c.pages = true
  pin0 : s.pagesPin c.buf0 c.bufPages = true
  pin1 : s.pagesPin c.buf1 c.bufPages = true

section
variable {s : State} {h : PktHdr} (hs : Starts s 0x0504 h) {g : Byte} {dmax d p : W32} {bd base b0 b1 : W64} (hu : s.unitOn 4 = true)
include hs hu

theorem parityConfig_invalid (hbad : g.toNat < 2 ∨ 8 < g.toNat ∨ s.position.shapeX % g.toNat = 1 ∨ dmax.toNat < d.toNat) :
    Replies (.parityConfig h g dmax bd base d p b0 b1) s s h 0x15 := by
  refine replies_of_starts hs rfl rfl (State.unitOff_of_on rfl hu) (if_pos ?_)
  obtain hbad | hbad | hbad | hbad := hbad <;> simp [hbad]

variable {c : ParityCfg} (hc : c = ⟨g.toNat, base.toNat, d.toNat, b0.toNat, b1.toNat, p.toNat, dmax.toNat⟩) (hfit : s.ParityFits c)
  (hbd : s.openStep ≤ bd.toNat)
include hc hfit hbd

/-- A configuration that R298 allows leaves the commit in progress as the only refusal. -/
theorem parityConfig_decides {t : State} {code : Nat} (ht : (if s.commitBusy = true then s.reply h stBusy
      else State.reply { s with fab := { s.fab with parityPending := some (bd.toNat, c) } } h s.fabricOk) = t.reply h code) :
    Replies (.parityConfig h g dmax bd base d p b0 b1) s t h code := by
  subst hc
  obtain ⟨hg2, hg8, hx, hbase, hb0, hb1, hd, hroom, hpin, hpin0, hpin1⟩ := hfit
  dsimp only at hg2 hg8 hx hbase hb0 hb1 hd hroom hpin hpin0 hpin1
  refine replies_of_starts hs rfl rfl (State.unitOff_of_on rfl hu) (Eq.trans (if_neg ?_) ht)
  simp [Nat.not_lt.2 hg2, Nat.not_lt.2 hg8, hx, hbase, hb0, hb1, hd, hroom, hpin, hpin0, hpin1, hbd]

theorem parityConfig_busy (hb : s.commitBusy = true) : Replies (.parityConfig h g dmax bd base d p b0 b1) s s h 0x14 :=
  parityConfig_decides hs hu hc hfit hbd (if_pos hb)

theorem parityConfig_waits (hb : s.commitBusy = false) : Replies (.parityConfig h g dmax bd base d p b0 b1) s
    { s with fab := { s.fab with parityPending := some (bd.toNat, c) } } h s.fabricOk :=
  parityConfig_decides hs hu hc hfit hbd (if_neg (by simp [hb]))

end

/-! ## The obligation -/

/-- Settles O56: each clause is the law above of the command and the outcome that it is about. -/
theorem memoryTableAndFabricCommands : Obligations.MemoryTableAndFabricCommands := by
  unfold Obligations.MemoryTableAndFabricCommands
  intro s h
  refine ⟨fun hs va n tier flags m host room known => ?alloc, fun v flags f u hf hd => State.createLocal_one hf hd flags,
    fun va n known ok hok => ?range, fun hs va remote e d v hv hva h0 hx hat hd => ?query, fun hs c l => ?quota,
    fun hs w targets base pages hpool hbase hw => tierConfig_latches hs targets pages hpool hbase hw, fun hs ho a t ht => ?create,
    fun tn hn => ?absent, fun tn t ht hd => ?table, fun hs c cp st sp => ?smithy, fun hs b n => ?granary, fun hs => ?status,
    fun b => ?boundary, fun hs g dmax bd base d p b0 b1 => ?parity⟩
  case alloc =>
    refine ⟨memAlloc_invalid hs flags m, fun hr hv hfree => ⟨fun ht hq => ?_, fun t ht hq hc => ?_, fun ht hm hne hq hroom => ?_,
      fun ht hh hq hp => ?_⟩⟩
    · subst ht
      exact memAlloc_localFull hs flags m hr hv hfree hq
    · subst ht
      exact memAlloc_local hs flags m hr hv hfree hq hc
    · subst ht hroom
      exact memAlloc_pool hs flags hr hv hfree hm hne hq
    · subst ht hh
      exact memAlloc_host hs flags hr hv hfree hq hp
  case range =>
    exact ⟨fun hs => ⟨memFree_invalid hok hs, memFree_latches hok hs⟩, fun hs f => ⟨memAttr_invalid hok hs f, memAttr_latches hok hs f⟩⟩
  case query =>
    subst hv
    exact memQuery_here hs remote hva h0 hx hat hd
  case quota => exact ⟨quotaSet_invalid hs, quotaSet_latches hs⟩
  case create =>
    exact ⟨tableCreate_invalid hs ho ht, fun hf hc ha => ⟨tableCreate_creates hs ho ht hf hc ha, tableCreate_busy hs ho ht hf hc ha⟩⟩
  case absent => exact ⟨tablePublish_absent hn, tableDestroy_absent hn, tableQuery_absent hn⟩
  case table =>
    refine ⟨fun hs f v b p k hv htr hb hlt hb0 hp => ⟨fun r vs hr hvs => ?_, tablePublish_full ht hd hs f hv htr hb hlt hb0 hp⟩,
      tableDestroy_latches ht hd, fun hs ho a n b hb => tableQuery_writes ht hs ho a hb⟩
    subst hvs
    exact tablePublish_publishes ht hd hs f hv htr hb hlt hb0 hp hr
  case smithy =>
    refine ⟨replies_unitOff hs rfl rfl rfl, fun hu hp hc hst hle hapart hpc hps => ?_⟩
    have hfit : s.SmithyFits ⟨c.toNat, cp.toNat, st.toNat, sp.toNat⟩ := ⟨hp, hc, hst, hle, hapart, hpc, hps⟩
    exact ⟨smithyConfig_busy hs hu hfit, smithyConfig_next hs hu hfit, smithyConfig_atOnce hs hu hfit⟩
  case granary => exact ⟨replies_unitOff hs rfl rfl rfl, granaryConfig_invalid hs, granaryConfig_takes hs⟩
  case status =>
    exact ⟨fabStatus_nowhere hs, fun hr ho => ⟨_, s.fabImage, fabStatus_writes hs hr ho, rfl, s.length_fabImage,
      fun p hp => drop_take_regs s.readReg (fabRegs_port hp)⟩⟩
  case boundary =>
    refine ⟨fun hb => ⟨fabLeave_early hb, fabJoin_early hb⟩, fun hb => ⟨fun hs u hu => ?_, fabJoin_busy hb, fun hs hj hl u hu => ?_⟩⟩
    · subst hu
      exact fabLeave_arranges hb hs
    · subst hu
      exact fabJoin_asks hb hs hj hl
  case parity =>
    refine ⟨replies_unitOff hs rfl rfl rfl, parityConfig_invalid hs,
      fun hu hg2 hg8 hx hbase hb0 hb1 hd hroom hpin hpin0 hpin1 hbd => ?_⟩
    have hfit : s.ParityFits ⟨g.toNat, base.toNat, d.toNat, b0.toNat, b1.toNat, p.toNat, dmax.toNat⟩ :=
      ⟨hg2, hg8, hx, hbase, hb0, hb1, hd, hroom, hpin, hpin0, hpin1⟩
    refine ⟨parityConfig_busy hs hu rfl hfit hbd, fun hb u hu' => ?_⟩
    subst hu'
    exact parityConfig_waits hs hu rfl hfit hbd hb

end Sys2Proof.Machine
end

section
/-! SUPPORT. The MARK that a port sends once a frame (Table 09-6, R281, R283). -/

namespace Sys2Proof.Machine

theorem exec_markSend (p : Port) (count : W32) (s : State) :
    exec (.markSend p count) s = .next (s.settle (markSend p count.toNat s)) := rfl

/-! ## When it goes out (R281, R283) -/

section
variable {s : State} {p : Port} {x : PortReg} (hx : mapFind s.fab.ports p.val = some x)
include hx

theorem markSend_sends (hup : x.state = .up) (hb : x.bypass = false) (hs : p.val ∉ s.bel.sent) (hc : s.bel.cycle ≤ 256) (count : Nat) :
    markSend p count s = { s with
      bel := { s.bel with sent := s.bel.sent ++ [p.val] }, outbox := s.outbox ++ [Msg.mark p.val (s.markBlock p.val count)] } := by
  unfold markSend
  rw [hx]
  exact if_pos ⟨hup, hb, by simpa using hs, hc⟩

theorem markSend_silent (h : x.bypass = true ∨ x.state ≠ .up ∨ p.val ∈ s.bel.sent ∨ 256 < s.bel.cycle) (count : Nat) :
    markSend p count s = s := by
  unfold markSend
  rw [hx]
  refine if_neg ?_
  rintro ⟨hup, hb, hs, hc⟩
  rcases h with h | h | h | h
  · exact absurd (hb.symm.trans h) Bool.false_ne_true
  · exact h hup
  · simp [h] at hs
  · exact Nat.not_le.2 h hc

end

/-! ## Its block (Table 09-6) -/

/-- A block that ends in its own CRC reads it back there. -/
theorem blkNat_crc {body : List Byte} {k : Nat} (h : body.length = k) :
    blkNat (body ++ bytesOfNat 4 (crc32c body)) k 4 = crc32c ((body ++ bytesOfNat 4 (crc32c body)).take k) := by
  rw [List.take_left' h]
  refine (blkNat_behind h _ 0 4).trans ?_
  rw [← List.append_nil (bytesOfNat 4 _), blkNat_head, Nat.mod_eq_of_lt (show _ < 256 ^ 4 from crc32c_lt body)]

/-- The fields of a mark in their places: kind 1, the flags with the pace as bit 0, the root, IN, FRAME_NO; 14 bytes more, then the CRC. -/
theorem State.markBlock_layout (s : State) (port count : Nat) : ∃ body : List Byte,
    s.markBlock port count = body ++ bytesOfNat 4 (crc32c body) ∧ ∃ (flags root inn : Nat) (rest : List Byte), body =
      bytesOfNat 1 1 ++ (bytesOfNat 1 (bnat s.bel.half + 2 * flags) ++ (bytesOfNat 2 root ++ (bytesOfNat 1 inn ++
        (bytesOfNat 3 0 ++ (bytesOfNat 6 s.bel.frame ++ rest))))) ∧ rest.length = 14 := by
  have hflags : ∀ a b c d : Nat, a + 2 * b + 4 * c + 8 * d = a + 2 * (b + 2 * c + 4 * d) := by intros; omega
  refine ⟨_, rfl, ?_⟩
  rw [hflags]
  simp only [List.append_assoc]
  exact ⟨_, _, _, _, rfl, by simp only [List.length_append, length_bytesOfNat]⟩

section
variable {flags root inn frame : Nat} {half : Bool} {rest body : List Byte}
  (hbody : body = bytesOfNat 1 1 ++ (bytesOfNat 1 (bnat half + 2 * flags) ++ (bytesOfNat 2 root ++ (bytesOfNat 1 inn ++
    (bytesOfNat 3 0 ++ (bytesOfNat 6 frame ++ rest))))))
include hbody

theorem markGood_body (hrest : rest.length = 14) : markGood (body ++ bytesOfNat 4 (crc32c body)) = true := by
  have hlen : body.length = 28 := by simp only [hbody, List.length_append, length_bytesOfNat, hrest]
  have hall : (body ++ bytesOfNat 4 (crc32c body)).length = 32 := by rw [List.length_append, hlen, length_bytesOfNat]
  have hkind : markNat (body ++ bytesOfNat 4 (crc32c body)) 0 1 = 1 := by
    rw [hbody, List.append_assoc]
    exact blkNat_head 1 1 _
  have hcrc : markNat (body ++ bytesOfNat 4 (crc32c body)) 28 4 = crc32c ((body ++ bytesOfNat 4 (crc32c body)).take 28) :=
    blkNat_crc hlen
  simp only [markGood, hall, hkind, hcrc, BEq.rfl, Bool.and_self]

theorem markNat_frame (hf : frame < 2 ^ 48) (tail : List Byte) : markNat (body ++ tail) 8 6 = frame := by
  simp only [hbody, List.append_assoc]
  change blkNat _ 8 6 = frame
  rw [blkNat_behind (length_bytesOfNat 1 _) _ 7, blkNat_behind (length_bytesOfNat 1 _) _ 6, blkNat_behind (length_bytesOfNat 2 _) _ 4,
    blkNat_behind (length_bytesOfNat 1 _) _ 3, blkNat_behind (length_bytesOfNat 3 _) _ 0, blkNat_head,
    Nat.mod_eq_of_lt (show frame < 256 ^ 6 from hf)]

theorem bit_markNat_pace (tail : List Byte) : bit (markNat (body ++ tail) 1 1) 0 = half := by
  have hflags : markNat (body ++ tail) 1 1 = (bnat half + 2 * flags) % 256 := by
    simp only [hbody, List.append_assoc]
    change blkNat _ 1 1 = _
    rw [blkNat_behind (length_bytesOfNat 1 _) _ 0, blkNat_head, pow_one]
  rw [hflags, bit, pow_zero, Nat.div_one, Nat.mod_mod_of_dvd _ (by decide), Nat.add_mul_mod_self_left]
  cases half <;> rfl

end

/-- Settles O36: the row by its condition, and the block by the places of its fields. -/
theorem markIsSentOncePerFrame : Obligations.MarkIsSentOncePerFrame := by
  intro s p x count hx
  rw [exec_markSend]
  refine ⟨fun hup hb hs hc => ?_, fun h => ?_, fun hf => ?_⟩
  · rw [markSend_sends hx hup hb hs hc]
  · rw [markSend_silent hx h]
  · obtain ⟨body, hblock, flags, root, inn, rest, hbody, hrest⟩ := s.markBlock_layout p.val count.toNat
    rw [hblock]
    exact ⟨markGood_body hbody hrest, markNat_frame hbody hf _, bit_markNat_pace hbody _⟩

end Sys2Proof.Machine
end

section
/-! SUPPORT. Cells and IDLE blocks that arrive, and what they acknowledge (R271, R272, R275, R279, R282; DESIGN CHOICE, log 148). -/

namespace Sys2Proof.Machine
open Sys2Proof.Claims

/-! ## The rows -/

theorem exec_cellReceive (n : Port) (b : List Byte) (fec : Byte × Byte) (s : State) :
    exec (.cellReceive n ⟨b, fec⟩) s = .next (s.settle (cellReceive n b (fec.1.toNat, fec.2.toNat) s)) := rfl

theorem exec_idleBlock (n : Port) (b : List Byte) (fec : Byte × Byte) (s : State) :
    exec (.idleBlock n ⟨b, fec⟩) s = .next (s.settle (idleBlock n b (fec.1.toNat, fec.2.toNat) s)) := rfl

/-! ## The replay buffer (R272) -/

/-- An acknowledgement frees the replay buffer up to the first cell of its number. -/
theorem PortReg.ackTo_covers {p : PortReg} {a r : List (Nat × List Byte)} {c : List Byte} {seq : Nat}
    (h : p.replay = a ++ (seq, c) :: r) (ha : ∀ x ∈ a, x.1 ≠ seq) : p.ackTo seq = { p with replay := r, resent := 0 } := by
  have hnone : a.findIdx? (fun c => c.1 == seq) = none := by simpa [List.findIdx?_eq_none_iff] using ha
  have hidx : p.replay.findIdx? (fun c => c.1 == seq) = some a.length := by simp [h, List.findIdx?_append, hnone, List.findIdx?_cons]
  have hdrop : p.replay.drop (a.length + 1) = r := by rw [h, List.drop_length_add_append]; rfl
  unfold PortReg.ackTo
  rw [hidx]
  dsimp only
  rw [hdrop]

theorem State.foldl_send_outbox {α : Type} (f : α → Msg) (l : List α) (s : State) :
    (l.foldl (fun s a => s.send (f a)) s).outbox = s.outbox ++ l.map f := by
  induction l generalizing s with
  | nil => simp
  | cons a t ih => rw [List.foldl_cons, ih, State.send_outbox, List.map_cons, List.append_assoc, List.singleton_append]

theorem State.resendCells_outbox (s : State) (n : Nat) :
    (s.resendCells n).outbox = s.outbox ++ (s.port n).replay.map fun c => Msg.cell n c.2 :=
  State.foldl_send_outbox _ _ s

/-! ## A keeper in BYPASS, and a port that does not serve (R282) -/

theorem opposite_eq (n : Nat) : opposite n = if n % 2 = 0 then n + 1 else n - 1 := by
  unfold opposite
  split <;> omega

section
variable {s : State} {n : Port} {b : List Byte} {fec : Nat × Nat}

theorem cellReceive_bypass (h : (s.port n.val).bypass = true) : cellReceive n b fec s = s.send (.cell (opposite n.val) b) := if_pos h

theorem idleBlock_bypass (h : (s.port n.val).bypass = true) : idleBlock n b fec s = s.send (.idle (opposite n.val) b) := if_pos h

theorem cellReceive_down (hb : (s.port n.val).bypass = false) (h : (s.port n.val).state ≠ .up) : cellReceive n b fec s = s :=
  (if_neg (ne_true_of_eq_false hb)).trans (if_pos h)

theorem idleBlock_down (hb : (s.port n.val).bypass = false) (h : (s.port n.val).state ≠ .up) : idleBlock n b fec s = s :=
  (if_neg (ne_true_of_eq_false hb)).trans (if_pos h)

end

/-! ## Cells (R272, R275) -/

theorem cellRefused_iff {b : List Byte} {p : PortReg} :
    (!cellGood b || blkNat b 8 2 % 4096 != p.nextRecv || decide (recvSlots ≤ p.recv.length)) = true ↔
      cellGood b = false ∨ cellSeq b ≠ p.nextRecv ∨ 455 ≤ p.recv.length := by
  simp only [Bool.or_eq_true, Bool.not_eq_true', bne_iff_ne, decide_eq_true_eq, or_assoc]
  rfl

section
variable {s : State} {n : Port} {b : List Byte} {fec : Nat × Nat} (hs : Serving s n.val)
include hs

theorem cellReceive_refuses (h : cellGood b = false ∨ cellSeq b ≠ (s.port n.val).nextRecv ∨ 455 ≤ (s.port n.val).recv.length) :
    cellReceive n b fec s =
      (s.setPort n.val ((s.port n.val).countFec fec)).sendIdle n.val true (s.port n.val).nextRecv [] := by
  obtain ⟨hup, hb⟩ := hs
  exact (if_neg (ne_true_of_eq_false hb)).trans ((if_neg (not_not_intro hup)).trans (if_pos (cellRefused_iff.2 h)))

variable (hg : cellGood b = true) (hseq : cellSeq b = (s.port n.val).nextRecv) (hroom : (s.port n.val).recv.length < 455)
include hg hseq hroom

/-- A good cell with the expected number that finds a slot leaves it at once, or waits in it. -/
theorem cellReceive_accepts {a : PortReg} (ha : a = accepted ((s.port n.val).countFec fec) b) : cellReceive n b fec s =
    if cellDest b = s.modNo ∧ s.bulkWaits (s.port n.val).recv b = false then
      ((s.setPort n.val a).sendIdle n.val false a.lastRecv [(cellVc b, 1)]).pushLinks
    else (s.setPort n.val { a with recv := a.recv ++ [b] }).pushLinks := by
  subst ha
  obtain ⟨hup, hb⟩ := hs
  refine (if_neg (ne_true_of_eq_false hb)).trans ((if_neg (not_not_intro hup)).trans (if_neg (mt cellRefused_iff.1 ?_)))
  rintro (h | h | h)
  · exact ne_true_of_eq_false h hg
  · exact h hseq
  · exact Nat.not_le.2 hroom h

theorem cellReceive_leaves (hd : cellDest b = s.modNo) (hw : s.bulkWaits (s.port n.val).recv b = false) {a : PortReg}
    (ha : a = accepted ((s.port n.val).countFec fec) b) :
    cellReceive n b fec s = ((s.setPort n.val a).sendIdle n.val false a.lastRecv [(cellVc b, 1)]).pushLinks :=
  (cellReceive_accepts hs hg hseq hroom ha).trans (if_pos ⟨hd, hw⟩)

theorem cellReceive_stays (h : cellDest b ≠ s.modNo ∨ s.bulkWaits (s.port n.val).recv b = true) {a : PortReg}
    (ha : a = accepted ((s.port n.val).countFec fec) b) :
    cellReceive n b fec s = (s.setPort n.val { a with recv := a.recv ++ [b] }).pushLinks :=
  (cellReceive_accepts hs hg hseq hroom ha).trans
    (if_neg fun ⟨hd, hw⟩ => h.elim (· hd) (ne_true_of_eq_false hw))

end

/-! ## IDLE blocks (R271, R272) -/

/-- A block that is not an IDLE block whose CRC holds. -/
def idleBad (b : List Byte) : Prop := b.length ≠ 32 ∨ blkNat b 0 1 ≠ 0 ∨ blkNat b 28 4 ≠ crc32c (b.take 28)

theorem not_idleBad {b : List Byte} (hl : b.length = 32) (hk : blkNat b 0 1 = 0) (hc : blkNat b 28 4 = crc32c (b.take 28)) :
    ¬ idleBad b := by
  rintro (h | h | h)
  · exact h hl
  · exact h hk
  · exact h hc

section
variable {s : State} {n : Port} {b : List Byte} {fec : Nat × Nat} (hs : Serving s n.val)
include hs

theorem idleBlock_bad (h : idleBad b) : idleBlock n b fec s = s.setPort n.val ((s.port n.val).countFec fec) := by
  obtain ⟨hup, hb⟩ := hs
  exact (if_neg (ne_true_of_eq_false hb)).trans ((if_neg (not_not_intro hup)).trans (if_pos h))

variable (hgood : ¬ idleBad b) {q : PortReg} (hq : q = ((s.port n.val).countFec fec).credit (creditsOf (blkNat b 4 8)))
include hgood hq

theorem idleBlock_acks (hnak : bit (blkNat b 1 1) 0 = false) :
    idleBlock n b fec s = (s.setPort n.val (q.ackTo (blkNat b 2 2 % 4096))).pushLinks := by
  subst hq
  obtain ⟨hup, hb⟩ := hs
  exact (if_neg (ne_true_of_eq_false hb)).trans ((if_neg (not_not_intro hup)).trans ((if_neg hgood).trans
    (if_neg (ne_true_of_eq_false hnak))))

/-- A NAK short of the sixteenth resend has what it does not acknowledge sent again. -/
theorem idleBlock_resends (hnak : bit (blkNat b 1 1) 0 = true) {r : PortReg}
    (hr : r = q.ackTo ((blkNat b 2 2 % 4096 + 4095) % 4096)) (hne : r.replay ≠ []) (h16 : r.resent < 15) :
    idleBlock n b fec s = ((s.setPort n.val { r with
      retry := min (r.retry + r.replay.length) (2 ^ 16 - 1), resent := r.resent + 1 }).resendCells n.val).pushLinks := by
  have hresent : (if r.replay.length = 0 then 0 else r.resent + 1) = r.resent + 1 := if_neg (mt List.length_eq_zero_iff.1 hne)
  rw [← hresent]
  subst hr hq
  obtain ⟨hup, hb⟩ := hs
  refine (if_neg (ne_true_of_eq_false hb)).trans ((if_neg (not_not_intro hup)).trans ((if_neg hgood).trans
    ((if_pos hnak).trans (if_neg ?_))))
  dsimp only
  omega

end

end Sys2Proof.Machine
end

section
/-! SUPPORT. Retraining, the end of training, and links that are lost (R270, R273, R277, R285, R288, R473; log 29). -/

namespace Sys2Proof.Machine
open Sys2Proof.Claims

/-! ## The rows -/

theorem exec_linkRetrain (n : Port) (failed : BitVec 4) (s : State) :
    exec (.linkRetrain n failed) s = .next (s.settle (linkRetrain n failed s)) := rfl

theorem exec_portTrainComplete (n : Port) (peer : Option W64) (s : State) :
    exec (.portTrainComplete n peer) s = .next (s.settle (portTrainComplete n peer s)) := rfl

theorem exec_linkLost (n : Port) (s : State) : exec (.linkLost n) s = .next (s.settle (linkLost n s)) := rfl

theorem exec_linkFailed (n : Port) (s : State) : exec (.linkFailed n) s = .next (s.settle (linkFailed n s)) := rfl

theorem exec_linkHard (ring : Fin 3) (s : State) : exec (.linkHard ring) s = .next (s.settle (linkHard ring s)) := rfl

/-! ## Retraining (R270) -/

/-- The lower lane pair has failed where bit 0 or 1 says so, the upper one where bit 2 or 3 does. -/
theorem lanePairs_failed : ∀ failed : BitVec 4, (failed.getLsbD 0 || failed.getLsbD 1) = decide (failed &&& 3 ≠ 0) ∧
    (failed.getLsbD 2 || failed.getLsbD 3) = decide (failed &&& 12 ≠ 0) := by decide

theorem lanePairs_good : ∀ failed : BitVec 4, failed &&& 3 = 0 → failed &&& 12 = 0 → failed = 0 := by decide

/-- A port that retrains: one retrain more, and the width of the lane pairs that are good. -/
def PortReg.retrained (p : PortReg) (failed : BitVec 4) : PortReg :=
  { p with
    retrains := satAdd 8 p.retrains 1, resent := 0,
    state := if failed &&& 3 ≠ 0 ∧ failed &&& 12 ≠ 0 then .down else .train,
    width := if failed &&& 3 ≠ 0 ∧ failed &&& 12 ≠ 0 then 0 else if failed &&& 3 ≠ 0 ∨ failed &&& 12 ≠ 0 then 2 else 4 }

theorem State.retrain_port (s : State) (n : Nat) (failed : BitVec 4) :
    (s.retrain n failed).port n = (s.port n).retrained failed := by
  obtain ⟨hlo, hhi⟩ := lanePairs_failed failed
  have hport : ∀ x, (raise cLinkRetrain 3 n 0 (s.setPort n x)).port n = x := fun x => by
    rw [State.port, raise_fab cLinkRetrain]
    exact s.port_setPort_same n x
  have hsend : ∀ (c : Prop) [Decidable c] (u : State), (if c then u.tellRing (n / 2) else u.sendTrain n).port n = u.port n := by
    intro c _ u
    split <;> rfl
  unfold State.retrain
  simp only [hlo, hhi, Bool.and_eq_true, Bool.or_eq_true, decide_eq_true_eq]
  exact (hsend _ _).trans (hport _)

section
variable (p : PortReg) {failed : BitVec 4}

theorem PortReg.retrained_full : (p.retrained 0).state = .train ∧ (p.retrained 0).width = 4 := ⟨rfl, rfl⟩

theorem PortReg.retrained_half (hf : failed ≠ 0) (h : failed &&& 3 = 0 ∨ failed &&& 12 = 0) :
    (p.retrained failed).state = .train ∧ (p.retrained failed).width = 2 := by
  have hboth : ¬ (failed &&& 3 ≠ 0 ∧ failed &&& 12 ≠ 0) := fun ⟨hlo, hhi⟩ => h.elim hlo hhi
  have hone : failed &&& 3 ≠ 0 ∨ failed &&& 12 ≠ 0 := by
    by_contra hno
    obtain ⟨hlo, hhi⟩ := not_or.1 hno
    exact hf (lanePairs_good failed (not_not.1 hlo) (not_not.1 hhi))
  exact ⟨if_neg hboth, (if_neg hboth).trans (if_pos hone)⟩

theorem PortReg.retrained_none (hlo : failed &&& 3 ≠ 0) (hhi : failed &&& 12 ≠ 0) :
    (p.retrained failed).state = .down ∧ (p.retrained failed).width = 0 := ⟨if_pos ⟨hlo, hhi⟩, if_pos ⟨hlo, hhi⟩⟩

end

theorem linkRetrain_retrains {s : State} {n : Port} (hu : (s.port n.val).state ≠ .unused) (hm : (s.port n.val).state ≠ .miswired)
    (hb : (s.port n.val).bypass = false) (failed : BitVec 4) : linkRetrain n failed s = s.retrain n.val failed :=
  if_neg fun h => h.elim hu fun h => h.elim hm (ne_true_of_eq_false hb)

theorem linkRetrain_stays {s : State} {n : Port}
    (h : (s.port n.val).state = .unused ∨ (s.port n.val).state = .miswired ∨ (s.port n.val).bypass = true) (failed : BitVec 4) :
    linkRetrain n failed s = s := if_pos h

/-! ## The end of training (R273, R277, R288) -/

/-- The peer's position differs from this module's in one dimension alone. -/
def Position.Faces (me q : Position) (d : Nat) : Prop :=
  q.shapeX = me.shapeX ∧ q.shapeY = me.shapeY ∧ q.shapeZ = me.shapeZ ∧
    ∀ e, e < 3 → (coordOf (me.x, me.y, me.z) e = coordOf (q.x, q.y, q.z) e ↔ e ≠ d)

/-- It is what training compares. -/
theorem Position.faces_iff (me q : Position) (d : Nat) : (q.shapeX == me.shapeX && q.shapeY == me.shapeY && q.shapeZ == me.shapeZ &&
    (List.range 3).all fun e => if e = d then coordOf (me.x, me.y, me.z) e != coordOf (q.x, q.y, q.z) e
      else coordOf (me.x, me.y, me.z) e == coordOf (q.x, q.y, q.z) e) = true ↔ me.Faces q d := by
  have hdim : ∀ e : Nat, (if e = d then coordOf (me.x, me.y, me.z) e != coordOf (q.x, q.y, q.z) e
      else coordOf (me.x, me.y, me.z) e == coordOf (q.x, q.y, q.z) e) = true ↔
      (coordOf (me.x, me.y, me.z) e = coordOf (q.x, q.y, q.z) e ↔ e ≠ d) := fun e => by
    split
    · next h => simp [h]
    · next h => simp [h]
  simp only [Position.Faces, Bool.and_eq_true, beq_iff_eq, List.all_eq_true, List.mem_range, hdim, and_assoc]

section
variable {s : State} {n : Port} (ht : (s.port n.val).state = .train) (hb : (s.port n.val).bypass = false)
include ht hb

theorem portTrainComplete_alone : portTrainComplete n none s =
    (s.setPort n.val { s.port n.val with state := .down, width := 0 }).tellRing (n.val / 2) :=
  if_neg fun h => h.elim (· ht) (ne_true_of_eq_false hb)

variable {v : W64} {q me : Position} (hq : q = Position.ofReg v.toNat) (hme : me = s.position)
include hq hme

theorem portTrainComplete_up (h : me.Faces q (n.val / 2)) {x : Nat} (hx : x = me.number q.x q.y q.z) {o : PortReg}
    (ho : o = s.port n.val) : portTrainComplete n (some v) s =
    ((((((s.setPort n.val { (if o.peer = x then o else o.freshLink) with
      state := .up, peer := x, width := if o.width = 0 then 4 else o.width }).resendCells n.val).pushLinks).portRest).tellRing
      (n.val / 2)).ringMended (n.val / 2)) := by
  subst hx ho hq hme
  refine (if_neg fun h => h.elim (· ht) (ne_true_of_eq_false hb)).trans (if_neg ?_)
  rw [Bool.not_eq_true', Bool.not_eq_false]
  exact (Position.faces_iff _ _ _).2 h

theorem portTrainComplete_miswired (h : ¬ me.Faces q (n.val / 2)) : portTrainComplete n (some v) s =
    (s.setPort n.val { s.port n.val with state := .miswired, width := 0 }).portRest := by
  subst hq hme
  refine (if_neg fun h => h.elim (· ht) (ne_true_of_eq_false hb)).trans (if_pos ?_)
  rw [Bool.not_eq_true', ← Bool.not_eq_true]
  exact fun hok => h ((Position.faces_iff _ _ _).1 hok)

end

/-! ## Links that are lost (R285, R473; log 162) -/

theorem linkLost_trains {s : State} {n : Port} (h : Serving s n.val) : linkLost n s =
    ((s.setPort n.val { s.port n.val with state := .train, width := 0 }).tellRing (n.val / 2)).sendTrain n.val := by
  obtain ⟨hup, hb⟩ := h
  exact if_neg (by simp [hup, hb])

/-- A link that stays down toward a live module has the higher-numbered of the two leave its rings. -/
theorem linkFailed_raises {s u : State} {n : Port} (hb : (s.port n.val).bypass = false) (hd : (s.port n.val).state = .down)
    (hl : s.isLive (s.port n.val).peer = true)
    (hu : u = raise 0x0141 3 n.val 0 (s.setPort n.val { s.port n.val with state := .down, width := 0 })) :
    linkFailed n s = if (s.port n.val).peer < s.modNo then (u.flush s.outbox.length).leaveRings else u := by
  have hgo : ¬ ((s.port n.val).bypass = true ∨ (s.port n.val).state = .up ∨ (s.port n.val).state = .unused ∨
      (s.port n.val).state = .miswired ∨ s.isLive (s.port n.val).peer = false) := by simp [hb, hd, hl]
  have hdown : ∀ a b : State, (if (s.port n.val).state = .down then a else b) = a := fun _ _ => if_pos hd
  unfold linkFailed
  dsimp only
  rw [if_neg hgo, hdown, hu]
  rfl

/-- LINK_HARD holds the module IDLE for the ring, and ends the run where the stop has lost modules. -/
theorem linkHard_holds (ring : Fin 3) (s : State) : (linkHard ring s).rec0.holdIdle = some ring.val ∧
    (s.rec0.modules = [] → (linkHard ring s).run = s.run) ∧ (s.rec0.modules ≠ [] → (linkHard ring s).run.state = .idle) ∧
    (linkHard ring s).cores = s.cores ∧ (linkHard ring s).tier = s.tier := by
  have hmods : (raise cLinkHard 3 (2 * ring.val) 0 s).rec0.modules = s.rec0.modules := by
    obtain ⟨_, _, _, _, _, -, h⟩ := raise_frame_other (code := cLinkHard) rfl 3 (2 * ring.val) 0 s
    rw [h]
    rfl
  unfold linkHard
  dsimp only
  rw [hmods, raise_run, raise_cores, raise_tier]
  refine ⟨rfl, fun h => ?_, fun h => ?_, rfl, rfl⟩
  · rw [h]
    rfl
  · rw [if_neg (by simpa using h)]

theorem State.settle_holdIdle (s t : State) : (s.settle t).rec0.holdIdle = t.rec0.holdIdle := by
  obtain ⟨_, _, _, _, _, _, _, _, _, h⟩ := State.settle_frame s t
  rw [h]
  rfl

end Sys2Proof.Machine
end

section
/-! SUPPORT. The module's own messages on the links: their cells, their charge, and ROUTE_NONE (R274, R280, R283, R290; log 143). -/

namespace Sys2Proof.Machine

/-! ## Events -/

theorem State.logEvent_logs {s : State} (h : s.evLog.length < 256) (e : EventRec) : e ∈ (s.logEvent e).evLog := by
  unfold State.logEvent
  split
  · obtain ⟨q, -, hq⟩ := State.postEvent_frame { s with evLog := s.evLog ++ [e] } e
    rw [hq]
    exact List.mem_append_right _ (List.mem_singleton_self e)
  · rw [if_neg (Nat.not_le.2 h)]
    exact List.mem_append_right _ (List.mem_singleton_self e)

section
variable {c : Nat} (hc : ownModuleFault c = false) (u i d : Nat) (s : State)
include hc

/-- An event is logged while the log has room for it. -/
theorem raise_logs (h : s.evLog.length < 256) : ∃ e ∈ (raise c u i d s).evLog, e.code = c := by
  refine ⟨⟨s.bel.frame, c, classOf c, u, i, d, s.run.step⟩, ?_, rfl⟩
  unfold raise
  simp only [hc, Bool.false_eq_true, if_false]
  split
  · exact State.logEvent_logs h _
  · exact State.logEvent_logs h _

/-- An event sends nothing but STOP. -/
theorem raise_sends {m : Msg} (h : m ∈ (raise c u i d s).outbox) : m ∈ s.outbox ∨ m = .stop := by
  have hlog : ∀ e, (s.logEvent e).outbox = s.outbox := fun e => by
    obtain ⟨q, r, l, -, hl⟩ := s.logEvent_frame e
    rw [hl]
  unfold raise at h
  simp only [hc, Bool.false_eq_true, if_false] at h
  split at h
  · rw [hlog] at h
    exact .inl h
  · obtain h | h := List.mem_append.1 h
    · rw [hlog] at h
      exact .inl h
    · exact .inr (List.mem_singleton.1 h)

end

/-! ## A message for one module (R274, R290) -/

theorem units64_mul (n : Nat) : units64 (64 * n) = n := by
  unfold units64
  omega

/-- The FABRIC meter of a port after a message: charged by its payload, unless it acknowledges or is of class CTRL. -/
def State.charged (s : State) (k : MsgKind) (port : Nat) : State :=
  if k.ack || k.cls == 3 then s else s.chargeFabric port (64 * max k.units 1)

theorem State.charged_keeps {β : Type} (g : State → β) (h : ∀ s port n, g (State.chargeFabric s port n) = g s) (s : State)
    (k : MsgKind) (port : Nat) : g (s.charged k port) = g s := by
  unfold State.charged
  split
  · rfl
  · exact h s _ _

theorem State.charged_fabric (s : State) (k : MsgKind) (port : Nat) : mapGet 0 (s.charged k port).bud.fabric port =
    mapGet 0 s.bud.fabric port - (if k.ack = true ∨ k.cls = 3 then 0 else (max k.units 1 : Int)) := by
  have hfree : (k.ack || k.cls == 3) = true ↔ k.ack = true ∨ k.cls = 3 := by simp
  unfold State.charged
  by_cases h : k.ack = true ∨ k.cls = 3
  · rw [if_pos (hfree.2 h), if_pos h, Int.sub_zero]
  · rw [if_neg (mt hfree.1 h), if_neg h]
    exact (mapGet_mapPut_same _ _ _ _).trans (by rw [units64_mul, Nat.cast_max, Nat.cast_one])

section
variable {s : State} {m : Msg} {k : MsgKind} {d port : Nat}

theorem State.linkTo_served (hr : s.route d = some port) : State.linkTo m k s d =
    State.setPort { s.charged k port with freeCtr := s.freeCtr + 1 } port { s.port port with
      wait := (s.port port).wait ++ ownCells k (k.cls + 8 * s.wraps port) d s.modNo m.tag s.freeCtr } := by
  have hport : (s.charged k port).port port = s.port port := s.charged_keeps (State.port · port) (fun _ _ _ => rfl) k port
  have hwraps : (s.charged k port).wraps port = s.wraps port := s.charged_keeps (State.wraps · port) (fun _ _ _ => rfl) k port
  have hmod : (s.charged k port).modNo = s.modNo := s.charged_keeps State.modNo (fun _ _ _ => rfl) k port
  have hctr : (s.charged k port).freeCtr = s.freeCtr := s.charged_keeps State.freeCtr (fun _ _ _ => rfl) k port
  rw [← hport, ← hwraps, ← hmod, ← hctr]
  unfold State.linkTo
  rw [hr]
  rfl

/-- What has been sent and logged stands as it was once a message's cells wait. -/
theorem State.linkTo_keeps (m : Msg) (k : MsgKind) (s : State) (d : Nat) :
    (State.linkTo m k s d).outbox = s.outbox ∧ (State.linkTo m k s d).evLog = s.evLog := by
  cases hr : s.route d with
  | none =>
    unfold State.linkTo
    rw [hr]
    exact ⟨rfl, rfl⟩
  | some port =>
    rw [State.linkTo_served hr]
    exact ⟨s.charged_keeps State.outbox (fun _ _ _ => rfl) k port, s.charged_keeps State.evLog (fun _ _ _ => rfl) k port⟩

/-! ## What the module sends (R280, R283; log 143) -/

variable (hk : m.kind = some k)
include hk

theorem State.linkMsg_bypass (hb : s.inBypass = true) : s.linkMsg m = s := by
  unfold State.linkMsg
  rw [hk]
  exact if_pos hb

variable (hd : s.destsOf m = [d]) (hb : s.inBypass = false)
include hd hb

theorem State.linkMsg_served (hr : s.route d = some port) : s.linkMsg m = State.linkTo m k (s.send m) d := by
  unfold State.linkMsg
  rw [hk]
  dsimp only
  rw [if_neg (ne_true_of_eq_false hb), hd, if_pos (by simp [hr])]
  rfl

/-- A message that has a route is sent: its cells wait at the port of the route, whose meter it charges. -/
theorem State.linkMsg_waits (hr : s.route d = some port) : (s.linkMsg m).outbox = s.outbox ++ [m] ∧
    ((s.linkMsg m).port port).wait = (s.port port).wait ++ ownCells k (k.cls + 8 * s.wraps port) d s.modNo m.tag s.freeCtr ∧
    mapGet 0 (s.linkMsg m).bud.fabric port =
      mapGet 0 s.bud.fabric port - (if k.ack = true ∨ k.cls = 3 then 0 else (max k.units 1 : Int)) := by
  have hsend : (s.send m).route d = some port := hr
  rw [State.linkMsg_served hk hd hb hr]
  refine ⟨(State.linkTo_keeps m k _ d).1, ?_, ?_⟩
  · rw [State.linkTo_served hsend, State.port_setPort_same]
    rfl
  · rw [State.linkTo_served hsend]
    exact (s.send m).charged_fabric k port

/-- A message that has none is not sent: ROUTE_NONE is logged. -/
theorem State.linkMsg_routeNone (hne : d ≠ s.modNo) (hr : s.route d = none) (hm : m ∉ s.outbox) (hstop : m ≠ .stop)
    (hlog : s.evLog.length < 256) : m ∉ (s.linkMsg m).outbox ∧ ∃ e ∈ (s.linkMsg m).evLog, e.code = cRouteNone := by
  have heq : s.linkMsg m =
      (raise cRouteNone 0 0 0 s).others.foldl (State.linkTo .stop ⟨0x0E, 3, 1, false⟩) (raise cRouteNone 0 0 0 s) := by
    unfold State.linkMsg
    rw [hk]
    dsimp only
    rw [if_neg (ne_true_of_eq_false hb), hd, if_neg (by simp [hr, hne])]
  rw [heq, foldl_keeps State.outbox fun s d => (State.linkTo_keeps _ _ s d).1,
    foldl_keeps State.evLog fun s d => (State.linkTo_keeps _ _ s d).2]
  exact ⟨fun h => (raise_sends rfl 0 0 0 s h).elim hm hstop, raise_logs rfl 0 0 0 s hlog⟩

end

/-- Settles O46: each clause is the law above of the row or of the message that it is about. -/
theorem linksCarryCellsInOrder : Obligations.LinksCarryCellsInOrder := by
  intro s n b fec p a opp
  have hopp : opposite n.val = opp := opposite_eq n.val
  refine ⟨fun hs hg hseq hroom hd hw => ?leaves, fun hs hg hseq hroom h => ?stays, fun hs h => ?refuses, fun hb => ⟨?cellPasses, ?idlePasses⟩,
    fun hb h => ⟨?cellDown, ?idleDown⟩, fun hs hl hk hc => ⟨fun hnak => ?acks, fun hnak hne h16 => ?resends⟩, fun hs h => ?idleBad,
    fun p a r c seq h ha => ?covers, s.resendCells_outbox n.val, fun failed hu hm hb => ?retrains, fun h failed => ?retrainStays,
    fun ht hb v => ⟨fun h => ?up, fun h => ?miswired, ?alone, rfl, rfl, rfl, rfl⟩, fun hs => ?lost,
    fun hb hd hl u hu => ⟨fun hlt => ?higher, fun hle => ?lower⟩, fun ring => ?hard,
    fun m k d port hk hd hr => ⟨fun hb => s.linkMsg_bypass hk hb, fun hb => State.linkMsg_waits hk hd hb hr⟩,
    fun m k d hk hd hne hr hb hm hstop hlog => State.linkMsg_routeNone hk hd hb hne hr hm hstop hlog⟩
  case leaves => rw [exec_cellReceive, cellReceive_leaves hs hg hseq hroom hd hw rfl]
  case stays => rw [exec_cellReceive, cellReceive_stays hs hg hseq hroom h rfl]
  case refuses => rw [exec_cellReceive, cellReceive_refuses hs h]; rfl
  case cellPasses => rw [exec_cellReceive, cellReceive_bypass hb, hopp]
  case idlePasses => rw [exec_idleBlock, idleBlock_bypass hb, hopp]
  case cellDown => rw [exec_cellReceive, cellReceive_down hb h]
  case idleDown => rw [exec_idleBlock, idleBlock_down hb h]
  case acks => rw [exec_idleBlock, idleBlock_acks hs (not_idleBad hl hk hc) rfl hnak]
  case resends => rw [exec_idleBlock, idleBlock_resends hs (not_idleBad hl hk hc) rfl hnak rfl hne h16]
  case idleBad => rw [exec_idleBlock, idleBlock_bad hs h]
  case covers =>
    rw [PortReg.ackTo_covers h ha]
    exact ⟨rfl, rfl⟩
  case retrains =>
    refine ⟨s.retrain n.val failed, by rw [exec_linkRetrain, linkRetrain_retrains hu hm hb], ?_⟩
    rw [s.retrain_port]
    exact ⟨rfl, fun h => h ▸ PortReg.retrained_full _, PortReg.retrained_half _, PortReg.retrained_none _⟩
  case retrainStays => rw [exec_linkRetrain, linkRetrain_stays h]
  case up => rw [exec_portTrainComplete, portTrainComplete_up ht hb rfl rfl h rfl rfl]
  case miswired => rw [exec_portTrainComplete, portTrainComplete_miswired ht hb rfl rfl h]
  case alone => rw [exec_portTrainComplete, portTrainComplete_alone ht hb]
  case lost => rw [exec_linkLost, linkLost_trains hs]
  case higher => rw [exec_linkFailed, linkFailed_raises hb hd hl hu, if_pos hlt]
  case lower => rw [exec_linkFailed, linkFailed_raises hb hd hl hu, if_neg (Nat.not_lt.2 hle)]
  case hard =>
    obtain ⟨hhold, hrun, hidle, hcores, htier⟩ := linkHard_holds ring s
    refine ⟨_, exec_linkHard ring s, ?_⟩
    rw [State.settle_holdIdle, State.settle_run, State.settle_cores, State.settle_tier]
    exact ⟨hhold, hrun, hidle, hcores, htier⟩

end Sys2Proof.Machine
end

section
/-! SUPPORT. STOP, the stop of the module, the recovery step and the replay (R363, R466-R471; log 124). -/

namespace Sys2Proof.Machine

theorem exec_stop (s : State) : exec .stop s = .next (s.settle (stopMsg s)) := rfl

theorem exec_moduleStop (s : State) : exec .moduleStop s = .next (s.settle (moduleStop s)) := rfl

theorem exec_recoveryStepAnnounce (made : List StopReport) (classes : List (BitVec 3)) (s : State) :
    exec (.recoveryStepAnnounce made classes) s = .next (s.settle (recoveryStepAnnounce
      (made.map fun r => (r.num.toNat, r.next.toNat, r.g.toNat)) (classes.map BitVec.toNat) s)) := rfl

theorem exec_replayBegin (s : State) : exec .replayBegin s = .next (s.settle (replayBegin s)) := rfl

/-! ## STOP and the stop of the module (R363, R468) -/

theorem stopMsg_of_unknown_step {s : State} (h : s.rec0.q = none) : stopMsg s = { s with
    rec0 := { s.rec0 with stopping := true, stopAt := if s.rec0.stopping then s.rec0.stopAt else s.bel.frame } } := by
  simp [stopMsg, Rec.hear, h]

theorem stopMsg_of_known_step {s : State} (h : s.rec0.q.isSome = true) : stopMsg s = { s with
    rec0 := { s.rec0 with again := true, stopAt := if s.rec0.again then s.rec0.stopAt else s.bel.frame } } := by
  simp [stopMsg, Rec.hear, h]

theorem moduleStop_waits {s : State} (h : s.rec0.stopping = false ∨ s.rec0.stopped = true ∨ s.bel.cycle ≠ 0 ∨
    s.bel.frame = s.rec0.stopAt) : moduleStop s = s := if_pos h

theorem moduleStop_stops {s : State} (hg : s.rec0.stopping = true) (hd : s.rec0.stopped = false) (hc : s.bel.cycle = 0)
    (hf : s.bel.frame ≠ s.rec0.stopAt) : moduleStop s = s.stopNow := if_neg (by simp [hg, hd, hc, hf])

/-- The work of Phases A and B of a commit that has sent no B_DONE goes. -/
theorem State.stopNow_before_bDone {s : State} (hp : s.smithy.phase ≤ 2) (hb : s.fab.bSent = false) :
    s.stopNow.smithy.phase = 0 ∧ s.stopNow.smithy.touched = [] ∧ s.stopNow.fab.deltas = [] := by
  simp [State.stopNow, hp, hb]

/-- A commit that has sent B_DONE keeps its work. -/
theorem State.stopNow_after_bDone {s : State} (hb : s.fab.bSent = true) :
    s.stopNow.smithy = s.smithy ∧ s.stopNow.fab.deltas = s.fab.deltas := by
  simp [State.stopNow, hb]

/-! ## The end of a stop (R111, R466, R467) -/

theorem State.toRetire_overrun {s : State} {f c d st : Nat} (h : s.rec0.faults = [⟨f, 0x0121, 2, 1, c, d, st⟩]) :
    s.toRetire = if c ∈ s.rec0.spared then [] else [(c, 3)] := by
  by_cases hc : c ∈ s.rec0.spared <;> simp [State.toRetire, h, hc, cFrameOverrun, causeOf, cResidue]

theorem State.retireFaulted_of_no_faults {s : State} (h : s.rec0.faults = []) : s.retireFaulted = s := by
  simp [State.retireFaulted, State.toRetire, h]

/-! ## What the module does once the recovery step is known (R466, R471) -/

/-- The run goes over to a state. -/
def State.turned (s : State) (r : RunState) : State := { s with run := { s.run with state := r } }

/-- The class that decides a stop, of the module's own faults and those of the others; the second MEM_UE of a word that parity does not
rebuild has class STEP. -/
def State.stopClass (s : State) (classes : List Nat) : Nat :=
  decidingClass (s.rec0.faults.map EventRec.cls ++ classes ++
    if (s.rec0.ueNow.filter fun w => !s.wordRebuildable w).any fun w => s.rec0.poisonSeen.contains w then [1] else [])

/-- The module with one more try of the step after `q`, and with what it knows of a stop of a class. -/
def State.answering (s : State) (q cls : Nat) : State := { s with
  run := { s.run with tries := mapPut s.run.tries q (mapGet 0 s.run.tries q + 1) },
  bud := { s.bud with lastClass := cls },
  rec0 := { s.rec0 with
    q := some q,
    rebuild := (s.rec0.rebuild ++ if 4 ≤ cls then [] else ((s.rec0.ueNow.filterMap s.pageOfWord).filter s.rebuildable).eraseDups).eraseDups,
    ueNow := [],
    poisonSeen := (s.rec0.poisonSeen ++ s.rec0.ueNow.filter fun w => !s.wordRebuildable w).eraseDups,
    modules := if 4 ≤ cls then (s.rec0.faults.filterMap fun e => if e.code = cPeerLost then some e.index else none).eraseDups else [] } }

/-- The response to a stop of a class that has tried its step so often: CORE and MEMORY replay, the third try and STEP hold; anything else is
IDLE, at once where no lost module is left to deal with. -/
def State.response (s : State) (cls tries : Nat) : State :=
  if cls = 2 ∨ cls = 3 then if tries < 3 then s.turned .replaying else s.retireFaulted.endStop.turned .held
  else if cls = 1 then s.retireFaulted.endStop.turned .held
  else if s.rec0.modules.isEmpty then s.endStop.turned .idle
  else if s.rec0.holdIdle.isSome then s.turned .idle
  else s

theorem State.respond_eq (s : State) (q : Nat) (classes : List Nat) : s.respond q classes =
    (s.answering q (s.stopClass classes)).response (s.stopClass classes) (mapGet 0 s.run.tries q + 1) := rfl

section
variable {s : State} {tries : Nat}

theorem State.response_replays {cls : Nat} (hc : cls = 2 ∨ cls = 3) (ht : tries < 3) : s.response cls tries = s.turned .replaying :=
  (if_pos hc).trans (if_pos ht)

theorem State.response_gives_up {cls : Nat} (hc : cls = 2 ∨ cls = 3) (ht : 3 ≤ tries) :
    s.response cls tries = s.retireFaulted.endStop.turned .held := (if_pos hc).trans (if_neg (by omega))

theorem State.response_step : s.response 1 tries = s.retireFaulted.endStop.turned .held := rfl

theorem State.response_idle {cls : Nat} (h1 : cls ≠ 1) (h2 : cls ≠ 2) (h3 : cls ≠ 3) (hm : s.rec0.modules = []) :
    s.response cls tries = s.endStop.turned .idle :=
  (if_neg (by omega)).trans ((if_neg h1).trans (if_pos (by rw [hm]; rfl)))

/-- Without a fault of its own and lost modules the response turns the run, and may end the stop. -/
theorem State.response_turns (hf : s.rec0.faults = []) (hm : s.rec0.modules = []) (cls : Nat) :
    ∃ r, s.response cls tries = s.turned r ∨ s.response cls tries = s.endStop.turned r := by
  unfold State.response
  rw [State.retireFaulted_of_no_faults hf, hm]
  split
  · split
    · exact ⟨_, .inl rfl⟩
    · exact ⟨_, .inr rfl⟩
  · split
    · exact ⟨_, .inr rfl⟩
    · exact ⟨_, .inr rfl⟩

theorem State.response_keeps (hf : s.rec0.faults = []) (hm : s.rec0.modules = []) (cls : Nat) :
    (s.response cls tries).run.nextStep = s.run.nextStep ∧ (s.response cls tries).run.inStep = s.run.inStep ∧
      (s.response cls tries).bud = s.bud := by
  obtain ⟨r, hr | hr⟩ := State.response_turns (tries := tries) hf hm cls <;> rw [hr] <;> exact ⟨rfl, rfl, rfl⟩

end

/-! ## The recovery step of a machine that has nothing to undo (R469) -/

theorem recoveryStepAnnounce_waits {s : State} (h : s.rec0.stopped = false ∨ s.rec0.q.isSome = true)
    (made : List (Nat × Nat × Nat)) (classes : List Nat) : recoveryStepAnnounce made classes s = s := if_pos h

/-- What this module reports: the first step that it has not recorded and the G of its group. -/
def State.ownReport (s : State) : Nat × Nat × Nat := (s.modNo, s.run.nextStep, s.groupG)

theorem State.sameGroup_self (s : State) (g a : Nat) : s.sameGroup g a a = true := by
  unfold State.sameGroup
  split <;> simp

/-- Where no other module reports, every group has made what this module has. -/
theorem State.groupMade_ownReport (s : State) (n : Nat) : s.groupMade [s.ownReport] (s.modNo, n, s.groupG) = s.run.nextStep := by
  simp [State.groupMade, State.ownReport, State.sameGroup_self]

theorem State.stepAfterQ_ownReport (s : State) : s.stepAfterQ [s.ownReport] = s.run.nextStep := s.groupMade_ownReport _

theorem State.beyond_ownReport (s : State) : s.beyond [s.ownReport] s.run.nextStep = false := by
  have h : s.groupMade [s.ownReport] s.ownReport = s.run.nextStep := s.groupMade_ownReport _
  simp [State.beyond, h]

theorem State.finishCommit_of_no_commit {s : State} (h : s.smithy.phase = 0) (n : Nat) : s.finishCommit n = s := by
  simp [State.finishCommit, h]

theorem State.dropCommit_of_no_commit {s : State} (h : s.smithy.phase = 0) : s.dropCommit = s := if_pos h

/-- The run stands between steps, with step `q` the first not recorded. -/
def State.standingAt (s : State) (q : Nat) : State :=
  let kept := (s.recordIn ((q + 1) % 2)).any fun r => r.step + 1 == q
  { s with run := { s.run with nextStep := q, committed := if kept then q - 1 else 0, anyCommit := kept, inStep := false, bounded := false,
                               interlude := false, interludeDue := false, frameLive := false, resumePos := none } }

/-- A stopped module that alone reports, with no commit in progress, has nothing to finish or undo: it answers from the first step that it has
not recorded. -/
theorem recoveryStepAnnounce_alone {s : State} (hs : s.rec0.stopped = true) (hq : s.rec0.q = none) (hr : s.bel.root = false)
    (hp : s.smithy.phase = 0) (classes : List Nat) :
    recoveryStepAnnounce [] classes s = (s.standingAt s.run.nextStep).respond s.run.nextStep classes := by
  have hgo : ¬ (s.rec0.stopped = false ∨ s.rec0.q.isSome = true) := by simp [hs, hq]
  have hreports : (s.modNo, s.run.nextStep, s.groupG) :: [].filter (fun r : Nat × Nat × Nat => r.1 != s.modNo && s.isLive r.1) =
    [s.ownReport] := rfl
  have hroot : ∀ u : State, (if s.bel.root = true then u else s) = s := fun u => if_neg (by simp [hr])
  have hundo : ∀ u v : State, (if s.run.nextStep < s.run.nextStep ∧ s.run.anyCommit = true then u else v) = v :=
    fun u v => if_neg (by omega)
  unfold recoveryStepAnnounce
  dsimp only
  rw [if_neg hgo, hreports, s.stepAfterQ_ownReport, hroot, State.finishCommit_of_no_commit hp, State.dropCommit_of_no_commit hp,
    s.beyond_ownReport, hundo]
  rfl

/-- One class from the other modules decides, where it is a class. -/
theorem decidingClass_one : ∀ cls : BitVec 3, decidingClass [cls.toNat] = if cls.toNat ≤ 5 then cls.toNat else 0 := by decide

theorem State.settle_q (s t : State) : (s.settle t).rec0.q = t.rec0.q := by
  obtain ⟨_, _, _, _, _, _, _, _, _, h⟩ := State.settle_frame s t
  rw [h]
  rfl

theorem State.settle_lastClass (s t : State) : (s.settle t).bud.lastClass = t.bud.lastClass := by
  obtain ⟨_, _, _, _, _, _, _, _, _, h⟩ := State.settle_frame s t
  rw [h]

/-- A stop that has brought the module no fault and no poisoned word. -/
structure State.StoppedClean (s : State) : Prop where
  stopped : s.rec0.stopped = true
  unknown : s.rec0.q = none
  notRoot : s.bel.root = false
  noCommit : s.smithy.phase = 0
  noFault : s.rec0.faults = []
  noPoison : s.rec0.ueNow = []

section
variable {s : State} (h : s.StoppedClean)
include h

/-- The class that the others report decides what the module does. -/
theorem State.StoppedClean.announce (cls : BitVec 3) {d : Nat} (hd : decidingClass [cls.toNat] = d) :
    exec (.recoveryStepAnnounce [] [cls]) s = .next (s.settle
      (((s.standingAt s.run.nextStep).answering s.run.nextStep d).response d (mapGet 0 s.run.tries s.run.nextStep + 1))) := by
  have hclass : (s.standingAt s.run.nextStep).stopClass [cls.toNat] = d := by
    have hf : (s.standingAt s.run.nextStep).rec0.faults = [] := h.noFault
    have hu : (s.standingAt s.run.nextStep).rec0.ueNow = [] := h.noPoison
    simp [State.stopClass, hf, hu, hd]
  have hone : [cls].map BitVec.toNat = [cls.toNat] := rfl
  rw [exec_recoveryStepAnnounce, hone, List.map_nil, recoveryStepAnnounce_alone h.stopped h.unknown h.notRoot h.noCommit, State.respond_eq,
    hclass]
  rfl

theorem State.StoppedClean.modules (d : Nat) :
    ((s.standingAt s.run.nextStep).answering s.run.nextStep d).rec0.modules = [] := by
  have hf : (s.standingAt s.run.nextStep).rec0.faults = [] := h.noFault
  simp [State.answering, hf]

theorem State.StoppedClean.answers (cls : BitVec 3) : ∃ t, exec (.recoveryStepAnnounce [] [cls]) s = .next t ∧
    t.run.nextStep = s.run.nextStep ∧ t.run.inStep = false ∧ t.bud.lastClass = (if cls.toNat ≤ 5 then cls.toNat else 0) ∧
    (cls = 2 ∨ cls = 3 → mapGet 0 s.run.tries s.run.nextStep < 2 → t.run.state = .replaying ∧ t.rec0.q = some s.run.nextStep) ∧
    (cls = 2 ∨ cls = 3 → 2 ≤ mapGet 0 s.run.tries s.run.nextStep → t.run.state = .held ∧ t.rec0.stopped = false) ∧
    (cls = 1 → t.run.state = .held ∧ t.rec0.stopped = false) ∧
    (cls = 4 ∨ cls = 5 → t.run.state = .idle ∧ t.rec0.stopped = false) := by
  obtain ⟨d, hd⟩ : ∃ d, d = if cls.toNat ≤ 5 then cls.toNat else 0 := ⟨_, rfl⟩
  have hnum : ∀ k : Nat, k < 6 → cls = BitVec.ofNat 3 k → d = k := by
    rintro k hk rfl
    rw [hd, BitVec.toNat_ofNat, Nat.mod_eq_of_lt (by omega)]
    exact if_pos (by omega)
  refine ⟨_, h.announce cls ((decidingClass_one cls).trans hd.symm), ?_⟩
  rw [State.settle_run, State.settle_lastClass, State.settle_q, State.settle_stopped, ← hd]
  obtain ⟨a, ha⟩ : ∃ a, a = (s.standingAt s.run.nextStep).answering s.run.nextStep d := ⟨_, rfl⟩
  have hm : a.rec0.modules = [] := ha ▸ h.modules d
  have hf : a.rec0.faults = [] := ha ▸ h.noFault
  have hheld : ∀ u : State, (u.endStop.turned .held).run.state = .held ∧ (u.endStop.turned .held).rec0.stopped = false := fun u => ⟨rfl, rfl⟩
  have hstands : a.run.nextStep = s.run.nextStep ∧ a.run.inStep = false ∧ a.bud.lastClass = d ∧ a.rec0.q = some s.run.nextStep := by
    subst ha
    exact ⟨rfl, rfl, rfl, rfl⟩
  obtain ⟨hnext, hin, hlast, hq⟩ := hstands
  rw [← ha]
  obtain ⟨hkn, hki, hkb⟩ := State.response_keeps (tries := mapGet 0 s.run.tries s.run.nextStep + 1) hf hm d
  refine ⟨hkn.trans hnext, hki.trans hin, (congrArg Bud.lastClass hkb).trans hlast, fun hc ht => ?_, fun hc ht => ?_, fun hc => ?_, fun hc => ?_⟩
  · rw [State.response_replays (hc.imp (hnum 2 (by decide)) (hnum 3 (by decide))) (by omega)]
    exact ⟨rfl, hq⟩
  · rw [State.response_gives_up (hc.imp (hnum 2 (by decide)) (hnum 3 (by decide))) (by omega)]
    exact hheld _
  · rw [hnum 1 (by decide) hc, State.response_step]
    exact hheld _
  · have h45 : d = 4 ∨ d = 5 := hc.imp (hnum 4 (by decide)) (hnum 5 (by decide))
    rw [State.response_idle (by omega) (by omega) (by omega) hm]
    exact ⟨rfl, rfl⟩

end

/-! ## The replay (R471) -/

theorem replayBegin_begins {s : State} (hr : s.run.state = .replaying) (hq : s.rec0.q.isSome = true) (hb : s.rec0.rebuild = [])
    (hc : s.bel.cycle = 0) : replayBegin s = stepBegin s.retireFaulted.endStop := if_neg (by
  have hn : s.rec0.q ≠ none := Option.isSome_iff_ne_none.1 hq
  simp [hr, hn, hb, hc])

theorem replayBegin_waits {s : State} (h : s.run.state ≠ .replaying ∨ s.rec0.rebuild ≠ [] ∨ s.bel.cycle ≠ 0) : replayBegin s = s :=
  if_pos (by tauto)

end Sys2Proof.Machine
end

section
/-! SUPPORT. Pages rebuilt from parity, the directory part of a lost module, and its shard (R472, R473, R476-R479). -/

namespace Sys2Proof.Machine

theorem exec_pageRebuild (p : BitVec 36) (parity sum : List Byte) (s : State) :
    exec (.pageRebuild p parity sum) s = .next (s.settle (pageRebuild p.toNat parity sum s)) := rfl

theorem exec_scrubPoisonRebuild (w : BitVec 35) (parity sum : List Byte) (s : State) :
    exec (.scrubPoisonRebuild w parity sum) s = .next (s.settle (scrubPoisonRebuild w.toNat parity sum s)) := rfl

theorem exec_directoryHandover (lost src : ModId) (entries : List (BitVec 36 × DEntry)) (s : State) :
    exec (.directoryHandover lost src entries) s =
      .next (s.settle (directoryHandover lost.toNat src.toNat (entries.map fun e => (e.1.toNat, e.2)) s)) := rfl

/-- What the directory module tells of a page of a lost module, as the row keeps it. -/
def ToldPage.entry (p : ToldPage) : Nat × DEntry := (p.vpn.toNat, ⟨0, p.home.toNat, false, false, p.pin, p.w, false, false, 0⟩)

theorem exec_shardRebuild (lost : ModId) (sums : List (BitVec 36 × List Byte)) (told : Option (List ToldPage))
    (rows : List (BitVec 12 × BitVec 64 × List Byte)) (s : State) : exec (.shardRebuild lost sums told rows) s =
      .next (s.settle (shardRebuild lost.toNat (sums.map fun p => (p.1.toNat, p.2)) (told.map fun l => l.map ToldPage.entry)
        (rows.map fun r => (r.1.toNat, r.2.1.toNat, r.2.2)) s)) := rfl

/-! ## Poisoned pages (R472, R477) -/

section
variable {s : State} {parity sum : List Byte}

theorem pageRebuild_rebuilds {p : Nat} (h : p ∈ s.rec0.rebuild) (hp : parity.length = pageBytes) (hs : sum.length = pageBytes) {u : State}
    (hu : u = s.pokeLocal (p * pageBytes) (s.rebuiltPage p parity sum)) :
    pageRebuild p parity sum s = { u with rec0 := { u.rec0 with rebuild := u.rec0.rebuild.erase p } } := by
  subst hu
  exact if_pos ⟨List.contains_iff_mem.2 h, hp, hs⟩

theorem pageRebuild_skips {p : Nat} (h : p ∉ s.rec0.rebuild) : pageRebuild p parity sum s = s :=
  if_neg fun g => h (List.contains_iff_mem.1 g.1)

theorem scrubPoisonRebuild_rebuilds {w p : Nat} (hw : s.pageOfWord w = some p) (hpoison : w ∈ s.tier.poison) (hr : s.rebuildable p = true)
    (hi : s.run.inStep = false) (hc : s.smithy.phase = 0) (hg : s.rec0.stopping = false) (hp : parity.length = pageBytes)
    (hs : sum.length = pageBytes) :
    scrubPoisonRebuild w parity sum s = s.pokeLocal (p * pageBytes) (s.rebuiltPage p parity sum) := by
  unfold scrubPoisonRebuild
  rw [hw]
  exact if_pos ⟨List.contains_iff_mem.2 hpoison, hr, hi, hc, hg, hp, hs⟩

theorem scrubPoisonRebuild_skips {w p : Nat} (hw : s.pageOfWord w = some p) (h : w ∉ s.tier.poison ∨ s.run.inStep = true) :
    scrubPoisonRebuild w parity sum s = s := by
  unfold scrubPoisonRebuild
  rw [hw]
  refine if_neg fun ⟨hpoison, _, hi, _⟩ => ?_
  rcases h with h | h
  · exact h (List.contains_iff_mem.1 hpoison)
  · exact absurd (hi.symm.trans h) Bool.false_ne_true

end

/-! ## The directory part of a lost module (R476, R491) -/

theorem State.takePart_one {s : State} {v : Nat} {d : DEntry} (h : s.dirAt v = s.modNo) : s.takePart [(v, d)] = s.putDir v d := by
  simp [State.takePart, h]

section
variable {s : State} {lost src v : Nat} {d : DEntry}

theorem directoryHandover_of_live (hne : lost ≠ s.modNo) (hl : s.isLive lost = true) (entries : List (Nat × DEntry)) :
    directoryHandover lost src entries s = s := (if_neg hne).trans (if_pos (by simp [hl]))

theorem directoryHandover_returns (h : lost = s.modNo) (entries : List (Nat × DEntry)) :
    directoryHandover lost src entries s = s.takePart entries := if_pos h

/-- A deputy that itself holds no page takes the entry that it is sent. -/
theorem directoryHandover_deputy (hne : lost ≠ s.modNo) (hl : s.isLive lost = false) (hlt : lost < s.modCount)
    (hd : s.deputy lost = s.modNo) (hx : s.tier.xlate = []) (hv : dirModule s.modCount v = lost) :
    directoryHandover lost src [(v, d)] s = s.deputeEntry src v d := by
  unfold directoryHandover
  dsimp only
  rw [if_neg hne, if_neg (by simp [hl, hlt]), if_pos hd, hx]
  simp [hv]

/-- What a list without repetition takes is in it. -/
theorem mem_added (x : Nat) (l : List Nat) : x ∈ if l.contains x then l else l ++ [x] := by
  split
  · next hc => exact List.contains_iff_mem.1 hc
  · exact List.mem_append_right _ (List.mem_singleton.2 rfl)

/-- A new page stands in the deputy's directory, and is known to be there as deputy. -/
theorem State.deputeEntry_new (h : mapFind s.tier.dir v = none) : mapFind (s.deputeEntry src v d).tier.dir v = some d ∧
    v ∈ (s.deputeEntry src v d).tier.deputised ∧ (s.deputeEntry src v d).tier.hbm = s.tier.hbm := by
  unfold State.deputeEntry
  rw [if_pos (by simp [h])]
  exact ⟨mapFind_mapPut_same .., mem_added _ _, rfl⟩

end

/-! ## The shard of a lost module (R473, R477-R479) -/

/-- DATA_LOST of a lost module, with the number of entries that are lost; that it left by a handover is forgotten (R479, R489). -/
def State.dataLost (s : State) (lost n : Nat) : State :=
  raise 0x0159 0 lost n { s with fab := { s.fab with left := s.fab.left.erase lost } }

theorem State.dataLost_modules (s : State) (lost n : Nat) : (s.dataLost lost n).rec0.modules = s.rec0.modules := by
  obtain ⟨_, _, _, _, _, -, h⟩ := raise_frame_other (code := 0x0159) rfl 0 lost n { s with fab := { s.fab with left := s.fab.left.erase lost } }
  rw [State.dataLost, h]
  rfl

section
variable {s : State} {lost : Nat} {sums : List (Nat × List Byte)} {told : Option (List (Nat × DEntry))}
  {rows : List (Nat × Nat × List Byte)}

theorem shardRebuild_waits (h : s.rec0.q = none ∨ lost ∉ s.rec0.modules ∨ s.rec0.holdIdle.isSome = true) :
    shardRebuild lost sums told rows s = s := by
  refine if_pos ?_
  rcases h with h | h | h
  · exact .inl (by simp [h])
  · exact .inr (.inl (by simpa using h))
  · exact .inr (.inr h)

/-- A lost module whose turn it is, where no LINK_HARD holds the rebuild back. -/
structure State.DealsWith (s : State) (lost : Nat) : Prop where
  known : s.rec0.q.isSome = true
  lost : lost ∈ s.rec0.modules
  free : s.rec0.holdIdle = none

variable (h : s.DealsWith lost)
include h

theorem State.DealsWith.goes : ¬ (s.rec0.q.isNone = true ∨ s.rec0.modules.contains lost = false ∨ s.rec0.holdIdle.isSome = true) := by
  have hq : s.rec0.q ≠ none := Option.isSome_iff_ne_none.1 h.known
  simp [hq, h.lost, h.free]

/-- A module that did not leave by a handover is unrecoverable where this module's own group cannot rebuild it, or where there is no group and
none has told its pages. -/
theorem shardRebuild_unrecoverable (hl : lost ∉ s.fab.left)
    (hu : ((s.fab.parity.isSome = true ∧ s.sameGroup s.groupG lost s.modNo = true) ∧ (s.fab.degraded = true ∨ s.fab.valid = false)) ∨
      (s.fab.parity = none ∧ told = none)) : shardRebuild lost sums told rows s = s.unrecoverable := by
  unfold shardRebuild
  dsimp only
  rw [if_neg h.goes, if_pos]
  rcases hu with ⟨⟨hp, hg⟩, hv⟩ | ⟨hp, ht⟩
  · simpa [hl, hp, hg] using hv
  · simp [hl, hp, ht]

/-- Without a parity group what the module holds of the last lost module goes, with DATA_LOST, and the machine is IDLE. -/
theorem shardRebuild_forgets {known : List (Nat × DEntry)} (hp : s.fab.parity = none) {r : Nat × State}
    (hr : r = (s.returnRows lost rows).forget lost (known.map fun t => (t.1, t.2.home))) (hm : r.2.rec0.modules = [lost]) :
    shardRebuild lost sums (some known) rows s = (r.2.dataLost lost r.1).endStop.turned .idle := by
  have hlast : ((r.2.dataLost lost r.1).rec0.modules.erase lost).isEmpty = true := by
    rw [State.dataLost_modules, hm]
    simp
  unfold shardRebuild
  dsimp only
  rw [if_neg h.goes, if_neg (by simp [hp])]
  simp only [hp, Option.isSome_none, Bool.false_and, Bool.false_eq_true, if_false, List.all_nil, Bool.not_true, List.map_nil, List.nil_append,
    List.foldl_nil, Option.getD_some]
  rw [← hr]
  exact if_pos hlast

end

end Sys2Proof.Machine
end

section
/-! SUPPORT. Leaving and joining (R475, R489-R491; log 165), and the obligation on stops, rebuilds, leaving and joining. -/

namespace Sys2Proof.Machine

theorem exec_leaveHandover (whole : Bool) (part : Handover) (s : State) :
    exec (.leaveHandover whole part) s = .next (s.settle (leaveHandover whole part s)) := rfl

theorem exec_joinAdmission (m : ModId) (J : W64) (locked shape : Bool) (part : JoinPart) (s : State) :
    exec (.joinAdmission ⟨m, J⟩ locked shape part) s = .next (s.settle (joinAdmission m.toNat J.toNat locked shape part s)) := rfl

/-! ## The rings that a module leaves (R283) -/

/-- A port that leaves its ring. -/
def PortReg.left (p : PortReg) : PortReg := { p with
  bypass := true, state := if p.state = .unused then .unused else .down, width := 0, replay := [], recv := [], used := [], shared := 327,
  wait := [] }

/-- A port that has left, or is among those that leave, is in BYPASS. -/
theorem State.foldl_left_bypass (l : List Nat) {i : Nat} : ∀ s : State, i ∈ l ∨ (s.port i).bypass = true →
    ((l.foldl (fun s p => s.setPort p (s.port p).left) s).port i).bypass = true := by
  induction l with
  | nil => exact fun s h => h.resolve_left (by simp)
  | cons a t ih =>
    intro s h
    refine ih _ ?_
    by_cases hia : i = a
    · subst hia
      exact .inr (by rw [State.port_setPort_same]; rfl)
    · rw [State.port_setPort_other _ _ (Ne.symm hia)]
      exact h.imp_left fun hm => (List.mem_cons.1 hm).resolve_left hia

theorem State.leaveRings_bypass (s : State) {i : Nat} (h : i < 6) : (s.leaveRings.port i).bypass = true :=
  State.foldl_left_bypass (List.range 6) s (.inl (List.mem_range.2 h))

theorem State.leaveRings_leave (s : State) : s.leaveRings.fab.leave = s.fab.leave := by
  obtain ⟨_, _, _, _, _, h⟩ := s.leaveRings_frame
  rw [h]

theorem State.flush_leave (base : Nat) (s : State) : (s.flush base).fab.leave = s.fab.leave := by
  obtain ⟨_, _, _, _, _, _, _, _, _, -, h⟩ := s.sent_flush base
  rw [h]

/-! ## The stop at a boundary (R468, R489, R491) -/

theorem State.stopAtBoundary_tells {s : State} (h : s.rec0.stopped = false) : Msg.stop ∈ s.stopAtBoundary.outbox := by
  have hstop : s.stopAtBoundary = State.stopNow { s with rec0 := s.rec0.hear s.bel.frame, outbox := s.outbox ++ [Msg.stop] } :=
    if_neg (by simp [h])
  rw [hstop]
  simp [State.stopNow]

theorem State.stopAtBoundary_parity (s : State) : s.stopAtBoundary.fab.parity = s.fab.parity := by
  unfold State.stopAtBoundary
  split <;> rfl

/-! ## Leaving (R475, R489) -/

theorem leaveHandover_stays {s : State} (whole : Bool) (room : List W32)
    (h : s.fab.leave = none ∨ (∃ b, s.fab.leave = some b ∧ s.atBoundary b = false) ∨ s.rec0.faults ≠ []) :
    leaveHandover whole (.give room) s = s := by
  cases hl : s.fab.leave with
  | none =>
    unfold leaveHandover
    rw [hl]
  | some b =>
    have hno : s.atBoundary b = false ∨ s.rec0.faults ≠ [] := by
      rcases h with h | ⟨c, hc, hb⟩ | hf
      · simp [hl] at h
      · obtain rfl : b = c := by simpa [hl] using hc
        exact .inl hb
      · exact .inr hf
    unfold leaveHandover
    rw [hl]
    exact if_pos (by simpa using hno)

/-- The leaving module in no parity group, stopped at its boundary: its STOP goes out, its rings pass it by, and it is IDLE. -/
def State.departed (s : State) : State :=
  ((State.flush s.outbox.length { s.stopAtBoundary with fab := { s.stopAtBoundary.fab with leave := none } }).leaveRings).idleAtBoundary

theorem leaveHandover_leaves {s : State} {b : Nat} (hl : s.fab.leave = some b) (hb : s.atBoundary b = true) (hf : s.rec0.faults = [])
    (hp : s.fab.parity = none) (whole : Bool) (room : List W32) : leaveHandover whole (.give room) s = s.departed := by
  unfold leaveHandover
  rw [hl]
  dsimp only
  rw [if_neg (by simp [hb, hf])]
  split
  · rfl
  · next c hc => exact absurd (hc.symm.trans ((State.stopAtBoundary_parity s).trans hp)) (Option.some_ne_none c)

theorem State.departed_leave (s : State) : s.departed.fab.leave = none :=
  (State.leaveRings_leave _).trans (State.flush_leave _ _)

theorem State.departed_bypass (s : State) {i : Nat} (h : i < 6) : (s.departed.port i).bypass = true := State.leaveRings_bypass _ h

/-! ## Pages handed over (R489) -/

theorem State.takeHandover_before_stop {s : State} (h : s.rec0.stopping = false) (src : Nat) (pages : List HandedPage) :
    s.takeHandover src pages = s := if_pos (by simp [h])

/-- A stopped module remembers who has left by a handover. -/
theorem State.takeHandover_left {s : State} (h : s.rec0.stopping = true) (src : Nat) (pages : List HandedPage) :
    src ∈ (s.takeHandover src pages).fab.left := by
  unfold State.takeHandover
  rw [if_neg (by simp [h])]
  exact mem_added _ _

/-- A page handed over that is new here stands LOCAL in the frame taken for it, OWNER as it was. -/
theorem State.takePage_new {s u : State} {p : HandedPage} {f : Nat} (hh : p.entry.home = s.modNo)
    (hx : mapFind s.tier.xlate p.vpn.toNat = none) (hf : s.takeFrame p.vpn.toNat = some (f, u))
    (ha : s.acceptsPage p.entry.owner false = true) :
    mapFind (s.takePage none p).tier.xlate p.vpn.toNat = some { xOfDir p.entry with tier := .local, frame := f, mod := 0 } ∧
      mapFind (s.takePage none p).tier.owners p.vpn.toNat = some p.entry.owner := by
  have hstays : ¬ (p.entry.home ≠ s.modNo ∨
      (mapFind s.tier.xlate p.vpn.toNat).any (fun e => e.tier == .local || e.tier == .host) = true) := by simp [hh, hx]
  unfold State.takePage
  dsimp only
  rw [if_neg hstays, hf]
  dsimp only
  rw [if_pos ha]
  split <;> exact ⟨mapFind_mapPut_same .., mapFind_mapPut_same ..⟩

/-! ## Joining (R490, R491) -/

section
variable {s : State} {n J : Nat} {locked shape : Bool}

/-- The module of a boundary that is not the joiner and awaits no join of its own there. -/
structure State.MeetsJoiner (s : State) (n J : Nat) : Prop where
  other : n ≠ s.modNo
  boundary : s.atBoundary J = true
  settled : s.fab.join ≠ some J

theorem joinAdmission_off_boundary (hn : n ≠ s.modNo) (hb : s.atBoundary J = false) (part : JoinPart) :
    joinAdmission n J locked shape part s = s := (if_neg hn).trans (if_pos (by simp [hb]))

section
variable (h : s.MeetsJoiner n J)
include h

/-- Whether the joiner is let in, at the root and elsewhere; the root tells its answer. -/
theorem State.MeetsJoiner.decides (part : JoinPart) {ok : Bool} {u : State}
    (hok : (if s.bel.root = true then !s.isLive n && decide (n < s.modCount) && locked && shape && !s.rec0.stopping
      else part == .answer true) = ok)
    (hu : (if s.bel.root = true then s.send (.joinReply ok) else s) = u) : joinAdmission n J locked shape part s =
      if ok = true then (u.stopAtBoundary.handBack n).idleAtBoundary else if s.bel.root = true then raise cJoinRefused 0 0 0 u else u := by
  unfold joinAdmission
  dsimp only
  rw [if_neg h.other, if_neg (by simp [h.boundary]), hok, if_neg h.settled, hu]

theorem State.MeetsJoiner.root_lets_in (hr : s.bel.root = true) (hl : s.isLive n = false) (hlt : n < s.modCount) (hlock : locked = true)
    (hshape : shape = true) (hg : s.rec0.stopping = false) (part : JoinPart) : joinAdmission n J locked shape part s =
      ((s.send (.joinReply true)).stopAtBoundary.handBack n).idleAtBoundary :=
  h.decides part (ok := true) (by simp [hr, hl, hlt, hlock, hshape, hg]) (if_pos hr)

theorem State.MeetsJoiner.root_turns_away (hr : s.bel.root = true)
    (hno : s.isLive n = true ∨ locked = false ∨ shape = false ∨ s.rec0.stopping = true) (part : JoinPart) :
    joinAdmission n J locked shape part s = raise 0x0182 0 0 0 (s.send (.joinReply false)) := by
  have hok : (!s.isLive n && decide (n < s.modCount) && locked && shape && !s.rec0.stopping) = false := by
    rcases hno with h | h | h | h <;> simp [h]
  exact (h.decides part (ok := false) ((if_pos hr).trans hok) (if_pos hr)).trans ((if_neg Bool.false_ne_true).trans (if_pos hr))

theorem State.MeetsJoiner.hears_yes (hr : s.bel.root = false) :
    joinAdmission n J locked shape (.answer true) s = (s.stopAtBoundary.handBack n).idleAtBoundary :=
  h.decides (.answer true) (ok := true) (by simp [hr]) (if_neg (by simp [hr]))

theorem State.MeetsJoiner.hears_no (hr : s.bel.root = false) : joinAdmission n J locked shape (.answer false) s = s :=
  (h.decides (.answer false) (ok := false) (by simp [hr]) (if_neg (by simp [hr]))).trans
    ((if_neg Bool.false_ne_true).trans (if_neg (by simp [hr])))

end

/-- The joiner that is let in takes its rings and is IDLE. -/
theorem joinAdmission_joins (hn : n = s.modNo) (hj : s.fab.join = some J) : joinAdmission n J locked shape (.answer true) s =
    (State.takeRings { s with fab := { s.fab with join := none } }).turned .idle := by
  unfold joinAdmission
  rw [if_pos hn]
  exact if_neg (by simp [hj])

theorem joinAdmission_unasked (hn : n = s.modNo) (hj : s.fab.join ≠ some J) (a : Bool) : joinAdmission n J locked shape (.answer a) s = s := by
  unfold joinAdmission
  rw [if_pos hn]
  exact if_pos hj

/-- What comes back to a joiner in its rings and IDLE. -/
theorem joinAdmission_takes_back (hn : n = s.modNo) (hb : s.inBypass = false) (hi : s.run.state = .idle) (entries : List (BitVec 36 × DEntry)) :
    joinAdmission n J locked shape (.back entries []) s = s.takePart (entries.map fun e => (e.1.toNat, e.2)) := by
  unfold joinAdmission
  rw [if_pos hn]
  dsimp only
  rw [if_neg (by simp [hb, hi]), List.mergeSort_nil]
  rfl

end

theorem State.takeRings_join (s : State) : s.takeRings.fab.join = s.fab.join := by
  have hports : ∀ l : List Nat, (l.foldl (State.takePort s.position) s).fab.join = s.fab.join := fun l =>
    foldl_keeps (fun u : State => u.fab.join) (fun u i => by unfold State.takePort; split <;> rfl) l s
  unfold State.takeRings
  dsimp only
  split
  · exact (congrArg Fab.join (State.chooseRoot_fab _)).trans (hports _)
  · exact hports _

/-- Each port of a module that has taken its rings passes. -/
theorem State.takeRings_bypass (s : State) {i : Nat} (h : i < 6) : (s.takeRings.port i).bypass = false := by
  rw [State.takeRings_port]
  exact (State.takePorts s.position (List.range 6) (List.mem_range.2 h) s).1

/-! ## The obligation -/

/-- Settles O49: each row's effect, and the case where it has none, by the lemmas on the rows above. -/
theorem recoveryRows : Obligations.RecoveryRows := by
  unfold Obligations.RecoveryRows
  intro s
  refine ⟨fun hq => ?stop, fun hq => ?stopAgain, fun h => ?noStop, fun hg hd hc hf => ?stops, fun f c d st h => State.toRetire_overrun h,
    ⟨fun h => h, fun h => h, rfl, rfl, rfl⟩, fun made classes h => ?noStep,
    fun cls hs hq hr hp hf hu => State.StoppedClean.answers ⟨hs, hq, hr, hp, hf, hu⟩ cls, fun hr hq hb hc => ?replay, fun h => ?noReplay,
    fun p parity sum => ?page, fun w parity sum p hw => ?scrub, fun lost src p d => ?directory, fun lost sums told rows => ?shard,
    fun whole room => ?leaves, fun whole src pages => ?takes, fun p f u _ hh hx hf ha => State.takePage_new hh hx hf ha,
    fun m J locked shape part hn => ?other, fun m J locked shape hn => ?joiner⟩
  case stop => rw [exec_stop, stopMsg_of_unknown_step hq]
  case stopAgain => rw [exec_stop, stopMsg_of_known_step hq]
  case noStop => rw [exec_moduleStop, moduleStop_waits h]
  case stops =>
    refine ⟨s.stopNow, by rw [exec_moduleStop, moduleStop_stops hg hd hc hf], ?_⟩
    exact ⟨rfl, rfl, rfl, rfl, rfl, rfl, rfl, rfl, rfl, State.stopNow_before_bDone, State.stopNow_after_bDone⟩
  case noStep => rw [exec_recoveryStepAnnounce, recoveryStepAnnounce_waits h]
  case replay => rw [exec_replayBegin, replayBegin_begins hr hq hb hc]
  case noReplay => rw [exec_replayBegin, replayBegin_waits h]
  case page =>
    refine ⟨fun h hp hs u hu => ?_, fun h => ?_⟩
    · rw [exec_pageRebuild, pageRebuild_rebuilds h hp hs hu]
    · rw [exec_pageRebuild, pageRebuild_skips h]
  case scrub =>
    refine ⟨fun hpoison hr hi hc hg hp hs => ?_, fun h => ?_⟩
    · rw [exec_scrubPoisonRebuild, scrubPoisonRebuild_rebuilds hw hpoison hr hi hc hg hp hs]
    · rw [exec_scrubPoisonRebuild, scrubPoisonRebuild_skips hw h]
  case directory =>
    refine ⟨fun hne hl => ?_, fun h hv => ?_, fun hne hl hlt hd hx hv hnew => ?_⟩
    · rw [exec_directoryHandover, directoryHandover_of_live hne hl]
    · rw [exec_directoryHandover, directoryHandover_returns h, List.map_singleton, State.takePart_one hv]
    · refine ⟨_, by rw [exec_directoryHandover, List.map_singleton, directoryHandover_deputy hne hl hlt hd hx hv], ?_⟩
      rw [State.settle_tier]
      exact State.deputeEntry_new hnew
  case shard =>
    refine ⟨fun h => ?_, fun hq hm hh hl hu => ?_, fun ps ht hq hm hh hp r e hr hlast he => ?_⟩
    · rw [exec_shardRebuild, shardRebuild_waits h]
    · rw [exec_shardRebuild, shardRebuild_unrecoverable ⟨hq, hm, hh⟩ hl (hu.imp_right fun ⟨hp, ht⟩ => ⟨hp, by rw [ht]; rfl⟩)]
    · have hback : (ps.map ToldPage.entry).map (fun t => (t.1, t.2.home)) = ps.map fun x => (x.vpn.toNat, x.home.toNat) := by
        rw [List.map_map]
        rfl
      rw [exec_shardRebuild, ht, Option.map_some, shardRebuild_forgets ⟨hq, hm, hh⟩ hp (hback ▸ hr) hlast, he]
      rfl
  case leaves =>
    refine ⟨fun h => ?_, fun b hl hb hf hp => ⟨s.departed, ?_, rfl, s.departed_leave, rfl, State.stopAtBoundary_tells,
      fun i hi => s.departed_bypass hi⟩⟩
    · rw [exec_leaveHandover, leaveHandover_stays whole room h]
    · rw [exec_leaveHandover, leaveHandover_leaves hl hb hf hp]
  case takes =>
    refine ⟨fun h => ?_, fun h => ⟨s.takeHandover src.toNat pages, rfl, State.takeHandover_left h _ _⟩⟩
    rw [exec_leaveHandover]
    exact congrArg (fun t => Host.Outcome.next (s.settle t)) (State.takeHandover_before_stop h _ _)
  case other =>
    refine ⟨fun hb => ?_, fun hb hj hr => ⟨fun hl hlt hk hsh hg => ?_, fun hno => ?_⟩, fun hb hj hr => ⟨?_, ?_⟩⟩
    · rw [exec_joinAdmission, joinAdmission_off_boundary hn hb]
    · rw [exec_joinAdmission, State.MeetsJoiner.root_lets_in ⟨hn, hb, hj⟩ hr hl hlt hk hsh hg]
    · rw [exec_joinAdmission, State.MeetsJoiner.root_turns_away ⟨hn, hb, hj⟩ hr hno]
    · rw [exec_joinAdmission, State.MeetsJoiner.hears_yes ⟨hn, hb, hj⟩ hr]
    · rw [exec_joinAdmission, State.MeetsJoiner.hears_no ⟨hn, hb, hj⟩ hr]
  case joiner =>
    refine ⟨fun hj => ?_, fun hj a => ?_, fun hb hi v d hd => ?_⟩
    · refine ⟨(State.takeRings { s with fab := { s.fab with join := none } }).turned .idle, ?_, rfl, State.takeRings_join _,
        fun i hi => State.takeRings_bypass _ hi⟩
      rw [exec_joinAdmission, joinAdmission_joins hn hj]
    · rw [exec_joinAdmission, joinAdmission_unasked hn hj]
    · rw [exec_joinAdmission, joinAdmission_takes_back hn hb hi, List.map_singleton, State.takePart_one hd]

end Sys2Proof.Machine
end

section
/-! SUPPORT. The entropy source, attestation, the event log and the power registers, and the obligation (R402 to R405, R455 to R457, R462,
R510; logs 36, 115, 155, 156). -/

namespace Sys2Proof.Machine
open Sys2Proof.Claims

/-! ## The rows -/

theorem exec_entropyHealthFail (s : State) : exec .entropyHealthFail s = .next (s.settle s.entropyFail) := rfl

theorem exec_entropyStartupTestEnd (b : List Byte) (s : State) :
    exec (.entropyStartupTestEnd b) s = .next (s.settle (entropyTestEnd b s)) := rfl

theorem exec_entropyBlockReady (b : List Byte) (s : State) :
    exec (.entropyBlockReady b) s = .next (s.settle (entropyBlockReady b s)) := rfl

theorem exec_spdmGetCertificate (slot : Byte) (off len : BitVec 16) (s : State) :
    exec (.spdmGetCertificate slot off len) s = .next (s.settle (spdmGetCertificate slot off len s)) := rfl

theorem exec_spdmChallenge (slot : Byte) (nonce : List Byte) (s : State) :
    exec (.spdmChallenge slot nonce) s = .next (s.settle (spdmChallenge slot nonce s)) := rfl

theorem exec_spdmGetMeasurements (i : Byte) (signed : Bool) (nonce : List Byte) (s : State) :
    exec (.spdmGetMeasurements i signed nonce) s = .next (s.settle (spdmGetMeasurements i signed nonce s)) := rfl

theorem exec_logRead (what : LogAsk) (seq : W64) (s : State) : exec (.logRead what seq) s = .next (s.settle (logRead what seq s)) := rfl

theorem exec_eventLogStore (s : State) : exec .eventLogStore s = .next (s.settle (eventLogStore s)) := rfl

theorem exec_eventCountSave (s : State) : exec .eventCountSave s = .next (s.settle (eventCountSave s)) := rfl

/-! ## The health tests (R402) -/

theorem Health.sample_run (x : Health × Bool) (b : Bool) :
    (Health.sample x b).1.run = if x.1.run ≠ 0 ∧ b = x.1.last then x.1.run + 1 else 1 := by
  simp [Health.sample]

theorem Health.sample_passes_iff (x : Health × Bool) (b : Bool) : (Health.sample x b).2 = true ↔
    x.2 = true ∧ (Health.sample x b).1.run ≤ 40 ∧ (Health.sample x b).1.same ≤ 791 := by
  simp only [Health.sample, Bool.and_eq_true, decide_eq_true_eq, Nat.lt_succ_iff, and_assoc]

/-! ## A failed test (R404) -/

/-- Start-up tests failed in a row once a test fails: a failure in RUN is none of them. -/
def Rng.rowAfterFail (r : Rng) : Nat := if r.est = 1 then 0 else r.failsInRow + 1

theorem Rng.rowAfterFail_run {r : Rng} (h : r.est = 1) : r.rowAfterFail = 0 := if_pos h
theorem Rng.rowAfterFail_startup {r : Rng} (h : r.est ≠ 1) : r.rowAfterFail = r.failsInRow + 1 := if_neg h

/-- All that a failed test does to the source: blocks released stay. -/
theorem State.entropyFail_rng {s : State} (h : s.rng.dead = false) : s.entropyFail.rng = { s.rng with
    failCount := min (s.rng.failCount + 1) (2 ^ 16 - 1), fail := true, failsInRow := s.rng.rowAfterFail,
    est := if 4 ≤ s.rng.rowAfterFail then 3 else 2, dead := decide (4 ≤ s.rng.rowAfterFail), health := Health.fresh } := by
  unfold State.entropyFail
  rw [if_neg (by simp [h])]
  dsimp only
  rw [apply_ite State.rng, raise_rng, raise_rng, ite_self]
  simp only [decide_eq_true_eq]
  rfl

theorem State.entropyFail_dead {s : State} (h : s.rng.dead = true) : s.entropyFail = s := if_pos h

/-- A test that fails in RUN starts the start-up test. -/
theorem State.entropyFail_run {s : State} (hd : s.rng.dead = false) (he : s.rng.est = 1) : s.entropyFail.rng = { s.rng with
    failCount := min (s.rng.failCount + 1) (2 ^ 16 - 1), fail := true, failsInRow := 0, est := 2, dead := false,
    health := Health.fresh } := by
  rw [State.entropyFail_rng hd, Rng.rowAfterFail_run he]
  rfl

/-! ## The start-up test and blocks (R403, R404) -/

section
variable {s : State} {b : List Byte}

theorem entropyTestEnd_void (h : s.rng.dead = true ∨ s.rng.est = 1 ∨ b.length ≠ 128) : entropyTestEnd b s = s :=
  if_pos (by tauto)

theorem entropyTestEnd_passes (hd : s.rng.dead = false) (he : s.rng.est ≠ 1) (hl : b.length = 128)
    (hp : (Health.fresh.over b).2 = true) : entropyTestEnd b s =
      { s with rng := { s.rng with est := 1, failsInRow := 0, health := (Health.fresh.over b).1 } } :=
  (if_neg (by simp [hd, he, hl])).trans (if_pos hp)

theorem entropyTestEnd_fails (hd : s.rng.dead = false) (he : s.rng.est ≠ 1) (hl : b.length = 128)
    (hp : (Health.fresh.over b).2 = false) : entropyTestEnd b s = s.entropyFail :=
  (if_neg (by simp [hd, he, hl])).trans (if_neg (by simp [hp]))

theorem entropyBlockReady_void (h : s.rng.est ≠ 1 ∨ b.length ≠ 192) : entropyBlockReady b s = s := if_pos h

theorem entropyBlockReady_releases (he : s.rng.est = 1) (hl : b.length = 192) (hp : (s.rng.health.over b).2 = true) :
    entropyBlockReady b s = { s with rng := { s.rng with
      blocks := min (s.rng.blocks + 1) (2 ^ 32 - 1), fresh := s.rng.fresh ++ [sha384 b], health := (s.rng.health.over b).1 } } :=
  (if_neg (by simp [he, hl])).trans (if_pos hp)

theorem entropyBlockReady_fails (he : s.rng.est = 1) (hl : b.length = 192) (hp : (s.rng.health.over b).2 = false) :
    entropyBlockReady b s = s.entropyFail :=
  (if_neg (by simp [he, hl])).trans (if_neg (by simp [hp]))

end

/-! ## ENTROPY_READ (R405) -/

section
variable {s : State} {h : PktHdr} (hs : Starts s 0x0830 h)
include hs

theorem entropyRead_busy (he : s.rng.est ≠ 1) : Replies (.entropyRead h) s s h 0x14 :=
  replies_of_starts hs rfl rfl rfl (if_pos he)

theorem entropyRead_serves {b : List Byte} {t : List (List Byte)} (he : s.rng.est = 1) (hf : s.rng.fresh = b :: t) :
    Replies (.entropyRead h) s { s with rng := { s.rng with fresh := t } } h 0 (natOfBytes (b.take 8))
      (natOfBytes ((b.drop 8).take 8)) :=
  replies_of_starts hs rfl rfl rfl ((if_neg (by simp [he])).trans (by rw [hf]; rfl))

theorem entropyRead_waits (he : s.rng.est = 1) (hf : s.rng.fresh = []) (hsp : Spells (.entropyRead h) h) :
    exec (.entropyRead h) s = .next (s.settle (s.begun h)) :=
  (runs_of_starts hs rfl rfl rfl hsp).trans (by simp only [he, hf, ne_eq, not_true_eq_false, if_false])

end

/-! ## Attestation (R455 to R457; log 36) -/

section
variable {s : State} (hu : s.reeveUp = true)
include hu

theorem spdmGetCertificate_slot0 (off len : BitVec 16) : spdmGetCertificate 0 off len s =
    s.send (.spdm 0 ((Config.certificateChain.drop off.toNat).take len.toNat) []) :=
  (if_neg (by simp [hu])).trans (if_neg (by simp))

theorem spdmGetCertificate_other {slot : Byte} (h : slot ≠ 0) (off len : BitVec 16) :
    spdmGetCertificate slot off len s = s.send (.spdmError 1) :=
  (if_neg (by simp [hu])).trans (if_pos h)

theorem spdmChallenge_slot0 (nonce : List Byte) :
    spdmChallenge 0 nonce s = s.signedResponse (sha384 Config.certificateChain) nonce :=
  (if_neg (by simp [hu])).trans (if_neg (by simp))

theorem spdmChallenge_other {slot : Byte} (h : slot ≠ 0) (nonce : List Byte) : spdmChallenge slot nonce s = s.send (.spdmError 1) :=
  (if_neg (by simp [hu])).trans (if_pos h)

/-- An index that Table 15-8 has, or all of them, is answered with its blocks. -/
theorem spdmGetMeasurements_answers {i : Byte} (h0 : i ≠ 0) (h : i = 0xFF ∨ i.toNat ≤ 7) (signed : Bool) (nonce : List Byte) :
    spdmGetMeasurements i signed nonce s =
      if signed then s.signedResponse (s.measurements i.toNat) nonce else s.send (.spdm 0 (s.measurements i.toNat) []) := by
  unfold spdmGetMeasurements
  rw [if_neg (by simp [hu]), if_neg (by rintro ⟨-, hff, h7⟩; exact h.elim hff (Nat.not_le_of_lt h7)), if_neg h0]

end

theorem State.measurements_one (s : State) {i : Nat} (h1 : 1 ≤ i) (h7 : i ≤ 7) : s.measurements i = s.measurement i := by
  unfold State.measurements
  rw [if_neg (by omega), if_pos ⟨h1, h7⟩]

theorem State.measurements_all (s : State) : s.measurements 0xFF = s.measurement 1 ++ s.measurement 2 ++ s.measurement 3 ++
    s.measurement 4 ++ s.measurement 5 ++ s.measurement 6 ++ s.measurement 7 := by
  simp [State.measurements, List.range_succ]

section
variable {s : State} (body asked : List Byte)

theorem State.signedResponse_dead (hd : s.rng.dead = true) : s.signedResponse body asked = s.send (.spdmError 5) := if_pos hd

theorem State.signedResponse_busy (hd : s.rng.dead = false) (he : s.rng.est ≠ 1) :
    s.signedResponse body asked = s.send (.spdmError 3) := (if_neg (by simp [hd])).trans (if_pos he)

theorem State.signedResponse_waits (hd : s.rng.dead = false) (he : s.rng.est = 1) (hf : s.rng.fresh = []) :
    s.signedResponse body asked = s := by
  simp [State.signedResponse, hd, he, hf]

theorem State.signedResponse_signs (hd : s.rng.dead = false) (he : s.rng.est = 1) {b : List Byte} {t : List (List Byte)}
    (hf : s.rng.fresh = b :: t) : s.signedResponse body asked = State.send { s with rng := { s.rng with fresh := t } }
      (.spdm 0 (body ++ b.take 32) (Config.deviceSignature (asked ++ (body ++ b.take 32)))) := by
  simp [State.signedResponse, hd, he, hf]

end

/-! ## The event log and the power registers (R462, R510; logs 36, 156) -/

theorem keepNewest_short {l : List (Nat × EventRec)} (h : l.length ≤ 1048576) : keepNewest l = l := by
  rw [keepNewest, Nat.sub_eq_zero_of_le h, List.drop_zero]

theorem State.storeEvent_log {s : State} (h : s.reeve.log.length < 1048576) (e : EventRec) :
    (s.storeEvent e).reeve.log = s.reeve.log ++ [(s.reeve.nextSeq, e)] := by
  have hlen : (s.reeve.log ++ [(s.reeve.nextSeq, e)]).length ≤ 1048576 := by
    rw [List.length_append, List.length_singleton]
    exact h
  simp only [State.storeEvent, keepNewest_short hlen]

theorem State.storeEvent_count (s : State) (e : EventRec) : mapGet 0 (s.storeEvent e).reeve.counts e.code =
    (mapGet 0 s.reeve.counts e.code + 1) % 2 ^ 64 := mapGet_mapSet_same ..

theorem State.storeEvent_count_other (s : State) {e : EventRec} {c : Nat} (h : c ≠ e.code) :
    mapGet 0 (s.storeEvent e).reeve.counts c = mapGet 0 s.reeve.counts c := mapGet_mapSet_other _ _ h.symm

section
variable {s : State}

theorem eventLogStore_down (hu : s.reeveUp = false) : eventLogStore s = s := if_pos (by simp [hu])

theorem eventLogStore_none (hu : s.reeveUp = true) (he : s.evLog = []) : eventLogStore s = s := by
  simp [eventLogStore, hu, he]

theorem eventLogStore_oldest (hu : s.reeveUp = true) {e : EventRec} {rest : List EventRec} (he : s.evLog = e :: rest) :
    eventLogStore s = State.storeEvent { s with evLog := rest } e := by
  simp [eventLogStore, hu, he]

theorem exec_eventLogStore_oldest (hu : s.reeveUp = true) {e : EventRec} {rest : List EventRec} (he : s.evLog = e :: rest) :
    exec .eventLogStore s = .next { State.storeEvent { s with evLog := rest } e with
      pending := s.pending, hif := { s.hif with ready := s.readyNow } } := by
  rw [exec_eventLogStore, eventLogStore_oldest hu he, State.settle_quiet (s := s) (t := State.storeEvent { s with evLog := rest } e) rfl]
  rfl

theorem eventCountSave_up (hu : s.reeveUp = true) :
    eventCountSave s = { s with reeve := { s.reeve with saved := s.reeve.counts } } := if_pos hu

theorem eventCountSave_down (hu : s.reeveUp = false) : eventCountSave s = s := if_neg (by simp [hu])

theorem logRead_records (hu : s.reeveUp = true) (seq : W64) : logRead .records seq s =
    s.send (.mctp (((s.reeve.log.filter fun r => decide (seq.toNat ≤ r.1)).take 16).flatMap logRecord)) := if_neg (by simp [hu])

theorem logRead_counts (hu : s.reeveUp = true) (seq : W64) : logRead .counts seq s =
    s.send (.mctp (s.reeve.counts.flatMap fun c => bytesOfNat 8 c.1 ++ bytesOfNat 8 c.2)) := if_neg (by simp [hu])

theorem logRead_power (hu : s.reeveUp = true) (seq : W64) : logRead .power seq s =
    s.send (.mctp (bytesOfNat 8 s.pwr.statusWord ++ bytesOfNat 8 s.pwr.inputWord ++ bytesOfNat 8 s.pwr.tempWord)) :=
  if_neg (by simp [hu])

end

/-! ## The obligation -/

/-- Settles O58: each clause is one of the laws above of the row that it is about. -/
theorem entropyAttestationAndLogRows : Obligations.EntropyAttestationAndLogRows := by
  unfold Obligations.EntropyAttestationAndLogRows
  intro s h
  refine ⟨fun hd => ?dead, fun b hb => ?testVoid, ?sample, fun hd he => ?failsInRun, fun hd he b hl => ⟨fun hp => ?testPasses, fun hp => ?testFails⟩,
    fun b => ⟨fun he hl hp => ?releases, fun he hd hl hp => ?blockFails, fun hb => ?blockVoid⟩,
    fun hs => ⟨entropyRead_busy hs, fun b t => entropyRead_serves hs, entropyRead_waits hs⟩,
    fun hu => ⟨fun o n => ?certificate, fun slot o n nonce h0 => ⟨?noCertificate, ?noChallenge⟩, fun nonce => ?challenge,
      fun i nonce h1 h7 => ?measurement, fun nonce => ?measurements, fun seq => ?records, ?power, ?counts,
      fun e rest he hl => ?stores, fun he => ?nothing, ?saves⟩,
    fun hu => ⟨?downStore, ?downSave⟩,
    fun body asked => ⟨State.signedResponse_dead body asked, State.signedResponse_busy body asked, State.signedResponse_waits body asked,
      fun b t hd he hf => State.signedResponse_signs body asked hd he hf⟩⟩
  case dead => rw [exec_entropyHealthFail, State.entropyFail_dead hd]
  case testVoid => rw [exec_entropyStartupTestEnd, entropyTestEnd_void hb]
  case sample =>
    rintro x y b rfl
    exact ⟨Health.sample_run x b, rfl, rfl, Health.sample_passes_iff x b⟩
  case failsInRun =>
    refine ⟨_, exec_entropyHealthFail s, ?_⟩
    rw [State.settle_rng, State.entropyFail_run hd he]
    exact ⟨rfl, rfl, rfl, rfl, rfl, rfl⟩
  case testPasses =>
    refine ⟨_, exec_entropyStartupTestEnd b s, ?_⟩
    rw [State.settle_rng, entropyTestEnd_passes hd he hl hp]
    exact ⟨rfl, rfl⟩
  case testFails =>
    refine ⟨_, exec_entropyStartupTestEnd b s, ?_⟩
    rw [State.settle_rng, entropyTestEnd_fails hd he hl hp, State.entropyFail_rng hd, Rng.rowAfterFail_startup he]
    simp
  case releases =>
    refine ⟨_, exec_entropyBlockReady b s, ?_⟩
    rw [State.settle_rng, entropyBlockReady_releases he hl hp]
    exact ⟨rfl, rfl⟩
  case blockFails =>
    refine ⟨_, exec_entropyBlockReady b s, ?_⟩
    rw [State.settle_rng, entropyBlockReady_fails he hl hp, State.entropyFail_run hd he]
    exact ⟨rfl, rfl⟩
  case blockVoid => rw [exec_entropyBlockReady, entropyBlockReady_void hb]
  case certificate => rw [exec_spdmGetCertificate, spdmGetCertificate_slot0 hu]
  case noCertificate => rw [exec_spdmGetCertificate, spdmGetCertificate_other hu h0]
  case noChallenge => rw [exec_spdmChallenge, spdmChallenge_other hu h0]
  case challenge => rw [exec_spdmChallenge, spdmChallenge_slot0 hu]
  case measurement =>
    have h0 : i ≠ 0 := by rintro rfl; exact absurd h1 (by decide)
    rw [exec_spdmGetMeasurements, exec_spdmGetMeasurements, spdmGetMeasurements_answers hu h0 (.inr h7),
      spdmGetMeasurements_answers hu h0 (.inr h7), s.measurements_one h1 h7]
    exact ⟨rfl, rfl⟩
  case measurements =>
    rw [exec_spdmGetMeasurements, spdmGetMeasurements_answers hu (by decide) (.inl rfl), ← s.measurements_all]
    rfl
  case records => rw [exec_logRead, logRead_records hu]
  case power => rw [exec_logRead, logRead_power hu]
  case counts => rw [exec_logRead, logRead_counts hu]
  case stores =>
    exact ⟨_, exec_eventLogStore_oldest hu he, rfl, State.storeEvent_log hl e, rfl, State.storeEvent_count _ e,
      fun c hc => State.storeEvent_count_other _ hc⟩
  case nothing => rw [exec_eventLogStore, eventLogStore_none hu he]
  case saves => rw [exec_eventCountSave, eventCountSave_up hu]
  case downStore => rw [exec_eventLogStore, eventLogStore_down hu]
  case downSave => rw [exec_eventCountSave, eventCountSave_down hu]

end Sys2Proof.Machine
end

section
/-! SUPPORT. READY and the state after reset (R71, R422, R434, R435, R440, R501). -/

namespace Sys2Proof.Machine

/-- READY as a command leaves it is computed from the state that it leaves. -/
theorem exec_ready {c : Instr} {s t : State} (h : exec c s = .next t) : t.hif.ready = t.readyNow := by
  obtain ⟨u, rfl⟩ := exec_settles h
  rw [State.settle_ready, State.settle_readyNow]

theorem State.readyNow_iff (s : State) : s.readyNow = true ↔
    s.hif.enable = true ∧ s.pwr.up = true ∧ s.reeve.mode ≠ .recovery ∧ (mapFind s.hif.queues 0).isSome = true := by
  simp only [State.readyNow, Bool.and_eq_true, bne_iff_ne, and_assoc]

/-- Settles O5: READY is computed anew after every command. -/
theorem readyIsExactAfterCommand : Obligations.ReadyIsExactAfterCommand := by
  intro c s t h
  rw [exec_ready h, State.readyNow_iff]

/-- A state with READY as computed is sound. -/
theorem State.readySound_of_readyNow {s : State} (h : s.hif.ready = s.readyNow) : s.ReadySound := by
  intro hr
  obtain ⟨he, hu, hm, hq⟩ := s.readyNow_iff.1 (h ▸ hr)
  exact ⟨hu, he, hq, hm⟩

/-- The cycle that passes on an empty queue moves the bell alone. -/
theorem idle_readySound {s : State} (h : s.ReadySound) : (idle s).ReadySound := h

/-- Settles O4: the idle cycle leaves READY and what it depends on, and every command computes READY anew. -/
theorem stepKeepsReadySound : Obligations.StepKeepsReadySound := by
  intro s t hs h
  unfold step at h
  split at h
  · obtain rfl := Host.Outcome.next.inj h
    exact idle_readySound hs
  · exact State.readySound_of_readyNow (exec_ready h)

/-- Settles O3: each field by its cold value. -/
theorem resetState : Obligations.ResetState :=
  ⟨fun h => (by cases h), rfl, rfl, rfl, rfl, rfl, rfl, rfl, rfl, rfl, rfl, rfl, fun _ => rfl, fun _ => rfl⟩

end Sys2Proof.Machine
end

section
/-! SUPPORT. Replies, the order in which packets start, and what a command of a packet comes to (R425 to R427, R429, R432, R433, R435,
R437). -/

namespace Sys2Proof.Machine
open Sys2Proof.Claims

/-! ## Packets in progress (R415, R427) -/

section
variable {s : State} {h : PktHdr} {q : QPair}

theorem State.pairOf_queue (hq : mapFind s.hif.queues h.queue.toNat = some q) (hp : h ∈ q.progress) : s.pairOf h = some q := by
  simp [State.pairOf, hq, hp]

/-- The packets before one that stands once in its queue. -/
theorem QPair.before_eq {a b : List PktHdr} (hp : q.progress = a ++ h :: b) (ha : h ∉ a) : q.before h = a := by
  have hne : ∀ p ∈ a, (p != h) = true := fun p hpa => bne_iff_ne.2 fun e => ha (e ▸ hpa)
  rw [QPair.before, hp, List.takeWhile_append_of_pos hne]
  simp

/-- A packet of a queue may start when it has started, or by the packets before it (R427). -/
theorem State.mayStart_iff {a b : List PktHdr} (hq : mapFind s.hif.queues h.queue.toNat = some q) (hp : q.progress = a ++ h :: b)
    (ha : h ∉ a) : s.mayStart h = true ↔
      h ∈ q.started ∨ if h.fence = true then a = [] else ∀ p ∈ a, p ∈ q.started := by
  rw [State.mayStart, State.pairOf_queue hq (by simp [hp])]
  simp only [QPair.before_eq hp ha, Bool.or_eq_true, List.contains_iff_mem]
  by_cases hf : h.fence = true <;> simp [hf]

/-- The first packet of its queue may start (R427). -/
theorem State.mayStart_first {b : List PktHdr} (hq : mapFind s.hif.queues h.queue.toNat = some q) (hp : q.progress = h :: b) :
    s.mayStart h = true := by
  rw [State.mayStart_iff (a := []) hq hp (by simp)]
  right
  split <;> simp

/-! ## Replies (R425, R426, R430, R433) -/

theorem State.putReply_queue (hq : mapFind s.hif.queues h.queue.toNat = some q) (hp : h ∈ q.progress) (r : ReplyMsg) :
    s.putReply h r = { s with hif := { s.hif with
      queues := mapPut s.hif.queues h.queue.toNat { q.finish h with replies := q.replies ++ [r] } } } := by
  have hhere : (mapFind s.hif.queues h.queue.toNat).filter (fun q => q.progress.contains h) = some q := by simp [hq, hp]
  rw [State.putReply, hhere]

/-- In a queue without a packet of an unknown OPCODE a reply lets no other follow. -/
theorem State.reply_queue (hq : mapFind s.hif.queues h.queue.toNat = some q) (hp : h ∈ q.progress)
    (hk : ∀ p ∈ q.progress, p.op.toNat ∈ knownOpcodes) (status r0 r1 r2 : Nat) :
    s.reply h status r0 r1 r2 = { s with hif := { s.hif with
      queues := mapPut s.hif.queues h.queue.toNat { q.finish h with
        replies := q.replies ++ [⟨h.tag.toNat, status, false, h.irq, r0 % 2 ^ 64, r1 % 2 ^ 64, r2 % 2 ^ 64⟩] } } } := by
  rw [State.reply, State.putReply_queue hq hp]
  exact State.answerUnknown_known (mapFind_mapPut_same ..) fun p hp => hk p (List.mem_of_mem_erase hp)

theorem State.answerUnknown_absent {n : Nat} (hq : mapFind s.hif.queues n = none) : s.answerUnknown n = s := by
  rw [State.answerUnknown, mapGet_eq_mapFind, mapFind_map _ (fun _ (q : QPair) => q.progress), hq]
  rfl

/-- A packet of no queue is answered by nothing. -/
theorem State.reply_absent (hq : mapFind s.hif.queues h.queue.toNat = none) (hg : s.hif.gone = []) (status r0 r1 r2 : Nat) :
    s.reply h status r0 r1 r2 = s := by
  have hput : ∀ r, s.putReply h r = s := by
    intro r
    simp only [State.putReply, hq, hg, Option.filter_none, List.map_nil, List.filter_nil]
    rw [← hg]
  rw [State.reply, hput, State.answerUnknown_absent hq]

/-- A packet of an unknown OPCODE, alone in its queue, is answered at once (R433). -/
theorem State.answerUnknown_alone (hq : mapFind s.hif.queues h.queue.toNat = some q) (hp : q.progress = [h])
    (hk : h.op.toNat ∉ knownOpcodes) :
    s.answerUnknown h.queue.toNat = s.putReply h ⟨h.tag.toNat, stInvalid, false, h.irq, 0, 0, 0⟩ := by
  have hl : mapGet [] (s.hif.queues.map fun q => (q.1, q.2.progress)) h.queue.toNat = [h] := by
    rw [mapGet_eq_mapFind, mapFind_map _ (fun _ (q : QPair) => q.progress), hq, ← hp]
    rfl
  rw [State.answerUnknown, hl, List.foldl_cons, List.foldl_nil, if_pos (by simp [hk, State.mayStart_first hq hp])]

end

/-! ## What a command of a packet comes to (R427, R429, R432, R433, R435, R437) -/

theorem PktHdr.says_iff (h : PktHdr) (op : Nat) (f : List (Nat × Nat × Nat)) :
    h.says op f = true ↔ h.op.toNat = op ∧ ∀ x ∈ f, natOfBytes ((h.params.drop x.1).take x.2.1) = x.2.2 := by
  simp [PktHdr.says, PktHdr.param]

theorem State.unitOff_iff (s : State) (op : Nat) : s.unitOff op = true ↔
    (op = 0x0410 ∧ s.unitOn 2 = false) ∨ (op = 0x0411 ∧ s.unitOn 3 = false) ∨ (op = 0x0504 ∧ s.unitOn 4 = false) := by
  unfold State.unitOff unitOf
  by_cases h2 : op = 0x0410
  · simp [h2]
  · by_cases h3 : op = 0x0411
    · simp [h3]
    · by_cases h4 : op = 0x0504 <;> simp [h2, h3, h4]

section
variable {s : State} {h : PktHdr} {op : Nat} {f : List (Nat × Nat × Nat)} {body : State → State} {busy : State → Bool}

theorem damtinFirst_waits (hw : h.says op f = false ∨ s.mayStart h = false) : damtinFirst busy op h f body s = s :=
  if_pos (by simpa using hw)

theorem damtinFirst_free (hb : busy s = false) : damtinFirst busy op h f body s = damtin op h f body s := by
  simp only [damtin, damtinFirst, hb]

variable (hs : h.says op f = true) (hm : s.mayStart h = true)
include hs hm

theorem damtinFirst_busy (hb : busy s = true) : damtinFirst busy op h f body s = s.reply h stBusy :=
  (if_neg (by simp [hs, hm])).trans (if_pos hb)

/-- A command that a rule need not answer BUSY is refused by its queue, by its unit and by its session, in this order. -/
theorem damtin_checks : damtin op h f body s =
    if op < 0x0100 ∧ h.queue ≠ 0 then s.reply h stInvalid
    else if s.unitOff op then s.reply h stNotEnabled
    else if needsSession op && !s.sessionFor h then s.reply h stInvalid
    else body s :=
  (if_neg (by simp [hs, hm])).trans (if_neg Bool.false_ne_true)

theorem damtin_wrong_queue (hop : op < 0x0100) (hq : h.queue ≠ 0) : damtin op h f body s = s.reply h stInvalid := by
  rw [damtin_checks hs hm, if_pos ⟨hop, hq⟩]

theorem damtin_unit_off (hop : 0x0100 ≤ op) (hu : s.unitOff op = true) : damtin op h f body s = s.reply h stNotEnabled := by
  rw [damtin_checks hs hm, if_neg fun c => Nat.not_le_of_lt c.1 hop, if_pos hu]

theorem damtin_no_session (hop : 0x0100 ≤ op) (hop' : op ≤ 0x0700) (hu : s.unitOff op = false) (hn : s.sessionFor h = false) :
    damtin op h f body s = s.reply h stInvalid := by
  have hneeds : needsSession op = true := by
    simp only [needsSession, Bool.or_eq_true, Bool.and_eq_true, decide_eq_true_eq, bne_iff_ne]
    omega
  rw [damtin_checks hs hm, if_neg fun c => Nat.not_le_of_lt c.1 hop, if_neg (by simp [hu]), if_pos (by simp [hneeds, hn])]

end

/-- Settles O50: the reply by its queue, the start by the packets before it, the command by what it may be refused for. -/
theorem repliesAndStarting : Obligations.RepliesAndStarting := by
  refine ⟨fun s h status r0 r1 r2 => ⟨fun q hq hp hk => State.reply_queue hq hp hk .., fun hq hg => State.reply_absent hq hg ..,
      fun q hq hp hst hk => ?unknown⟩,
    fun s h op f body busy => ⟨h.says_iff op f, fun hw => ⟨damtinFirst_waits hw, damtinFirst_waits hw⟩,
      fun hs => ⟨damtinFirst_busy hs, damtinFirst_free, fun hst hu => ?runs, damtin_unit_off hs, s.unitOff_iff op,
        damtin_wrong_queue hs, damtin_no_session hs⟩⟩,
    fun s h q a b hq hp ha => State.mayStart_iff hq hp ha⟩
  case unknown =>
    rw [State.answerUnknown_alone hq hp hk, State.putReply_queue hq (by simp [hp])]
    simp [QPair.finish, hp, hst, stInvalid]
  case runs =>
    obtain ⟨hm, hqueue, hsess⟩ := hst
    exact damtin_runs hs hm hqueue hsess hu

end Sys2Proof.Machine
end

section
/-! SUPPORT. The queue engine and the doorbells (R414, R421, R424 to R430, R433). -/

namespace Sys2Proof.Machine

/-! ## The rows -/

theorem exec_packetAccept (s : State) : exec .packetAccept s = .next (s.settle (packetAccept s)) := rfl

theorem exec_replyWrite (i : QueueId) (s : State) : exec (.replyWrite i) s = .next (s.settle (replyWrite i s)) := rfl

/-- The doorbell of a queue's submission tail is the first word of its page of BAR2 (R424). -/
theorem exec_sqTailDoorbell (i : Byte) (v : W32) (s : State) :
    exec (.sqTailDoorbell i v) s = .next (s.settle (sqTailDoorbell i v s)) := by
  have hq : BitVec.ofNat 8 (0x1000 * i.toNat / 0x1000) = i := by simp
  show Host.Outcome.next (s.settle (s.bar2Write (0x1000 * i.toNat) v)) = _
  rw [State.bar2Write, if_pos (by omega), hq]

/-- The doorbell of a queue's reply head is the second word of its page of BAR2 (R424). -/
theorem exec_rqHeadDoorbell (i : Byte) (v : W32) (s : State) :
    exec (.rqHeadDoorbell i v) s = .next (s.settle (rqHeadDoorbell i v s)) := by
  have hq : BitVec.ofNat 8 ((0x1000 * i.toNat + 4) / 0x1000) = i := by
    rw [show (0x1000 * i.toNat + 4) / 0x1000 = i.toNat by omega, BitVec.ofNat_toNat, BitVec.setWidth_eq]
  show Host.Outcome.next (s.settle (s.bar2Write (0x1000 * i.toNat + 4) v)) = _
  rw [State.bar2Write, if_neg (by omega), if_pos (by omega), hq]

/-! ## Packets (R425, R427, R429) -/

theorem packetOf_queue {n : Nat} (hn : n < 64) (num : Nat) (b : List Byte) : (packetOf n num b).queue.toNat = n := by
  simpa [packetOf] using Nat.mod_eq_of_lt hn

/-- A field of a packet is as wide as its bytes. -/
theorem toNat_ofNat_natOfBytes {w n : Nat} (b : List Byte) (hw : 256 ^ n ≤ 2 ^ w) :
    (BitVec.ofNat w (natOfBytes (b.take n))).toNat = natOfBytes (b.take n) := by
  rw [BitVec.toNat_ofNat]
  apply Nat.mod_eq_of_lt
  calc natOfBytes (b.take n) < 256 ^ (b.take n).length := natOfBytes_lt _
    _ ≤ 256 ^ n := Nat.pow_le_pow_right (by omega) (List.length_take_le ..)
    _ ≤ 2 ^ w := hw

/-- A fetched packet holds its fields as Table 14-8 places them. -/
theorem packetOf_fields (n num : Nat) (b : List Byte) :
    (packetOf n num b).op.toNat = natOfBytes (b.take 2) ∧ (packetOf n num b).tag.toNat = natOfBytes ((b.drop 2).take 2) ∧
    (packetOf n num b).flags.toNat = natOfBytes ((b.drop 4).take 2) ∧
    (packetOf n num b).raddr.toNat = natOfBytes ((b.drop 8).take 8) ∧ (packetOf n num b).params = b.drop 16 :=
  ⟨toNat_ofNat_natOfBytes b (by decide), toNat_ofNat_natOfBytes _ (by decide), toNat_ofNat_natOfBytes _ (by decide),
    toNat_ofNat_natOfBytes _ (by decide), rfl⟩

/-- What the engine may fetch (R426 to R428, R436). -/
theorem QPair.fetchable_iff (q : QPair) : q.fetchable = true ↔
    q.stopped = false ∧ q.closing = false ∧ q.head ≠ q.tail ∧ q.progress.length < 16 ∧ q.rqFull = false := by
  simp only [QPair.fetchable, Bool.and_eq_true, Bool.not_eq_true', bne_iff_ne, decide_eq_true_eq]
  tauto

section
variable {s : State} {n : Nat} {q : QPair}

/-- The queue whose turn it is stands among the 64, may be fetched from, and waits for no aperture write (R421, R427). -/
theorem State.nextQueue_spec (h : s.nextQueue = some (n, q)) : n < 64 ∧ mapFind s.hif.queues n = some q ∧ q.fetchable = true ∧
    ∀ t ∈ q.behind, t ∉ s.aperWrites := by
  obtain ⟨hp, hmem⟩ := And.intro (List.find?_some h) (List.mem_of_find?_eq_some h)
  obtain ⟨m, hm, hq⟩ := List.mem_filterMap.1 hmem
  obtain ⟨i, -, rfl⟩ := List.mem_map.1 hm
  obtain ⟨q', hq', he⟩ := Option.map_eq_some_iff.1 hq
  obtain ⟨rfl, rfl⟩ := Prod.mk.inj he
  obtain ⟨hf, hb⟩ : q'.fetchable = true ∧ ∀ t ∈ q'.behind, t ∉ s.aperWrites := by simpa using hp
  exact ⟨Nat.mod_lt _ (by decide), hq', hf, hb⟩

/-- The queue with its next packet accepted. -/
def QPair.accepts (q : QPair) (p : PktHdr) : QPair := { q with head := (q.head + 1) % 2 ^ q.sqLog, progress := q.progress ++ [p] }

/-- The state with the next packet of a queue accepted. -/
def State.accepts (s : State) (n : Nat) (q : QPair) (p : PktHdr) : State :=
  { s with hif := { s.hif with lastQueue := n, queues := mapPut s.hif.queues n (q.accepts p), pktNum := s.hif.pktNum + 1 } }

theorem packetAccept_none (h : s.engineFetches = false ∨ s.nextQueue = none) : packetAccept s = s := by
  unfold packetAccept
  split
  · rfl
  · next he => rw [h.resolve_left (by simpa using he)]

/-- The engine accepts the next packet of the queue whose turn it is, and then packets of an unknown OPCODE may have theirs (R425, R427,
R433). -/
theorem packetAccept_accepts (he : s.engineFetches = true) (hn : s.nextQueue = some (n, q)) : packetAccept s =
    (s.accepts n q (packetOf n s.hif.pktNum (s.hostMem.readBytes (q.sqBase + 64 * q.head) 64))).answerUnknown n := by
  unfold packetAccept
  rw [he, hn]
  rfl

theorem State.accepts_find (p : PktHdr) : mapFind (s.accepts n q p).hif.queues n = some (q.accepts p) := mapFind_mapPut_same ..

/-- Where the table has every OPCODE in progress, accepting a packet is all. -/
theorem State.accepts_known {p : PktHdr} (hk : ∀ x ∈ (q.accepts p).progress, x.op.toNat ∈ knownOpcodes) :
    (s.accepts n q p).answerUnknown n = s.accepts n q p := State.answerUnknown_known (State.accepts_find p) hk

/-- A packet of an unknown OPCODE, the only one of its queue, is answered as it is accepted. -/
theorem State.accepts_unknown {p : PktHdr} (hpn : p.queue.toNat = n) (hp : q.progress = []) (hk : p.op.toNat ∉ knownOpcodes) :
    (s.accepts n q p).answerUnknown n = (s.accepts n q p).putReply p ⟨p.tag.toNat, 0x15, false, p.irq, 0, 0, 0⟩ := by
  subst hpn
  exact State.answerUnknown_alone (State.accepts_find p) (by simp [QPair.accepts, hp]) hk

end

/-! ## Replies (R426, R430) -/

/-- The queue with its oldest reply written, `next` its next entry. -/
def QPair.wrote (q : QPair) (rest : List ReplyMsg) (next : Nat) : QPair :=
  { q with replies := rest, rqNext := next, phase := if next = 0 then !q.phase else q.phase }

/-- The state with the oldest reply of a queue written, before the interrupt. -/
def State.wroteReply (s : State) (n : Nat) (q : QPair) (r : ReplyMsg) (rest : List ReplyMsg) : State :=
  { s with hostMem := s.hostMem.writeBytes (q.rqBase + 32 * q.rqNext) (q.entry n r),
           hif := { s.hif with queues := mapPut s.hif.queues n (q.wrote rest ((q.rqNext + 1) % 2 ^ q.rqLog)) } }

theorem State.wroteReply_find (s : State) (n : Nat) (q : QPair) (r : ReplyMsg) (rest : List ReplyMsg) :
    mapFind (s.wroteReply n q r rest).hif.queues n = some (q.wrote rest ((q.rqNext + 1) % 2 ^ q.rqLog)) :=
  mapFind_mapPut_same ..

section
variable {s : State} {i : QueueId} {q : QPair} {r : ReplyMsg} {rest : List ReplyMsg} (hq : mapFind s.hif.queues i.toNat = some q)
  (hr : q.replies = r :: rest)
include hq hr

theorem replyWrite_full (hf : q.rqFull = true) : replyWrite i s = s := by
  simp only [replyWrite, hq, hr, hf, if_true]

theorem replyWrite_writes (hf : q.rqFull = false) : replyWrite i s =
    (if r.event = true ∨ r.irq = true then (s.wroteReply i.toNat q r rest).send (.interrupt q.vector)
      else s.wroteReply i.toNat q r rest).finishQueues := by
  simp only [replyWrite, hq, hr, hf, Bool.or_eq_true]
  rfl

end

/-! ## Doorbells (R424, R428) -/

section
variable {s : State} {i : Byte} {v : W32}

theorem sqTailDoorbell_closed (hb : s.barOpen = false) : sqTailDoorbell i v s = s.send .unsupportedRequest := if_pos (by simp [hb])

theorem rqHeadDoorbell_closed (hb : s.barOpen = false) : rqHeadDoorbell i v s = s.send .unsupportedRequest := if_pos (by simp [hb])

section
variable (hb : s.barOpen = true)
include hb

theorem sqTailDoorbell_absent (hq : mapFind s.hif.queues i.toNat = none) : sqTailDoorbell i v s = s.badDoorbell i.toNat := by
  simp [sqTailDoorbell, hb, hq]

theorem rqHeadDoorbell_absent (hq : mapFind s.hif.queues i.toNat = none) : rqHeadDoorbell i v s = s.badDoorbell i.toNat := by
  simp [rqHeadDoorbell, hb, hq]

variable {q : QPair} (hq : mapFind s.hif.queues i.toNat = some q)
include hq

/-- What becomes of a tail for a queue that is there (R424, R428). -/
theorem sqTailDoorbell_queue : sqTailDoorbell i v s =
    if q.sqSize ≤ v.toNat % 4096 ∨ 4095 < (v.toNat % 4096 + q.sqSize - q.head) % q.sqSize then s.badDoorbell i.toNat
    else { s with hif := { s.hif with
      queues := mapPut s.hif.queues i.toNat { q with tail := v.toNat % 4096, behind := s.aperWrites } } } := by
  simp only [sqTailDoorbell, hb, hq, Bool.not_true, Bool.false_eq_true, if_false]

/-- A tail within the ring, at most 4,095 entries ahead, is taken. -/
theorem sqTailDoorbell_moves (hn : v.toNat % 4096 < 2 ^ q.sqLog)
    (ha : (v.toNat % 4096 + 2 ^ q.sqLog - q.head) % 2 ^ q.sqLog ≤ 4095) : sqTailDoorbell i v s = { s with hif := { s.hif with
      queues := mapPut s.hif.queues i.toNat { q with tail := v.toNat % 4096, behind := s.aperWrites } } } :=
  (sqTailDoorbell_queue hb hq).trans (if_neg (not_or.2 ⟨Nat.not_le_of_lt hn, Nat.not_lt_of_le ha⟩))

theorem sqTailDoorbell_bad (hn : 2 ^ q.sqLog ≤ v.toNat % 4096) : sqTailDoorbell i v s = s.badDoorbell i.toNat :=
  (sqTailDoorbell_queue hb hq).trans (if_pos (.inl hn))

/-- What becomes of a head for a queue that is there (R424, R428). -/
theorem rqHeadDoorbell_queue : rqHeadDoorbell i v s =
    if q.rqSize ≤ v.toNat % 4096 then s.badDoorbell i.toNat
    else { s with hif := { s.hif with queues := mapPut s.hif.queues i.toNat { q with rqHead := v.toNat % 4096 } } } := by
  simp only [rqHeadDoorbell, hb, hq, Bool.not_true, Bool.false_eq_true, if_false]

theorem rqHeadDoorbell_moves (hn : v.toNat % 4096 < 2 ^ q.rqLog) : rqHeadDoorbell i v s =
    { s with hif := { s.hif with queues := mapPut s.hif.queues i.toNat { q with rqHead := v.toNat % 4096 } } } :=
  (rqHeadDoorbell_queue hb hq).trans (if_neg (Nat.not_le_of_lt hn))

theorem rqHeadDoorbell_bad (hn : 2 ^ q.rqLog ≤ v.toNat % 4096) : rqHeadDoorbell i v s = s.badDoorbell i.toNat :=
  (rqHeadDoorbell_queue hb hq).trans (if_pos hn)

end

theorem State.bar2Write_other {o : Nat} (hb : s.barOpen = true) (h0 : o % 0x1000 ≠ 0) (h4 : o % 0x1000 ≠ 4) :
    s.bar2Write o v = s := by
  rw [State.bar2Write, if_neg h0, if_neg h4, if_neg (by simp [hb])]

/-- A bad doorbell stops the queue that it names (R428). -/
theorem State.badDoorbell_stops {n : Nat} {q : QPair} (hq : mapFind s.hif.queues n = some q) :
    mapFind (s.badDoorbell n).hif.queues n = some { q with stopped := true } := by
  simp only [State.badDoorbell, hq, mapFind_mapPut_same]

end

/-- Settles O53: each clause is one of the laws above of the row that it is about. -/
theorem queueRows : Obligations.QueueRows := by
  intro s
  refine ⟨fun h => ?nothing, fun n q b he hn hb => ?accepts, fun n q hn => ?turn,
    fun i q r rest hq hr => ⟨fun hf => ?full, fun hf next hnext => ?writes⟩,
    fun i v hb => ?closed, fun i v q n hb hq hn => ?doorbells,
    fun o v hb h0 h4 => ⟨State.bar2Write_other hb h0 h4, if_pos ⟨hb, h0, h4⟩⟩,
    fun i v hb hq => ?absent, fun n => ⟨rfl, rfl, fun q => State.badDoorbell_stops⟩⟩
  case nothing => rw [exec_packetAccept, packetAccept_none h]
  case accepts =>
    subst hb
    obtain ⟨hlt, -, -, -⟩ := State.nextQueue_spec hn
    obtain ⟨hop, htag, hflags, hraddr, hparams⟩ :=
      packetOf_fields n s.hif.pktNum (s.hostMem.readBytes (q.sqBase + 64 * q.head) 64)
    have hqueue := packetOf_queue hlt s.hif.pktNum (s.hostMem.readBytes (q.sqBase + 64 * q.head) 64)
    rw [exec_packetAccept, packetAccept_accepts he hn]
    refine ⟨fun hk => ?_, fun hp hk => ?_, hop, htag, hflags, hraddr, hparams, hqueue⟩
    · rw [State.accepts_known hk]
      rfl
    · rw [State.accepts_unknown hqueue hp hk]
      rfl
  case turn =>
    obtain ⟨-, hq, hf, hbehind⟩ := State.nextQueue_spec hn
    obtain ⟨hs, hc, hht, hlen, hfull⟩ := q.fetchable_iff.1 hf
    exact ⟨hq, hs, hc, hht, hlen, hfull, hbehind⟩
  case full => rw [exec_replyWrite, replyWrite_full hq hr hf]
  case writes =>
    subst hnext
    rw [exec_replyWrite, replyWrite_writes hq hr hf]
    refine ⟨_, rfl, ?_⟩
    have hfind := s.wroteReply_find i.toNat q r rest
    by_cases hv : r.event = true ∨ r.irq = true
    · rw [if_pos hv, if_pos hv]
      exact ⟨rfl, hfind, rfl, rfl, rfl, rfl⟩
    · rw [if_neg hv, if_neg hv]
      exact ⟨rfl, hfind, rfl, rfl, rfl, rfl⟩
  case closed =>
    rw [exec_sqTailDoorbell, exec_rqHeadDoorbell, sqTailDoorbell_closed hb, rqHeadDoorbell_closed hb]
    exact ⟨rfl, rfl⟩
  case doorbells =>
    subst hn
    rw [exec_sqTailDoorbell, exec_rqHeadDoorbell]
    refine ⟨fun hlt hahead => ?_, fun hbad => ?_, fun hlt => ?_, fun hbad => ?_⟩
    · rw [sqTailDoorbell_moves hb hq hlt hahead]
    · rw [sqTailDoorbell_bad hb hq hbad]
    · rw [rqHeadDoorbell_moves hb hq hlt]
    · rw [rqHeadDoorbell_bad hb hq hbad]
  case absent =>
    rw [exec_sqTailDoorbell, exec_rqHeadDoorbell, sqTailDoorbell_absent hb hq, rqHeadDoorbell_absent hb hq]
    exact ⟨rfl, rfl⟩

end Sys2Proof.Machine
end

section
/-! SUPPORT. The function: BARs closed and open, ENABLE, resets, configuration writes and DOE discovery (R414 to R416, R420, R423, R434). -/

namespace Sys2Proof.Machine

/-! ## The rows -/

theorem exec_hifEventsSet (on : Bool) (s : State) : exec (.hifEventsSet on) s = .next (s.settle (hifEventsSet on s)) := rfl

theorem exec_hifEnableSet (s : State) : exec .hifEnableSet s = .next (s.settle (hifEnableSet s)) := rfl

theorem exec_hifEnableClear (s : State) : exec .hifEnableClear s = .next (s.settle (hifEnableClear s)) := rfl

theorem exec_registerWrite (o : BitVec 26) (n : BitVec 13) (v : W64) (s : State) :
    exec (.registerWrite o n v) s = .next (s.settle (registerWrite o n.toNat v s)) := rfl

theorem exec_apertureRead (o : BitVec 40) (n : BitVec 13) (s : State) :
    exec (.apertureRead o n) s = .next (s.settle (apertureReadRow o n s)) := rfl

theorem exec_apertureWrite (o : BitVec 40) (b : List Byte) (s : State) :
    exec (.apertureWrite o b) s = .next (s.settle (apertureWriteRow o b s)) := rfl

theorem exec_doeDiscovery (i : Byte) (s : State) : exec (.doeDiscovery i) s = .next (s.settle (doeDiscovery i s)) := rfl

/-! ## With the BARs closed (R414, R416) -/

section
variable {s : State} (hb : s.barOpen = false)
include hb

theorem hifEventsSet_closed (on : Bool) : hifEventsSet on s = s.send .unsupportedRequest := if_pos (by simp [hb])

theorem hifEnableSet_closed : hifEnableSet s = s.send .unsupportedRequest := if_pos (by simp [hb])

theorem hifEnableClear_closed : hifEnableClear s = s.send .unsupportedRequest := if_pos (by simp [hb])

theorem registerWrite_closed (o : BitVec 26) (n : Nat) (v : W64) : registerWrite o n v s = s.send .unsupportedRequest :=
  if_pos (by simp [hb])

theorem apertureReadRow_closed (o : BitVec 40) (n : BitVec 13) : apertureReadRow o n s = s.send .unsupportedRequest :=
  if_pos (by simp [State.apertureOpen, hb])

theorem apertureWriteRow_closed (o : BitVec 40) (b : List Byte) : apertureWriteRow o b s = s.send .unsupportedRequest :=
  if_pos (by simp [State.apertureOpen, hb])

end

/-! ## ENABLE and EVENTS (R423, R434) -/

section
variable {s : State} (hb : s.barOpen = true)
include hb

theorem hifEventsSet_sets (on : Bool) : hifEventsSet on s = { s with hif := { s.hif with events := on } } := if_neg (by simp [hb])

theorem hifEnableSet_again (he : s.hif.enable = true) : hifEnableSet s = s := (if_neg (by simp [hb])).trans (if_pos he)

theorem hifEnableSet_queueZero (he : s.hif.enable = false) {q : QPair} (hq : s.queueZero = some q) :
    hifEnableSet s = { s with hif := { s.hif with enable := true, queues := mapPut s.hif.queues 0 q } } := by
  simp [hifEnableSet, hb, he, hq]

theorem hifEnableSet_invalid (he : s.hif.enable = false) (hq : s.queueZero = none) :
    hifEnableSet s = { s with hif := { s.hif with enable := true } } := by
  simp [hifEnableSet, hb, he, hq]

theorem hifEnableClear_resets (he : s.hif.enable = true) : hifEnableClear s = s.flr := (if_neg (by simp [hb])).trans (if_pos he)

theorem hifEnableClear_again (he : s.hif.enable = false) : hifEnableClear s = s := (if_neg (by simp [hb])).trans (if_neg (by simp [he]))

end

/-- Queue 0 stands as the queue-0 registers name it, empty (R423, Table 14-5). -/
theorem State.queueZero_fresh {s : State} {q : QPair} (h : s.queueZero = some q) :
    q = QPair.fresh (s.hif.aqSq / 4096 * 4096) (s.hif.aqSq % 16) (s.hif.aqRq / 4096 * 4096) (s.hif.aqRq % 16) 0 := by
  unfold State.queueZero at h
  dsimp only at h
  split at h
  · exact (Option.some.inj h).symm
  · cases h

/-! ## Resets of the function (R415) -/

theorem mem_of_mapFind {β : Type} {m : List (Nat × β)} {a : Nat} {x : β} (h : mapFind m a = some x) : (a, x) ∈ m := by
  induction m with
  | nil => cases h
  | cons p t ih =>
    obtain ⟨k, v⟩ := p
    simp only [mapFind] at h
    split at h
    · next hk =>
      obtain rfl := Option.some.inj h
      exact hk ▸ List.mem_cons_self
    · exact List.mem_cons_of_mem _ (ih h)

/-- With no command that waits for queues to go, the queues of a reset keep their packets until these have completed. -/
theorem Hif.goneNow_progress {f : Hif} (hc : f.closing = none) (hd : ∀ x ∈ f.queues, x.2.deleting = none) {n : Nat} {q : QPair}
    {h : PktHdr} (hq : mapFind f.queues n = some q) (hp : h ∈ q.progress) : { q with replies := [] } ∈ f.goneNow := by
  have hended : f.closing.toList ++ f.queues.filterMap (fun q => q.2.deleting) = [] := by
    rw [hc, List.filterMap_eq_nil_iff.2 hd]
    rfl
  unfold Hif.goneNow
  dsimp only
  rw [hended]
  refine List.mem_filter.2 ⟨List.mem_append_right _ (List.mem_map.2 ⟨_, mem_of_mapFind hq, rfl⟩), ?_⟩
  simpa using List.ne_nil_of_mem hp

/-- What was accepted completes within its session (R415, R435). -/
theorem State.flr_sessionFor {s : State} (hc : s.hif.closing = none) (hd : ∀ x ∈ s.hif.queues, x.2.deleting = none) {n : Nat}
    {q : QPair} {h : PktHdr} (hq : mapFind s.hif.queues n = some q) (hp : h ∈ q.progress) : s.flr.sessionFor h = true := by
  have hgone : s.flr.hif.gone.any (fun q => q.progress.contains h) = true :=
    List.any_eq_true.2 ⟨_, Hif.goneNow_progress hc hd hq hp, by simpa using hp⟩
  rw [State.sessionFor, hgone, Bool.or_true]

/-- A DOE discovery answers one word (R414; PRESUMED, log 34). -/
theorem doeDiscovery_answers (i : Byte) (s : State) : ∃ b, doeDiscovery i s = s.send (.doe b) ∧ b.length = 4 :=
  ⟨_, rfl, length_bytesOfNat 4 _⟩

end Sys2Proof.Machine
end

section
/-! SUPPORT. What the registers of BAR0 read (R83, R414, R417, R419 and the register tables of the chapters). -/

namespace Sys2Proof.Machine

/-! ## Where a register lies -/

theorem bnat_le_one (b : Bool) : bnat b ≤ 1 := by cases b <;> decide

theorem coreWindow_below {o : Nat} (h : o < 0x1000000) : coreWindow o = none := if_neg fun hw => Nat.not_le_of_lt h hw.1

theorem coreWindow_core (c : CoreId) {w : Nat} (hw : w < 0x10000) :
    coreWindow (0x1000000 + 0x10000 * c.toNat + w) = some (c.toNat, w) := by
  have hc := c.isLt
  rw [coreWindow, if_pos (by omega), show (0x1000000 + 0x10000 * c.toNat + w - 0x1000000) / 0x10000 = c.toNat by omega,
    show (0x1000000 + 0x10000 * c.toNat + w) % 0x10000 = w by omega]

theorem inBank_place {base n i : Nat} (h : i < n) : inBank base n (base + 8 * i) = true := by
  simp only [inBank, Bool.and_eq_true, decide_eq_true_eq]
  omega

theorem inBank_other {base n o : Nat} (h : o < base ∨ base + 8 * n ≤ o) : inBank base n o = false := by
  simp only [inBank, Bool.and_eq_false_iff, decide_eq_false_iff_not]
  omega

section
variable (s : State)

theorem State.regRaw_module {o : Nat} (h : o < 0x100000) : s.regRaw o = s.moduleReg o := by
  rw [State.regRaw, coreWindow_below (by omega)]
  exact if_pos h

theorem State.regRaw_service {o : Nat} (h : 0x100000 ≤ o) (h' : o < 0x1000000) : s.regRaw o = s.serviceReg o := by
  rw [State.regRaw, coreWindow_below h']
  exact if_neg (Nat.not_lt.2 h)

theorem State.regRaw_core (c : CoreId) {w : Nat} (hw : w < 0x10000) :
    s.regRaw (0x1000000 + 0x10000 * c.toNat + w) = (s.core c).regWord w := by
  rw [State.regRaw, coreWindow_core c hw]
  exact congrArg (fun c => (s.core c).regWord w) (BitVec.ofNat_toNat 8 c)

end

/-! ## Words -/

/-- BEL_STATUS by its fields (Table 03-3). -/
theorem Bel.statusWord_fields (b : Bel) : ∃ st < 4, (st = 2 ↔ b.state = .locked) ∧ b.statusWord =
    bnat b.econThermal * 2 ^ 25 + bnat b.econSupply * 2 ^ 24 + bnat b.econ * 2 ^ 23 + bnat b.half * 2 ^ 22 +
      b.upPort % 8 * 2 ^ 19 + bnat b.root * 2 ^ 18 + st * 2 ^ 16 + b.cycle % 2 ^ 14 := by
  unfold Bel.statusWord
  cases b.state with
  | free => exact ⟨0, by decide, by decide, rfl⟩
  | acquire => exact ⟨1, by decide, by decide, rfl⟩
  | locked => exact ⟨2, by decide, by decide, rfl⟩
  | holdover => exact ⟨3, by decide, by decide, rfl⟩

/-- CYCLE, the flags above STATE, and STATE, of a read of BEL_STATUS. -/
theorem Bel.statusWord_reads (b : Bel) : b.statusWord % 2 ^ 64 % 2 ^ 14 = b.cycle % 2 ^ 14 ∧
    b.statusWord % 2 ^ 64 / 2 ^ 18 % 2 ^ 8 = bnat b.root + 2 * (b.upPort % 8) + 2 ^ 4 * bnat b.half + 2 ^ 5 * bnat b.econ +
      2 ^ 6 * bnat b.econSupply + 2 ^ 7 * bnat b.econThermal ∧
    (b.statusWord % 2 ^ 64 / 2 ^ 16 % 4 = 2 ↔ b.state = .locked) := by
  obtain ⟨st, hst, hlocked, hw⟩ := b.statusWord_fields
  have h1 := bnat_le_one b.econThermal
  have h2 := bnat_le_one b.econSupply
  have h3 := bnat_le_one b.econ
  have h4 := bnat_le_one b.half
  have h5 := bnat_le_one b.root
  rw [← hlocked, hw]
  omega

/-- FAB_PORT by its fields (Table 09-11). -/
theorem PortReg.word_fields (p : PortReg) : ∃ st < 5, (st = 2 ↔ p.state = .up) ∧ p.word =
    p.peer % 2 ^ 12 * 2 ^ 52 + p.retrains % 256 * 2 ^ 16 + bnat p.bypass * 2 ^ 7 + p.width % 8 * 2 ^ 4 + st := by
  unfold PortReg.word
  cases p.state with
  | down => exact ⟨0, by decide, by decide, rfl⟩
  | train => exact ⟨1, by decide, by decide, rfl⟩
  | up => exact ⟨2, by decide, by decide, rfl⟩
  | miswired => exact ⟨3, by decide, by decide, rfl⟩
  | unused => exact ⟨4, by decide, by decide, rfl⟩

/-- WIDTH with BYPASS, STATE, and PEER, of a read of FAB_PORT. -/
theorem PortReg.word_reads (p : PortReg) : p.word % 2 ^ 64 / 2 ^ 4 % 2 ^ 4 = p.width % 8 + 8 * bnat p.bypass ∧
    (p.word % 2 ^ 64 % 8 = 2 ↔ p.state = .up) ∧ p.word % 2 ^ 64 / 2 ^ 52 = p.peer % 2 ^ 12 := by
  obtain ⟨st, hst, hup, hw⟩ := p.word_fields
  have hb := bnat_le_one p.bypass
  rw [← hup, hw]
  omega

theorem State.hifStatus_lt (s : State) : s.hifStatus < 2 ^ 64 := by
  have h1 := bnat_le_one s.reeve.debug
  have h2 := bnat_le_one s.hif.session
  have h3 := bnat_le_one (s.hif.queues.any fun q => q.2.stopped)
  have h4 := bnat_le_one s.hif.ready
  unfold State.hifStatus
  omega

theorem Pwr.statusWord_lt (p : Pwr) : p.statusWord < 2 ^ 64 := by
  have h1 := bnat_le_one p.up
  have h2 := bnat_le_one p.brake
  have h3 := bnat_le_one p.stage1
  have h4 := bnat_le_one p.warn
  have h5 := bnat_le_one p.stage1Seen
  have h6 := bnat_le_one p.warnSeen
  unfold Pwr.statusWord
  omega

theorem State.wearWord_lt (s : State) (n : Nat) : s.wearWord n < 2 ^ 64 := by
  have hb := bnat_le_one (s.exhausted n)
  unfold State.wearWord
  omega

/-! ## Registers by their offset -/

section
variable (s : State)

theorem State.moduleReg_ceiling {c : Nat} (hc : c < 8) : s.moduleReg (0x30000 + 8 * c) = s.inForce c * 2 ^ 16 + s.ceilOf c := by
  have hplace : (0x30000 + 8 * c - 0x30000) / 8 = c := by omega
  unfold State.moduleReg
  simp (disch := omega) only [if_neg, inBank_other, Bool.false_eq_true, if_false, inBank_place, hplace, if_true]

theorem State.moduleReg_ledger {n : Nat} (hn : n < 256) : s.moduleReg (0x40000 + 8 * n) = s.ledger n := by
  have hplace : (0x40000 + 8 * n - 0x40000) / 8 = n := by omega
  unfold State.moduleReg
  simp (disch := omega) only [if_neg, inBank_other, Bool.false_eq_true, if_false, inBank_place, hplace, if_true]

theorem State.moduleReg_wear {n : Nat} (hn : n < 256) : s.moduleReg (0x40800 + 8 * n) = s.wearWord n := by
  have hplace : (0x40800 + 8 * n - 0x40800) / 8 = n := by omega
  unfold State.moduleReg
  simp (disch := omega) only [if_neg, inBank_other, Bool.false_eq_true, if_false, inBank_place, hplace, if_true]

theorem State.serviceReg_port {p : Nat} (hp : p < 6) : s.serviceReg (0x100000 + 16 * p) = (s.port p).word := by
  have hbank : inBank 0x100000 12 (0x100000 + 16 * p) = true := by
    rw [show 0x100000 + 16 * p = 0x100000 + 8 * (2 * p) by omega]
    exact inBank_place (by omega)
  have hplace : (0x100000 + 16 * p - 0x100000) / 16 = p := by omega
  have heven : (0x100000 + 16 * p) % 16 = 0 := by omega
  unfold State.serviceReg
  simp only [hbank, hplace, heven, if_true]

variable {s} (h : s.reeve.overrides = [])
include h

/-! ## Reads where nothing is overridden (R417) -/

theorem State.readReg_plain (o : Nat) : s.readReg o = s.regRaw o % 2 ^ 64 := by
  rw [State.readReg, h]
  rfl

theorem State.readReg_module {o v : Nat} (ho : o < 0x100000) (hv : s.moduleReg o = v) : s.readReg o = v % 2 ^ 64 := by
  rw [State.readReg_plain h, s.regRaw_module ho, hv]

theorem State.readReg_service {o v : Nat} (ho : 0x100000 ≤ o) (ho' : o < 0x1000000) (hv : s.serviceReg o = v) :
    s.readReg o = v % 2 ^ 64 := by
  rw [State.readReg_plain h, s.regRaw_service ho ho', hv]

theorem State.readReg_core (c : CoreId) {w : Nat} (hw : w < 0x10000) :
    s.readReg (0x1000000 + 0x10000 * c.toNat + w) = (s.core c).regWord w % 2 ^ 64 := by
  rw [State.readReg_plain h, s.regRaw_core c hw]

/-- A register of the module whose value fits the 64 bits. -/
theorem State.readReg_module_lt {o v : Nat} (ho : o < 0x100000) (hv : s.moduleReg o = v) (hlt : v < 2 ^ 64) : s.readReg o = v :=
  (State.readReg_module h ho hv).trans (Nat.mod_eq_of_lt hlt)

end

/-- CORE_STATUS of a core without a detour (Table 04-6). -/
theorem Core.statusWord_undetoured {k : Core} (hd : k.detour = none) :
    k.statusWord = k.regs.retireCause % 256 * 2 ^ 24 + bnat k.regs.hosting * 4 + bnat k.regs.retired := by
  simp [Core.statusWord, hd, bnat]

/-! ## BAR0 reads (R414, R417) -/

section
variable {s : State}

theorem State.barRead_closed (hb : s.barOpen = false) (o n : Nat) : s.barRead o n = (2 ^ (8 * n) - 1, true) := if_neg (by simp [hb])

theorem State.barRead_unsupported {o n : Nat} (ho : barAccessOk o n = false) : s.barRead o n = (2 ^ (8 * n) - 1, true) :=
  if_neg (by simp [ho])

theorem State.barRead_whole (hb : s.barOpen = true) {o : Nat} (ho : o % 8 = 0) : s.barRead o 8 = (s.readReg o % 2 ^ 64, false) := by
  have hok : barAccessOk o 8 = true := by simp [barAccessOk, ho]
  rw [State.barRead, hb, hok, show o / 8 * 8 = o by omega, ho]
  simp

theorem State.barRead_upper (hb : s.barOpen = true) {o : Nat} (ho : o % 8 = 0) :
    s.barRead (o + 4) 4 = (s.readReg o / 2 ^ 32 % 2 ^ 32, false) := by
  have hok : barAccessOk (o + 4) 4 = true := by
    have h4 : (o + 4) % 4 = 0 := by omega
    simp [barAccessOk, h4]
  rw [State.barRead, hb, hok, show (o + 4) / 8 * 8 = o by omega, show (o + 4) % 8 = 4 by omega]
  rfl

/-- An access of another size or alignment than R417 allows. -/
theorem barAccessOk_false {o n : Nat} (h : (n ≠ 4 ∧ n ≠ 8) ∨ o % n ≠ 0) : barAccessOk o n = false := by
  simp only [barAccessOk, Bool.and_eq_false_iff, Bool.or_eq_false_iff, beq_eq_false_iff_ne]
  exact h

end

end Sys2Proof.Machine
end

section
/-! SUPPORT. Register writes: writes that are discarded, W1C bits, overrides of debug-unlock state; and the aperture at a page of this
module's HBM (R417 to R420; logs 19, 102). -/

namespace Sys2Proof.Machine

/-! ## Writes (R417, R418) -/

section
variable {s : State}

theorem registerWrite_unsupported {o : BitVec 26} {n : Nat} (h : barAccessOk o.toNat n = false) (v : W64) :
    registerWrite o n v s = s.send .unsupportedRequest := if_pos (by simp [h])

/-- A write of 8 bytes writes every bit of its register. -/
theorem registerWrite_whole (hb : s.barOpen = true) {o : BitVec 26} (ho : o.toNat % 8 = 0) (v : W64) :
    registerWrite o 8 v s = s.writeReg o.toNat (2 ^ 64 - 1) v.toNat := by
  have hok : barAccessOk o.toNat 8 = true := by simp [barAccessOk, ho]
  have hv : v.toNat % 2 ^ (8 * 8) * 2 ^ (8 * 0) = v.toNat := by omega
  have hplace : o.toNat / 8 * 8 = o.toNat := by omega
  unfold registerWrite
  simp only [hb, hok, ho, hplace, hv]
  rfl

theorem exec_registerWrite_whole (hb : s.barOpen = true) {o : BitVec 26} (ho : o.toNat % 8 = 0) (v : W64) :
    exec (.registerWrite o 8 v) s = .next (s.settle (s.writeReg o.toNat (2 ^ 64 - 1) v.toNat)) :=
  congrArg (fun u => Host.Outcome.next (s.settle u)) (registerWrite_whole hb ho v)

/-- A write of a register that takes none is discarded and counted (R418). -/
theorem State.writeReg_denied (hd : s.reeve.debug = false) {o : Nat} (hr : regMask o ≠ 0) (hw : w1cMask o = 0)
    (hh : ¬ (0x10000 ≤ o ∧ o < 0x20000)) (m v : Nat) : s.writeReg o m v = s.denyWrite := by
  unfold State.writeReg
  simp only [hd, hw, Nat.zero_and, Bool.false_and, Bool.false_eq_true, if_neg hr, if_neg hh, if_true, if_false]

/-- A written 1 clears NONDET (R418, Table 08-7). -/
theorem State.writeReg_nondet (hd : s.reeve.debug = false) {v : Nat} (hv : v % 2 = 1) : s.writeReg 0x200010 (2 ^ 64 - 1) v =
    s.modTier fun t => { t with regs := { t.regs with nondet := false } } := by
  have hbit : bit (v &&& 1) 0 = true := by simp [bit, Nat.and_one_is_mod, hv]
  have hclear : s.clearFlags 0x200010 (v &&& 1) = s.modTier fun t => { t with regs := { t.regs with nondet := false } } := by
    show (s.modTier fun t => { t with regs := { t.regs with nondet := t.regs.nondet && !bit (v &&& 1) 0 } }) = _
    simp only [hbit, Bool.not_true, Bool.and_false]
  have hw : w1cMask 0x200010 &&& (2 ^ 64 - 1) = 1 := by decide
  unfold State.writeReg
  simp only [hd, hw, hclear]
  rfl

/-! ## Overrides (R419; DEDUCED, log 19) -/

/-- In debug-unlock state FRAME_NO is overridden. -/
theorem State.writeReg_frameNo (hd : s.reeve.debug = true) (v : Nat) :
    s.writeReg 0x20000 (2 ^ 64 - 1) v = s.override 0x20000 (2 ^ 48 - 1) v := by
  have hw : w1cMask 0x20000 &&& (2 ^ 64 - 1) = 0 := by decide
  have hr : (regMask 0x20000 - (w1cMask 0x20000 &&& regMask 0x20000)) &&& (2 ^ 64 - 1) = 2 ^ 48 - 1 := by decide
  unfold State.writeReg
  simp only [hd, hw, hr]
  rfl

/-- The low bits that are replaced. -/
theorem mergeBits_mod (old new : Nat) : mergeBits old new (2 ^ 48 - 1) % 2 ^ 48 = new % 2 ^ 48 := by
  have hkeep : (2 ^ 64 - 1 - (2 ^ 48 - 1)) % 2 ^ 48 = 0 := by decide
  rw [mergeBits, Nat.or_mod_two_pow, Nat.and_mod_two_pow, hkeep, Nat.and_two_pow_sub_one_eq_mod]
  simp

theorem mergeBits_lt {old : Nat} (h : old < 2 ^ 48) (new : Nat) : mergeBits old new (2 ^ 48 - 1) < 2 ^ 48 := by
  refine Nat.or_lt_two_pow (Nat.lt_of_le_of_lt Nat.and_le_left h) ?_
  rw [Nat.and_two_pow_sub_one_eq_mod]
  exact Nat.mod_lt _ (by decide)

/-- An override of the bits of FRAME_NO, whatever they hold, reads as the value. -/
theorem mergeBits_eq {old : Nat} (h : old < 2 ^ 48) (new : Nat) : mergeBits old new (2 ^ 48 - 1) = new % 2 ^ 48 := by
  rw [← mergeBits_mod old new, Nat.mod_eq_of_lt (mergeBits_lt h new)]

theorem State.override_frame (v : Nat) : (s.override 0x20000 (2 ^ 48 - 1) v).bel.frame = v % 2 ^ 48 := by
  show field (mergeBits (s.regRaw 0x20000) v (2 ^ 48 - 1)) 47 0 = v % 2 ^ 48
  rw [field, Nat.pow_zero, Nat.div_one, mergeBits_mod]

theorem State.override_find (hn : mapFind s.reeve.overrides 0x20000 = none) (v : Nat) :
    mapFind (s.override 0x20000 (2 ^ 48 - 1) v).reeve.overrides 0x20000 = some (2 ^ 48 - 1, v % 2 ^ 48) := by
  have hold : mapGet (0, 0) s.reeve.overrides 0x20000 = (0, 0) := by rw [mapGet_eq_mapFind, hn]; rfl
  show mapFind (mapPut s.reeve.overrides 0x20000 _) 0x20000 = _
  rw [mapFind_mapPut_same, hold, Nat.zero_or, mergeBits_eq (by decide)]

theorem State.settle_overrides (s t : State) : (s.settle t).reeve.overrides = t.reeve.overrides := by
  obtain ⟨_, _, _, _, _, _, _, _, _, h⟩ := State.settle_frame s t; rw [h]

theorem State.settle_deniedCount (s t : State) : (s.settle t).hif.deniedCount = t.hif.deniedCount := by
  obtain ⟨_, _, _, _, _, _, _, _, _, h⟩ := State.settle_frame s t; rw [h]

/-- FRAME_NO reads its override. -/
theorem State.readReg_frameNo {x : Nat} (hx : mapFind s.reeve.overrides 0x20000 = some (2 ^ 48 - 1, x)) :
    s.readReg 0x20000 = x % 2 ^ 48 := by
  have hraw : s.regRaw 0x20000 = s.bel.frame % 2 ^ 48 := rfl
  have hlt : s.bel.frame % 2 ^ 48 % 2 ^ 64 < 2 ^ 48 := by omega
  rw [State.readReg, hx, hraw]
  exact mergeBits_eq hlt x

end

/-! ## The aperture (R420) -/

/-- A page of this module's HBM, in the state of an access of the aperture that is about to begin. -/
structure State.ApertureHere (s : State) (a n : Nat) (e : XEntry) : Prop where
  nonzero : a / pageBytes ≠ 0
  low : a / pageBytes < 2 ^ 36
  entry : mapFind s.tier.xlate (a / pageBytes) = some e
  hbm : e.tier = .local
  nonempty : 1 ≤ n
  within : a % pageBytes + n ≤ pageBytes

section
variable {s : State} {a n : Nat} {e : XEntry} (h : s.ApertureHere a n e)
include h

theorem State.ApertureHere.pieces : piecesOf a n = [(a, n)] := piecesOf_one (Nat.one_le_iff_ne_zero.1 h.nonempty) h.within

theorem State.ApertureHere.look (who : Requester) : s.lookFor who (a / pageBytes) = .entry e :=
  State.lookFor_entry who h.nonzero h.low h.entry

theorem State.ApertureHere.notAtHost : s.hostHomed (a / pageBytes) = false := by
  have hlook : s.look (a / pageBytes) = .entry e := by
    rw [State.look, if_neg (by have := h.nonzero; have := h.low; omega)]
    simp only [h.entry]
  simp [State.hostHomed, hlook, h.hbm]

theorem State.ApertureHere.readPiece (who : Requester) (sub : Bool) (frame : Nat) (owed : Bool) :
    s.readPiece who a n sub frame owed = (s.addHeat (a / pageBytes) n).readFrame e.frame (a % pageBytes) n := by
  simp only [State.readPiece, h.look who, h.entry, h.hbm, Option.isSome_some, if_true]

/-- The number that the access takes. -/
theorem State.ApertureHere.numbered (c : Nat) : State.ApertureHere { s with freeCtr := c } a n e :=
  ⟨h.nonzero, h.low, h.entry, h.hbm, h.nonempty, h.within⟩

theorem State.ApertureHere.aperGo_read {tag : Nat} {b : List Byte} {u : State}
    (hr : (s.addHeat (a / pageBytes) n).readFrame e.frame (a % pageBytes) n = .ok b u) :
    s.aperGo ⟨tag, a, n, none, 0, [], 0⟩ (piecesOf a n) = (u.endAper tag).send (.busData b) := by
  rw [h.pieces, State.aperGo, if_neg (by simp [h.notAtHost])]
  simp only [h.readPiece, hr, State.aperGo]
  rfl

/-- A read within the page gives its bytes. -/
theorem State.ApertureHere.startAper_read {b : List Byte} {u : State}
    (hr : (State.addHeat { s with freeCtr := s.freeCtr + 1 } (a / pageBytes) n).readFrame e.frame (a % pageBytes) n = .ok b u) :
    s.startAper a n none = (u.endAper s.freeCtr).send (.busData b) := (h.numbered (s.freeCtr + 1)).aperGo_read hr

section
variable {bytes : List Byte}

theorem State.ApertureHere.writePiece_refused (hw : e.w = false) (who : Requester) :
    s.writePiece who a bytes = .fault cXlateWrite s := by
  simp only [State.writePiece, h.look who, h.entry, hw, Option.isSome_some, if_true, Bool.not_false, Bool.true_or]

theorem State.ApertureHere.writePiece_applies (hw : e.w = true) (hc : a / pageBytes ∉ s.tier.codePages)
    (hh : mapGet [] s.tier.holders (a / pageBytes) = []) (who : Requester) :
    s.writePiece who a bytes = .ok 0 (s.applyAtHome e a bytes) := by
  have hcode : s.tier.codePages.contains (a / pageBytes) = false := by simpa using hc
  simp only [State.writePiece, h.look who, h.entry, hw, hcode, h.hbm, hh, Option.isSome_some, if_true, Bool.not_true, Bool.or_self,
    Bool.false_eq_true, if_false]

variable (hlen : bytes.length = n)
include hlen

theorem State.ApertureHere.aperGo_write (hw : e.w = true) (hc : a / pageBytes ∉ s.tier.codePages)
    (hh : mapGet [] s.tier.holders (a / pageBytes) = []) (tag : Nat) :
    s.aperGo ⟨tag, a, n, some bytes, 0, [], 0⟩ (piecesOf a n) = ((s.applyAtHome e a bytes).endAper tag).send .busWritten := by
  rw [h.pieces, State.aperGo, if_neg (by simp [h.notAtHost])]
  have hpiece : (bytes.drop (a - a)).take n = bytes := by simp [← hlen]
  simp only [hpiece, h.writePiece_applies hw hc hh, State.aperGo]
  rfl

theorem State.ApertureHere.aperGo_refused (hw : e.w = false) (tag : Nat) :
    s.aperGo ⟨tag, a, n, some bytes, 0, [], 0⟩ (piecesOf a n) = (s.endAper tag).apertureAbort := by
  rw [h.pieces, State.aperGo, if_neg (by simp [h.notAtHost])]
  have hpiece : (bytes.drop (a - a)).take n = bytes := by simp [← hlen]
  simp only [hpiece, h.writePiece_refused hw]

/-- A write within the page is applied. -/
theorem State.ApertureHere.startAper_write (hw : e.w = true) (hc : a / pageBytes ∉ s.tier.codePages)
    (hh : mapGet [] s.tier.holders (a / pageBytes) = []) : s.startAper a n (some bytes) =
      ((State.applyAtHome { s with freeCtr := s.freeCtr + 1 } e a bytes).endAper s.freeCtr).send .busWritten :=
  (h.numbered (s.freeCtr + 1)).aperGo_write hlen hw hc hh s.freeCtr

/-- A write of a page that may not be written fails. -/
theorem State.ApertureHere.startAper_refused (hw : e.w = false) :
    s.startAper a n (some bytes) = (State.endAper { s with freeCtr := s.freeCtr + 1 } s.freeCtr).apertureAbort :=
  (h.numbered (s.freeCtr + 1)).aperGo_refused hlen hw s.freeCtr

end

end

theorem apertureReadRow_open {s : State} {o : BitVec 40} {n : BitVec 13} (h : s.apertureOpen o.toNat n.toNat = true) :
    apertureReadRow o n s = (s.chargeHostOut n.toNat).startAper (s.hif.aperBase * 2 ^ 36 + o.toNat) n.toNat none := if_neg (by simp [h])

theorem apertureWriteRow_open {s : State} {o : BitVec 40} {b : List Byte} (h : s.apertureOpen o.toNat b.length = true) :
    apertureWriteRow o b s = (s.chargeHostIn b.length).startAper (s.hif.aperBase * 2 ^ 36 + o.toNat) b.length (some b) :=
  if_neg (by simp [h])

end Sys2Proof.Machine
end

section
/-! SUPPORT. The obligation on the function, its registers and its aperture (R414 to R420, R423, R434). -/

namespace Sys2Proof.Machine

/-! ## Every register that the obligation names -/

section
variable {s : State} (h : s.reeve.overrides = [])
include h

/-- The registers of the function and of the bell (Tables 01-6, 03-2, 03-3, 14-3, 14-4). -/
theorem State.readReg_hif :
    s.readReg 0x10 = (queueDepth s.unitsEff * 2 ^ 16 + queueCount s.unitsEff * 2 ^ 8 + s.unitsEff % 32) % 2 ^ 64 ∧
    s.readReg 0x10000 = bnat s.hif.events * 2 + bnat s.hif.enable ∧ s.readReg 0x10008 = s.hifStatus ∧
    s.readReg 0x20000 = s.bel.frame % 2 ^ 48 ∧ s.readReg 0x20008 = s.bel.statusWord % 2 ^ 64 := by
  have h1 := bnat_le_one s.hif.events
  have h2 := bnat_le_one s.hif.enable
  exact ⟨State.readReg_module h (by decide) rfl, State.readReg_module_lt h (by decide) rfl (by omega),
    State.readReg_module_lt h (by decide) rfl s.hifStatus_lt, State.readReg_module_lt h (by decide) rfl (by omega),
    State.readReg_module h (by decide) rfl⟩

/-- A register of LED and its wear (Table 15-12). -/
theorem State.readReg_led {n : Nat} (hn : n < 256) :
    s.readReg (0x40000 + 8 * n) = s.ledger n % 2 ^ 64 ∧ s.readReg (0x40800 + 8 * n) = s.wearWord n :=
  ⟨State.readReg_module h (by omega) (s.moduleReg_ledger hn),
    State.readReg_module_lt h (by omega) (s.moduleReg_wear hn) (s.wearWord_lt n)⟩

theorem State.readReg_port {p : Nat} (hp : p < 6) : s.readReg (0x100000 + 16 * p) = (s.port p).word % 2 ^ 64 :=
  State.readReg_service h (by omega) (by omega) (s.serviceReg_port hp)

/-- CORE_STATUS and the hazard registers of a core (Tables 04-6, 05-14, 05-15). -/
theorem State.readReg_coreWindow (c : CoreId) :
    s.readReg (0x1000000 + 0x10000 * c.toNat + 0x60) = (s.core c).regs.hazard.toNat ∧
    s.readReg (0x1000000 + 0x10000 * c.toNat + 0x68) = (s.core c).regs.hazardAddr.toNat ∧
    ((s.core c).detour = none → s.readReg (0x1000000 + 0x10000 * c.toNat) =
      (s.core c).regs.retireCause % 256 * 2 ^ 24 + bnat (s.core c).regs.hosting * 4 + bnat (s.core c).regs.retired) := by
  refine ⟨?_, ?_, fun hd => ?_⟩
  · exact (State.readReg_core h c (by decide)).trans (Nat.mod_eq_of_lt (s.core c).regs.hazard.isLt)
  · exact (State.readReg_core h c (by decide)).trans (Nat.mod_eq_of_lt (s.core c).regs.hazardAddr.isLt)
  · have h1 := bnat_le_one (s.core c).regs.hosting
    have h2 := bnat_le_one (s.core c).regs.retired
    have hread := State.readReg_core h c (w := 0) (by decide)
    have hword : (s.core c).regWord 0 = (s.core c).statusWord := rfl
    rw [Nat.add_zero, hword, Core.statusWord_undetoured hd] at hread
    rw [hread]
    omega

end

/-! ## The obligation -/

/-- Settles O54: each clause is one of the laws above of the row, of the register or of the aperture that it is about. -/
theorem functionRows : Obligations.FunctionRows := by
  intro s
  refine ⟨fun hb => ?closed, fun hb => ?opened, fun q hq => ?queueZero, rfl, rfl, rfl,
    ⟨rfl, rfl, rfl, rfl, rfl, rfl, rfl, rfl, rfl, rfl, fun hc hd n q h hq hp => State.flr_sessionFor hc hd hq hp⟩,
    rfl, rfl, fun on => rfl, fun i => ?discovery, fun hb hd o v ho hr hw hh => ?denied, fun hb v hv hd => ?clears,
    fun hb o n v hbad => ?unsupported, fun hb hd hn v => ?overrides,
    fun o n => ⟨fun hb => State.barRead_closed hb o n, fun hb ho => ⟨State.barRead_whole hb ho, State.barRead_upper hb ho⟩⟩,
    fun h => ?reads, fun o n e a p hopen ha hp h0 hlow he hl h1 hin => ?aperture⟩
  case closed =>
    refine ⟨fun on => ?_, ?_, ?_, fun o w v => ?_, fun o n => ?_, fun o b => ?_⟩
    · rw [exec_hifEventsSet, hifEventsSet_closed hb]
    · rw [exec_hifEnableSet, hifEnableSet_closed hb]
    · rw [exec_hifEnableClear, hifEnableClear_closed hb]
    · rw [exec_registerWrite, registerWrite_closed hb]
    · rw [exec_apertureRead, apertureReadRow_closed hb]
    · rw [exec_apertureWrite, apertureWriteRow_closed hb]
  case opened =>
    refine ⟨fun on => ?_, fun he q hq => ?_, fun he hq => ?_, fun he => ?_, fun he => ?_, fun he => ?_⟩
    · rw [exec_hifEventsSet, hifEventsSet_sets hb]
    · rw [exec_hifEnableSet, hifEnableSet_queueZero hb he hq]
    · rw [exec_hifEnableSet, hifEnableSet_invalid hb he hq]
    · rw [exec_hifEnableSet, hifEnableSet_again hb he]
    · rw [exec_hifEnableClear, hifEnableClear_resets hb he]
    · rw [exec_hifEnableClear, hifEnableClear_again hb he]
  case queueZero =>
    rw [State.queueZero_fresh hq]
    exact ⟨rfl, rfl, rfl, rfl, rfl, rfl, rfl⟩
  case discovery =>
    obtain ⟨b, hb, hlen⟩ := doeDiscovery_answers i s
    exact ⟨b, by rw [exec_doeDiscovery, hb], hlen⟩
  case denied =>
    rw [exec_registerWrite_whole hb ho, State.writeReg_denied hd hr hw hh]
    rfl
  case clears =>
    have hrow : exec (.registerWrite 0x200010 8 v) s =
        .next (s.settle (s.modTier fun t => { t with regs := { t.regs with nondet := false } })) :=
      (exec_registerWrite_whole hb (by decide) v).trans
        (congrArg (fun u => Host.Outcome.next (s.settle u)) (State.writeReg_nondet hd hv))
    refine ⟨_, hrow, ?_⟩
    rw [State.settle_tier, State.settle_deniedCount]
    exact ⟨rfl, rfl, rfl⟩
  case unsupported =>
    have hbad' : (n.toNat ≠ 4 ∧ n.toNat ≠ 8) ∨ o.toNat % n.toNat ≠ 0 :=
      hbad.imp_left fun ⟨h4, h8⟩ => ⟨fun e => h4 (BitVec.eq_of_toNat_eq e), fun e => h8 (BitVec.eq_of_toNat_eq e)⟩
    rw [exec_registerWrite, registerWrite_unsupported (barAccessOk_false hbad'), State.barRead_unsupported (barAccessOk_false hbad')]
    exact ⟨rfl, rfl⟩
  case overrides =>
    have hrow : exec (.registerWrite 0x20000 8 v) s = .next (s.settle (s.override 0x20000 (2 ^ 48 - 1) v.toNat)) :=
      (exec_registerWrite_whole hb (by decide) v).trans
        (congrArg (fun u => Host.Outcome.next (s.settle u)) (State.writeReg_frameNo hd _))
    have hfind := State.override_find hn v.toNat
    rw [← State.settle_overrides s] at hfind
    refine ⟨_, hrow, ?_, ?_⟩
    · rw [State.settle_bel, State.override_frame]
    · rw [State.readReg_frameNo hfind, Nat.mod_mod]
  case reads =>
    obtain ⟨hunits, hctrl, hstatus, hframe, hbel⟩ := State.readReg_hif h
    obtain ⟨hcycle, hflags, hlocked⟩ := s.bel.statusWord_reads
    refine ⟨hunits, hctrl, hstatus, hframe, ?_, ?_, ?_, fun c hc => State.readReg_module h (by omega) (s.moduleReg_ceiling hc),
      State.readReg_module h (by decide) rfl, fun n hn => State.readReg_led h hn,
      State.readReg_module_lt h (by decide) rfl s.pwr.statusWord_lt, fun p hp => ?port, State.readReg_service h (by decide) (by decide) rfl,
      State.readReg_service h (by decide) (by decide) rfl, State.readReg_service h (by decide) (by decide) rfl,
      State.readReg_service h (by decide) (by decide) rfl, fun c => State.readReg_coreWindow h c⟩
    · rw [hbel, hcycle]
    · rw [hbel, hflags]
    · rw [hbel, hlocked]
    · rw [State.readReg_port h hp]
      exact (s.port p).word_reads
  case aperture =>
    subst ha hp
    have hread : (s.chargeHostOut n.toNat).ApertureHere (s.hif.aperBase * 2 ^ 36 + o.toNat) n.toNat e := ⟨h0, hlow, he, hl, h1, hin⟩
    have hwrite : (s.chargeHostIn n.toNat).ApertureHere (s.hif.aperBase * 2 ^ 36 + o.toNat) n.toNat e := ⟨h0, hlow, he, hl, h1, hin⟩
    refine ⟨fun b u hr => ?_, fun hw hc hh bytes hlen => ?_, fun hw bytes hlen => ?_⟩
    · rw [exec_apertureRead, apertureReadRow_open hopen, hread.startAper_read hr]
      rfl
    · rw [← hlen] at hopen
      rw [exec_apertureWrite, apertureWriteRow_open hopen, hlen, hwrite.startAper_write hlen hw hc hh]
      rfl
    · rw [← hlen] at hopen
      rw [exec_apertureWrite, apertureWriteRow_open hopen, hlen, hwrite.startAper_refused hlen hw]
      rfl

end Sys2Proof.Machine
end

section
/-! SUPPORT. The queue of commands: what a step does with it, and what `n` steps leave of it (spec/95). -/

namespace Sys2Proof.Machine

theorem step_cons {c : Instr} {rest : List Instr} {s : State} (h : s.pending = c :: rest) :
    step s = exec c { s with pending := rest } := by
  unfold step
  rw [h]

theorem step_nil {s : State} (h : s.pending = []) : step s = .next (idle s) := by
  unfold step
  rw [h]

/-- Settles O1: a step is its case of the queue, and CYCLE counts up to its last value. -/
theorem stepRunsFrontCommand : Obligations.StepRunsFrontCommand := by
  refine ⟨fun c rest s h => step_cons h, fun s h => ?_⟩
  rw [step_nil h, idle, Nat.min_def]
  rfl

/-- No command changes the queue that it finds. -/
theorem exec_pending {c : Instr} {s t : State} (h : exec c s = .next t) : t.pending = s.pending := by
  obtain ⟨u, rfl⟩ := exec_settles h
  exact State.settle_pending s u

/-- A step takes the command at the front, if there is one. -/
theorem step_pending {s t : State} (h : step s = .next t) : t.pending = s.pending.drop 1 := by
  cases hp : s.pending with
  | nil =>
    rw [step_nil hp] at h
    obtain rfl := Host.Outcome.next.inj h
    exact hp
  | cons c rest =>
    rw [step_cons hp] at h
    exact exec_pending h

/-- A run of `n + 1` steps that all answer is a step that answers and a run of `n` more. -/
theorem hostRun_succ {M : Host.Core} {n : Nat} {s t : M.State} (h : M.run (n + 1) s = .next t) :
    ∃ u, M.step s = .next u ∧ M.run n u = .next t := by
  rw [Host.Core.run] at h
  cases hs : M.step s with
  | next u => exact ⟨u, rfl, by simpa only [hs] using h⟩
  | fault f => simp only [hs, reduceCtorEq] at h
  | refused r => simp only [hs, reduceCtorEq] at h

/-- Settles O2, by induction on the number of steps: each takes one command from the front. -/
theorem queueIsFirstInFirstOut : Obligations.QueueIsFirstInFirstOut := by
  intro n
  induction n with
  | zero =>
    intro s t h
    obtain rfl := Host.Outcome.next.inj h
    rfl
  | succ n ih =>
    intro s t h
    obtain ⟨u, hstep, hrun⟩ := hostRun_succ h
    rw [ih u t hrun, step_pending hstep, List.drop_drop, Nat.add_comm]

end Sys2Proof.Machine
end

section
/-! SUPPORT. What settling, events and replies leave of the reeve, and the messages that settling keeps (R283, R426, R443). -/

namespace Sys2Proof.Machine

/-! ## The reeve -/

/-- Settling counts lost events, where a message has no route, and changes nothing else of the reeve. -/
theorem State.settle_reeve (s t : State) : ∃ r, (s.settle t).reeve = { t.reeve with lost := r } := by
  obtain ⟨_, r, _, _, _, _, _, _, _, h⟩ := State.settle_frame s t
  exact ⟨r, by rw [h]⟩

section
variable (s t : State)

@[simp] theorem State.settle_reeve_slotB : (s.settle t).reeve.slotB = t.reeve.slotB := by
  obtain ⟨_, h⟩ := s.settle_reeve t; rw [h]
@[simp] theorem State.settle_reeve_act : (s.settle t).reeve.act = t.reeve.act := by
  obtain ⟨_, h⟩ := s.settle_reeve t; rw [h]
@[simp] theorem State.settle_reeve_die : (s.settle t).reeve.die = t.reeve.die := by
  obtain ⟨_, h⟩ := s.settle_reeve t; rw [h]
@[simp] theorem State.settle_reeve_debug : (s.settle t).reeve.debug = t.reeve.debug := by
  obtain ⟨_, h⟩ := s.settle_reeve t; rw [h]
@[simp] theorem State.settle_reeve_log : (s.settle t).reeve.log = t.reeve.log := by
  obtain ⟨_, h⟩ := s.settle_reeve t; rw [h]
@[simp] theorem State.settle_reeve_ledger : (s.settle t).reeve.ledger = t.reeve.ledger := by
  obtain ⟨_, h⟩ := s.settle_reeve t; rw [h]
@[simp] theorem State.settle_ledger (n : Nat) : (s.settle t).ledger n = t.ledger n := by
  rw [State.ledger, State.settle_reeve_ledger, State.ledger]

end

/-- An event is counted where it is lost, and changes nothing else of the reeve. -/
theorem raise_reeve (c u i d : Nat) (s : State) : ∃ r, (raise c u i d s).reeve = { s.reeve with lost := r } := by
  obtain ⟨_, r, _, _, _, _, _, _, _, _, _, h⟩ := raise_frame c u i d s
  exact ⟨r, by rw [h]⟩

@[simp] theorem raise_reeve_mode (c u i d : Nat) (s : State) : (raise c u i d s).reeve.mode = s.reeve.mode := by
  obtain ⟨_, h⟩ := raise_reeve c u i d s; rw [h]

/-- A packet that goes on waiting changes the queues of the host interface, those that a Function Level Reset deleted among them. -/
theorem State.begun_frame (s : State) (h : PktHdr) : ∃ q g, s.begun h = { s with hif := { s.hif with queues := q, gone := g } } := by
  obtain ⟨q, g, e⟩ := State.answerUnknown_frame { s with hif := { s.hif with
    queues := s.hif.queues.map fun q => (q.1, if q.1 = h.queue.toNat then q.2.start h else q.2)
    gone := s.hif.gone.map fun q => q.start h } } h.queue.toNat
  exact ⟨q, g, e⟩

theorem State.foldl_storeEvent_frame (l : List EventRec) (s : State) : ∃ g n c, l.foldl State.storeEvent s =
    { s with reeve := { s.reeve with log := g, nextSeq := n, counts := c } } := by
  induction l generalizing s with
  | nil => exact ⟨s.reeve.log, s.reeve.nextSeq, s.reeve.counts, rfl⟩
  | cons e l ih =>
    obtain ⟨g, n, c, h⟩ := ih (s.storeEvent e)
    exact ⟨g, n, c, h⟩

/-- Storing the events that wait changes the log, its next SEQ and its counts. -/
theorem State.storeAll_frame (s : State) : ∃ g n c, s.storeAll =
    { s with reeve := { s.reeve with log := g, nextSeq := n, counts := c }, evLog := [] } := by
  obtain ⟨g, n, c, h⟩ := State.foldl_storeEvent_frame s.evLog s
  exact ⟨g, n, c, by rw [State.storeAll, h]⟩

/-- The reeve stores the events that wait where it is up. -/
theorem State.storeUp_frame (s : State) : ∃ g n c e, (if s.reeveUp then s.storeAll else s) =
    { s with reeve := { s.reeve with log := g, nextSeq := n, counts := c }, evLog := e } := by
  split
  · obtain ⟨g, n, c, h⟩ := s.storeAll_frame
    exact ⟨g, n, c, [], h⟩
  · exact ⟨s.reeve.log, s.reeve.nextSeq, s.reeve.counts, s.evLog, rfl⟩

/-! ## Messages of the module's other interfaces: the links neither carry nor drop them (R283) -/

theorem foldl_grows {σ α β : Type} {f : σ → α → σ} (g : σ → List β) (h : ∀ s a, g s ⊆ g (f s a)) (l : List α) (s : σ) :
    g s ⊆ g (l.foldl f s) := by
  induction l generalizing s with
  | nil => exact List.Subset.refl _
  | cons a l ih => exact List.Subset.trans (h s a) (ih _)

theorem State.outbox_subset_send (s : State) (m : Msg) : s.outbox ⊆ (s.send m).outbox := List.subset_append_left _ _

theorem State.outbox_subset_sendIdle (s : State) (p : Nat) (nak : Bool) (seq : Nat) (cr : List (Nat × Nat)) :
    s.outbox ⊆ (s.sendIdle p nak seq cr).outbox := List.subset_append_left _ _

theorem State.outbox_subset_sendCell (s : State) (p : Nat) (b : List Byte) (vc : Nat) : s.outbox ⊆ (s.sendCell p b vc).outbox :=
  List.subset_append_left _ _

theorem State.outbox_subset_pushBulk (s : State) (p : Nat) : s.outbox ⊆ (s.pushBulk p).outbox := by
  refine foldl_grows (fun a : State × List (List Byte) => a.1.outbox) (fun a b => ?_) _ (s, [])
  dsimp only
  split
  · exact List.Subset.refl _
  · split
    · exact List.Subset.refl _
    · exact List.subset_append_left _ _

theorem State.outbox_subset_pushTransit (s : State) (p : Nat) : s.outbox ⊆ (s.pushTransit p).outbox := by
  refine foldl_grows State.outbox (fun s b => ?_) _ s
  split
  · exact List.Subset.refl _
  · dsimp only
    split
    · exact List.Subset.trans (State.outbox_subset_sendCell (s.setPort p _) _ _ _) (State.outbox_subset_sendIdle _ _ _ _ _)
    · exact List.Subset.refl _

theorem State.outbox_subset_pushOwn (s : State) (p : Nat) : s.outbox ⊆ (s.pushOwn p).outbox := by
  refine foldl_grows (fun a : State × List Nat => a.1.outbox) (fun a b => ?_) _ (s, [])
  dsimp only
  split
  · exact List.Subset.refl _
  · exact List.subset_append_left _ _

theorem State.outbox_subset_pushLinks (s : State) : s.outbox ⊆ s.pushLinks.outbox :=
  List.Subset.trans (foldl_grows State.outbox (fun s i => List.Subset.trans (s.outbox_subset_pushBulk i)
    ((s.pushBulk i).outbox_subset_pushTransit i)) _ s) (foldl_grows State.outbox State.outbox_subset_pushOwn _ _)

/-- ROUTE_NONE takes back nothing that was sent. -/
theorem outbox_subset_routeNone (s : State) : s.outbox ⊆ (raise cRouteNone 0 0 0 s).outbox := by
  obtain ⟨q, r, l, -, hl⟩ := State.logEvent_frame s ⟨s.bel.frame, cRouteNone, classOf cRouteNone, 0, 0, 0, s.run.step⟩
  have hown : ownModuleFault cRouteNone = false := rfl
  unfold raise
  simp only [hown, Bool.false_eq_true, if_false, hl]
  split
  · exact List.Subset.refl _
  · exact List.subset_append_left _ _

theorem State.outbox_subset_linkMsg (s : State) (m : Msg) : s.outbox ⊆ (s.linkMsg m).outbox := by
  have hlink : ∀ (m : Msg) (k : MsgKind) (l : List Nat) (t : State), (l.foldl (State.linkTo m k) t).outbox = t.outbox :=
    fun m k => foldl_keeps State.outbox fun t d => (State.linkTo_keeps m k t d).1
  unfold State.linkMsg
  split
  · exact s.outbox_subset_send m
  · split
    · exact List.Subset.refl _
    · dsimp only
      split
      · rw [hlink]
        exact s.outbox_subset_send m
      · rw [hlink]
        exact outbox_subset_routeNone s

/-- A message that does not go by the fabric is among those sent once it has had its turn. -/
theorem State.mem_foldl_linkMsg {m : Msg} (hk : m.kind = none) {l : List Msg} (hm : m ∈ l) (s : State) :
    m ∈ (l.foldl State.linkMsg s).outbox := by
  induction l generalizing s with
  | nil => cases hm
  | cons x l ih =>
    rcases List.mem_cons.1 hm with rfl | hm
    · have hsent : m ∈ (s.linkMsg m).outbox := by
        unfold State.linkMsg
        rw [hk]
        exact List.mem_append_right _ (List.mem_singleton_self m)
      exact foldl_grows State.outbox State.outbox_subset_linkMsg l _ hsent
    · exact ih hm _

/-- What has been sent once the news has gone to the links. -/
theorem State.flush_outbox {t : State} {base : Nat} (h : t.outbox.drop (max base t.fab.linked) ≠ []) : (t.flush base).outbox =
    ((t.outbox.drop (max base t.fab.linked)).foldl State.linkMsg
      { t with outbox := t.outbox.take (max base t.fab.linked) }).pushLinks.outbox := by
  unfold State.flush
  dsimp only
  split
  · contradiction
  · dsimp only

/-- A message that does not go by the fabric stands in the outbox once a command has settled. -/
theorem State.mem_settle_outbox {m : Msg} (hk : m.kind = none) {s t : State} (hm : m ∈ t.outbox) : m ∈ (s.settle t).outbox := by
  show m ∈ (t.flush s.outbox.length).outbox
  by_cases hnews : t.outbox.drop (max s.outbox.length t.fab.linked) = []
  · have hquiet : t.flush s.outbox.length = t := by simp [State.flush, hnews]
    rwa [hquiet]
  · rw [State.flush_outbox hnews]
    rw [← List.take_append_drop (max s.outbox.length t.fab.linked) t.outbox] at hm
    refine State.outbox_subset_pushLinks _ ?_
    rcases List.mem_append.1 hm with hm | hm
    · exact foldl_grows State.outbox State.outbox_subset_linkMsg _ _ hm
    · exact State.mem_foldl_linkMsg hk hm _

end Sys2Proof.Machine
end

section
/-! SUPPORT. Supply and temperature, resets, start-up and the sideband (spec/17; R454; logs 13, 116, 125, 157). -/

namespace Sys2Proof.Machine

/-! ## The rows -/

theorem exec_supplyWarnAssert (a b c d : BitVec 16) (low : Bool) (s : State) :
    exec (.supplyWarnAssert a b c d low) s = .next (s.settle (supplyWarnAssert a b c d low s)) := rfl

theorem exec_supplyWarnClear (v : BitVec 16) (low : Bool) (s : State) :
    exec (.supplyWarnClear v low) s = .next (s.settle (supplyWarnClear v low s)) := rfl

theorem exec_brownOut (v : BitVec 16) (s : State) : exec (.brownOut v) s = .next (s.settle (brownOut v s)) := rfl

theorem exec_standbyLoss (v : BitVec 16) (s : State) : exec (.standbyLoss v) s = .next (s.settle (standbyLoss v s)) := rfl

theorem exec_thermalStage1Assert (r : Sense) (long : Bool) (s : State) :
    exec (.thermalStage1Assert r long) s = .next (s.settle (thermalStage1Assert r long s)) := rfl

theorem exec_thermalStage1Clear (r : Sense) (s : State) :
    exec (.thermalStage1Clear r) s = .next (s.settle (thermalStage1Clear r s)) := rfl

theorem exec_thermTrip (r : Sense) (s : State) : exec (.thermTrip r) s = .next (s.settle (thermTrip r s)) := rfl

theorem exec_coldStart (away : Bool) (cs : List CoreId) (ks : List (Fin 8)) (s : State) :
    exec (.coldStart away cs ks) s = .next (s.settle (coldStart away cs ks s)) := rfl

theorem exec_warmReset (perst : Bool) (s : State) : exec (.warmReset perst) s = .next (s.settle (warmReset perst s)) := rfl

theorem exec_warmResetRelease (perst : Bool) (s : State) :
    exec (.warmResetRelease perst) s = .next (s.settle (warmResetRelease perst s)) := rfl

theorem exec_startUpComplete (s : State) : exec .startUpComplete s = .next (s.settle (startUpComplete s)) := rfl

theorem exec_i3cSetdasa (a b : BitVec 7) (s : State) : exec (.i3cSetdasa a b) s = .next (s.settle (i3cSetdasa a b s)) := rfl

theorem exec_i3cGetstatus (a : BitVec 7) (s : State) : exec (.i3cGetstatus a) s = .next (s.settle (i3cGetstatus a s)) := rfl

theorem exec_jtagInstruction (code : BitVec 8) (priv : Bool) (s : State) :
    exec (.jtagInstruction code priv) s = .next (s.settle (jtagInstruction code priv s)) := rfl

/-! ## The condition of ALERT_N (R509; log 157) -/

/-- The condition of ALERT_N sends at most its in-band interrupt. -/
theorem State.inBandFrom_frame (s : State) (before : Pwr) : ∃ o, s.inBandFrom before = { s with outbox := o } := by
  unfold State.inBandFrom
  split
  · split
    · exact ⟨_, rfl⟩
    · exact ⟨s.outbox, rfl⟩
  · exact ⟨s.outbox, rfl⟩

/-- As the condition comes to hold, it raises the interrupt at the dynamic address. -/
theorem State.inBandFrom_sends {s : State} {before : Pwr} {i : BitVec 7} (hi : s.pwr.i3c = some i) (hnow : s.pwr.alertLow = true)
    (hold : before.alertLow = false) : .inBand i ∈ (s.inBandFrom before).outbox := by
  unfold State.inBandFrom
  simp only [hi, hnow, hold, Bool.not_false, Bool.and_self, if_true]
  exact List.mem_append_right _ (List.mem_singleton_self _)

/-! ## SUPPLY_WARN (R493) -/

section
variable {s : State} {a b c d v : BitVec 16} {low : Bool}

/-- The module as SUPPLY_WARN asserts, before the reeve acts on it. -/
def State.warned (s : State) (low : Bool) : State :=
  { s with pwr := { s.pwr with warn := true, warnSeen := true, brake := low }, bel := { s.bel with supplyCause := true } }

/-- SUPPLY_WARN asserts: the reeve saves its counts, and the interrupt of ALERT_N goes out where its condition did not hold. -/
theorem supplyWarnAssert_asserts (hd : s.pwr.domain ≠ .off) (hc : a.toNat + b.toNat + c.toNat + d.toNat < 4 * 41500 ∨ low = true) :
    ∃ r o, supplyWarnAssert a b c d low s = { s.warned low with reeve := r, outbox := o } ∧
      ∀ i, s.pwr.i3c = some i → s.pwr.alertLow = false → .inBand i ∈ o := by
  obtain ⟨r, hr⟩ : ∃ r, (if (s.warned low).reeveUp then (s.warned low).saveCounts else s.warned low) =
      { s.warned low with reeve := r } := by
    split
    · exact ⟨_, rfl⟩
    · exact ⟨s.reeve, rfl⟩
  have heq : supplyWarnAssert a b c d low s = State.inBandFrom { s.warned low with reeve := r } s.pwr := by
    rw [← hr]
    exact (if_neg hd).trans (if_neg (by simpa [or_iff_not_imp_left] using hc))
  obtain ⟨o, ho⟩ := State.inBandFrom_frame { s.warned low with reeve := r } s.pwr
  refine ⟨r, o, heq.trans ho, fun i hi hb => ?_⟩
  have hsent := State.inBandFrom_sends (s := { s.warned low with reeve := r }) hi rfl hb
  rwa [ho] at hsent

theorem supplyWarnAssert_not (hd : s.pwr.domain ≠ .off) (hc : 4 * 41500 ≤ a.toNat + b.toNat + c.toNat + d.toNat) :
    supplyWarnAssert a b c d false s = { s with pwr := { s.pwr with brake := false } } :=
  (if_neg hd).trans (if_pos (by simpa using hc))

theorem supplyWarnClear_clears (hd : s.pwr.domain ≠ .off) (hv : 43000 < v.toNat) : supplyWarnClear v false s =
    { s with pwr := { s.pwr with warn := false, brake := false }, bel := { s.bel with supplyCause := false } } :=
  (if_neg (by simp [hd])).trans (if_neg (Nat.not_le.2 hv))

theorem supplyWarnClear_low (hd : s.pwr.domain ≠ .off) (hv : v.toNat ≤ 43000) :
    supplyWarnClear v false s = { s with pwr := { s.pwr with brake := false } } :=
  (if_neg (by simp [hd])).trans (if_pos hv)

theorem supplyWarnClear_braked : supplyWarnClear v true s = s := if_pos (.inr rfl)

end

/-! ## What a loss of power leaves (R494, R495, R499) -/

/-- The reeve that loses its firmware: all that a brown-out changes outside the die. -/
theorem State.reeveCut_frame (s : State) : ∃ r e, s.reeveCut = { s with reeve := r, evLog := e } := by
  obtain ⟨g, n, c, e, h⟩ := s.storeUp_frame
  unfold State.reeveCut
  rw [h]
  exact ⟨_, e, rfl⟩

/-- The power block once the main rails are gone. -/
theorem State.mainsLost_pwr (s : State) : s.mainsLost.pwr = { s.pwr with
    up := false, domain := .standby, stage1 := false, dieReset := s.pwr.perst, modReset := false, hold := false } := by
  obtain ⟨r, e, h⟩ := State.reeveCut_frame (raise cBrownOut 0 0 0 s)
  have hp : (raise cBrownOut 0 0 0 s).reeveCut.pwr = s.pwr := by rw [h, raise_pwr]
  unfold State.mainsLost State.dieCleared
  dsimp only
  rw [hp]

theorem State.powerOff_tripped (s : State) : s.powerOff.pwr.tripped = s.pwr.tripped := by
  unfold State.powerOff
  dsimp only
  split
  · rw [State.mainsLost_pwr]
  · split <;> rfl

section
variable {s : State} {v : BitVec 16}

theorem brownOut_not (h : s.pwr.domain = .off ∨ s.reeve.mode = .off ∨ 38000 ≤ v.toNat) : brownOut v s = s := if_pos h

theorem brownOut_lost (hd : s.pwr.domain ≠ .off) (hm : s.reeve.mode ≠ .off) (hv : v.toNat < 38000) : brownOut v s = s.mainsLost :=
  if_neg (by simp [hd, hm, hv])

theorem standbyLoss_not (hv : 30000 ≤ v.toNat) : standbyLoss v s = s := if_pos (.inr hv)

theorem standbyLoss_lost (hd : s.pwr.domain ≠ .off) (hv : v.toNat < 30000) : standbyLoss v s = s.powerOff :=
  if_neg (by simp [hd, hv])

end

/-! ## Temperature and power (R496, R497) -/

section
variable {s : State} {r : Sense} {long : Bool}

/-- Stage 1 asserts, and the interrupt of ALERT_N may go out. -/
theorem thermalStage1Assert_asserts (hd : s.pwr.domain ≠ .off)
    (hc : 97 ≤ r.junction.toNat ∨ 90 ≤ r.hbm.toNat ∨ 1500 < r.power.toNat ∨ (1200 < r.power.toNat ∧ long = true)) :
    ∃ o, thermalStage1Assert r long s = { s.sensed r with
      pwr := { (s.sensed r).pwr with stage1 := true, stage1Seen := true }, bel := { s.bel with thermalCause := true }, outbox := o } := by
  obtain ⟨o, ho⟩ := State.inBandFrom_frame { s.sensed r with
    pwr := { (s.sensed r).pwr with stage1 := true, stage1Seen := true }, bel := { s.bel with thermalCause := true } } s.pwr
  exact ⟨o, ((if_neg hd).trans (if_pos hc)).trans ho⟩

theorem thermalStage1Assert_not (hd : s.pwr.domain ≠ .off) (hj : r.junction.toNat < 97) (hh : r.hbm.toNat < 90)
    (hp : r.power.toNat ≤ 1200) : thermalStage1Assert r long s = s.sensed r :=
  (if_neg hd).trans (if_neg (by omega))

theorem thermalStage1Clear_clears (hd : s.pwr.domain ≠ .off) (hj : r.junction.toNat < 92) (hh : r.hbm.toNat < 85)
    (hp : r.power.toNat ≤ 1100) : thermalStage1Clear r s = { s.sensed r with
      pwr := { (s.sensed r).pwr with stage1 := false }, bel := { s.bel with thermalCause := false } } :=
  (if_neg hd).trans (if_pos ⟨hj, hh, hp⟩)

theorem thermalStage1Clear_not (hd : s.pwr.domain ≠ .off)
    (hc : 92 ≤ r.junction.toNat ∨ 85 ≤ r.hbm.toNat ∨ 1100 < r.power.toNat) : thermalStage1Clear r s = s.sensed r :=
  (if_neg hd).trans (if_neg (by omega))

/-- Stage 2 trips: the main rails and the die go, and the reeve runs on. -/
theorem thermTrip_trips (hd : s.pwr.domain = .running) (hc : 105 ≤ r.junction.toNat ∨ 95 ≤ r.hbm.toNat) :
    (thermTrip r s).pwr.tripped = true ∧ (thermTrip r s).pwr.domain = .standby ∧ (thermTrip r s).cores = [] ∧
      (thermTrip r s).reeve.mode = s.reeve.mode := by
  have hgo : ¬ s.pwr.domain ≠ .running := not_not_intro hd
  unfold thermTrip
  dsimp only
  rw [if_neg hgo, if_pos hc]
  exact ⟨rfl, rfl, rfl, raise_reeve_mode _ _ _ _ (s.sensed r)⟩

theorem thermTrip_not (hd : s.pwr.domain = .running) (hj : r.junction.toNat < 105) (hh : r.hbm.toNat < 95) :
    thermTrip r s = s.sensed r :=
  (if_neg (not_not_intro hd)).trans (if_neg (by omega))

end

/-! ## The ledger registers that a die takes (R14, R116, R276, R451) -/

theorem State.installDie_frame (s : State) : ∃ c l p, s.installDie =
    { s with reeve := { s.reeve with die := c, dieLoaded := l, diePending := p } } := by
  unfold State.installDie
  split
  · exact ⟨_, _, _, rfl⟩
  · exact ⟨s.reeve.die, s.reeve.dieLoaded, s.reeve.diePending, rfl⟩

/-- All that a die changes as it takes the ledger registers. -/
theorem State.takeLedger_frame (s : State) : ∃ k f l c d p, s.takeLedger = { s with
    cores := k, fab := f, unitsEff := s.ledgerReset.ledger 0x10 % 32
    reeve := { s.reeve with ledger := l, die := c, dieLoaded := d, diePending := p } } := by
  unfold State.takeLedger
  dsimp only
  obtain ⟨k, hk⟩ := State.foldl_setCore_frame (fun c => BitVec.ofNat 8 c)
    (fun _ k => if k.regs.retired then k else { k with regs := { k.regs with retired := true, retireCause := 5 } })
    ((List.range 256).filter fun c => bit (s.ledgerReset.ledger (0x20 + c / 64)) (c % 64))
    { s.ledgerReset with
      unitsEff := s.ledgerReset.ledger 0x10 % 32
      fab := { s.ledgerReset.fab with
        pos := if s.ledgerReset.ledger 0x11 = 0 then none else some (Position.ofReg (s.ledgerReset.ledger 0x11)) } }
  obtain ⟨c, d, p, hd⟩ := State.installDie_frame { s.ledgerReset with
      cores := k
      unitsEff := s.ledgerReset.ledger 0x10 % 32
      fab := { s.ledgerReset.fab with
        pos := if s.ledgerReset.ledger 0x11 = 0 then none else some (Position.ofReg (s.ledgerReset.ledger 0x11)) } }
  exact ⟨k, _, _, c, d, p, (congrArg State.installDie hk).trans hd⟩

/-! ## Cold start (R494, R497, R499, R500; logs 116, 125) -/

/-- Stacks that failed training mark the start-up failed, and leave the tiers, the run and the reeve's mode as they were. -/
theorem State.failedStacks_keeps (s : State) (ks : List (Fin 8)) : (s.failedStacks ks).tier = s.tier ∧ (s.failedStacks ks).run = s.run ∧
    (s.failedStacks ks).reeve.mode = s.reeve.mode ∧
    (s.failedStacks ks).pwr = { s.pwr with failed := !ks.isEmpty || s.pwr.failed } := by
  unfold State.failedStacks
  dsimp only
  split
  · next h =>
    rw [h]
    exact ⟨rfl, rfl, rfl, rfl⟩
  · next h =>
    rw [foldl_keeps State.tier fun s k => raise_tier _ _ _ _ s, foldl_keeps State.run fun s k => raise_run _ _ _ _ s,
      foldl_keeps (fun s => s.reeve.mode) fun s k => raise_reeve_mode _ _ _ _ s, foldl_keeps State.pwr fun s k => raise_pwr _ _ _ _ s,
      Bool.eq_false_iff.2 h]
    exact ⟨rfl, rfl, rfl, rfl⟩

/-- RESET_CAUSE of a cold start (R499). -/
def Pwr.coldCause (p : Pwr) : Nat := if p.tripped = true then 2 else if p.domain = .standby then 1 else 0

section
variable {s : State} {away : Bool} {cs : List CoreId} {ks : List (Fin 8)}

/-- A cold start that no trip holds: the reeve in its boot ROM, and the die at its reset values before it takes the ledger registers. -/
theorem coldStart_starts (h : s.pwr.tripped = false ∨ (s.pwr.domain = .off ∧ away = true)) : ∃ u : State,
    coldStart away cs ks s = ((u.dieCleared.takeLedger).failedCores cs).failedStacks ks ∧ u.pwr.domain = .running ∧
    u.pwr.failed = false ∧ u.reeve.mode = .boot ∧ u.pwr.cause = s.pwr.coldCause := by
  have hpowered : ¬ (s.pwr.tripped = true ∧ s.pwr.domain ≠ .off) := by
    rintro ⟨ht, hd⟩
    rcases h with h | ⟨hoff, -⟩
    · rw [ht] at h
      cases h
    · exact hd hoff
  have hheld : ¬ (s.pwr.tripped = true ∧ away = false) := by
    rintro ⟨ht, ha⟩
    rcases h with h | ⟨-, ha'⟩
    · rw [ht] at h
      cases h
    · rw [ha] at ha'
      cases ha'
  exact ⟨_, (if_neg hpowered).trans (if_neg hheld), rfl, rfl, rfl, rfl⟩

/-- What a cold start without failed cores comes to. -/
theorem coldStart_leaves (h : s.pwr.tripped = false ∨ (s.pwr.domain = .off ∧ away = true)) {t : State}
    (ht : t = coldStart away [] ks s) : t.pwr.domain = .running ∧ t.pwr.up = false ∧ t.reeve.mode = .boot ∧ t.tier.xlate = [] ∧
      t.run.state = .idle ∧ t.pwr.cause = s.pwr.coldCause ∧ (t.pwr.failed = true ↔ ks ≠ []) := by
  obtain ⟨u, heq, hd, hf, hm, hc⟩ := coldStart_starts (cs := []) (ks := ks) h
  obtain ⟨k, f, l, c, d, p, hled⟩ := u.dieCleared.takeLedger_frame
  obtain ⟨htier, hrun, hmode, hpwr⟩ := u.dieCleared.takeLedger.failedStacks_keeps ks
  obtain rfl : t = u.dieCleared.takeLedger.failedStacks ks := ht.trans heq
  rw [htier, hrun, hmode, hpwr, hled]
  refine ⟨hd, rfl, hm, rfl, rfl, hc, ?_⟩
  show (!ks.isEmpty || u.pwr.failed) = true ↔ ks ≠ []
  simp [hf]

section
variable (ht : s.pwr.tripped = true)
include ht

/-- After a trip, while 48 V stays, the main rails stay off: a reeve that a brown-out stopped restarts alone. -/
theorem coldStart_tripped_on (hd : s.pwr.domain ≠ .off) (hm : s.reeve.mode ≠ .off) : coldStart away cs ks s = s :=
  (if_pos ⟨ht, hd⟩).trans (if_neg hm)

theorem coldStart_tripped_reeve (hd : s.pwr.domain ≠ .off) (hm : s.reeve.mode = .off) :
    coldStart away cs ks s = { s with reeve := { s.reeve with mode := .boot, lost := 0 } } :=
  (if_pos ⟨ht, hd⟩).trans (if_pos hm)

theorem coldStart_too_soon (hd : s.pwr.domain = .off) : coldStart false cs ks s = s.standbyBack :=
  (if_neg (fun h => h.2 hd)).trans (if_pos ⟨ht, rfl⟩)

end
end

/-! ## Warm reset (R267, R499, R501 to R503) -/

/-- What a warm reset clears and what it keeps. -/
theorem State.warm_leaves (s : State) (cause : Nat) {t : State} (ht : t = s.warm cause) : t.pwr.dieReset = true ∧ t.pwr.cause = cause ∧
    t.tier.hbm = s.tier.hbm ∧ t.tier.poison = s.tier.poison ∧ t.tier.xlate = [] ∧ t.cores = [] ∧ t.run.state = .idle ∧
    t.rng.est = 0 ∧ t.rng.dead = s.rng.dead ∧ t.reeve.mode = s.reeve.mode ∧ t.reeve.log = s.reeve.log ∧
    t.reeve.ledger.stored = s.reeve.ledger.stored ∧ t.hostMem = s.hostMem := by
  subst ht
  exact ⟨rfl, rfl, rfl, rfl, rfl, rfl, rfl, rfl, rfl, rfl, rfl, rfl, rfl⟩

section
variable {s : State} (hd : s.pwr.domain = .running) (hr : s.pwr.dieReset = false)
include hd

/-- PERST_N during a cold start only holds the die. -/
theorem warmReset_coldStarting (hu : s.pwr.up = false) (hc : s.pwr.cause ≤ 2) : warmReset true s =
    { s with pwr := { s.pwr with perst := true, dieReset := true, modReset := false } } := by
  have hcold : s.pwr.coldStarting = true := by simp [Pwr.coldStarting, hu, hc]
  unfold warmReset
  simp [hd, hcold]

theorem warmReset_no_module (hm : s.pwr.modReset = false) : warmReset false s = s := by
  unfold warmReset
  simp [hd, hm]

include hr

theorem warmReset_perst (h : s.pwr.up = true ∨ 2 < s.pwr.cause) : warmReset true s =
    { s.warm 3 with pwr := { (s.warm 3).pwr with perst := true } } := by
  have hcold : s.pwr.coldStarting = false := by
    simp only [Pwr.coldStarting, Bool.and_eq_false_iff, Bool.not_eq_false', decide_eq_false_iff_not, Nat.not_le]
    exact h
  unfold warmReset
  simp [hd, hr, hcold]

theorem warmReset_module (hm : s.pwr.modReset = true) : warmReset false s =
    { s.warm 4 with pwr := { (s.warm 4).pwr with hold := true } } := by
  unfold warmReset
  simp [hd, hr, hm]

end

section
variable {s : State} (hd : s.pwr.domain = .running) (hr : s.pwr.dieReset = true)
include hd hr

/-- PERST_N goes and nothing else holds the die: it takes the ledger registers. -/
theorem warmResetRelease_takes (hh : s.pwr.hold = false) : warmResetRelease true s =
    State.takeLedger { s with pwr := { s.pwr with perst := false, dieReset := false } } := by
  unfold warmResetRelease
  simp [hd, hr, hh]

/-- The end of a MODULE_RESET while PERST_N holds the die. -/
theorem warmResetRelease_held (hp : s.pwr.perst = true) : warmResetRelease false s = { s with pwr := { s.pwr with hold := false } } := by
  unfold warmResetRelease
  simp [hd, hr, hp]

end

/-! ## The end of start-up (R501) -/

theorem startUpComplete_completes {s : State} (hup : s.pwr.up = false) (hr : s.pwr.dieReset = false) (hf : s.pwr.failed = false)
    (hd : s.pwr.domain = .running) (hv : s.reeveUp = true) (hl : s.reeve.dieLoaded = true) :
    startUpComplete s = State.send { s with pwr := { s.pwr with up := true } } .deviceReady :=
  if_neg (by simp [hup, hr, hf, hd, hv, hl])

theorem startUpComplete_waits {s : State}
    (h : s.pwr.up = true ∨ s.pwr.failed = true ∨ s.reeveUp = false ∨ s.reeve.dieLoaded = false) : startUpComplete s = s :=
  if_pos (by rcases h with h | h | h | h <;> simp [h])

/-! ## Sideband (R454, R507; log 13) -/

section
variable {s : State} {a b : BitVec 7} (hd : s.pwr.domain ≠ .off)

theorem i3cSetdasa_other (ha : a ≠ 0x3A) : i3cSetdasa a b s = s := if_pos (.inr ha)

theorem i3cGetstatus_other (ha : s.pwr.i3c ≠ some a) : i3cGetstatus a s = s := if_pos (.inr ha)

include hd

theorem i3cSetdasa_takes (h : s.pwr.i3c.isSome = true ∨ s.pwr.alertLow = false) : i3cSetdasa 0x3A b s =
    State.send { s with pwr := { s.pwr with i3c := some b } } (.i3c []) := by
  refine (if_neg (by simp [hd])).trans (if_neg ?_)
  rcases h with h | h
  · simp [Option.isSome_iff_ne_none.1 h]
  · simp [h]

/-- The first address of a module whose ALERT_N is low brings the interrupt that waits. -/
theorem i3cSetdasa_alerts (hi : s.pwr.i3c = none) (hl : s.pwr.alertLow = true) : i3cSetdasa 0x3A b s =
    (State.send { s with pwr := { s.pwr with i3c := some b } } (.i3c [])).send (.inBand b) :=
  (if_neg (by simp [hd])).trans (if_pos (by simp [hi, hl]))

theorem i3cGetstatus_answers (ha : s.pwr.i3c = some a) : ∃ v : List Byte, v.length = 2 ∧
    i3cGetstatus a s = State.send { s with freeCtr := s.freeCtr + 1 } (.i3c v) :=
  ⟨_, length_bytesOfNat 2 _, if_neg (by simp [hd, ha])⟩

end

section
variable {s : State} {code : BitVec 8} {priv : Bool}

theorem jtagInstruction_runs (hd : s.pwr.domain = .running) (hr : s.pwr.dieReset = false) : jtagInstruction code priv s =
    { s with pwr := { s.pwr with jtag := some (code.toNat, priv && !s.reeve.jtag) } } := if_neg (by simp [hd, hr])

theorem jtagInstruction_dark (h : s.pwr.domain ≠ .running ∨ s.pwr.dieReset = true) : jtagInstruction code priv s = s := if_pos h

end

/-! ## The obligation -/

theorem State.notOff_of_running {s : State} (hd : s.pwr.domain = .running) : s.pwr.domain ≠ .off := by
  rw [hd]
  decide

/-- Settles O59: each clause is one of the laws above of the row that it is about. -/
theorem powerAndResetRows : Obligations.PowerAndResetRows := by
  unfold Obligations.PowerAndResetRows
  intro s
  refine ⟨fun a b c d low hd => ⟨fun hc => ?warns, fun hc hl => ?noWarning⟩,
    fun v hd => ⟨fun hv => ?clears, fun hv => ?staysLow, ?braked⟩, fun v => ⟨fun h => ?noBrownOut, fun hd hm hv => ?brownOut⟩,
    fun v hd => ⟨fun hv => ?standbyStays, fun hv => ?standbyLost⟩,
    fun r long hd => ⟨fun hc => ?stage1, fun hj hh hp => ?noStage1, fun hj hh hp => ?stage1Clears, fun hc => ?stage1Stays,
      fun hc => ?trips, fun hj hh => ?noTrip⟩,
    fun away ks h => ?coldStart, fun ht hd away cs ks => ⟨fun hm => ?trippedOn, fun hm => ?trippedReeve⟩, fun ht hd cs ks => ?tooSoon,
    fun hd hr => ⟨fun hu hc => ?perstStarting, fun h => ?perst, fun hm => ?moduleReset, fun hm => ?noModuleReset⟩,
    fun hd hr hh => ?release, fun hd hr hp => ?heldByPerst, fun hup hr hf hd hv hl => ?startUp, fun h => ?noStartUp,
    fun a b hd => ⟨fun ha h => ?address, fun ha hi hl => ?addressAlert, fun ha => ?otherAddress,
      fun ha => ?status, fun ha => ?otherStatus⟩,
    fun code priv => ⟨fun hd hr => ?jtag, fun h => ?jtagDark⟩⟩
  case warns =>
    obtain ⟨r, o, heq, hsent⟩ := supplyWarnAssert_asserts hd hc
    refine ⟨_, exec_supplyWarnAssert a b c d low s, ?_⟩
    rw [heq, State.settle_pwr, State.settle_bel, State.settle_tier]
    exact ⟨rfl, rfl, rfl, rfl, rfl, rfl, fun i hi hb => State.mem_settle_outbox rfl (hsent i hi hb)⟩
  case noWarning => rw [hl, exec_supplyWarnAssert, supplyWarnAssert_not hd hc]
  case clears => rw [exec_supplyWarnClear, supplyWarnClear_clears hd hv]
  case staysLow => rw [exec_supplyWarnClear, supplyWarnClear_low hd hv]
  case braked => rw [exec_supplyWarnClear, supplyWarnClear_braked]
  case noBrownOut => rw [exec_brownOut, brownOut_not h]
  case brownOut =>
    refine ⟨_, exec_brownOut v s, ?_⟩
    rw [brownOut_lost hd hm hv, State.settle_pwr, State.settle_reeve_mode, State.settle_cores, State.settle_tier, State.settle_run]
    exact ⟨rfl, rfl, rfl, rfl, rfl, rfl, rfl⟩
  case standbyStays => rw [exec_standbyLoss, standbyLoss_not hv]
  case standbyLost =>
    refine ⟨_, exec_standbyLoss v s, ?_⟩
    rw [standbyLoss_lost hd hv]
    exact ⟨rfl, rfl, rfl, s.powerOff_tripped⟩
  case stage1 =>
    obtain ⟨o, heq⟩ := thermalStage1Assert_asserts (State.notOff_of_running hd) hc
    refine ⟨_, exec_thermalStage1Assert r long s, ?_⟩
    rw [heq, State.settle_pwr, State.settle_bel]
    exact ⟨rfl, rfl, rfl, rfl, Bool.or_true _⟩
  case noStage1 => rw [exec_thermalStage1Assert, thermalStage1Assert_not (State.notOff_of_running hd) hj hh hp]
  case stage1Clears =>
    refine ⟨_, exec_thermalStage1Clear r s, ?_⟩
    rw [thermalStage1Clear_clears (State.notOff_of_running hd) hj hh hp, State.settle_pwr, State.settle_bel]
    exact ⟨rfl, rfl⟩
  case stage1Stays => rw [exec_thermalStage1Clear, thermalStage1Clear_not (State.notOff_of_running hd) hc]
  case trips =>
    obtain ⟨htrip, hdom, hcores, hmode⟩ := thermTrip_trips hd hc
    refine ⟨_, exec_thermTrip r s, ?_⟩
    rw [State.settle_pwr, State.settle_cores, State.settle_reeve_mode, Pwr.thermTripLow, htrip, hdom]
    exact ⟨rfl, rfl, rfl, hcores, hmode⟩
  case noTrip => rw [exec_thermTrip, thermTrip_not hd hj hh]
  case coldStart =>
    refine ⟨_, exec_coldStart away [] ks s, ?_⟩
    rw [State.settle_pwr, State.settle_reeve_mode, State.settle_tier, State.settle_run]
    exact coldStart_leaves h rfl
  case trippedOn => rw [exec_coldStart, coldStart_tripped_on ht hd hm]
  case trippedReeve => rw [exec_coldStart, coldStart_tripped_reeve ht hd hm]
  case tooSoon =>
    refine ⟨_, exec_coldStart false cs ks s, ?_⟩
    rw [coldStart_too_soon ht hd, State.settle_pwr, State.settle_reeve_mode, State.settle_cores]
    exact ⟨rfl, rfl, rfl, rfl, rfl⟩
  case perstStarting => rw [exec_warmReset, warmReset_coldStarting hd hu hc]
  case perst =>
    obtain ⟨hreset, hcause, hhbm, hpoison, hxlate, hcores, hrun, hest, hdead, hmode, hlog, hstored, hhost⟩ := s.warm_leaves 3 rfl
    refine ⟨_, exec_warmReset true s, ?_⟩
    rw [warmReset_perst hd hr h, State.settle_pwr, State.settle_tier, State.settle_cores, State.settle_run, State.settle_rng,
      State.settle_reeve_mode, State.settle_reeve_log, State.settle_reeve_ledger, State.settle_hostMem]
    exact ⟨hreset, rfl, hcause, hhbm, hpoison, hxlate, hcores, hrun, hest, hdead, hmode, hlog, hstored, hhost⟩
  case moduleReset =>
    obtain ⟨hreset, hcause, hhbm, -, -, hcores, -⟩ := s.warm_leaves 4 rfl
    refine ⟨_, exec_warmReset false s, ?_⟩
    rw [warmReset_module hd hr hm, State.settle_pwr, State.settle_tier, State.settle_cores]
    exact ⟨hreset, rfl, hcause, hhbm, hcores⟩
  case noModuleReset => rw [exec_warmReset, warmReset_no_module hd hm]
  case release =>
    obtain ⟨k, f, l, c, d, p, hled⟩ := State.takeLedger_frame { s with pwr := { s.pwr with perst := false, dieReset := false } }
    refine ⟨_, exec_warmResetRelease true s, ?_⟩
    rw [warmResetRelease_takes hd hr hh, hled, State.settle_pwr, State.settle_unitsEff, State.settle_tier]
    exact ⟨rfl, rfl, rfl, rfl⟩
  case heldByPerst => rw [exec_warmResetRelease, warmResetRelease_held hd hr hp]
  case startUp => rw [exec_startUpComplete, startUpComplete_completes hup hr hf hd hv hl]
  case noStartUp => rw [exec_startUpComplete, startUpComplete_waits h]
  case address => rw [ha, exec_i3cSetdasa, i3cSetdasa_takes hd h]
  case addressAlert => rw [ha, exec_i3cSetdasa, i3cSetdasa_alerts hd hi hl]
  case otherAddress => rw [exec_i3cSetdasa, i3cSetdasa_other ha]
  case status =>
    obtain ⟨v, hv, heq⟩ := i3cGetstatus_answers hd ha
    exact ⟨v, hv, by rw [exec_i3cGetstatus, heq]⟩
  case otherStatus => rw [exec_i3cGetstatus, i3cGetstatus_other ha]
  case jtag => rw [exec_jtagInstruction, jtagInstruction_runs hd hr]
  case jtagDark => rw [exec_jtagInstruction, jtagInstruction_dark h]

end Sys2Proof.Machine
end

section
/-! SUPPORT. The reeve's restarts and its boot ROM (R443, R448, R450; Table 15-5; log 113). -/

namespace Sys2Proof.Machine

/-! ## Firmware that starts (R448) -/

/-- A slot that runs: nothing else of the reeve changes, and the events that waited are posted. -/
theorem State.runSlot_reeve (s : State) (b : Bool) (mode : ReeveMode) :
    (s.runSlot b mode).reeve = { s.reeve with mode := mode, slotB := b } :=
  foldl_keeps State.reeve (fun s e => by obtain ⟨q, -, h⟩ := s.postEvent_frame e; rw [h]) _ _

/-- Firmware that is no trial loads its DIE component into a die that has none. -/
theorem State.startSlot_reeve (s : State) (b : Bool) : (s.startSlot b).reeve = { s.reeve with
    mode := .running, slotB := b, die := if s.reeve.dieLoaded then s.reeve.die else (s.reeve.slot b).comp 1, dieLoaded := true } := by
  unfold State.startSlot
  dsimp only
  rw [State.runSlot_reeve]
  cases hl : s.reeve.dieLoaded
  · rfl
  · rw [if_pos rfl, if_pos rfl, ← hl]

/-- An event leaves the boot ROM's verdict on a slot as it was. -/
theorem bootable_raise {c : Nat} (hc : ownModuleFault c = false) (u i d : Nat) (s : State) (b : Bool) :
    (raise c u i d s).bootable b = s.bootable b := by
  obtain ⟨_, _, _, _, _, -, h⟩ := raise_frame_other hc u i d s
  rw [h]
  rfl

/-! ## The boot ROM's chain (R448) -/

section
variable {s : State}

theorem State.bootChain_committed (h : s.bootable s.fwSlot = true) : s.bootChain = s.startSlot s.fwSlot := if_pos h

theorem State.bootChain_other (h : s.bootable s.fwSlot = false) (ho : s.bootable (!s.fwSlot) = true) :
    s.bootChain = (raise cFwSlotBad 5 0 0 s).startSlot (!s.fwSlot) :=
  (if_neg (by simp [h])).trans (if_pos ((bootable_raise rfl 5 0 0 s _).trans ho))

theorem State.bootChain_recovery (h : s.bootable s.fwSlot = false) (ho : s.bootable (!s.fwSlot) = false) :
    s.bootChain = { (raise cFwSlotBad 5 0 0 s).leaveRings with
      reeve := { (raise cFwSlotBad 5 0 0 s).leaveRings.reeve with mode := .recovery } } :=
  (if_neg (by simp [h])).trans (if_neg (ne_true_of_eq_false ((bootable_raise rfl 5 0 0 s _).trans ho)))

end

/-- In recovery all keepers are in BYPASS. -/
theorem State.bootChain_recovers {s : State} (h : s.bootable s.fwSlot = false) (ho : s.bootable (!s.fwSlot) = false) :
    s.bootChain.reeve.mode = .recovery ∧ ∀ i, i < 6 → (s.bootChain.port i).bypass = true := by
  have hbypass := fun i hi => (raise cFwSlotBad 5 0 0 s).leaveRings_bypass (i := i) hi
  rw [State.bootChain_recovery h ho]
  generalize (raise cFwSlotBad 5 0 0 s).leaveRings = u at hbypass ⊢
  exact ⟨rfl, hbypass⟩

/-- The chain ends in firmware or in recovery, in no trial, and leaves an activation as it was. -/
theorem State.bootChain_ends (s : State) : s.bootChain.reeve.mode ≠ .trial ∧ s.bootChain.reeve.act = s.reeve.act := by
  obtain ⟨r, hr⟩ := raise_reeve cFwSlotBad 5 0 0 s
  cases h : s.bootable s.fwSlot
  · cases ho : s.bootable (!s.fwSlot)
    · obtain ⟨_, _, _, _, _, hl⟩ := (raise cFwSlotBad 5 0 0 s).leaveRings_frame
      rw [State.bootChain_recovery h ho, hl]
      exact ⟨nofun, by simp only [hr]⟩
    · rw [State.bootChain_other h ho, State.startSlot_reeve, hr]
      exact ⟨nofun, rfl⟩
  · rw [State.bootChain_committed h, State.startSlot_reeve]
    exact ⟨nofun, rfl⟩

/-- After an activation that failed firmware runs or the module is in recovery, and the activation is over. -/
theorem State.startFormer_ends (s : State) (b : Bool) : (s.startFormer b).reeve.mode ≠ .trial ∧ (s.startFormer b).reeve.act = none := by
  unfold State.startFormer
  dsimp only
  split
  · rw [State.startSlot_reeve]
    exact ⟨nofun, rfl⟩
  · exact State.bootChain_ends _

theorem State.startFormer_boots {s : State} {b : Bool} (h : s.bootable b = true) :
    (s.startFormer b).reeve.mode = .running ∧ (s.startFormer b).reeve.slotB = b := by
  have hsame : State.bootable { s with reeve := { s.reeve with act := none } } b = s.bootable b := rfl
  unfold State.startFormer
  dsimp only
  rw [if_pos (hsame.trans h), State.startSlot_reeve]
  exact ⟨rfl, rfl⟩

/-! ## Restarts (R443, R450) -/

/-- All that a restart changes. -/
theorem State.restartReeve_frame (s : State) : ∃ g n c e, s.restartReeve = { s with
    reeve := { s.reeve with mode := .boot, path := .none, log := g, nextSeq := n, counts := c }, evLog := e } := by
  obtain ⟨g, n, c, e, h⟩ := s.storeUp_frame
  refine ⟨g, n, c, e, ?_⟩
  unfold State.restartReeve
  rw [h]

section
variable {s : State} {a : Activation}

theorem State.tryRestart_none (h : s.reeve.act = none) : s.tryRestart = s := by
  unfold State.tryRestart
  rw [h]

theorem State.tryRestart_waits (hv : s.reeveServes = true) : s.tryRestart = s := by
  unfold State.tryRestart
  split
  · exact if_neg (by simp [hv])
  · rfl

/-- The restart that an activation asked for, once the commands that the reeve interprets have replied. -/
theorem State.tryRestart_restarts (h : s.reeve.act = some a) (ha : a.stage = .asked) (hv : s.reeveServes = false) :
    ∃ g n c e, s.tryRestart = { s with
      reeve := { s.reeve with mode := .boot, path := .none, log := g, nextSeq := n, counts := c, act := some { a with stage := .trying } }
      evLog := e } := by
  obtain ⟨g, n, c, e, hr⟩ := s.restartReeve_frame
  refine ⟨g, n, c, e, ?_⟩
  unfold State.tryRestart
  rw [h]
  dsimp only
  rw [if_pos ⟨ha, hv⟩, hr]

end

/-- All that the restart of an activation may change, and that it leaves the ledger and the debug state alone. -/
theorem State.tryRestart_frame (s : State) : ∃ r e, s.tryRestart = { s with reeve := r, evLog := e } ∧ r.ledger = s.reeve.ledger ∧
    r.debug = s.reeve.debug := by
  cases h : s.reeve.act with
  | none => exact ⟨s.reeve, s.evLog, State.tryRestart_none h, rfl, rfl⟩
  | some a =>
    by_cases hgo : a.stage = .asked ∧ s.reeveServes = false
    · obtain ⟨g, n, c, e, hr⟩ := State.tryRestart_restarts h hgo.1 hgo.2
      exact ⟨_, e, hr, rfl, rfl⟩
    · refine ⟨s.reeve, s.evLog, ?_, rfl, rfl⟩
      unfold State.tryRestart
      rw [h]
      exact if_neg hgo

/-! ## Activations and their fallback (R450; Table 15-5) -/

theorem State.activate_waits {s : State} (hv : s.reeveServes = true) (h : Option PktHdr) (b : Bool) :
    s.activate h b = { s with reeve := { s.reeve with act := some ⟨h, b, s.reeve.slotB, .asked⟩ } } :=
  State.tryRestart_waits (s := { s with reeve := { s.reeve with act := some ⟨h, b, s.reeve.slotB, .asked⟩ } }) hv

theorem State.activate_restarts {s : State} (hv : s.reeveServes = false) (h : Option PktHdr) (b : Bool) :
    ∃ g n c e, s.activate h b = { s with
      reeve := { s.reeve with
        mode := .boot, path := .none, log := g, nextSeq := n, counts := c, act := some ⟨h, b, s.reeve.slotB, .trying⟩ }
      evLog := e } :=
  State.tryRestart_restarts (s := { s with reeve := { s.reeve with act := some ⟨h, b, s.reeve.slotB, .asked⟩ } }) rfl rfl hv

/-- A trial that fails restarts the reeve toward its former slot. -/
theorem State.fallback_reeve {s : State} {a : Activation} (h : s.reeve.act = some a) : s.fallback.reeve.mode = .boot ∧
    s.fallback.reeve.slotB = a.former ∧ s.fallback.reeve.act = some { a with hdr := none, stage := .back } := by
  unfold State.fallback
  rw [h]
  dsimp only
  obtain ⟨g, n, c, e, hr⟩ := s.restartReeve_frame
  obtain ⟨q, l, hq⟩ := State.replyTo_frame { s.restartReeve with
    reeve := { s.restartReeve.reeve with act := some { a with hdr := none, stage := .back }, slotB := a.former } } a.hdr stInvalid 0 0 0
  obtain ⟨x, hx⟩ := raise_reeve cFwFallback 5 0 0 (State.replyTo { s.restartReeve with
    reeve := { s.restartReeve.reeve with act := some { a with hdr := none, stage := .back }, slotB := a.former } } a.hdr stInvalid 0 0 0)
  rw [hx, hq, hr]
  exact ⟨rfl, rfl, rfl⟩

end Sys2Proof.Machine
end

section
/-! SUPPORT. Firmware, the ledger, debug and updates by PLDM (R443, R448 to R454, R458 to R461; logs 35, 112, 113). -/

namespace Sys2Proof.Machine
open Sys2Proof.Claims

/-! ## The rows -/

theorem exec_reeveStart (s : State) : exec .reeveStart s = .next (s.settle (reeveStart s)) := rfl

theorem exec_reeveWatchdog (s : State) : exec .reeveWatchdog s = .next (s.settle (reeveWatchdog s)) := rfl

theorem exec_fwFallback (s : State) : exec .fwFallback s = .next (s.settle (fwFallback s)) := rfl

theorem exec_fwCommit (s : State) : exec .fwCommit s = .next (s.settle (fwCommit s)) := rfl

theorem exec_dieComponentInstall (s : State) : exec .dieComponentInstall s = .next (s.settle (dieComponentInstall s)) := rfl

theorem exec_ledgerWriteDurable (s : State) : exec .ledgerWriteDurable s = .next (s.settle (ledgerWriteDurable s)) := rfl

theorem exec_pldmRequestUpdate (s : State) : exec .pldmRequestUpdate s = .next (s.settle (pldmRequestUpdate s)) := rfl

theorem exec_pldmUpdateComponent (i : BitVec 16) (b : List Byte) (s : State) :
    exec (.pldmUpdateComponent i b) s = .next (s.settle (pldmUpdateComponent i b s)) := rfl

theorem exec_pldmActivateFirmware (s : State) :
    exec .pldmActivateFirmware s = .next (s.settle (pldmActivateFirmware s)) := rfl

/-! ## REEVE_START, REEVE_WATCHDOG and FW_FALLBACK (R443, R448, R450) -/

section
variable {s : State} {a : Activation}

theorem reeveStart_up (hm : s.reeve.mode ≠ .boot) : reeveStart s = s.tryRestart := if_neg hm

theorem reeveStart_chain (hm : s.reeve.mode = .boot) (ha : s.reeve.act = none) : reeveStart s = s.bootChain := by
  rw [reeveStart, if_pos hm, State.romStart, ha]

/-- The boot ROM on an activation that was accepted: a trial of the slot that it names, or the former slot. -/
theorem State.romStart_named (ha : s.reeve.act = some a) (hst : a.stage = .asked ∨ a.stage = .trying) : s.romStart =
    if s.bootable a.named = true then
      State.runSlot { s with reeve := { s.reeve with act := some { a with stage := .trying } } } a.named .trial
    else s.fallback.startFormer a.former := by
  obtain ⟨hdr, named, former, stage⟩ := a
  unfold State.romStart
  rw [ha]
  dsimp only at hst ⊢
  rcases hst with rfl | rfl <;> rfl

section
variable (hm : s.reeve.mode = .boot) (ha : s.reeve.act = some a) (hst : a.stage = .asked ∨ a.stage = .trying)
include hm ha hst

/-- The boot ROM starts the slot that an activation names in trial, with the DIE component as it was. -/
theorem reeveStart_trial (hb : s.bootable a.named = true) : (reeveStart s).reeve = { s.reeve with
    mode := .trial, slotB := a.named, act := some { a with stage := .trying } } := by
  rw [reeveStart, if_pos hm, State.romStart_named ha hst, if_pos hb, State.runSlot_reeve]

theorem reeveStart_failed (hb : s.bootable a.named = false) : reeveStart s = s.fallback.startFormer a.former := by
  rw [reeveStart, if_pos hm, State.romStart_named ha hst, if_neg (ne_true_of_eq_false hb)]

end

theorem reeveStart_back (hm : s.reeve.mode = .boot) (ha : s.reeve.act = some a) (hst : a.stage = .back) :
    reeveStart s = s.startFormer a.former := by
  obtain ⟨hdr, named, former, stage⟩ := a
  rw [reeveStart, if_pos hm, State.romStart, ha]
  dsimp only at hst ⊢
  rw [hst]

theorem reeveWatchdog_restarts (hm : s.reeve.mode = .running ∨ s.reeve.mode = .recovery) : reeveWatchdog s = s.restartReeve := by
  unfold reeveWatchdog
  rcases hm with hm | hm <;> rw [hm]

theorem reeveWatchdog_trial (hm : s.reeve.mode = .trial) : reeveWatchdog s = s.fallback := by
  unfold reeveWatchdog
  rw [hm]

theorem fwFallback_trial (hm : s.reeve.mode = .trial) : fwFallback s = s.fallback := if_pos hm

theorem fwFallback_not (hm : s.reeve.mode ≠ .trial) : fwFallback s = s := if_neg hm

end

/-! ## FW_STAGE (R449, Table 15-4) -/

/-- The checks of Table 15-4 pass together. -/
theorem State.fwCheck_ok_iff (s : State) (x : FwSlot) : s.fwCheck x = 0 ↔
    s.blockValid x.bytes x.size (x.nat 40 8) 0 false = true ∧ x.nat 6 1 ≤ 2 ∧ x.formOk = true ∧ s.svnMin ≤ x.svn ∧
      x.svnFloor ≤ x.svn := by
  unfold State.fwCheck
  cases s.blockValid x.bytes x.size (x.nat 40 8) 0 false
  · simp [stBadSignature]
  · by_cases h6 : 2 < x.nat 6 1
    · simp [h6, stArchLevel]
    · cases x.formOk
      · simp [h6, stInvalid]
      · by_cases hv : x.svn < s.svnMin ∨ x.svn < x.svnFloor
        · have hno : ¬ (s.svnMin ≤ x.svn ∧ x.svnFloor ≤ x.svn) := by omega
          simp [h6, hv, hno, stInvalid]
        · have hyes : s.svnMin ≤ x.svn ∧ x.svnFloor ≤ x.svn := by omega
          simp [h6, hv, hyes, stOk, Nat.not_lt.1 h6]

section
variable {s : State} {h : PktHdr} (hs : Starts s 0x0801 h) {addr n : W64}
include hs

theorem fwStage_busy (hb : s.reeve.path = .pldm ∨ s.reeve.act.isSome = true ∨ ∃ p ∈ s.staging, p ≠ h) :
    Replies (.fwStage h addr n) s s h 0x14 := by
  refine replies_busy hs rfl rfl ?_
  simp only [Bool.or_eq_true, beq_iff_eq, List.any_eq_true, bne_iff_ne, or_assoc]
  exact hb

variable (hp : s.reeve.path ≠ .pldm) (ha : s.reeve.act = none) (hst : ∀ p ∈ s.staging, p = h)
include hp ha hst

/-- A stage that no other update holds off runs. -/
theorem fwStage_free (hsp : Spells (.fwStage h addr n) h) : exec (.fwStage h addr n) s = .next (s.settle (if !s.hostInOpen then s.begun h
    else State.tryRestart ((State.chargeIn (s.stage ⟨s.hostMem.slice addr.toNat n.toNat, n.toNat⟩).2 n.toNat).reply h
      (s.stage ⟨s.hostMem.slice addr.toNat n.toNat, n.toNat⟩).1))) := by
  obtain ⟨hm, hq, hsess⟩ := hs
  have hfree : (s.reeve.path == .pldm || s.reeve.act.isSome || s.staging.any fun p => p != h) = false := by
    simp only [Bool.or_eq_false_iff, beq_eq_false_iff_ne, List.any_eq_false, bne_iff_ne, not_not]
    exact ⟨⟨hp, by rw [ha]; rfl⟩, hst⟩
  exact congrArg (fun u => Host.Outcome.next (s.settle u))
    (damtinFirst_runs (busy := fun s => s.reeve.path == .pldm || s.reeve.act.isSome || s.staging.any fun p => p != h) hsp hm hfree hq hsess)

theorem fwStage_waits (ho : s.hostInOpen = false) (hsp : Spells (.fwStage h addr n) h) :
    exec (.fwStage h addr n) s = .next (s.settle (s.begun h)) := by
  rw [fwStage_free hs hp ha hst hsp, if_pos (by simp [ho])]

/-- The image goes into the slot that does not run, which a failed check leaves empty. -/
theorem fwStage_stages (ho : s.hostInOpen = true) {x : FwSlot} (hx : x = ⟨s.hostMem.slice addr.toNat n.toNat, n.toNat⟩) :
    Replies (.fwStage h addr n) s ((s.setFw (!s.reeve.slotB) (if s.fwCheck x = 0 then x else ⟨[], 0⟩)).chargeIn n.toNat) h
      (s.fwCheck x) := by
  subst hx
  intro hsp
  rw [fwStage_free hs hp ha hst hsp, if_neg (by simp [ho]), State.tryRestart_none]
  · rfl
  · obtain ⟨q, g, e⟩ := State.reply_frame ((s.stage ⟨s.hostMem.slice addr.toNat n.toNat, n.toNat⟩).2.chargeIn n.toNat) h
      (s.stage ⟨s.hostMem.slice addr.toNat n.toNat, n.toNat⟩).1 0 0 0
    rw [e]
    show (s.setFw _ _).reeve.act = none
    unfold State.setFw
    split <;> exact ha

end

/-! ## FW_ACTIVATE (R450, R452) -/

section
variable {s : State} {h : PktHdr} (hs : Starts s 0x0802 h) {b : Bool} {n : Byte} (hn : n = if b then 1 else 0)
include hs hn

/-- FW_ACTIVATE of a slot by its number. -/
theorem fwActivate_decides (hsp : Spells (.fwActivate h n) h) : exec (.fwActivate h n) s = .next (s.settle (
    if !(b == s.reeve.slotB) && (s.reeve.slot b).size == 0 then s.reply h stInvalid
    else if s.reeve.path == .pldm || s.reeve.act.isSome then s.reply h stBusy
    else if b == s.reeve.slotB then s.reply h stOk
    else (s.begun h).activate (some h) b)) := by
  have hslot : (n == 1) = b ∧ decide (1 < n.toNat) = false := by
    subst hn
    cases b <;> decide
  refine (runs_of_starts hs rfl rfl rfl hsp).trans ?_
  dsimp only
  rw [hslot.1, hslot.2, Bool.false_or]

theorem fwActivate_same (hb : b = s.reeve.slotB) (hp : s.reeve.path ≠ .pldm) (ha : s.reeve.act = none) :
    Replies (.fwActivate h n) s s h 0 := by
  intro hsp
  rw [fwActivate_decides hs hn hsp]
  simp [hb, hp, ha, stOk]

theorem fwActivate_busy (hz : (s.reeve.slot b).size ≠ 0)
    (hbusy : s.reeve.path = .pldm ∨ s.reeve.act.isSome = true) : Replies (.fwActivate h n) s s h 0x14 := by
  intro hsp
  rw [fwActivate_decides hs hn hsp, if_neg (by simp [hz]), if_pos (by simpa using hbusy)]
  rfl

variable (hb : b ≠ s.reeve.slotB)
include hb

theorem fwActivate_empty (hz : (s.reeve.slot b).size = 0) : Replies (.fwActivate h n) s s h 0x15 := by
  intro hsp
  rw [fwActivate_decides hs hn hsp]
  simp [hb, hz, stInvalid]

theorem fwActivate_activates (hz : (s.reeve.slot b).size ≠ 0) (hp : s.reeve.path ≠ .pldm) (ha : s.reeve.act = none)
    (hsp : Spells (.fwActivate h n) h) : exec (.fwActivate h n) s = .next (s.settle ((s.begun h).activate (some h) b)) := by
  rw [fwActivate_decides hs hn hsp, if_neg (by simp [hz]), if_neg (by simp [hp, ha]), if_neg (by simpa using hb)]

end

/-! ## FW_COMMIT and the DIE component (R450, R451, R461) -/

section
variable {s : State} {a : Activation}

theorem State.mayInstall_none (h : s.reeve.diePending = none) : s.mayInstall = false := by
  unfold State.mayInstall
  rw [h]

theorem State.installDie_none (h : s.reeve.diePending = none) : s.installDie = s := by
  unfold State.installDie
  rw [h]

theorem State.installDie_pending {c : List Byte} {same : Bool} {n : Nat} (h : s.reeve.diePending = some (c, same, n)) :
    s.installDie = { s with reeve := { s.reeve with die := c, dieLoaded := true, diePending := none } } := by
  unfold State.installDie
  rw [h]

theorem dieComponentInstall_not (h : s.mayInstall = false) : dieComponentInstall s = s := if_neg (ne_true_of_eq_false h)

theorem dieComponentInstall_installs (hi : s.mayInstall = true) {c : List Byte} {same : Bool} {n : Nat}
    (h : s.reeve.diePending = some (c, same, n)) : dieComponentInstall s =
      { s with reeve := { s.reeve with die := c, dieLoaded := true, diePending := none } } :=
  (if_pos hi).trans (State.installDie_pending h)

/-- A commit ends its activation, and changes nothing beside it but the reply queues and the DIE component. -/
theorem State.committed_frame (s : State) : ∃ q g c l p, s.committed = { s with
    hif := { s.hif with queues := q, gone := g }
    reeve := { s.reeve with act := none, die := c, dieLoaded := l, diePending := p } } := by
  cases ha : s.reeve.act with
  | none =>
    refine ⟨s.hif.queues, s.hif.gone, s.reeve.die, s.reeve.dieLoaded, s.reeve.diePending, ?_⟩
    unfold State.committed
    rw [ha]
    dsimp only
    rw [← ha]
  | some a =>
    unfold State.committed
    rw [ha]
    dsimp only
    generalize (if ((s.reeve.slot a.named).comp 1).isEmpty = true then s.reeve.diePending else _) = pend
    obtain ⟨q, g, hr⟩ := State.replyTo_frame { s with reeve := { s.reeve with act := none, diePending := pend } } a.hdr stOk 0 0 0
    rw [hr]
    split
    · obtain ⟨c, l, p, hi⟩ := State.installDie_frame { s with
        hif := { s.hif with queues := q, gone := g }, reeve := { s.reeve with act := none, diePending := pend } }
      exact ⟨q, g, c, l, p, hi⟩
    · exact ⟨q, g, s.reeve.die, s.reeve.dieLoaded, pend, rfl⟩

/-- The commit of an image without a DIE component, while none pends. -/
theorem State.committed_plain (ha : s.reeve.act = some a) (hc : (s.reeve.slot a.named).comp 1 = []) (hd : s.reeve.diePending = none) :
    s.committed = State.replyTo { s with reeve := { s.reeve with act := none } } a.hdr stOk := by
  have hnone : (State.replyTo { s with reeve := { s.reeve with act := none } } a.hdr stOk).reeve.diePending = none := by
    obtain ⟨q, g, hr⟩ := State.replyTo_frame { s with reeve := { s.reeve with act := none } } a.hdr stOk 0 0 0
    rw [hr]
    exact hd
  have hpend : { s with reeve := { s.reeve with act := none, diePending := none } } =
      { s with reeve := { s.reeve with act := none } } := by rw [← hd]
  unfold State.committed
  rw [ha]
  dsimp only
  rw [hc, List.isEmpty_nil, if_pos rfl, hd, hpend, State.installDie_none hnone, ite_self]

/-- The module in the second of a good trial in which FW_STATE is to be written. -/
def State.trialOver (s : State) (a : Activation) : State :=
  { s with reeve := { s.reeve with mode := .running, act := some { a with stage := .committing } } }

/-- FW_STATE of a commit: the slot, and the least SVN that either asks for (Table 15-10). -/
def State.commitValue (s : State) (a : Activation) : Nat := max s.svnMin (s.reeve.slot a.named).svnFloor * 2 ^ 32 + bnat a.named

theorem fwCommit_not (h : s.reeve.act = none ∨ s.reeve.mode ≠ .trial) : fwCommit s = s := by
  unfold fwCommit
  split
  · rfl
  · next a ha => exact if_pos (h.resolve_left (by simp [ha]))

theorem fwCommit_trial (hm : s.reeve.mode = .trial) (ha : s.reeve.act = some a) : fwCommit s =
    if s.ledger 0x02 = s.commitValue a then (s.trialOver a).committed
    else if s.full 0x02 = true then (raise cLedgerExhausted 5 2 0 ((s.trialOver a).ledgerEffect 0x02 (s.commitValue a))).committed
    else (s.trialOver a).ledgerAccept 0x02 (s.commitValue a) none 0 := by
  unfold fwCommit
  rw [ha]
  exact if_neg (not_not_intro hm)

/-- A change that an exhausted FW_STATE does not store takes effect all the same, and the activation is over. -/
theorem State.committed_effect (s : State) (v : Nat) :
    (raise cLedgerExhausted 5 2 0 (s.ledgerEffect 0x02 v)).committed.ledger 0x02 = v % 2 ^ 64 ∧
    (raise cLedgerExhausted 5 2 0 (s.ledgerEffect 0x02 v)).committed.reeve.ledger.stored = s.reeve.ledger.stored ∧
    (raise cLedgerExhausted 5 2 0 (s.ledgerEffect 0x02 v)).committed.reeve.mode = s.reeve.mode ∧
    (raise cLedgerExhausted 5 2 0 (s.ledgerEffect 0x02 v)).committed.reeve.act = none := by
  obtain ⟨q, g, c, l, p, hcom⟩ := (raise cLedgerExhausted 5 2 0 (s.ledgerEffect 0x02 v)).committed_frame
  obtain ⟨r, hr⟩ := raise_reeve cLedgerExhausted 5 2 0 (s.ledgerEffect 0x02 v)
  rw [hcom, State.ledger, hr]
  exact ⟨mapGet_mapPut_same .., rfl, rfl, rfl⟩

end

/-! ## The ledger (R458 to R461) -/

section
variable {s : State} {h : PktHdr} (hs : Starts s 0x0702 h) {n : Byte} {x : W64} {v : Nat} (hv : v = x.toNat &&& ledgerMask n.toNat)
include hs hv

theorem ledgerWrite_decides (hsp : Spells (.ledgerWrite h n x) h) : exec (.ledgerWrite h n x) s = .next (s.settle (
    if s.ledgerBad n.toNat v then s.reply h stInvalid
    else if v = s.reeve.ledger.kept n.toNat then s.reply h stOk
    else if s.full n.toNat then s.reply h stExhausted
    else (s.begun h).ledgerAccept n.toNat v (some h) 0)) := by
  subst hv
  exact runs_of_starts hs rfl rfl rfl hsp

theorem ledgerWrite_bad (hb : s.ledgerBad n.toNat v = true) : Replies (.ledgerWrite h n x) s s h 0x15 := by
  intro hsp
  rw [ledgerWrite_decides hs hv hsp, if_pos hb]
  rfl

variable (hb : s.ledgerBad n.toNat v = false)
include hb

theorem ledgerWrite_kept (hk : v = s.reeve.ledger.kept n.toNat) : Replies (.ledgerWrite h n x) s s h 0 := by
  intro hsp
  rw [ledgerWrite_decides hs hv hsp, if_neg (ne_true_of_eq_false hb), if_pos hk]
  rfl

variable (hk : v ≠ s.reeve.ledger.kept n.toNat)
include hk

theorem ledgerWrite_exhausted (hf : s.full n.toNat = true) : Replies (.ledgerWrite h n x) s s h 0x11 := by
  intro hsp
  rw [ledgerWrite_decides hs hv hsp, if_neg (ne_true_of_eq_false hb), if_neg hk, if_pos hf]
  rfl

theorem ledgerWrite_accepts (hf : s.full n.toNat = false) (hsp : Spells (.ledgerWrite h n x) h) :
    exec (.ledgerWrite h n x) s = .next (s.settle ((s.begun h).ledgerAccept n.toNat v (some h) 0)) := by
  rw [ledgerWrite_decides hs hv hsp, if_neg (ne_true_of_eq_false hb), if_neg hk, if_neg (ne_true_of_eq_false hf)]

end

/-- A write without a SCOPE changes no debug state. -/
theorem State.applyScope_zero (s : State) : s.applyScope 0 = s := by
  have hbit : ∀ i, bit 0 i = false := fun i => by simp [bit]
  simp [State.applyScope, hbit]

theorem ledgerWriteDurable_none {s : State} (h : s.reeve.ledger.waiting = []) : ledgerWriteDurable s = s := by
  unfold ledgerWriteDurable
  rw [h]

section
variable {s : State} {w : LedgerWrite} {rest : List LedgerWrite} (hw : s.reeve.ledger.waiting = w :: rest)
include hw

theorem ledgerWriteDurable_shut (ho : s.ledgerOpen = false) : ledgerWriteDurable s = s := by
  unfold ledgerWriteDurable
  rw [hw]
  exact if_pos (by simp [ho])

/-- The oldest accepted write is stored, its command replies, and the commit that it belongs to is over. -/
theorem ledgerWriteDurable_stores (ho : s.ledgerOpen = true) (hsc : w.scope = 0) :
    (ledgerWriteDurable s).reeve.ledger = s.reeve.ledger.store w ∧ (ledgerWriteDurable s).reeve.debug = s.reeve.debug ∧
    (w.reg = 0x02 → (ledgerWriteDurable s).reeve.act = none) ∧ (ledgerWriteDurable s).tier = s.tier := by
  obtain ⟨q, g, hrep⟩ := State.replyTo_frame { s with reeve := { s.reeve with ledger := s.reeve.ledger.store w } } w.hdr stOk 0 0 0
  have heq : ledgerWriteDurable s = State.tryRestart (if w.reg = 0x02 then State.committed { s with
        hif := { s.hif with queues := q, gone := g }, reeve := { s.reeve with ledger := s.reeve.ledger.store w } }
      else { s with
        hif := { s.hif with queues := q, gone := g }, reeve := { s.reeve with ledger := s.reeve.ledger.store w } }) := by
    unfold ledgerWriteDurable
    rw [hw]
    dsimp only
    rw [if_neg (by simp [ho]), hsc, State.applyScope_zero, hrep]
  by_cases hreg : w.reg = 0x02
  · obtain ⟨q', g', c, l, p, hcom⟩ := State.committed_frame { s with
      hif := { s.hif with queues := q, gone := g }, reeve := { s.reeve with ledger := s.reeve.ledger.store w } }
    rw [heq, if_pos hreg, hcom, State.tryRestart_none]
    · exact ⟨rfl, rfl, fun _ => rfl, rfl⟩
    · rfl
  · obtain ⟨r, e, htry, hled, hdebug⟩ := State.tryRestart_frame { s with
      hif := { s.hif with queues := q, gone := g }, reeve := { s.reeve with ledger := s.reeve.ledger.store w } }
    rw [heq, if_neg hreg, htry]
    exact ⟨hled, hdebug, fun h => absurd h hreg, rfl⟩

end

/-! ## Debug (R454) -/

theorem debugUnlock_decides {s : State} {h : PktHdr} (hs : Starts s 0x0820 h) (ho : s.hostInOpen = true) {a : W64} {m : Memory}
    (hm : m = s.hostMem.slice a.toNat 320) (hsp : Spells (.debugUnlock h a 320) h) : exec (.debugUnlock h a 320) s = .next (s.settle (
      if s.blockValid m 320 64 2 (bit (m.readNat 6 2) 2) = false then (s.chargeIn 320).reply h 0x12
      else if s.tokenBodyOk m = false ∨ s.full 0x03 = true then (s.chargeIn 320).reply h 0x15
      else ((s.chargeIn 320).begun h).ledgerAccept 0x03 (s.ledger 0x03 + 1) (some h) (m.readNat 6 2))) := by
  subst hm
  refine (runs_of_starts hs rfl rfl rfl hsp).trans (congrArg (fun u => Host.Outcome.next (s.settle u)) ?_)
  have hlen : (320 : W32).toNat = 320 := rfl
  dsimp only
  rw [if_neg (by simp [ho]), hlen]
  simp only [Bool.not_eq_true', ne_eq, not_true_eq_false, false_or]
  rfl

/-! ## Updates by PLDM (R452; log 35) -/

section
variable {s : State}

theorem pldmRequestUpdate_busy (hu : s.reeveUp = true ∨ s.reeve.mode = .recovery)
    (h : s.reeve.act.isSome = true ∨ s.reeve.path = .pldm ∨ s.staging ≠ []) : pldmRequestUpdate s = s.send (.pldm 0x81) := by
  refine (if_neg ?_).trans (if_pos ?_)
  · rcases hu with hu | hu <;> simp [hu]
  · simpa [or_assoc] using h

theorem pldmRequestUpdate_begins (hu : s.reeveUp = true ∨ s.reeve.mode = .recovery) (ha : s.reeve.act = none)
    (hp : s.reeve.path ≠ .pldm) (hst : s.staging = []) :
    pldmRequestUpdate s = State.send { s with reeve := { s.reeve with path := .pldm } } (.pldm 0) := by
  refine (if_neg ?_).trans (if_neg ?_)
  · rcases hu with hu | hu <;> simp [hu]
  · simp [ha, hp, hst]

section
variable {i : BitVec 16} {b : List Byte}

theorem pldmUpdateComponent_not (hp : s.reeve.path ≠ .pldm) : pldmUpdateComponent i b s = s.send (.pldm 0x80) := if_pos hp

theorem pldmUpdateComponent_busy (hp : s.reeve.path = .pldm) (ha : s.reeve.act.isSome = true) :
    pldmUpdateComponent i b s = s.send (.pldm 0x86) := (if_neg (not_not_intro hp)).trans (if_pos ha)

theorem pldmUpdateComponent_stages (hp : s.reeve.path = .pldm) (ha : s.reeve.act = none) {x : FwSlot}
    (hx : x = ⟨Memory.writeBytes [] 0 b, b.length⟩) : pldmUpdateComponent 1 b s =
      (s.setFw (!s.reeve.slotB) (if s.fwCheck x = 0 then x else ⟨[], 0⟩)).send (.pldm (if s.fwCheck x = 0 then 0 else 1)) := by
  subst hx
  exact (if_neg (not_not_intro hp)).trans ((if_neg (by simp [ha])).trans (if_neg (not_not_intro rfl)))

end

theorem pldmActivateFirmware_not (hp : s.reeve.path ≠ .pldm) : pldmActivateFirmware s = s.send (.pldm 0x80) := if_pos hp

section
variable (hp : s.reeve.path = .pldm) (hz : (s.reeve.slot (!s.reeve.slotB)).size ≠ 0)
include hp hz

theorem pldmActivateFirmware_busy (ha : s.reeve.act.isSome = true) : pldmActivateFirmware s = s.send (.pldm 0x86) :=
  (if_neg (not_not_intro hp)).trans ((if_neg hz).trans (if_pos ha))

theorem pldmActivateFirmware_activates (ha : s.reeve.act = none) :
    pldmActivateFirmware s = (s.activate none (!s.reeve.slotB)).send (.pldm 0) :=
  (if_neg (not_not_intro hp)).trans ((if_neg hz).trans (if_neg (by simp [ha])))

end
end

/-! ## The obligation -/

/-- Settles O57: each clause is one of the laws above of the row that it is about. -/
theorem reeveAndLedgerRows : Obligations.ReeveAndLedgerRows := by
  unfold Obligations.ReeveAndLedgerRows
  intro s h
  refine ⟨fun hs a n x hx => ⟨fwStage_busy hs, fun hp ha hst ho hsp => fwStage_waits hs hp ha hst ho hsp,
      fun hp ha hst ho => fwStage_stages hs hp ha hst ho hx⟩,
    fun x => s.fwCheck_ok_iff x,
    fun hs b n hn => ⟨fwActivate_same hs hn, fwActivate_empty hs hn, fun _ hz hbusy => fwActivate_busy hs hn hz hbusy,
      fun hb hz hp ha hsp => ?activates⟩,
    fun hm ha => ?idleReeve, fun a hm ha hst hv => ?restarts, fun hm ha => ?chain,
    fun a hm ha => ⟨fun hst => ?named, fun hst hb => ?back⟩, fun hm => ?watchdog, fun a hm ha => ?fallback, fun hm => ?noFallback,
    fun a p v hm ha hhdr hc hd hv => ⟨fun hne hf => ?commitAccepts, fun hne hf => ?commitExhausted, fun heq => ?commitKept⟩,
    fun h => ?noCommit, fun c same n hd => ⟨fun hi => ?installs, fun hi => ?notYet⟩, fun hd => ?noneToInstall,
    fun hs n => replies_of_starts hs rfl rfl rfl rfl,
    fun hs n x v hv => ⟨ledgerWrite_bad hs hv, ledgerWrite_kept hs hv, ledgerWrite_exhausted hs hv, ledgerWrite_accepts hs hv⟩,
    fun w rest hw => ⟨fun ho => ?storeShut, fun ho hsc u hu => ?stores⟩, fun hw => ?nothingToStore,
    fun hs ho a m hm hsp => debugUnlock_decides hs ho hm hsp, fun hs => replies_of_starts hs rfl rfl rfl rfl,
    fun hu => ⟨fun hbusy => ?requestBusy, fun ha hp hst => ?request⟩,
    fun i b => ⟨fun hp => ?noUpdate, fun hp ha => ?updateBusy, fun hp ha hi x hx => ?update⟩,
    fun hp => ?noPldm, fun hp hz ha => ?pldmBusy, fun hp hz ha hv => ?pldm⟩
  case activates =>
    obtain ⟨q, g, hbegun⟩ := s.begun_frame h
    refine ⟨_, fwActivate_activates hs hn hb hz hp ha hsp, ?_⟩
    rw [State.settle_tier, State.settle_cores, State.settle_reeve_mode, State.settle_reeve_act]
    cases hv : (s.begun h).reeveServes
    · obtain ⟨l, k, c, e, heq⟩ := State.activate_restarts hv (some h) b
      rw [heq, hbegun]
      exact ⟨rfl, rfl, fun _ => ⟨rfl, rfl⟩, nofun⟩
    · rw [State.activate_waits hv, hbegun]
      exact ⟨rfl, rfl, nofun, fun _ => ⟨rfl, rfl⟩⟩
  case idleReeve => rw [exec_reeveStart, reeveStart_up hm, State.tryRestart_none ha]
  case restarts =>
    obtain ⟨g, n, c, e, heq⟩ := State.tryRestart_restarts ha hst hv
    refine ⟨_, exec_reeveStart s, ?_⟩
    rw [State.settle_reeve_mode, State.settle_reeve_act, reeveStart_up hm, heq]
    exact ⟨rfl, rfl⟩
  case chain =>
    refine ⟨_, exec_reeveStart s, ?_⟩
    rw [reeveStart_chain hm ha]
    split
    · next hb =>
      rw [State.bootChain_committed hb, State.startSlot_reeve]
      exact ⟨rfl, rfl, fun hl => if_neg (by simp [hl])⟩
    · next hb =>
      have hb' : s.bootable s.fwSlot = false := Bool.eq_false_iff.2 hb
      split
      · next ho =>
        rw [State.bootChain_other hb' ho, State.startSlot_reeve]
        exact ⟨rfl, rfl⟩
      · next ho =>
        exact State.bootChain_recovers hb' (Bool.eq_false_iff.2 ho)
  case named =>
    refine ⟨_, exec_reeveStart s, ?_⟩
    rw [State.settle_reeve_mode, State.settle_reeve_slotB, State.settle_reeve_die, State.settle_reeve_act]
    split
    · next hb =>
      rw [reeveStart_trial hm ha hst hb]
      exact ⟨rfl, rfl, rfl⟩
    · next hb =>
      rw [reeveStart_failed hm ha hst (Bool.eq_false_iff.2 hb)]
      exact State.startFormer_ends _ _
  case back =>
    obtain ⟨hmode, hslot⟩ := State.startFormer_boots hb
    refine ⟨_, exec_reeveStart s, ?_⟩
    rw [State.settle_reeve_mode, State.settle_reeve_slotB, State.settle_reeve_act, reeveStart_back hm ha hst]
    exact ⟨hmode, hslot, (s.startFormer_ends _).2⟩
  case watchdog =>
    obtain ⟨g, n, c, e, heq⟩ := s.restartReeve_frame
    refine ⟨_, exec_reeveWatchdog s, ?_⟩
    rw [State.settle_reeve_mode, State.settle_tier, State.settle_cores, reeveWatchdog_restarts hm, heq]
    exact ⟨rfl, rfl, rfl⟩
  case fallback =>
    refine ⟨s.settle s.fallback, ?_, ?_, ?_⟩
    · rw [exec_fwFallback, fwFallback_trial hm]
    · rw [exec_reeveWatchdog, reeveWatchdog_trial hm]
    · rw [State.settle_reeve_mode, State.settle_reeve_slotB, State.settle_reeve_act]
      exact State.fallback_reeve ha
  case noFallback => rw [exec_fwFallback, fwFallback_not hm]
  case commitAccepts =>
    obtain rfl : v = s.commitValue a := hv
    rw [exec_fwCommit, fwCommit_trial hm ha, if_neg hne, if_neg (ne_true_of_eq_false hf)]
    rfl
  case commitExhausted =>
    obtain rfl : v = s.commitValue a := hv
    obtain ⟨hval, hstored, hmode, hact⟩ := (s.trialOver a).committed_effect (s.commitValue a)
    refine ⟨_, exec_fwCommit s, ?_⟩
    rw [fwCommit_trial hm ha, if_neg hne, if_pos hf, State.settle_ledger, State.settle_reeve_ledger, State.settle_reeve_mode,
      State.settle_reeve_act]
    exact ⟨hval, hstored, hmode, hact⟩
  case commitKept =>
    obtain rfl : v = s.commitValue a := hv
    have hplain := State.committed_plain (s := s.trialOver a) (a := { a with stage := .committing }) rfl hc hd
    rw [exec_fwCommit, fwCommit_trial hm ha, if_pos heq, hplain, hhdr]
    rfl
  case noCommit => rw [exec_fwCommit, fwCommit_not h]
  case installs => rw [exec_dieComponentInstall, dieComponentInstall_installs hi hd]
  case notYet => rw [exec_dieComponentInstall, dieComponentInstall_not hi]
  case noneToInstall => rw [exec_dieComponentInstall, dieComponentInstall_not (State.mayInstall_none hd)]
  case storeShut => rw [exec_ledgerWriteDurable, ledgerWriteDurable_shut hw ho]
  case stores =>
    obtain ⟨hled, hdebug, hact, htier⟩ := ledgerWriteDurable_stores hw ho hsc
    refine ⟨_, exec_ledgerWriteDurable s, ?_⟩
    rw [State.settle_reeve_ledger, State.settle_reeve_debug, State.settle_reeve_act, State.settle_tier]
    refine ⟨?_, hdebug, hact, htier⟩
    rw [hled, hu, Ledger.store, hw, List.drop_one, List.tail_cons]
  case nothingToStore => rw [exec_ledgerWriteDurable, ledgerWriteDurable_none hw]
  case requestBusy => rw [exec_pldmRequestUpdate, pldmRequestUpdate_busy hu hbusy]
  case request => rw [exec_pldmRequestUpdate, pldmRequestUpdate_begins hu ha hp hst]
  case noUpdate => rw [exec_pldmUpdateComponent, pldmUpdateComponent_not hp]
  case updateBusy => rw [exec_pldmUpdateComponent, pldmUpdateComponent_busy hp ha]
  case update => rw [hi, exec_pldmUpdateComponent, pldmUpdateComponent_stages hp ha hx]
  case noPldm => rw [exec_pldmActivateFirmware, pldmActivateFirmware_not hp]
  case pldmBusy => rw [exec_pldmActivateFirmware, pldmActivateFirmware_busy hp hz ha]
  case pldm =>
    obtain ⟨g, n, c, e, heq⟩ := State.activate_restarts hv none (!s.reeve.slotB)
    refine ⟨_, exec_pldmActivateFirmware s, ?_⟩
    rw [pldmActivateFirmware_activates hp hz ha, heq]
    exact ⟨rfl, rfl, rfl⟩

end Sys2Proof.Machine
end
